-- ==== Sys2Proof/Word.lean ====
section
/-! DEFINITION. The machine words of the PX-1 (00 R5: little-endian, bit 0 least significant). -/

namespace Sys2Proof

/-- A 32-bit word: a scalar register, an instruction word, a control register (R5, R119). -/
abbrev Word := BitVec 32

/-- A byte of memory. -/
abbrev Byte := BitVec 8

/-- A 64-bit value: a register pair, a virtual address, a name. -/
abbrev DWord := BitVec 64

/-- A vector register, 1,024 bits (R119). -/
abbrev VWord := BitVec 1024

/-- A lane mask, 128 bits (R119). -/
abbrev MWord := BitVec 128

end Sys2Proof
end

