-- ==== Sys2Proof/Forms.lean ====
section
/-! DEFINITION. The slot formats of R145 to R164: each format's fields, as an instruction holds them.
The extension word, where one is present, is kept whole; its named fields are read through the views below. -/

namespace Sys2Proof

/-- The class of a slot (R117). -/
inductive SlotClass where
  | S | V | M | C
  deriving DecidableEq, Repr

/-- The guard of a slot word: predicate G and negate bit GN (R145, R134). -/
structure Guard where
  p : BitVec 3
  neg : Bool
  deriving DecidableEq, Repr

/-- The S-register format SR (R150). `x` is the 32-bit immediate that replaces register B. -/
structure SRForm where
  g : Guard
  d : BitVec 5
  a : BitVec 5
  b : BitVec 5
  fn : BitVec 4
  x : Option Word
  deriving DecidableEq, Repr

/-- The LI form of the SR frame (R150). -/
structure LIForm where
  g : Guard
  d : BitVec 5
  imm14 : BitVec 14
  x : Option Word
  deriving DecidableEq, Repr

/-- The S-memory format SM (R151). `x` is an unscaled signed byte offset that replaces OFF9. -/
structure SMForm where
  g : Guard
  d : BitVec 5
  base : BitVec 5
  off : BitVec 9
  x : Option Word
  deriving DecidableEq, Repr

/-- The LDS form of the SM format (R151): OFF8 and the emptying bit E. -/
structure LDSForm where
  g : Guard
  d : BitVec 5
  base : BitVec 5
  off : BitVec 8
  e : Bool
  x : Option Word
  deriving DecidableEq, Repr

/-- The S-branch format SB (R152). -/
structure SBForm where
  g : Guard
  off : BitVec 20
  deriving DecidableEq, Repr

/-- The S-loop format SL (R153). `x` is the count of LOOPI. -/
structure SLForm where
  g : Guard
  cnt : BitVec 5
  lvl : BitVec 2
  endOff : BitVec 13
  x : Option Word
  deriving DecidableEq, Repr

/-- The S-system format SY (R154). -/
structure SYForm where
  g : Guard
  d : BitVec 5
  a : BitVec 5
  imm : BitVec 10
  deriving DecidableEq, Repr

/-- The V-register format VR (R156). `x` is the VX word (R157). -/
structure VRForm where
  g : Guard
  d : BitVec 5
  a : BitVec 5
  b : BitVec 5
  msk : BitVec 3
  q : Bool
  x : Option Word
  deriving DecidableEq, Repr

/-- The V-memory format VM (R158). `x` is the VMX word. -/
structure VMForm where
  g : Guard
  d : BitVec 5
  ar : BitVec 3
  off : BitVec 7
  msk : BitVec 3
  pi : Bool
  x : Option Word
  deriving DecidableEq, Repr

/-- The M format (R161) with its extension word MX (R162), which every M-class word takes. -/
structure MForm where
  g : Guard
  z : BitVec 2
  as : BitVec 4
  asrc : Bool
  mrg : Bool
  opt : BitVec 2
  rows : BitVec 10
  x : Word
  deriving DecidableEq, Repr

/-- The C format (R164). `opt` holds bits [5:1] of the slot word; `x` is the CX word. -/
structure CForm where
  g : Guard
  ca : BitVec 5
  cb : BitVec 5
  grp : BitVec 4
  opt : BitVec 5
  x : Option Word
  deriving DecidableEq, Repr

/-! ### Views of the extension words -/

/-- The VX word, all zero when X = 0 (R157). -/
abbrev VRForm.vx (f : VRForm) : Word := f.x.getD 0
/-- VX.RM, the rounding field (R53, R157). -/
abbrev VRForm.rm (f : VRForm) : BitVec 3 := f.vx.extractLsb' 29 3
/-- VX.SAT (R157). -/
abbrev VRForm.sat (f : VRForm) : Bool := f.vx.getLsbD 28
/-- VX.TA, a type code (R157). -/
abbrev VRForm.ta (f : VRForm) : BitVec 6 := f.vx.extractLsb' 22 6
/-- VX.TB, a type code (R157). -/
abbrev VRForm.tb (f : VRForm) : BitVec 6 := f.vx.extractLsb' 16 6
/-- VX.CND, a condition (R157). -/
abbrev VRForm.cnd (f : VRForm) : BitVec 4 := f.vx.extractLsb' 12 4
/-- VX.IMM (R157). -/
abbrev VRForm.imm (f : VRForm) : BitVec 12 := f.vx.extractLsb' 0 12

/-- VMX, all zero when X = 0 (R158). -/
abbrev VMForm.vmx (f : VMForm) : Word := f.x.getD 0
/-- VMX.VI, the index vector register (R158). -/
abbrev VMForm.vi (f : VMForm) : BitVec 5 := f.vmx.extractLsb' 27 5
/-- VMX.ESZ, the element size code (R158). -/
abbrev VMForm.esz (f : VMForm) : BitVec 2 := f.vmx.extractLsb' 25 2
/-- VMX.E, which sets words empty (R158). -/
abbrev VMForm.e (f : VMForm) : Bool := f.vmx.getLsbD 24

/-- MX.AFMT (R162). -/
abbrev MForm.afmt (f : MForm) : BitVec 6 := f.x.extractLsb' 26 6
/-- MX.BFMT (R162). -/
abbrev MForm.bfmt (f : MForm) : BitVec 6 := f.x.extractLsb' 20 6
/-- MX.SLOT (R162). -/
abbrev MForm.slot (f : MForm) : BitVec 6 := f.x.extractLsb' 14 6
/-- MX.TILE (R162). -/
abbrev MForm.tile (f : MForm) : BitVec 10 := f.x.extractLsb' 0 10
/-- The scalar destination of MPROG and MFLAGS, MX[31:27] (R163). -/
abbrev MForm.dst (f : MForm) : BitVec 5 := f.x.extractLsb' 27 5
/-- The row-scale address register of MSCA, MX[31:29] (R163). -/
abbrev MForm.rs (f : MForm) : BitVec 3 := f.x.extractLsb' 29 3
/-- The column-scale address register of MSCA, MX[28:26] (R163). -/
abbrev MForm.cs (f : MForm) : BitVec 3 := f.x.extractLsb' 26 3
/-- The second tile z_s of MSCA, AS[15:14] (R163). -/
abbrev MForm.zs (f : MForm) : BitVec 2 := f.as.extractLsb' 0 2

/-- CX.LEN, bits [31:11] (R164). -/
abbrev CForm.len (f : CForm) : Nat := ((f.x.getD 0).extractLsb' 11 21).toNat
/-- CX.PITCH, bits [7:0] (R164). -/
abbrev CForm.pitch (f : CForm) : BitVec 8 := (f.x.getD 0).extractLsb' 0 8
/-- REL, bit 1 of the slot word (R165). -/
abbrev CForm.rel (f : CForm) : Bool := f.opt.getLsbD 0
/-- GREG, bit 2 of the slot word (R165). -/
abbrev CForm.greg (f : CForm) : Bool := f.opt.getLsbD 1
/-- RED, bits [5:3] of the slot word (R165). -/
abbrev CForm.red (f : CForm) : BitVec 3 := f.opt.extractLsb' 2 3

end Sys2Proof
end

