-- ==== Sys2Proof/Syntax.lean ====
section
/-! DEFINITION. The instructions of spec/opcode_table.json, one constructor a row: first the 241 encoded instructions of
the four slot classes (06), then the 129 steps of the device that no word encodes (the host's, Mboam's, launch firmware's and
the engines'). Such a row has no fields: what a step works on is the event in hand of the state (Events.lean). -/

namespace Sys2Proof

/-- One constructor per row of the opcode table. -/
inductive Instr where
  /-- ADD (R188). 32-bit add. -/
  | add (f : SRForm)
  /-- SUB (R188). 32-bit subtract. -/
  | sub (f : SRForm)
  /-- MUL (R188). Low 32 bits of a product. -/
  | mul (f : SRForm)
  /-- MULH (R188). High 32 bits of a signed product. -/
  | mulh (f : SRForm)
  /-- MULHU (R188). High 32 bits of an unsigned product. -/
  | mulhu (f : SRForm)
  /-- DIV (R188). Signed division toward zero. -/
  | div (f : SRForm)
  /-- DIVU (R188). Unsigned division. -/
  | divu (f : SRForm)
  /-- REM (R188). Signed remainder. -/
  | rem (f : SRForm)
  /-- REMU (R188). Unsigned remainder. -/
  | remu (f : SRForm)
  /-- AND (R188). Bitwise AND. -/
  | and (f : SRForm)
  /-- OR (R188). Bitwise OR. -/
  | or (f : SRForm)
  /-- XOR (R188). Bitwise XOR. -/
  | xor (f : SRForm)
  /-- ANDN (R188). a AND NOT b. -/
  | andn (f : SRForm)
  /-- SHL (R188). Shift left. -/
  | shl (f : SRForm)
  /-- SHR (R188). Logical shift right. -/
  | shr (f : SRForm)
  /-- SRA (R188). Arithmetic shift right. -/
  | sra (f : SRForm)
  /-- MIN (R188). Signed minimum. -/
  | min (f : SRForm)
  /-- MAX (R188). Signed maximum. -/
  | max (f : SRForm)
  /-- MINU (R188). Unsigned minimum. -/
  | minu (f : SRForm)
  /-- MAXU (R188). Unsigned maximum. -/
  | maxu (f : SRForm)
  /-- CLZ (R189). Count leading zeros. -/
  | clz (f : SRForm)
  /-- POPC (R189). Count one bits. -/
  | popc (f : SRForm)
  /-- BFX (R191). Bit-field extract, optionally sign-extended. -/
  | bfx (f : SRForm)
  /-- BFI (R191). Bit-field insert. -/
  | bfi (f : SRForm)
  /-- LI (R190). Load immediate. -/
  | li (f : LIForm)
  /-- SEL (R192). Select by predicate. -/
  | sel (f : SRForm)
  /-- CMP (R193). Compare into a predicate. -/
  | cmp (f : SRForm)
  /-- PLOG (R194). Predicate logic by truth table. -/
  | plog (f : SRForm)
  /-- BR (R195). Relative branch. -/
  | br (f : SBForm)
  /-- BRI (R195). Branch to register address. -/
  | bri (f : SRForm)
  /-- CALL (R195). Relative call, writing s31. -/
  | call (f : SBForm)
  /-- CALLI (R195). Call to register address, writing s31. -/
  | calli (f : SRForm)
  /-- RET (R195). Return to s31. -/
  | ret (f : SRForm)
  /-- LOOP (R197). Set up a hardware loop level with a register count. -/
  | loop (f : SLForm)
  /-- LOOPI (R197). Set up a hardware loop level with an immediate count. -/
  | loopi (f : SLForm)
  /-- LEXIT (R198). Make a loop level inactive. -/
  | lexit (f : SLForm)
  /-- LDW (R200). Load word. -/
  | ldw (f : SMForm)
  /-- LDH (R200). Load signed halfword. -/
  | ldh (f : SMForm)
  /-- LDHU (R200). Load unsigned halfword. -/
  | ldhu (f : SMForm)
  /-- LDB (R200). Load signed byte. -/
  | ldb (f : SMForm)
  /-- LDBU (R200). Load unsigned byte. -/
  | ldbu (f : SMForm)
  /-- LDD (R200). Load doubleword into a pair. -/
  | ldd (f : SMForm)
  /-- STW (R200). Store word. -/
  | stw (f : SMForm)
  /-- STH (R200). Store halfword. -/
  | sth (f : SMForm)
  /-- STB (R200). Store byte. -/
  | stb (f : SMForm)
  /-- STD (R200). Store doubleword from a pair. -/
  | std (f : SMForm)
  /-- LDS (R203). Synchronising load that waits for a full word, optionally emptying it. -/
  | lds (f : LDSForm)
  /-- STF (R203). Store a word and set it full. -/
  | stf (f : SMForm)
  /-- FECLR (R203). Set a word empty. -/
  | feclr (f : SMForm)
  /-- AADD (R204). Scratchpad atomic add. -/
  | aadd (f : SMForm)
  /-- AMAX (R204). Scratchpad atomic signed maximum. -/
  | amax (f : SMForm)
  /-- AOR (R204). Scratchpad atomic OR. -/
  | aor (f : SMForm)
  /-- AXCH (R204). Scratchpad atomic exchange. -/
  | axch (f : SMForm)
  /-- ACAS (R204). Scratchpad atomic compare-and-swap. -/
  | acas (f : SMForm)
  /-- RPOP (R206). Wait for and pop the slot at the pop position. -/
  | rpop (f : SYForm)
  /-- RTRY (R206). Pop the slot at the pop position if FILLED, without blocking. -/
  | rtry (f : SYForm)
  /-- RREL (R206). Release the oldest popped slot. -/
  | rrel (f : SYForm)
  /-- RCLAIM (R206). Wait for and claim the slot at the fill position. -/
  | rclaim (f : SYForm)
  /-- RFILL (R206). Mark the oldest claimed slot FILLED. -/
  | rfill (f : SYForm)
  /-- RSTAT (R206). Read a ring's slot counts. -/
  | rstat (f : SYForm)
  /-- ASET (R207). Set a field of an address register. -/
  | aset (f : SYForm)
  /-- AINC (R207). Step an address register. -/
  | ainc (f : SYForm)
  /-- MFC (R208). Read a control register. -/
  | mfc (f : SYForm)
  /-- MTC (R208). Write a control register. -/
  | mtc (f : SYForm)
  /-- FENCE (R210). Wait until earlier memory effects are performed at the scope. -/
  | fence (f : SYForm)
  /-- TRAP (R212). Take the software-trap cause with a code. -/
  | trap (f : SYForm)
  /-- TEND (R211). Wait for the task's engine work, then end the task. -/
  | tend (f : SYForm)
  /-- WAITE (R215). Wait for an event, optionally with a cycle limit. -/
  | waite (f : SYForm)
  /-- BKPT (R213). Breakpoint that halts under debug control. -/
  | bkpt (f : SYForm)
  /-- GBAR (R216). Gang barrier. -/
  | gbar (f : SYForm)
  /-- TRACE (R217). Emit a software trace record. -/
  | trace (f : SYForm)
  /-- SPAUSE (R218). Delay the next bundle by n cycles. -/
  | spause (f : SYForm)
  /-- VFADD_F32 (R250). FP32 add. -/
  | vfaddF32 (f : VRForm)
  /-- VFADD_BF16 (R250). BF16 add. -/
  | vfaddBf16 (f : VRForm)
  /-- VFADD_F16 (R250). FP16 add. -/
  | vfaddF16 (f : VRForm)
  /-- VFSUB_F32 (R250). FP32 subtract. -/
  | vfsubF32 (f : VRForm)
  /-- VFSUB_BF16 (R250). BF16 subtract. -/
  | vfsubBf16 (f : VRForm)
  /-- VFSUB_F16 (R250). FP16 subtract. -/
  | vfsubF16 (f : VRForm)
  /-- VFMUL_F32 (R250). FP32 multiply. -/
  | vfmulF32 (f : VRForm)
  /-- VFMUL_BF16 (R250). BF16 multiply. -/
  | vfmulBf16 (f : VRForm)
  /-- VFMUL_F16 (R250). FP16 multiply. -/
  | vfmulF16 (f : VRForm)
  /-- VFMA_F32 (R250). FP32 fused multiply-add. -/
  | vfmaF32 (f : VRForm)
  /-- VFMA_BF16 (R250). BF16 fused multiply-add. -/
  | vfmaBf16 (f : VRForm)
  /-- VFMA_F16 (R250). FP16 fused multiply-add. -/
  | vfmaF16 (f : VRForm)
  /-- VFMS_F32 (R250). FP32 fused multiply-subtract. -/
  | vfmsF32 (f : VRForm)
  /-- VFMS_BF16 (R250). BF16 fused multiply-subtract. -/
  | vfmsBf16 (f : VRForm)
  /-- VFMS_F16 (R250). FP16 fused multiply-subtract. -/
  | vfmsF16 (f : VRForm)
  /-- VFNMA_F32 (R250). FP32 negated fused multiply-add. -/
  | vfnmaF32 (f : VRForm)
  /-- VFNMA_BF16 (R250). BF16 negated fused multiply-add. -/
  | vfnmaBf16 (f : VRForm)
  /-- VFNMA_F16 (R250). FP16 negated fused multiply-add. -/
  | vfnmaF16 (f : VRForm)
  /-- VFMIN_F32 (R251). FP32 minimum. -/
  | vfminF32 (f : VRForm)
  /-- VFMIN_BF16 (R251). BF16 minimum. -/
  | vfminBf16 (f : VRForm)
  /-- VFMIN_F16 (R251). FP16 minimum. -/
  | vfminF16 (f : VRForm)
  /-- VFMAX_F32 (R251). FP32 maximum. -/
  | vfmaxF32 (f : VRForm)
  /-- VFMAX_BF16 (R251). BF16 maximum. -/
  | vfmaxBf16 (f : VRForm)
  /-- VFMAX_F16 (R251). FP16 maximum. -/
  | vfmaxF16 (f : VRForm)
  /-- VFCMP_F32 (R253). FP32 compare into a mask. -/
  | vfcmpF32 (f : VRForm)
  /-- VFCMP_BF16 (R253). BF16 compare into a mask. -/
  | vfcmpBf16 (f : VRForm)
  /-- VFCMP_F16 (R253). FP16 compare into a mask. -/
  | vfcmpF16 (f : VRForm)
  /-- VFCLAMP_F32 (R252). FP32 clamp. -/
  | vfclampF32 (f : VRForm)
  /-- VFCLAMP_BF16 (R252). BF16 clamp. -/
  | vfclampBf16 (f : VRForm)
  /-- VFCLAMP_F16 (R252). FP16 clamp. -/
  | vfclampF16 (f : VRForm)
  /-- VEXP2 (R254). Correctly rounded 2^x. -/
  | vexp2 (f : VRForm)
  /-- VLOG2 (R254). Correctly rounded log2. -/
  | vlog2 (f : VRForm)
  /-- VRCP (R254). Correctly rounded reciprocal. -/
  | vrcp (f : VRForm)
  /-- VRSQ (R254). Correctly rounded reciprocal square root. -/
  | vrsq (f : VRForm)
  /-- VSQRT (R254). Correctly rounded square root. -/
  | vsqrt (f : VRForm)
  /-- VFRND (R255). Round FP32 to integral value. -/
  | vfrnd (f : VRForm)
  /-- VFCLASS (R255). Classify FP32 values. -/
  | vfclass (f : VRForm)
  /-- VADD_I32 (R256). I32 add. -/
  | vaddI32 (f : VRForm)
  /-- VADD_I16 (R256). I16 add. -/
  | vaddI16 (f : VRForm)
  /-- VADD_I8 (R256). I8 add. -/
  | vaddI8 (f : VRForm)
  /-- VSUB_I32 (R256). I32 subtract. -/
  | vsubI32 (f : VRForm)
  /-- VSUB_I16 (R256). I16 subtract. -/
  | vsubI16 (f : VRForm)
  /-- VSUB_I8 (R256). I8 subtract. -/
  | vsubI8 (f : VRForm)
  /-- VMUL_I32 (R256). I32 multiply. -/
  | vmulI32 (f : VRForm)
  /-- VMUL_I16 (R256). I16 multiply. -/
  | vmulI16 (f : VRForm)
  /-- VMUL_I8 (R256). I8 multiply. -/
  | vmulI8 (f : VRForm)
  /-- VMIN_I32 (R256). I32 minimum. -/
  | vminI32 (f : VRForm)
  /-- VMIN_I16 (R256). I16 minimum. -/
  | vminI16 (f : VRForm)
  /-- VMIN_I8 (R256). I8 minimum. -/
  | vminI8 (f : VRForm)
  /-- VMAX_I32 (R256). I32 maximum. -/
  | vmaxI32 (f : VRForm)
  /-- VMAX_I16 (R256). I16 maximum. -/
  | vmaxI16 (f : VRForm)
  /-- VMAX_I8 (R256). I8 maximum. -/
  | vmaxI8 (f : VRForm)
  /-- VCMP_I32 (R259). I32 compare into a mask. -/
  | vcmpI32 (f : VRForm)
  /-- VCMP_I16 (R259). I16 compare into a mask. -/
  | vcmpI16 (f : VRForm)
  /-- VCMP_I8 (R259). I8 compare into a mask. -/
  | vcmpI8 (f : VRForm)
  /-- VABS_I32 (R256). I32 absolute value. -/
  | vabsI32 (f : VRForm)
  /-- VABS_I16 (R256). I16 absolute value. -/
  | vabsI16 (f : VRForm)
  /-- VABS_I8 (R256). I8 absolute value. -/
  | vabsI8 (f : VRForm)
  /-- VSHL_I32 (R257). I32 shift left by lane counts. -/
  | vshlI32 (f : VRForm)
  /-- VSHL_I32_IMM (R257). I32 shift left by an immediate. -/
  | vshlI32Imm (f : VRForm)
  /-- VSHL_I16 (R257). I16 shift left by lane counts. -/
  | vshlI16 (f : VRForm)
  /-- VSHL_I16_IMM (R257). I16 shift left by an immediate. -/
  | vshlI16Imm (f : VRForm)
  /-- VSHL_I8 (R257). I8 shift left by lane counts. -/
  | vshlI8 (f : VRForm)
  /-- VSHL_I8_IMM (R257). I8 shift left by an immediate. -/
  | vshlI8Imm (f : VRForm)
  /-- VSHR_I32 (R257). I32 logical shift right by lane counts. -/
  | vshrI32 (f : VRForm)
  /-- VSHR_I32_IMM (R257). I32 logical shift right by an immediate. -/
  | vshrI32Imm (f : VRForm)
  /-- VSHR_I16 (R257). I16 logical shift right by lane counts. -/
  | vshrI16 (f : VRForm)
  /-- VSHR_I16_IMM (R257). I16 logical shift right by an immediate. -/
  | vshrI16Imm (f : VRForm)
  /-- VSHR_I8 (R257). I8 logical shift right by lane counts. -/
  | vshrI8 (f : VRForm)
  /-- VSHR_I8_IMM (R257). I8 logical shift right by an immediate. -/
  | vshrI8Imm (f : VRForm)
  /-- VSRA_I32 (R257). I32 arithmetic shift right by lane counts. -/
  | vsraI32 (f : VRForm)
  /-- VSRA_I32_IMM (R257). I32 arithmetic shift right by an immediate. -/
  | vsraI32Imm (f : VRForm)
  /-- VSRA_I16 (R257). I16 arithmetic shift right by lane counts. -/
  | vsraI16 (f : VRForm)
  /-- VSRA_I16_IMM (R257). I16 arithmetic shift right by an immediate. -/
  | vsraI16Imm (f : VRForm)
  /-- VSRA_I8 (R257). I8 arithmetic shift right by lane counts. -/
  | vsraI8 (f : VRForm)
  /-- VSRA_I8_IMM (R257). I8 arithmetic shift right by an immediate. -/
  | vsraI8Imm (f : VRForm)
  /-- VMULH (R256). High 32 bits of I32 products. -/
  | vmulh (f : VRForm)
  /-- VSADD_I16 (R258). I16 saturating add. -/
  | vsaddI16 (f : VRForm)
  /-- VSADD_I8 (R258). I8 saturating add. -/
  | vsaddI8 (f : VRForm)
  /-- VSSUB_I16 (R258). I16 saturating subtract. -/
  | vssubI16 (f : VRForm)
  /-- VSSUB_I8 (R258). I8 saturating subtract. -/
  | vssubI8 (f : VRForm)
  /-- VAND (R260). Bitwise AND. -/
  | vand (f : VRForm)
  /-- VOR (R260). Bitwise OR. -/
  | vor (f : VRForm)
  /-- VXOR (R260). Bitwise XOR. -/
  | vxor (f : VRForm)
  /-- VANDN (R260). Bitwise AND NOT. -/
  | vandn (f : VRForm)
  /-- VSEL (R260). Byte select by mask. -/
  | vsel (f : VRForm)
  /-- VCVT (R262). Convert between FP32, BF16 and FP16. -/
  | vcvt (f : VRForm)
  /-- VCVTI (R263). Convert between float and integer. -/
  | vcvti (f : VRForm)
  /-- VCVTB8 (R264). Scale FP32 and convert to binary8. -/
  | vcvtb8 (f : VRForm)
  /-- VWIDEB8 (R265). Widen binary8 to FP32, BF16 or FP16. -/
  | vwideb8 (f : VRForm)
  /-- VHAD (R274). Butterfly Hadamard transform. -/
  | vhad (f : VRForm)
  /-- VPACK (R266). Narrow and pack integers. -/
  | vpack (f : VRForm)
  /-- VUNPACK (R266). Widen integers. -/
  | vunpack (f : VRForm)
  /-- VDOT_BF16 (R279). BF16 pair dot product into FP32. -/
  | vdotBf16 (f : VRForm)
  /-- VDOT_I8 (R279). I8 quad dot product into I32. -/
  | vdotI8 (f : VRForm)
  /-- VMOV (R282). Masked vector move. -/
  | vmov (f : VRForm)
  /-- VBCST (R282). Broadcast a scalar. -/
  | vbcst (f : VRForm)
  /-- VINS (R282). Insert a scalar into a lane. -/
  | vins (f : VRForm)
  /-- VEXT (R282). Extract a lane to a scalar. -/
  | vext (f : VRForm)
  /-- VPERM (R282). Permute lanes by index. -/
  | vperm (f : VRForm)
  /-- VZIP (R282). Interleave lanes. -/
  | vzip (f : VRForm)
  /-- VUNZIP (R282). De-interleave lanes. -/
  | vunzip (f : VRForm)
  /-- VSLIDE (R282). Slide lanes across a register pair. -/
  | vslide (f : VRForm)
  /-- VRADD (R280). Float lane sum by fixed tree. -/
  | vradd (f : VRForm)
  /-- VRMAX (R280). Lane maximum. -/
  | vrmax (f : VRForm)
  /-- VRMIN (R280). Lane minimum. -/
  | vrmin (f : VRForm)
  /-- VRADDI (R280). Integer lane sum. -/
  | vraddi (f : VRForm)
  /-- VPSUM (R281). Inclusive prefix sum. -/
  | vpsum (f : VRForm)
  /-- VTOPK (R271). Top-k selection per column into scratchpad lists. -/
  | vtopk (f : VRForm)
  /-- VMERGEK (R273). Merge two pair lists keeping k. -/
  | vmergek (f : VRForm)
  /-- VCNTM (R283). Count mask bits. -/
  | vcntm (f : VRForm)
  /-- VTLD (R275). Load a table-RAM row. -/
  | vtld (f : VRForm)
  /-- VTLI (R277). Table interpolation. -/
  | vtli (f : VRForm)
  /-- VTLU (R278). Table lookup by index. -/
  | vtlu (f : VRForm)
  /-- VLD (R247). Vector load of 128 bytes. -/
  | vld (f : VMForm)
  /-- VST (R247). Vector store of 128 bytes. -/
  | vst (f : VMForm)
  /-- VLDT (R247). Column load at 128-byte stride. -/
  | vldt (f : VMForm)
  /-- VSTT (R247). Column store at 128-byte stride. -/
  | vstt (f : VMForm)
  /-- VGATH (R247). Indexed gather. -/
  | vgath (f : VMForm)
  /-- VSCAT (R247). Indexed scatter. -/
  | vscat (f : VMForm)
  /-- VLDS (R249). Synchronising vector load waiting for full words. -/
  | vlds (f : VMForm)
  /-- VLDB (R247). Load one element and broadcast it. -/
  | vldb (f : VMForm)
  /-- VMLOG (R283). Mask logic by truth table. -/
  | vmlog (f : VRForm)
  /-- VMSET (R283). Set the low mask bits. -/
  | vmset (f : VRForm)
  /-- VMFIRST (R283). Index of the first set mask bit. -/
  | vmfirst (f : VRForm)
  /-- VLERP_F32 (R284). FP32 linear interpolation. -/
  | vlerpF32 (f : VRForm)
  /-- VLERP_BF16 (R284). BF16 linear interpolation. -/
  | vlerpBf16 (f : VRForm)
  /-- VFSGN (R285). Copy sign. -/
  | vfsgn (f : VRForm)
  /-- VFSCALE (R267). Scale by a power of two. -/
  | vfscale (f : VRForm)
  /-- MWLD (R312). Load a weight-store tile into the shadow bank. -/
  | mwld (f : MForm)
  /-- MWLDS (R313). Stage a weight tile from scratchpad. -/
  | mwlds (f : MForm)
  /-- MWPRE (R312). Prefetch a weight tile without checks. -/
  | mwpre (f : MForm)
  /-- MMA (R314). Matrix product into a z tile. -/
  | mma (f : MForm)
  /-- MMAO (R315). Matrix product with row-streamed interlock. -/
  | mmao (f : MForm)
  /-- MZERO (R316). Zero tile rows and side vectors. -/
  | mzero (f : MForm)
  /-- MDRAIN (R317). Convert and drain tile rows to scratchpad. -/
  | mdrain (f : MForm)
  /-- MSCA (R319). Scale-and-accumulate one tile into another. -/
  | msca (f : MForm)
  /-- MSTAT (R318). Write RMAX and RSUM pairs to scratchpad. -/
  | mstat (f : MForm)
  /-- MRESC (R320). Rescale tile rows and RSUM. -/
  | mresc (f : MForm)
  /-- MTRN (R321). Transpose source rows into a tile. -/
  | mtrn (f : MForm)
  /-- MWAIT (R322). Wait for a tile's M-class work and report faults. -/
  | mwait (f : MForm)
  /-- MPROG (R323). Read a tile's row-progress register. -/
  | mprog (f : MForm)
  /-- MFLAGS (R323). Read and optionally clear a tile's flag word. -/
  | mflags (f : MForm)
  /-- MHOLD (R324). Set the bank's hold limit for later segments. -/
  | mhold (f : MForm)
  /-- MFLUSH (R324). Make ready the entries holding the core's segments. -/
  | mflush (f : MForm)
  /-- CLD (R385). Copy from memory to scratchpad. -/
  | cld (f : CForm)
  /-- CST (R385). Copy from scratchpad to memory. -/
  | cst (f : CForm)
  /-- CLD2D (R385). Row-wise copy from memory to scratchpad. -/
  | cld2d (f : CForm)
  /-- CST2D (R385). Row-wise copy from scratchpad to memory. -/
  | cst2d (f : CForm)
  /-- CLDR (R387). Copy from memory into ring slots. -/
  | cldr (f : CForm)
  /-- CATOM (R388). Atomic on external memory. -/
  | catom (f : CForm)
  /-- CWAIT (R390). Wait for a copy group and report its fault. -/
  | cwait (f : CForm)
  /-- CPOLL (R391). Read a copy group's state. -/
  | cpoll (f : CForm)
  /-- CFENCE (R392). Hold later C-class requests behind a group. -/
  | cfence (f : CForm)
  /-- CCANCEL (R393). Cancel a copy group's operations. -/
  | ccancel (f : CForm)
  /-- CGET (R394). Request a tile by name. -/
  | cget (f : CForm)
  /-- PUB (R397). Publish a tile. -/
  | pub (f : CForm)
  /-- PUBR (R398). Publish tagged rows. -/
  | pubr (f : CForm)
  /-- PUBRED (R399). Inject a reduction contribution. -/
  | pubred (f : CForm)
  /-- PIP (R401). Publish a pip. -/
  | pip (f : CForm)
  /-- SUBSCRIBE (R403). Install a dynamic subscription. -/
  | subscribe (f : CForm)
  /-- UNSUB (R404). Remove a dynamic subscription. -/
  | unsub (f : CForm)
  /-- CPREF (R406). Prefetch a name at its home. -/
  | cpref (f : CForm)
  /-- PHASE (R407). Raise the bank's phase register. -/
  | phase (f : CForm)
  /-- PUBC (R400). Collective publication or contribution. -/
  | pubc (f : CForm)
  /-- SUBQ (R405). Read a subscription's state. -/
  | subq (f : CForm)
  /-- ERTQ (R408). Read an expert residency entry. -/
  | ertq (f : CForm)
  /-- ERTH (R409). Send a prefetch, pin or unpin hint. -/
  | erth (f : CForm)
  /-- SUMPQ (R410). Read a sump's state. -/
  | sumpq (f : CForm)
  /-- POWER_ON_RESET (R500). Power-on reset starts Mboam's ROM, which verifies, measures and starts the signed firmware image, which then loads maps, tables and FW fields. -/
  | powerOnReset
  /-- RECOVERY_GO (R501). A write of 1 to the recovery window's GO bit makes the ROM repeat the image checks on the image written there. -/
  | recoveryGo
  /-- MEASUREMENT_EXTEND (R502). A measurement register is extended with SHA-384 of its value and new data. -/
  | measurementExtend
  /-- REGISTER_WRITE (R6). A write to a device register that has no behaviour of its own updates its fields as their access codes allow, subject to the access-table and class checks. -/
  | registerWrite
  /-- QTAIL_WRITE (R74). A doorbell write advances QTAIL, or, with a value of 2^LOG2SIZE or more, sets ERR and clears EN. -/
  | qtailWrite
  /-- QCTL_WRITE (R75). A QCTL write updates PRIO, LOG2SIZE and EN; setting EN resets QHEAD and QTAIL to 0. -/
  | qctlWrite
  /-- QUEUE_SELECTION (R77). Every 4 cycles the arbiter selects the head command of the ready queue of highest priority, round robin per priority level. -/
  | queueSelection
  /-- NOP (R80). A selected NOP command is checked and completes with a completion record. -/
  | nop
  /-- LOAD (R80). A selected LOAD reads the graph object, applies the load checks, copies it into device memory and assigns a namespace. -/
  | load
  /-- UNLOAD (R80). A selected UNLOAD marks a namespace unloading, to be freed when its launches have retired. -/
  | unload
  /-- LAUNCH (R82). A selected LAUNCH is checked, including the admission policy of launch firmware, and its argument block and cut-edge table are read. -/
  | launch
  /-- ABORT (R80). A selected ABORT aborts the named live launch of the partition with cause 0x05. -/
  | abort
  /-- COMMAND_FENCE_RELEASE (R79). A command with FENCE is checked once every earlier launch from its queue has retired. -/
  | commandFenceRelease
  /-- LAUNCH_ACCEPTANCE (R84). Once the argument copy is complete the launch is accepted, TSTART is stamped and its task templates pass to the distributors. -/
  | launchAcceptance
  /-- WAFER_ACKNOWLEDGEMENT (R90). A peer wafer's acknowledgement arrives and, with the others, opens the firing gate, or a mismatch aborts the launch with cause 0x08. -/
  | waferAcknowledgement
  /-- GATE_TIMEOUT (R90). A multi-wafer gate not open 2^28 cycles after acceptance aborts the launch with cause 0x07. -/
  | gateTimeout
  /-- PEER_ABORT (R91). An abort of the launch's part on another wafer aborts this wafer's part with cause 0x06. -/
  | peerAbort
  /-- FIRMWARE_ABORT (R85). Launch firmware aborts a live launch with cause 0x09. -/
  | firmwareAbort
  /-- CONTROL_PIP (R86). Launch firmware publishes a control pip to tensor 0x0_0003 of namespace 0 for a live launch. -/
  | controlPip
  /-- FIRMWARE_PRIORITY_CHANGE (R99). Launch firmware changes the priority of a launch's PENDING entries that are in a queue. -/
  | firmwarePriorityChange
  /-- FIRMWARE_FAULT (R85). A launch-firmware fault aborts the partition's live launches with cause 0x09 and holds its queues. -/
  | firmwareFault
  /-- PREEMPTION_REQUEST (R474). Launch firmware requests pre-emption of a running task or of every running task of a field. -/
  | preemptionRequest
  /-- TENANT_SWITCH (R475). Mboam holds a partition's queues, stops arming, pre-empts and aborts its launches to take fields from it. -/
  | tenantSwitch
  /-- HOME_TABLE_REBUILD (R333). Mboam rebuilds a partition's home table once the partition has no live launch after a field-set change. -/
  | homeTableRebuild
  /-- RIM_REQUEST_START (R88). A waiting rim request starts in its owner's slot when its occupancy fits before the slot ends. -/
  | rimRequestStart
  /-- TASK_HANDOFF (R96). The launch processor hands a task instance or gang to the field of its partition with the most free pool entries. -/
  | taskHandoff
  /-- DISTRIBUTOR_SELECTION (R98). Every 2 cycles a distributor selects a PENDING entry by priority and age and arms it on the best-scoring eligible core. -/
  | distributorSelection
  /-- PASS_OVER_END (R100). An entry that failed to arm is considered again after its 256-cycle pass-over. -/
  | passOverEnd
  /-- ENTRY_HANDOVER (R100). An entry without an eligible core for 65,536 cycles is handed to another field of the partition. -/
  | entryHandover
  /-- TASK_FIRE (R108). A READY task fires into an empty context bank with its initial state. -/
  | taskFire
  /-- GANG_FIRE (R109). A gang fires in one cycle once every member is READY and every member core can fire. -/
  | gangFire
  /-- BUDGET_EXHAUSTED (R114). A task's BUDGET would pass below zero: non-restartable tasks abort the launch, restartable ones are killed and restarted. -/
  | budgetExhausted
  /-- THERMAL_SAMPLE (R518). Every 1,024 cycles a cluster's temperature is sampled and its thermal state updated. -/
  | thermalSample
  /-- POWER_CHECK (R520). Every 10 ms Mboam compares module power with CAP and moves the throttle level. -/
  | powerCheck
  /-- COOLANT_FAULT (R521). Low coolant flow or a hot inlet for 1 s makes Mboam set and hold THR at 3. -/
  | coolantFault
  /-- COOLANT_TRIP (R521). An inlet above 45 °C drives every cluster to TRIP and loses every field. -/
  | coolantTrip
  /-- CLUSTER_RETIREMENT (R476). Mboam maps out a working cluster: arming stops and its running tasks are pre-empted. -/
  | clusterRetirement
  /-- CLUSTER_FAILURE (R476). Mboam maps out a failed cluster: its tasks are killed and their launches aborted with the cluster-failed cause. -/
  | clusterFailure
  /-- FIELD_LOSS (R483). A field is lost: its clusters and weight store stop, its slots become FREE and the launches R484 names are aborted with cause 0x04. -/
  | fieldLoss
  /-- BANK_SWITCH (R468). A blocked running task meeting the switch conditions stops issue and its results drain. -/
  | bankSwitch
  /-- SWITCH_DRAIN_END (R469). When the drain ends, the other bank's bundle issues or a task fires into it. -/
  | switchDrainEnd
  /-- CORRECTABLE_ERROR (R240). A correctable SRAM error is corrected, counted and traced, and freezes the cluster for 16 cycles. -/
  | correctableError
  /-- FREEZE_END (R240). A 16-cycle cluster freeze ends, or a further one starts for an error detected during it. -/
  | freezeEnd
  /-- UNCORRECTABLE_ERROR (R241). An uncorrectable error marks the touched data poison, or aborts as R471 states. -/
  | uncorrectableError
  /-- REFRESH_WINDOW (R237). Every 1,024 field cycles a 48-cycle refresh window of the next bank group starts. -/
  | refreshWindow
  /-- REFRESH_WINDOW_END (R237). A refresh window ends and stalled loads and writes of its bank group resume. -/
  | refreshWindowEnd
  /-- STAGING_DEQUEUE (R296). The M-class instruction at the head of a core's staging queue leaves it and acts on the core's tiles. -/
  | stagingDequeue
  /-- SEGMENT_ADMISSION (R297). A product or transpose whose A rows are present is checked and admitted as a segment, joining or opening a merge-buffer entry. -/
  | segmentAdmission
  /-- HOLD_LIMIT_REACHED (R299). A segment's hold limit expires and its entry becomes ready. -/
  | holdLimitReached
  /-- ARRAY_SELECTION (R301). The array selects the ready entry of highest effective priority, reusing, swapping or loading the weight tile. -/
  | arraySelection
  /-- WEIGHT_LOAD_GRANT (R289). A bank group grants a tile load, judging the slot's state. -/
  | weightLoadGrant
  /-- WEIGHT_LOAD_END (R289). A tile load completes into the shadow bank, or leaves it unusable after a fault or poison. -/
  | weightLoadEnd
  /-- POSITION_FIRE (R291). In a cycle the array fires the lowest ready unfired position of the current operation. -/
  | positionFire
  /-- ROW_RESULT_WRITE (R292). A fired row's result is written to its target tile row, with side vectors and flags. -/
  | rowResultWrite
  /-- SELECT_WRITES (R272). The select unit's list writes enter the port's order R + 4 cycles after a VTOPK starts. -/
  | selectWrites
  /-- INSTALL (R336). An install packet is applied at a router, creating or counting LOCAL, TRANSIT or HOME entries, or is refused. -/
  | install
  /-- INSTALL_ACKNOWLEDGEMENT (R336). An install acknowledgement reaches the subscriber; with all acknowledged the task is ARMED. -/
  | installAcknowledgement
  /-- INSTALL_REFUSAL (R336). An install refusal undoes the arming and returns the entry to PENDING. -/
  | installRefusal
  /-- REMOVAL (R337). A removal deletes a LOCAL entry and decrements port counts along the path. -/
  | removal
  /-- PUBLICATION_AT_HOME (R339). A publication reaches its home, is retained and is forwarded to matching HOME entries. -/
  | publicationAtHome
  /-- DELIVERY (R338). A delivery reaches a LOCAL entry: it counts an arrival and fills a ring slot or is held. -/
  | delivery
  /-- HELD_DELIVERY_RELEASE (R347). A ring slot frees and a held delivery fills it, or its copy is fetched again from the home. -/
  | heldDeliveryRelease
  /-- PIN_REQUEST (R347). A pin request makes the home keep a copy from eviction until it is fetched again. -/
  | pinRequest
  /-- COPY_EXPIRY (R342). A retained copy reaches the age 2^RETEXP and becomes expired. -/
  | copyExpiry
  /-- CONTRIBUTION (R350). A reduction contribution reaches a router or home and is combined with a partner or held. -/
  | contribution
  /-- PARTNER_TIMEOUT (R350). A contribution held 64 network cycles without a partner is forwarded unchanged. -/
  | partnerTimeout
  /-- GET_REQUEST (R353). A GET reaches the home and is answered, parked, or answered with a retry. -/
  | getRequest
  /-- GET_RESPONSE (R353). A GET response arrives and is written to scratchpad, or records not-found. -/
  | getResponse
  /-- GET_RETRY_RESEND (R353). The copy interface resends a retried GET 512 network cycles later. -/
  | getRetryResend
  /-- RIM_QUERY (R344). A home's tailings or backing query is performed at an adit agent. -/
  | rimQuery
  /-- QUERY_REPLY (R344). A query reply reaches the home, is retained and served to waiting installs and GETs. -/
  | queryReply
  /-- PREFETCH_AT_HOME (R406). A CPREF prefetch reaches the home, which queries the rim if it holds no copy. -/
  | prefetchAtHome
  /-- COPY_REQUEST (R369). A copy engine accepts a copy request and starts its boxes in order. -/
  | copyRequest
  /-- PAGE_WALK (R364). A box's translation walk ends with a translation or a page fault. -/
  | pageWalk
  /-- BOX_PERFORMED (R369). A box is performed whole and its bit set; with all bits set the request completes. -/
  | boxPerformed
  /-- ATOMIC_AT_AGENT (R376). An atomic box is performed as one indivisible read-modify-write at its adit agent. -/
  | atomicAtAgent
  /-- REMOTE_RESULT (R389). The reply of a CATOM, ERTQ or SUMPQ is written into the issuing bank's registers. -/
  | remoteResult
  /-- FAULT_RESUME (R372). Firmware answers RESUME: the request replays its boxes not yet performed and event 7 is raised. -/
  | faultResume
  /-- FAULT_ABORT (R372). Firmware answers ABORT: the launch is aborted with the page-fault cause. -/
  | faultAbort
  /-- FAULT_ANSWER_TIMEOUT (R372). No answer within 2^28 cycles aborts the launch with the page-fault cause. -/
  | faultAnswerTimeout
  /-- VMINV_GO (R367). Writing GO starts a TLB invalidation of a partition or page. -/
  | vminvGo
  /-- INVALIDATION_DONE (R367). BUSY clears once TLBs dropped the entries and affected boxes were performed. -/
  | invalidationDone
  /-- CFENCE_RELEASE (R392). Requests held behind a CFENCE are sent once the group's earlier operations are complete and performed at scope. -/
  | cfenceRelease
  /-- RELEASE_INJECTION (R396). A REL publication is injected once the task's earlier effects are performed at WAFER or SYSTEM scope. -/
  | releaseInjection
  /-- ERT_WRITE (R416). A write to an ERT entry sets BIND, HOME, TILES or STATE as the entry's state allows. -/
  | ertWrite
  /-- ERTCMD_PREFETCH (R429). An ERTCMD prefetch hint starts a page of an ABSENT entry or stamps LASTUSE. -/
  | ertcmdPrefetch
  /-- ERTCMD_PIN (R429). An ERTCMD pin hint pins an entry, paging it if ABSENT. -/
  | ertcmdPin
  /-- ERTCMD_UNPIN (R429). An ERTCMD unpin hint returns a PINNED entry to RESIDENT. -/
  | ertcmdUnpin
  /-- ERTCMD_RELEASE (R429). An ERTCMD release makes an evictable RESIDENT entry ABSENT and frees its slot. -/
  | ertcmdRelease
  /-- HINT_AT_ERT_AGENT (R427). An ERTH hint from a task acts on its entry at the ERT agent. -/
  | hintAtErtAgent
  /-- ROW_AT_HOME (R418). A row for a bound tensor reaches its home and is forwarded or parked, starting a page if ABSENT. -/
  | rowAtHome
  /-- PAGE_SEAL (R422). All tile writes performed: the slot is SEALED, the entry RESIDENT or PINNED, and notices sent. -/
  | pageSeal
  /-- PAGE_FAILURE (R423). A failed page frees the slot, makes the entry ABSENT and aborts launches with parked rows. -/
  | pageFailure
  /-- POLICY_ANSWER (R428). Launch firmware answers a field, slot or eviction request by its handle. -/
  | policyAnswer
  /-- POLICY_TIMEOUT (R428). No admissible answer within 2^20 cycles is replaced by the hardware choice. -/
  | policyTimeout
  /-- STATE_NOTICE (R418). An entry state notice reaches the bound tensor's home, which updates its copy and may page, drain or abort. -/
  | stateNotice
  /-- ROW_PARKING (R419). A parked row is written into a sump, taking a further sump or aborting on overflow. -/
  | rowParking
  /-- RESIDENCY_NOTICE (R424). A residency notice moves an expert task's PENDING entry to the distributor of its FIELD. -/
  | residencyNotice
  /-- SUMP_DRAIN (R425). The home asks the sumps to drain and forwards their rows in arrival order. -/
  | sumpDrain
  /-- SWEEP_START (R457). The launch processor starts a sweep of a live launch's reporters on its interval. -/
  | sweepStart
  /-- SWEEP_END (R459). At a sweep's end phases are closed, retirement decided or deadlock judged. -/
  | sweepEnd
  /-- PHASE_CLOSE_NOTICE (R461). A phase-close notice reaches a router and raises event 5 at cores holding the launch's tasks. -/
  | phaseCloseNotice
  /-- LAUNCH_RETIREMENT (R486). A retiring launch waits for SYSTEM-scope effects, drops network state, writes its record and stops being live. -/
  | launchRetirement
  /-- LAUNCH_ABORT (R481). The first abort cause discards the launch: tasks killed, engine and network state dropped, peers told. -/
  | launchAbort
  /-- TRACE_WRITE (R496). The field's trace writer takes one record per cycle and writes it, with gap and replacement rules. -/
  | traceWrite
  /-- TBSTEP_WRITE (R487). Writing n to TBSTEP adds n ns to every time-base replica at one cycle boundary. -/
  | tbstepWrite
  /-- TBNSL_READ (R487). A read of TBNSL latches TBNSH and TBFRAC of the same instant. -/
  | tbnslRead
  /-- TIME_LOCK_CHANGE (R489). A change of LOCKED emits a time-lock record. -/
  | timeLockChange
  /-- PTP_EVENT_MESSAGE (R517). An IEEE 1588 event message is timestamped at a management Ethernet port. -/
  | ptpEventMessage
  /-- PPS_EDGE (R517). A rising PPS edge is timestamped. -/
  | ppsEdge
  /-- LINK_PORT_FAILURE (R516). A Shohal port not retrained in 2^24 cycles is unmapped and its cut-edge launches aborted with cause 0x06. -/
  | linkPortFailure
  /-- DEBUG_HALT (R478). HALT written 1 halts the core at the next bundle boundary. -/
  | debugHalt
  /-- DEBUG_STEP (R480). STEP issues the bundle at IADDR from SR while halted. -/
  | debugStep
  /-- STEP_END (R480). The stepped bundle retires, or its engine work ends under SDRAIN, and the core halts again. -/
  | stepEnd
  /-- DEBUG_RUN (R478). RUN resumes the running bank at IADDR from SR. -/
  | debugRun
  /-- DBGDATA_ACCESS (R479). A DBGDATA read or write accesses the item DBGADDR names while halted. -/
  | dbgdataAccess
  /-- WAITE_TIMEOUT (R215). A WAITE cycle limit expires and the instruction stops blocking. -/
  | waiteTimeout
  /-- LINK_PORT_FAILS (R516). A Shohal port loses its link and begins retraining, starting the 2^24-cycle limit. -/
  | linkPortFails
  /-- LINK_PORT_RETRAINED (R516). A failed Shohal port retrains within 2^24 cycles and carries traffic again. -/
  | linkPortRetrained
  /-- LINK_CRC_REPLAY (R515). A flit that fails the Shohal link CRC is replayed by the link layer. -/
  | linkCrcReplay
  /-- ROUTER_FAILURE (R483). A failure that stops a router is a device fault: Mboam aborts every live launch with cause 0x04, and the device needs a reset. -/
  | routerFailure
  /-- CUT_EDGE_INSTALLED (R90). A wafer finishes installing its cut edges at its link ports, sends its acknowledgements, and may open its firing gate. -/
  | cutEdgeInstalled
  /-- PEER_SWEEP_RESULT (R459). A peer wafer's sweep result for a multi-wafer launch arrives on the CTL link channel and enters the joint phase-close decision. -/
  | peerSweepResult
  /-- LAUNCH_FIRMWARE_RELOAD (R85). Mboam measures and reloads launch firmware, which releases the queues that a firmware fault held. -/
  | launchFirmwareReload
  /-- EMPTY_BUNDLE (R125). A bundle with no slot present issues in one cycle, acting only through STOP, BRK, loop-end processing and fall-through checks. -/
  | emptyBundle
  /-- MALFORMED_HEADER (R126). A start position holding neither a header nor a pad word, or a bundle that fails the parse, takes the illegal-encoding decode trap. -/
  | malformedHeader
  /-- UNASSIGNED_OPCODE (R167). A slot word whose OPC is unassigned in its class takes the illegal-opcode decode trap. -/
  | unassignedOpcode
  /-- ACCUMULATOR_PORT_ROW (R317). In a cycle, MZERO, MDRAIN, MSTAT, MSCA, MRESC or MTRN writes or drains its next row through the core's accumulator ports, and completes on its last row. -/
  | accumulatorPortRow
  /-- CUT_EDGE_CROSSING (R494). A COLL packet or reduction result crosses a Shohal link port, which emits step-begin or step-end trace records. -/
  | cutEdgeCrossing
  deriving DecidableEq, Repr

end Sys2Proof
end

