-- ==== Sys2Proof/WellFormed.lean ====
section
/-! DEFINITION. Which field values are legal (R147 step 3, R148, R149, and the rows of R155, R159, R160, R163, R165).
A form that fails `Instr.legal` is an illegal encoding. -/

namespace Sys2Proof

/-- GN = 1 with G = 0 is an illegal encoding (R134, R147). -/
def Guard.ok (g : Guard) : Bool := !(g.neg && g.p = 0)

/-- A 5-bit field that names a mask, predicate or address register has its upper bits zero (R148). -/
def low3 (r : BitVec 5) : Bool := r.toNat < 8

/-- A field that names a 64-bit pair is even (R148). -/
def even5 (r : BitVec 5) : Bool := r.toNat % 2 = 0

/-- The float type codes FP32, BF16, FP16 (R149). -/
def isFloat (t : BitVec 6) : Bool := 1 ≤ t.toNat && t.toNat ≤ 3

/-- The binary8 type codes (R149). -/
def isB8 (t : BitVec 6) : Bool := 4 ≤ t.toNat && t.toNat ≤ 0x1F

/-- The integer type codes I32, I16, I8, UI8 (R149). -/
def isInt (t : BitVec 6) : Bool := 0x20 ≤ t.toNat && t.toNat ≤ 0x23

/-- Every type code that names a format (R149, R159). -/
def isElem (t : BitVec 6) : Bool := 1 ≤ t.toNat && t.toNat ≤ 0x23

/-- The lane width of a type code (R269). -/
def laneBits (t : BitVec 6) : Nat :=
  if t = 0x01 || t = 0x20 then 32
  else if t = 0x02 || t = 0x03 || t = 0x21 then 16 else 8

/-- The lane count of a type code (R269). -/
def laneCount (t : BitVec 6) : Nat := 1024 / laneBits t

/-- The weight formats of R287: BF16, FP16 and binary8. -/
def weightFmt (t : BitVec 6) : Bool := t = 2 || t = 3 || isB8 t

/-- The format pairs of a product (R163). -/
def pairOk (a b : BitVec 6) : Bool := (a = 2 && b = 2) || (a = 3 && b = 3) || (isB8 a && isB8 b)

/-- VHAD's register runs: above 5 stages, a multiple of 2^(s-5) (R274). -/
def runOk (s : Nat) (r : BitVec 5) : Bool := s ≤ 5 || r.toNat % 2 ^ (s - 5) = 0

/-- The control register indices that R121 lists; any other is an illegal encoding (R208). -/
def ctlListed (i : BitVec 10) : Bool :=
  i.toNat ≤ 0x00E || (0x010 ≤ i.toNat && i.toNat ≤ 0x01F) || (0x020 ≤ i.toNat && i.toNat ≤ 0x02B) ||
    (0x040 ≤ i.toNat && i.toNat ≤ 0x07F)

/-- The register kinds of the V map's operand columns (R159). -/
inductive VKind where
  | vec | mask | sca | addr | none
  deriving DecidableEq, Repr

/-- A 5-bit field used as the given kind (R148, R159). -/
def VKind.ok (k : VKind) (r : BitVec 5) : Bool :=
  match k with
  | .vec => true
  | .sca => true
  | .mask => low3 r
  | .addr => low3 r
  | .none => r = 0

/-- The column X of the maps (R155, R159, R160). -/
inductive XRule where
  | no | opt | req
  deriving DecidableEq, Repr

/-- Whether the presence of an extension word fits the column X. -/
def XRule.ok (r : XRule) (x : Option Word) : Bool :=
  match r with
  | .no => x.isNone
  | .opt => true
  | .req => x.isSome

/-- The fields of VX that a row may read (R157, R159). -/
inductive VXField where
  | rm | sat | ta | tb | cnd | imm
  deriving DecidableEq, Repr

/-- Every VX field that the row does not read is zero, and RM is not 0b110 or 0b111 (R53, R157). -/
def VRForm.clean (f : VRForm) (reads : List VXField) : Bool :=
  f.rm.toNat < 6 &&
  (reads.contains .rm || f.rm = 0) && (reads.contains .sat || !f.sat) &&
  (reads.contains .ta || f.ta = 0) && (reads.contains .tb || f.tb = 0) &&
  (reads.contains .cnd || f.cnd = 0) && (reads.contains .imm || f.imm = 0)

/-- A VR word's fields against its row of R159. -/
def VRForm.ok (f : VRForm) (d a b : VKind) (x : XRule) (reads : List VXField) : Bool :=
  d.ok f.d && a.ok f.a && b.ok f.b && x.ok f.x && f.clean reads

/-- A VM word's VMX fields against its row of R160: which of VI and E it reads. -/
def VMForm.ok (f : VMForm) (x : XRule) (vi e : Bool) : Bool :=
  x.ok f.x && (vi || f.vi = 0) && (e || !f.e) && f.vmx.extractLsb' 0 24 = 0

/-- AS and ASRC name a ring 0-15 or an address register a0-a7 (R161). -/
def MForm.srcOk (f : MForm) : Bool := !f.asrc || f.as.toNat < 8

/-- AS and ASRC unused. -/
def MForm.noSrc (f : MForm) : Bool := f.as = 0 && !f.asrc

/-- MRG and OPT unused. -/
def MForm.noOpt (f : MForm) : Bool := !f.mrg && f.opt = 0

/-- MX[13:10] is zero (R162). -/
def MForm.mxClean (f : MForm) : Bool := f.x.extractLsb' 10 4 = 0

/-- CX: LEN from 1 to 1,048,576, PITCH 1-255 where read and 0 elsewhere, [10:8] zero (R164). -/
def CForm.lenOk (f : CForm) (pitch : Bool) : Bool :=
  f.x.isSome && 1 ≤ f.len && f.len ≤ 1048576 && (f.x.getD 0).extractLsb' 8 3 = 0 &&
  (if pitch then f.pitch ≠ 0 else f.pitch = 0)

/-- The field checks of R147 step 3 for each instruction; a device step has no fields to check. -/
def Instr.legal : Instr → Bool
  | .add f => f.g.ok && (f.fn = 0 && (f.x = none || f.b = 0))
  | .sub f => f.g.ok && (f.fn = 0 && (f.x = none || f.b = 0))
  | .mul f => f.g.ok && (f.fn = 0 && (f.x = none || f.b = 0))
  | .mulh f => f.g.ok && (f.fn = 0 && (f.x = none || f.b = 0))
  | .mulhu f => f.g.ok && (f.fn = 0 && (f.x = none || f.b = 0))
  | .div f => f.g.ok && (f.fn = 0 && (f.x = none || f.b = 0))
  | .divu f => f.g.ok && (f.fn = 0 && (f.x = none || f.b = 0))
  | .rem f => f.g.ok && (f.fn = 0 && (f.x = none || f.b = 0))
  | .remu f => f.g.ok && (f.fn = 0 && (f.x = none || f.b = 0))
  | .and f => f.g.ok && (f.fn = 0 && (f.x = none || f.b = 0))
  | .or f => f.g.ok && (f.fn = 0 && (f.x = none || f.b = 0))
  | .xor f => f.g.ok && (f.fn = 0 && (f.x = none || f.b = 0))
  | .andn f => f.g.ok && (f.fn = 0 && (f.x = none || f.b = 0))
  | .shl f => f.g.ok && (f.fn = 0 && (f.x = none || f.b = 0))
  | .shr f => f.g.ok && (f.fn = 0 && (f.x = none || f.b = 0))
  | .sra f => f.g.ok && (f.fn = 0 && (f.x = none || f.b = 0))
  | .min f => f.g.ok && (f.fn = 0 && (f.x = none || f.b = 0))
  | .max f => f.g.ok && (f.fn = 0 && (f.x = none || f.b = 0))
  | .minu f => f.g.ok && (f.fn = 0 && (f.x = none || f.b = 0))
  | .maxu f => f.g.ok && (f.fn = 0 && (f.x = none || f.b = 0))
  | .clz f => f.g.ok && (f.b = 0 && f.fn = 0 && f.x = none)
  | .popc f => f.g.ok && (f.b = 0 && f.fn = 0 && f.x = none)
  | .bfx f => f.g.ok && (f.fn.toNat < 2 && (f.x = none || f.b = 0))
  | .bfi f => f.g.ok && (f.fn = 0 && (f.x = none || f.b = 0))
  | .li f => f.g.ok && ((f.x = none || f.imm14 = 0))
  | .sel f => f.g.ok && ((f.x = none || f.b = 0))
  | .cmp f => f.g.ok && (low3 f.d && f.fn.toNat < 10 && (f.x = none || f.b = 0))
  | .plog f => f.g.ok && (low3 f.d && low3 f.a && low3 f.b && f.x = none)
  | .br f => f.g.ok && (true)
  | .bri f => f.g.ok && (f.d = 0 && f.b = 0 && f.fn = 0 && f.x = none)
  | .call f => f.g.ok && (true)
  | .calli f => f.g.ok && (f.d = 0 && f.b = 0 && f.fn = 0 && f.x = none)
  | .ret f => f.g.ok && (f.d = 0 && f.a = 0 && f.b = 0 && f.fn = 0 && f.x = none)
  | .loop f => f.g.ok && (f.x = none)
  | .loopi f => f.g.ok && (f.cnt = 0 && f.x.isSome)
  | .lexit f => f.g.ok && (f.cnt = 0 && f.endOff = 0 && f.x = none)
  | .ldw f => f.g.ok && ((f.x = none || f.off = 0))
  | .ldh f => f.g.ok && ((f.x = none || f.off = 0))
  | .ldhu f => f.g.ok && ((f.x = none || f.off = 0))
  | .ldb f => f.g.ok && ((f.x = none || f.off = 0))
  | .ldbu f => f.g.ok && ((f.x = none || f.off = 0))
  | .ldd f => f.g.ok && (even5 f.d && (f.x = none || f.off = 0))
  | .stw f => f.g.ok && ((f.x = none || f.off = 0))
  | .sth f => f.g.ok && ((f.x = none || f.off = 0))
  | .stb f => f.g.ok && ((f.x = none || f.off = 0))
  | .std f => f.g.ok && (even5 f.d && (f.x = none || f.off = 0))
  | .lds f => f.g.ok && ((f.x = none || f.off = 0))
  | .stf f => f.g.ok && ((f.x = none || f.off = 0))
  | .feclr f => f.g.ok && (f.d = 0 && (f.x = none || f.off = 0))
  | .aadd f => f.g.ok && ((f.x = none || f.off = 0))
  | .amax f => f.g.ok && ((f.x = none || f.off = 0))
  | .aor f => f.g.ok && ((f.x = none || f.off = 0))
  | .axch f => f.g.ok && ((f.x = none || f.off = 0))
  | .acas f => f.g.ok && (even5 f.d && (f.x = none || f.off = 0))
  | .rpop f => f.g.ok && (f.a = 0 && f.imm.toNat < 16)
  | .rtry f => f.g.ok && (f.a = 0 && f.imm.toNat < 16)
  | .rrel f => f.g.ok && (f.d = 0 && f.a = 0 && f.imm.toNat < 16)
  | .rclaim f => f.g.ok && (f.a = 0 && f.imm.toNat < 16)
  | .rfill f => f.g.ok && (f.d = 0 && f.a = 0 && f.imm.toNat < 16)
  | .rstat f => f.g.ok && (f.a = 0 && f.imm.toNat < 16)
  | .aset f => f.g.ok && (low3 f.d && f.imm.toNat < 4)
  | .ainc f => f.g.ok && (low3 f.d && f.imm = 0)
  | .mfc f => f.g.ok && (f.a = 0 && ctlListed f.imm)
  | .mtc f => f.g.ok && (f.d = 0 && ctlListed f.imm)
  | .fence f => f.g.ok && (f.d = 0 && f.a = 0 && f.imm.toNat < 5)
  | .trap f => f.g.ok && (f.d = 0 && f.a = 0)
  | .tend f => f.g.ok && (f.d = 0 && f.a = 0 && f.imm = 0)
  | .waite f => f.g.ok && (f.d = 0 && f.imm.toNat < 16)
  | .bkpt f => f.g.ok && (f.d = 0 && f.a = 0)
  | .gbar f => f.g.ok && (f.d = 0 && f.a = 0 && f.imm = 0)
  | .trace f => f.g.ok && (f.d = 0 && f.a.toNat + 2 ≤ 31)
  | .spause f => f.g.ok && (f.d = 0 && f.a = 0)
  | .vfaddF32 f => f.g.ok && (f.ok .vec .vec .vec .opt [.rm] && !f.q)
  | .vfaddBf16 f => f.g.ok && (f.ok .vec .vec .vec .opt [.rm] && !f.q)
  | .vfaddF16 f => f.g.ok && (f.ok .vec .vec .vec .opt [.rm] && !f.q)
  | .vfsubF32 f => f.g.ok && (f.ok .vec .vec .vec .opt [.rm] && !f.q)
  | .vfsubBf16 f => f.g.ok && (f.ok .vec .vec .vec .opt [.rm] && !f.q)
  | .vfsubF16 f => f.g.ok && (f.ok .vec .vec .vec .opt [.rm] && !f.q)
  | .vfmulF32 f => f.g.ok && (f.ok .vec .vec .vec .opt [.rm] && !f.q)
  | .vfmulBf16 f => f.g.ok && (f.ok .vec .vec .vec .opt [.rm] && !f.q)
  | .vfmulF16 f => f.g.ok && (f.ok .vec .vec .vec .opt [.rm] && !f.q)
  | .vfmaF32 f => f.g.ok && (f.ok .vec .vec .vec .opt [.rm] && !f.q)
  | .vfmaBf16 f => f.g.ok && (f.ok .vec .vec .vec .opt [.rm] && !f.q)
  | .vfmaF16 f => f.g.ok && (f.ok .vec .vec .vec .opt [.rm] && !f.q)
  | .vfmsF32 f => f.g.ok && (f.ok .vec .vec .vec .opt [.rm] && !f.q)
  | .vfmsBf16 f => f.g.ok && (f.ok .vec .vec .vec .opt [.rm] && !f.q)
  | .vfmsF16 f => f.g.ok && (f.ok .vec .vec .vec .opt [.rm] && !f.q)
  | .vfnmaF32 f => f.g.ok && (f.ok .vec .vec .vec .opt [.rm] && !f.q)
  | .vfnmaBf16 f => f.g.ok && (f.ok .vec .vec .vec .opt [.rm] && !f.q)
  | .vfnmaF16 f => f.g.ok && (f.ok .vec .vec .vec .opt [.rm] && !f.q)
  | .vfminF32 f => f.g.ok && (f.ok .vec .vec .vec .no [] && !f.q)
  | .vfminBf16 f => f.g.ok && (f.ok .vec .vec .vec .no [] && !f.q)
  | .vfminF16 f => f.g.ok && (f.ok .vec .vec .vec .no [] && !f.q)
  | .vfmaxF32 f => f.g.ok && (f.ok .vec .vec .vec .no [] && !f.q)
  | .vfmaxBf16 f => f.g.ok && (f.ok .vec .vec .vec .no [] && !f.q)
  | .vfmaxF16 f => f.g.ok && (f.ok .vec .vec .vec .no [] && !f.q)
  | .vfcmpF32 f => f.g.ok && (f.ok .mask .vec .vec .req [.cnd] && !f.q && f.cnd.toNat < 8)
  | .vfcmpBf16 f => f.g.ok && (f.ok .mask .vec .vec .req [.cnd] && !f.q && f.cnd.toNat < 8)
  | .vfcmpF16 f => f.g.ok && (f.ok .mask .vec .vec .req [.cnd] && !f.q && f.cnd.toNat < 8)
  | .vfclampF32 f => f.g.ok && (f.ok .vec .vec .vec .no [] && !f.q)
  | .vfclampBf16 f => f.g.ok && (f.ok .vec .vec .vec .no [] && !f.q)
  | .vfclampF16 f => f.g.ok && (f.ok .vec .vec .vec .no [] && !f.q)
  | .vexp2 f => f.g.ok && (f.ok .vec .vec .none .opt [.rm] && !f.q)
  | .vlog2 f => f.g.ok && (f.ok .vec .vec .none .opt [.rm] && !f.q)
  | .vrcp f => f.g.ok && (f.ok .vec .vec .none .opt [.rm] && !f.q)
  | .vrsq f => f.g.ok && (f.ok .vec .vec .none .opt [.rm] && !f.q)
  | .vsqrt f => f.g.ok && (f.ok .vec .vec .none .opt [.rm] && !f.q)
  | .vfrnd f => f.g.ok && (f.ok .vec .vec .none .opt [.rm] && !f.q)
  | .vfclass f => f.g.ok && (f.ok .vec .vec .none .no [] && !f.q)
  | .vaddI32 f => f.g.ok && (f.ok .vec .vec .vec .no [] && !f.q)
  | .vaddI16 f => f.g.ok && (f.ok .vec .vec .vec .no [] && !f.q)
  | .vaddI8 f => f.g.ok && (f.ok .vec .vec .vec .no [] && !f.q)
  | .vsubI32 f => f.g.ok && (f.ok .vec .vec .vec .no [] && !f.q)
  | .vsubI16 f => f.g.ok && (f.ok .vec .vec .vec .no [] && !f.q)
  | .vsubI8 f => f.g.ok && (f.ok .vec .vec .vec .no [] && !f.q)
  | .vmulI32 f => f.g.ok && (f.ok .vec .vec .vec .no [] && !f.q)
  | .vmulI16 f => f.g.ok && (f.ok .vec .vec .vec .no [] && !f.q)
  | .vmulI8 f => f.g.ok && (f.ok .vec .vec .vec .no [] && !f.q)
  | .vminI32 f => f.g.ok && (f.ok .vec .vec .vec .no [])
  | .vminI16 f => f.g.ok && (f.ok .vec .vec .vec .no [])
  | .vminI8 f => f.g.ok && (f.ok .vec .vec .vec .no [])
  | .vmaxI32 f => f.g.ok && (f.ok .vec .vec .vec .no [])
  | .vmaxI16 f => f.g.ok && (f.ok .vec .vec .vec .no [])
  | .vmaxI8 f => f.g.ok && (f.ok .vec .vec .vec .no [])
  | .vcmpI32 f => f.g.ok && (f.ok .mask .vec .vec .req [.cnd] && f.cnd.toNat < 6)
  | .vcmpI16 f => f.g.ok && (f.ok .mask .vec .vec .req [.cnd] && f.cnd.toNat < 6)
  | .vcmpI8 f => f.g.ok && (f.ok .mask .vec .vec .req [.cnd] && f.cnd.toNat < 6)
  | .vabsI32 f => f.g.ok && (f.ok .vec .vec .none .no [] && !f.q)
  | .vabsI16 f => f.g.ok && (f.ok .vec .vec .none .no [] && !f.q)
  | .vabsI8 f => f.g.ok && (f.ok .vec .vec .none .no [] && !f.q)
  | .vshlI32 f => f.g.ok && (f.ok .vec .vec .vec .no [] && !f.q)
  | .vshlI32Imm f => f.g.ok && (f.ok .vec .vec .none .req [.imm] && f.q && f.imm.toNat < 32)
  | .vshlI16 f => f.g.ok && (f.ok .vec .vec .vec .no [] && !f.q)
  | .vshlI16Imm f => f.g.ok && (f.ok .vec .vec .none .req [.imm] && f.q && f.imm.toNat < 16)
  | .vshlI8 f => f.g.ok && (f.ok .vec .vec .vec .no [] && !f.q)
  | .vshlI8Imm f => f.g.ok && (f.ok .vec .vec .none .req [.imm] && f.q && f.imm.toNat < 8)
  | .vshrI32 f => f.g.ok && (f.ok .vec .vec .vec .no [] && !f.q)
  | .vshrI32Imm f => f.g.ok && (f.ok .vec .vec .none .req [.imm] && f.q && f.imm.toNat < 32)
  | .vshrI16 f => f.g.ok && (f.ok .vec .vec .vec .no [] && !f.q)
  | .vshrI16Imm f => f.g.ok && (f.ok .vec .vec .none .req [.imm] && f.q && f.imm.toNat < 16)
  | .vshrI8 f => f.g.ok && (f.ok .vec .vec .vec .no [] && !f.q)
  | .vshrI8Imm f => f.g.ok && (f.ok .vec .vec .none .req [.imm] && f.q && f.imm.toNat < 8)
  | .vsraI32 f => f.g.ok && (f.ok .vec .vec .vec .no [] && !f.q)
  | .vsraI32Imm f => f.g.ok && (f.ok .vec .vec .none .req [.imm] && f.q && f.imm.toNat < 32)
  | .vsraI16 f => f.g.ok && (f.ok .vec .vec .vec .no [] && !f.q)
  | .vsraI16Imm f => f.g.ok && (f.ok .vec .vec .none .req [.imm] && f.q && f.imm.toNat < 16)
  | .vsraI8 f => f.g.ok && (f.ok .vec .vec .vec .no [] && !f.q)
  | .vsraI8Imm f => f.g.ok && (f.ok .vec .vec .none .req [.imm] && f.q && f.imm.toNat < 8)
  | .vmulh f => f.g.ok && (f.ok .vec .vec .vec .no [])
  | .vsaddI16 f => f.g.ok && (f.ok .vec .vec .vec .no [])
  | .vsaddI8 f => f.g.ok && (f.ok .vec .vec .vec .no [])
  | .vssubI16 f => f.g.ok && (f.ok .vec .vec .vec .no [])
  | .vssubI8 f => f.g.ok && (f.ok .vec .vec .vec .no [])
  | .vand f => f.g.ok && (f.ok .vec .vec .vec .no [] && !f.q)
  | .vor f => f.g.ok && (f.ok .vec .vec .vec .no [] && !f.q)
  | .vxor f => f.g.ok && (f.ok .vec .vec .vec .no [] && !f.q)
  | .vandn f => f.g.ok && (f.ok .vec .vec .vec .no [] && !f.q)
  | .vsel f => f.g.ok && (f.ok .vec .vec .vec .no [] && !f.q)
  | .vcvt f => f.g.ok && (f.ok .vec .vec .none .req [.rm, .sat, .ta, .tb] && !f.q && isFloat f.ta && isFloat f.tb && f.ta ≠ f.tb)
  | .vcvti f => f.g.ok && (f.ok .vec .vec .none .req [.rm, .ta, .tb] && !f.q && ((isFloat f.ta && isInt f.tb) || (isInt f.ta && isFloat f.tb)))
  | .vcvtb8 f => f.g.ok && (f.ok .vec .vec .vec .req [.rm, .sat, .tb] && !f.q && isB8 f.tb)
  | .vwideb8 f => f.g.ok && (f.ok .vec .vec .none .req [.ta, .tb] && isB8 f.ta && isFloat f.tb)
  | .vhad f => f.g.ok && (f.ok .vec .vec .none .req [.imm] && !f.q && f.msk = 0 && 1 ≤ f.imm.toNat && f.imm.toNat ≤ 8 && runOk f.imm.toNat f.d && runOk f.imm.toNat f.a)
  | .vpack f => f.g.ok && (f.ok .vec .vec .vec .req [.sat, .ta, .tb] && !f.q && isInt f.ta && isInt f.tb && laneBits f.tb < laneBits f.ta)
  | .vunpack f => f.g.ok && (f.ok .vec .vec .none .req [.ta, .tb] && isInt f.ta && isInt f.tb && laneBits f.ta < laneBits f.tb)
  | .vdotBf16 f => f.g.ok && (f.ok .vec .vec .vec .opt [.rm] && !f.q)
  | .vdotI8 f => f.g.ok && (f.ok .vec .vec .vec .no [] && !f.q)
  | .vmov f => f.g.ok && (f.ok .vec .vec .none .no [] && !f.q)
  | .vbcst f => f.g.ok && (f.ok .vec .sca .none .opt [.tb] && !f.q && (f.x = none || isElem f.tb))
  | .vins f => f.g.ok && (f.ok .vec .sca .none .req [.tb, .imm] && !f.q && isElem f.tb && f.imm.toNat < laneCount f.tb)
  | .vext f => f.g.ok && (f.ok .sca .vec .none .req [.ta, .imm] && !f.q && f.msk = 0 && isElem f.ta && f.imm.toNat < laneCount f.ta)
  | .vperm f => f.g.ok && (f.ok .vec .vec .vec .opt [.ta] && !f.q && (f.x = none || isElem f.ta))
  | .vzip f => f.g.ok && (f.ok .vec .vec .vec .req [.ta] && isElem f.ta)
  | .vunzip f => f.g.ok && (f.ok .vec .vec .vec .req [.ta] && isElem f.ta)
  | .vslide f => f.g.ok && (f.ok .vec .vec .vec .req [.ta, .imm] && !f.q && isElem f.ta && f.imm.toNat < laneCount f.ta)
  | .vradd f => f.g.ok && (f.ok .vec .vec .none .req [.rm, .ta] && !f.q && isFloat f.ta)
  | .vrmax f => f.g.ok && (f.ok .vec .vec .none .req [.ta] && !f.q && (isFloat f.ta || isInt f.ta))
  | .vrmin f => f.g.ok && (f.ok .vec .vec .none .req [.ta] && !f.q && (isFloat f.ta || isInt f.ta))
  | .vraddi f => f.g.ok && (f.ok .vec .vec .none .req [.ta] && !f.q && isInt f.ta)
  | .vpsum f => f.g.ok && (f.ok .vec .vec .none .req [.ta] && !f.q && (isFloat f.ta || (isInt f.ta && f.ta ≠ 0x23)))
  | .vtopk f => f.g.ok && (f.ok .vec .addr .sca .req [.imm] && !f.q && f.imm.toNat < 32)
  | .vmergek f => f.g.ok && (f.ok .vec .vec .vec .req [.imm] && !f.q && f.imm.toNat < 16)
  | .vcntm f => f.g.ok && (f.ok .sca .mask .none .no [] && !f.q)
  | .vtld f => f.g.ok && (f.ok .vec .sca .none .no [] && !f.q)
  | .vtli f => f.g.ok && (f.ok .vec .vec .sca .req [.rm, .tb, .imm] && !f.q && isFloat f.tb && f.imm.toNat < 16 && f.imm.extractLsb' 0 2 ≠ 3 && f.imm.extractLsb' 2 2 ≠ 3)
  | .vtlu f => f.g.ok && (f.ok .vec .vec .sca .req [.tb] && !f.q && isElem f.tb)
  | .vld f => f.g.ok && (f.ok .no false false)
  | .vst f => f.g.ok && (f.ok .no false false)
  | .vldt f => f.g.ok && (f.ok .req false false && f.esz.toNat < 2)
  | .vstt f => f.g.ok && (f.ok .req false false && f.esz.toNat < 2)
  | .vgath f => f.g.ok && (f.ok .req true false && f.esz ≠ 3)
  | .vscat f => f.g.ok && (f.ok .req true false && f.esz ≠ 3)
  | .vlds f => f.g.ok && (f.ok .opt false true && f.esz = 0)
  | .vldb f => f.g.ok && (f.ok .req false false && f.esz ≠ 3)
  | .vmlog f => f.g.ok && (f.ok .mask .mask .mask .req [.imm] && !f.q && f.imm.toNat < 16)
  | .vmset f => f.g.ok && (f.ok .mask .sca .none .no [] && !f.q)
  | .vmfirst f => f.g.ok && (f.ok .sca .mask .none .no [] && !f.q)
  | .vlerpF32 f => f.g.ok && (f.ok .vec .vec .vec .opt [.rm] && !f.q)
  | .vlerpBf16 f => f.g.ok && (f.ok .vec .vec .vec .opt [.rm] && !f.q)
  | .vfsgn f => f.g.ok && (f.ok .vec .vec .vec .req [.ta] && !f.q && isFloat f.ta)
  | .vfscale f => f.g.ok && (f.ok .vec .vec .vec .req [.rm, .ta] && !f.q && isFloat f.ta)
  | .mwld f => f.g.ok && (f.z = 0 && f.noSrc && f.noOpt && f.rows = 0 && f.mxClean && f.afmt = 0 && weightFmt f.bfmt && f.slot.toNat < 48)
  | .mwlds f => f.g.ok && (f.z = 0 && f.srcOk && f.noOpt && f.rows = 0 && f.mxClean && f.afmt = 0 && weightFmt f.bfmt && f.slot = 63 && f.tile = 0)
  | .mwpre f => f.g.ok && (f.z = 0 && f.noSrc && f.noOpt && f.rows = 0 && f.mxClean && f.afmt = 0 && weightFmt f.bfmt && f.slot.toNat < 48)
  | .mma f => f.g.ok && (f.srcOk && f.rows.toNat < 128 && f.mxClean && pairOk f.afmt f.bfmt && (f.slot.toNat < 48 || (f.slot = 63 && !f.mrg)))
  | .mmao f => f.g.ok && (f.srcOk && f.rows.toNat < 128 && f.mxClean && pairOk f.afmt f.bfmt && (f.slot.toNat < 48 || (f.slot = 63 && !f.mrg)))
  | .mzero f => f.g.ok && (f.noSrc && f.noOpt && f.rows.toNat < 128 && f.x = 0)
  | .mdrain f => f.g.ok && (f.srcOk && !f.mrg && f.opt.toNat < 2 && f.rows.toNat < 128 && f.mxClean && f.bfmt = 0 && f.slot = 0 && f.tile = 0 && (isFloat f.afmt || isB8 f.afmt))
  | .msca f => f.g.ok && (f.as.toNat < 4 && !f.asrc && f.noOpt && f.rows.toNat < 128 && f.x.extractLsb' 0 26 = 0)
  | .mstat f => f.g.ok && (f.srcOk && f.noOpt && f.rows.toNat < 128 && f.x = 0)
  | .mresc f => f.g.ok && (f.srcOk && f.noOpt && f.rows.toNat < 128 && f.x = 0)
  | .mtrn f => f.g.ok && (f.srcOk && f.noOpt && f.rows.toNat < 128 && f.mxClean && f.bfmt = 0 && f.slot = 0 && f.tile = 0 && (f.afmt = 2 || f.afmt = 3))
  | .mwait f => f.g.ok && (f.noSrc && !f.mrg && f.opt.toNat < 2 && f.rows = 0 && f.x = 0 && (f.opt = 0 || f.z = 0))
  | .mprog f => f.g.ok && (f.noSrc && f.noOpt && f.rows = 0 && f.x.extractLsb' 0 27 = 0)
  | .mflags f => f.g.ok && (f.noSrc && !f.mrg && f.opt.toNat < 2 && f.rows = 0 && f.x.extractLsb' 0 27 = 0)
  | .mhold f => f.g.ok && (f.z = 0 && f.noSrc && f.noOpt && f.x = 0)
  | .mflush f => f.g.ok && (f.z = 0 && f.noSrc && f.noOpt && f.rows = 0 && f.x = 0)
  | .cld f => f.g.ok && (even5 f.ca && f.opt = 0 && f.lenOk false)
  | .cst f => f.g.ok && (even5 f.ca && f.opt = 0 && f.lenOk false)
  | .cld2d f => f.g.ok && (even5 f.ca && f.cb.toNat + 2 ≤ 31 && f.opt = 0 && f.lenOk true && f.len ≤ f.pitch.toNat * 128)
  | .cst2d f => f.g.ok && (even5 f.ca && f.cb.toNat + 2 ≤ 31 && f.opt = 0 && f.lenOk true && f.len ≤ f.pitch.toNat * 128)
  | .cldr f => f.g.ok && (f.ca.toNat < 16 && even5 f.cb && f.opt = 0 && f.lenOk false)
  | .catom f => f.g.ok && (even5 f.ca && even5 f.cb && f.cb.toNat ≤ 28 && (f.opt.extractLsb' 0 3).toNat < 5 && !f.opt.getLsbD 4 && f.x = none)
  | .cwait f => f.g.ok && (f.ca = 0 && f.cb = 0 && f.opt = 0 && f.x = none)
  | .cpoll f => f.g.ok && (f.cb = 0 && f.opt = 0 && f.x = none)
  | .cfence f => f.g.ok && (f.ca = 0 && f.cb = 0 && f.opt.toNat < 5 && f.x = none)
  | .ccancel f => f.g.ok && (f.ca = 0 && f.cb = 0 && f.opt = 0 && f.x = none)
  | .cget f => f.g.ok && (even5 f.cb && f.opt = 0 && f.lenOk false)
  | .pub f => f.g.ok && (f.ca.toNat + 0 + (if f.greg then 1 else 0) ≤ 31 && even5 f.cb && f.opt.toNat < 4 && f.lenOk false)
  | .pubr f => f.g.ok && (f.ca.toNat + 2 + (if f.greg then 1 else 0) ≤ 31 && even5 f.cb && f.opt.toNat < 4 && f.lenOk false && f.len % 4 = 0 && 4 ≤ f.len && f.len ≤ 4092)
  | .pubred f => f.g.ok && (f.ca.toNat + 1 + (if f.greg then 1 else 0) ≤ 31 && even5 f.cb && f.red.toNat < 5 && f.lenOk false)
  | .pip f => f.g.ok && ((f.greg || f.ca = 0) && even5 f.cb && f.grp = 0 && f.opt.toNat < 4 && f.x = none)
  | .subscribe f => f.g.ok && (even5 f.cb && f.cb.toNat ≤ 28 && f.grp = 0 && f.opt = 0 && f.x = none)
  | .unsub f => f.g.ok && (f.ca = 0 && even5 f.cb && f.cb.toNat ≤ 28 && f.grp = 0 && f.opt = 0 && f.x = none)
  | .cpref f => f.g.ok && (f.ca = 0 && even5 f.cb && f.grp = 0 && f.opt = 0 && f.x = none)
  | .phase f => f.g.ok && (f.ca = 0 && f.cb = 0 && f.grp = 0 && f.opt.toNat < 16 && f.x = none)
  | .pubc f => f.g.ok && (f.ca.toNat + 2 + (if f.greg then 1 else 0) ≤ 31 && even5 f.cb && f.red.toNat < 5 && f.lenOk false)
  | .subq f => f.g.ok && (even5 f.cb && f.cb.toNat ≤ 28 && f.grp = 0 && f.opt = 0 && f.x = none)
  | .ertq f => f.g.ok && (f.grp = 0 && f.opt = 0 && f.x = none)
  | .erth f => f.g.ok && (f.ca = 0 && f.grp = 0 && f.opt.toNat < 3 && f.x = none)
  | .sumpq f => f.g.ok && (f.grp = 0 && f.opt = 0 && f.x = none)
  | .powerOnReset => true
  | .recoveryGo => true
  | .measurementExtend => true
  | .registerWrite => true
  | .qtailWrite => true
  | .qctlWrite => true
  | .queueSelection => true
  | .nop => true
  | .load => true
  | .unload => true
  | .launch => true
  | .abort => true
  | .commandFenceRelease => true
  | .launchAcceptance => true
  | .waferAcknowledgement => true
  | .gateTimeout => true
  | .peerAbort => true
  | .firmwareAbort => true
  | .controlPip => true
  | .firmwarePriorityChange => true
  | .firmwareFault => true
  | .preemptionRequest => true
  | .tenantSwitch => true
  | .homeTableRebuild => true
  | .rimRequestStart => true
  | .taskHandoff => true
  | .distributorSelection => true
  | .passOverEnd => true
  | .entryHandover => true
  | .taskFire => true
  | .gangFire => true
  | .budgetExhausted => true
  | .thermalSample => true
  | .powerCheck => true
  | .coolantFault => true
  | .coolantTrip => true
  | .clusterRetirement => true
  | .clusterFailure => true
  | .fieldLoss => true
  | .bankSwitch => true
  | .switchDrainEnd => true
  | .correctableError => true
  | .freezeEnd => true
  | .uncorrectableError => true
  | .refreshWindow => true
  | .refreshWindowEnd => true
  | .stagingDequeue => true
  | .segmentAdmission => true
  | .holdLimitReached => true
  | .arraySelection => true
  | .weightLoadGrant => true
  | .weightLoadEnd => true
  | .positionFire => true
  | .rowResultWrite => true
  | .selectWrites => true
  | .install => true
  | .installAcknowledgement => true
  | .installRefusal => true
  | .removal => true
  | .publicationAtHome => true
  | .delivery => true
  | .heldDeliveryRelease => true
  | .pinRequest => true
  | .copyExpiry => true
  | .contribution => true
  | .partnerTimeout => true
  | .getRequest => true
  | .getResponse => true
  | .getRetryResend => true
  | .rimQuery => true
  | .queryReply => true
  | .prefetchAtHome => true
  | .copyRequest => true
  | .pageWalk => true
  | .boxPerformed => true
  | .atomicAtAgent => true
  | .remoteResult => true
  | .faultResume => true
  | .faultAbort => true
  | .faultAnswerTimeout => true
  | .vminvGo => true
  | .invalidationDone => true
  | .cfenceRelease => true
  | .releaseInjection => true
  | .ertWrite => true
  | .ertcmdPrefetch => true
  | .ertcmdPin => true
  | .ertcmdUnpin => true
  | .ertcmdRelease => true
  | .hintAtErtAgent => true
  | .rowAtHome => true
  | .pageSeal => true
  | .pageFailure => true
  | .policyAnswer => true
  | .policyTimeout => true
  | .stateNotice => true
  | .rowParking => true
  | .residencyNotice => true
  | .sumpDrain => true
  | .sweepStart => true
  | .sweepEnd => true
  | .phaseCloseNotice => true
  | .launchRetirement => true
  | .launchAbort => true
  | .traceWrite => true
  | .tbstepWrite => true
  | .tbnslRead => true
  | .timeLockChange => true
  | .ptpEventMessage => true
  | .ppsEdge => true
  | .linkPortFailure => true
  | .debugHalt => true
  | .debugStep => true
  | .stepEnd => true
  | .debugRun => true
  | .dbgdataAccess => true
  | .waiteTimeout => true
  | .linkPortFails => true
  | .linkPortRetrained => true
  | .linkCrcReplay => true
  | .routerFailure => true
  | .cutEdgeInstalled => true
  | .peerSweepResult => true
  | .launchFirmwareReload => true
  | .emptyBundle => true
  | .malformedHeader => true
  | .unassignedOpcode => true
  | .accumulatorPortRow => true
  | .cutEdgeCrossing => true

end Sys2Proof
end

