-- ==== Sys2Proof/Decode.lean ====
section
/-! DEFINITION. From words to instructions and back (R124 to R127, R145 to R167). The decoder is total: what it cannot
read it rejects by name. The encoder stands after the decoder. -/

namespace Sys2Proof

/-- Why a bundle takes a decode trap (R147): the illegal-opcode or the illegal-encoding cause. -/
inductive DecodeErr where
  | illegalOpcode
  | illegalEncoding
  deriving DecidableEq, Repr

/-! ### Fields of a slot word -/

/-- OPC, bits [30:24] (R145). -/
def opcOf (w : Word) : BitVec 7 := w.extractLsb' 24 7

/-- The guard, bits [23:20] (R145). -/
def Guard.read (w : Word) : Guard := ⟨w.extractLsb' 21 3, w.getLsbD 20⟩

/-- SR (R150). -/
def SRForm.read (w : Word) (x : Option Word) : SRForm :=
  ⟨Guard.read w, w.extractLsb' 15 5, w.extractLsb' 10 5, w.extractLsb' 5 5, w.extractLsb' 1 4, x⟩
/-- LI (R150). -/
def LIForm.read (w : Word) (x : Option Word) : LIForm :=
  ⟨Guard.read w, w.extractLsb' 15 5, w.extractLsb' 1 14, x⟩
/-- SM (R151). -/
def SMForm.read (w : Word) (x : Option Word) : SMForm :=
  ⟨Guard.read w, w.extractLsb' 15 5, w.extractLsb' 10 5, w.extractLsb' 1 9, x⟩
/-- LDS (R151). -/
def LDSForm.read (w : Word) (x : Option Word) : LDSForm :=
  ⟨Guard.read w, w.extractLsb' 15 5, w.extractLsb' 10 5, w.extractLsb' 2 8, w.getLsbD 1, x⟩
/-- SB (R152). It takes no extension word. -/
def SBForm.read (w : Word) (_ : Option Word) : SBForm := ⟨Guard.read w, w.extractLsb' 0 20⟩
/-- SL (R153). -/
def SLForm.read (w : Word) (x : Option Word) : SLForm :=
  ⟨Guard.read w, w.extractLsb' 15 5, w.extractLsb' 13 2, w.extractLsb' 0 13, x⟩
/-- SY (R154). It takes no extension word. -/
def SYForm.read (w : Word) (_ : Option Word) : SYForm :=
  ⟨Guard.read w, w.extractLsb' 15 5, w.extractLsb' 10 5, w.extractLsb' 0 10⟩
/-- VR (R156). -/
def VRForm.read (w : Word) (x : Option Word) : VRForm :=
  ⟨Guard.read w, w.extractLsb' 15 5, w.extractLsb' 10 5, w.extractLsb' 5 5, w.extractLsb' 2 3, w.getLsbD 1, x⟩
/-- VM (R158). -/
def VMForm.read (w : Word) (x : Option Word) : VMForm :=
  ⟨Guard.read w, w.extractLsb' 15 5, w.extractLsb' 12 3, w.extractLsb' 5 7, w.extractLsb' 2 3, w.getLsbD 1, x⟩
/-- M (R161). -/
def MForm.read (w : Word) (x : Word) : MForm :=
  ⟨Guard.read w, w.extractLsb' 18 2, w.extractLsb' 14 4, w.getLsbD 13, w.getLsbD 12, w.extractLsb' 10 2,
    w.extractLsb' 0 10, x⟩
/-- C (R164). -/
def CForm.read (w : Word) (x : Option Word) : CForm :=
  ⟨Guard.read w, w.extractLsb' 15 5, w.extractLsb' 10 5, w.extractLsb' 6 4, w.extractLsb' 1 5, x⟩

/-! ### The slot words of the formats -/

/-- Bits [31:20] of a slot word (R145). -/
def frameTop (op : BitVec 7) (g : Guard) : BitVec 12 :=
  (((0#1 ++ op : BitVec 8) ++ g.p : BitVec 11) ++ BitVec.ofBool g.neg : BitVec 12)

/-- SR (R150). -/
def SRForm.word (f : SRForm) (op : BitVec 7) : Word :=
  (((((frameTop op f.g ++ f.d : BitVec 17) ++ f.a : BitVec 22) ++ f.b : BitVec 27) ++ f.fn : BitVec 31) ++
    BitVec.ofBool f.x.isSome : BitVec 32)
/-- LI (R150). -/
def LIForm.word (f : LIForm) (op : BitVec 7) : Word :=
  (((frameTop op f.g ++ f.d : BitVec 17) ++ f.imm14 : BitVec 31) ++ BitVec.ofBool f.x.isSome : BitVec 32)
/-- SM (R151). -/
def SMForm.word (f : SMForm) (op : BitVec 7) : Word :=
  ((((frameTop op f.g ++ f.d : BitVec 17) ++ f.base : BitVec 22) ++ f.off : BitVec 31) ++
    BitVec.ofBool f.x.isSome : BitVec 32)
/-- LDS (R151). -/
def LDSForm.word (f : LDSForm) (op : BitVec 7) : Word :=
  (((((frameTop op f.g ++ f.d : BitVec 17) ++ f.base : BitVec 22) ++ f.off : BitVec 30) ++
    BitVec.ofBool f.e : BitVec 31) ++ BitVec.ofBool f.x.isSome : BitVec 32)
/-- SB (R152). -/
def SBForm.word (f : SBForm) (op : BitVec 7) : Word := (frameTop op f.g ++ f.off : BitVec 32)
/-- SL (R153). -/
def SLForm.word (f : SLForm) (op : BitVec 7) : Word :=
  (((frameTop op f.g ++ f.cnt : BitVec 17) ++ f.lvl : BitVec 19) ++ f.endOff : BitVec 32)
/-- SY (R154). -/
def SYForm.word (f : SYForm) (op : BitVec 7) : Word :=
  (((frameTop op f.g ++ f.d : BitVec 17) ++ f.a : BitVec 22) ++ f.imm : BitVec 32)
/-- VR (R156). -/
def VRForm.word (f : VRForm) (op : BitVec 7) : Word :=
  ((((((frameTop op f.g ++ f.d : BitVec 17) ++ f.a : BitVec 22) ++ f.b : BitVec 27) ++ f.msk : BitVec 30) ++
    BitVec.ofBool f.q : BitVec 31) ++ BitVec.ofBool f.x.isSome : BitVec 32)
/-- VM (R158). -/
def VMForm.word (f : VMForm) (op : BitVec 7) : Word :=
  ((((((frameTop op f.g ++ f.d : BitVec 17) ++ f.ar : BitVec 20) ++ f.off : BitVec 27) ++ f.msk : BitVec 30) ++
    BitVec.ofBool f.pi : BitVec 31) ++ BitVec.ofBool f.x.isSome : BitVec 32)
/-- M (R161). -/
def MForm.word (f : MForm) (op : BitVec 7) : Word :=
  ((((((frameTop op f.g ++ f.z : BitVec 14) ++ f.as : BitVec 18) ++ BitVec.ofBool f.asrc : BitVec 19) ++
    BitVec.ofBool f.mrg : BitVec 20) ++ f.opt : BitVec 22) ++ f.rows : BitVec 32)
/-- C (R164). -/
def CForm.word (f : CForm) (op : BitVec 7) : Word :=
  (((((frameTop op f.g ++ f.ca : BitVec 17) ++ f.cb : BitVec 22) ++ f.grp : BitVec 26) ++ f.opt : BitVec 31) ++
    BitVec.ofBool f.x.isSome : BitVec 32)

/-! ### The opcode maps -/

/-- The slot class and opcode of an encoded instruction (R155, R159, R160, R163, R165); a device step has none. -/
def Instr.opc : Instr → Option (SlotClass × BitVec 7)
  | .add _ => some (.S, 0x00)
  | .sub _ => some (.S, 0x01)
  | .mul _ => some (.S, 0x02)
  | .mulh _ => some (.S, 0x03)
  | .mulhu _ => some (.S, 0x04)
  | .div _ => some (.S, 0x05)
  | .divu _ => some (.S, 0x06)
  | .rem _ => some (.S, 0x07)
  | .remu _ => some (.S, 0x08)
  | .and _ => some (.S, 0x09)
  | .or _ => some (.S, 0x0A)
  | .xor _ => some (.S, 0x0B)
  | .andn _ => some (.S, 0x0C)
  | .shl _ => some (.S, 0x0D)
  | .shr _ => some (.S, 0x0E)
  | .sra _ => some (.S, 0x0F)
  | .min _ => some (.S, 0x10)
  | .max _ => some (.S, 0x11)
  | .minu _ => some (.S, 0x12)
  | .maxu _ => some (.S, 0x13)
  | .clz _ => some (.S, 0x14)
  | .popc _ => some (.S, 0x15)
  | .bfx _ => some (.S, 0x16)
  | .bfi _ => some (.S, 0x17)
  | .li _ => some (.S, 0x18)
  | .sel _ => some (.S, 0x19)
  | .cmp _ => some (.S, 0x1A)
  | .plog _ => some (.S, 0x1B)
  | .br _ => some (.S, 0x20)
  | .bri _ => some (.S, 0x21)
  | .call _ => some (.S, 0x22)
  | .calli _ => some (.S, 0x23)
  | .ret _ => some (.S, 0x24)
  | .loop _ => some (.S, 0x25)
  | .loopi _ => some (.S, 0x26)
  | .lexit _ => some (.S, 0x27)
  | .ldw _ => some (.S, 0x30)
  | .ldh _ => some (.S, 0x31)
  | .ldhu _ => some (.S, 0x32)
  | .ldb _ => some (.S, 0x33)
  | .ldbu _ => some (.S, 0x34)
  | .ldd _ => some (.S, 0x35)
  | .stw _ => some (.S, 0x36)
  | .sth _ => some (.S, 0x37)
  | .stb _ => some (.S, 0x38)
  | .std _ => some (.S, 0x39)
  | .lds _ => some (.S, 0x3A)
  | .stf _ => some (.S, 0x3B)
  | .feclr _ => some (.S, 0x3C)
  | .aadd _ => some (.S, 0x3D)
  | .amax _ => some (.S, 0x3E)
  | .aor _ => some (.S, 0x3F)
  | .axch _ => some (.S, 0x40)
  | .acas _ => some (.S, 0x41)
  | .rpop _ => some (.S, 0x48)
  | .rtry _ => some (.S, 0x49)
  | .rrel _ => some (.S, 0x4A)
  | .rclaim _ => some (.S, 0x4B)
  | .rfill _ => some (.S, 0x4C)
  | .rstat _ => some (.S, 0x4D)
  | .aset _ => some (.S, 0x50)
  | .ainc _ => some (.S, 0x51)
  | .mfc _ => some (.S, 0x60)
  | .mtc _ => some (.S, 0x61)
  | .fence _ => some (.S, 0x62)
  | .trap _ => some (.S, 0x63)
  | .tend _ => some (.S, 0x64)
  | .waite _ => some (.S, 0x65)
  | .bkpt _ => some (.S, 0x66)
  | .gbar _ => some (.S, 0x67)
  | .trace _ => some (.S, 0x68)
  | .spause _ => some (.S, 0x69)
  | .vfaddF32 _ => some (.V, 0x00)
  | .vfaddBf16 _ => some (.V, 0x01)
  | .vfaddF16 _ => some (.V, 0x02)
  | .vfsubF32 _ => some (.V, 0x03)
  | .vfsubBf16 _ => some (.V, 0x04)
  | .vfsubF16 _ => some (.V, 0x05)
  | .vfmulF32 _ => some (.V, 0x06)
  | .vfmulBf16 _ => some (.V, 0x07)
  | .vfmulF16 _ => some (.V, 0x08)
  | .vfmaF32 _ => some (.V, 0x09)
  | .vfmaBf16 _ => some (.V, 0x0A)
  | .vfmaF16 _ => some (.V, 0x0B)
  | .vfmsF32 _ => some (.V, 0x0C)
  | .vfmsBf16 _ => some (.V, 0x0D)
  | .vfmsF16 _ => some (.V, 0x0E)
  | .vfnmaF32 _ => some (.V, 0x0F)
  | .vfnmaBf16 _ => some (.V, 0x10)
  | .vfnmaF16 _ => some (.V, 0x11)
  | .vfminF32 _ => some (.V, 0x12)
  | .vfminBf16 _ => some (.V, 0x13)
  | .vfminF16 _ => some (.V, 0x14)
  | .vfmaxF32 _ => some (.V, 0x15)
  | .vfmaxBf16 _ => some (.V, 0x16)
  | .vfmaxF16 _ => some (.V, 0x17)
  | .vfcmpF32 _ => some (.V, 0x18)
  | .vfcmpBf16 _ => some (.V, 0x19)
  | .vfcmpF16 _ => some (.V, 0x1A)
  | .vfclampF32 _ => some (.V, 0x1B)
  | .vfclampBf16 _ => some (.V, 0x1C)
  | .vfclampF16 _ => some (.V, 0x1D)
  | .vexp2 _ => some (.V, 0x1E)
  | .vlog2 _ => some (.V, 0x1F)
  | .vrcp _ => some (.V, 0x20)
  | .vrsq _ => some (.V, 0x21)
  | .vsqrt _ => some (.V, 0x22)
  | .vfrnd _ => some (.V, 0x23)
  | .vfclass _ => some (.V, 0x24)
  | .vaddI32 _ => some (.V, 0x28)
  | .vaddI16 _ => some (.V, 0x29)
  | .vaddI8 _ => some (.V, 0x2A)
  | .vsubI32 _ => some (.V, 0x2B)
  | .vsubI16 _ => some (.V, 0x2C)
  | .vsubI8 _ => some (.V, 0x2D)
  | .vmulI32 _ => some (.V, 0x2E)
  | .vmulI16 _ => some (.V, 0x2F)
  | .vmulI8 _ => some (.V, 0x30)
  | .vminI32 _ => some (.V, 0x31)
  | .vminI16 _ => some (.V, 0x32)
  | .vminI8 _ => some (.V, 0x33)
  | .vmaxI32 _ => some (.V, 0x34)
  | .vmaxI16 _ => some (.V, 0x35)
  | .vmaxI8 _ => some (.V, 0x36)
  | .vcmpI32 _ => some (.V, 0x37)
  | .vcmpI16 _ => some (.V, 0x38)
  | .vcmpI8 _ => some (.V, 0x39)
  | .vabsI32 _ => some (.V, 0x3A)
  | .vabsI16 _ => some (.V, 0x3B)
  | .vabsI8 _ => some (.V, 0x3C)
  | .vshlI32 _ => some (.V, 0x3D)
  | .vshlI32Imm _ => some (.V, 0x3D)
  | .vshlI16 _ => some (.V, 0x3E)
  | .vshlI16Imm _ => some (.V, 0x3E)
  | .vshlI8 _ => some (.V, 0x3F)
  | .vshlI8Imm _ => some (.V, 0x3F)
  | .vshrI32 _ => some (.V, 0x40)
  | .vshrI32Imm _ => some (.V, 0x40)
  | .vshrI16 _ => some (.V, 0x41)
  | .vshrI16Imm _ => some (.V, 0x41)
  | .vshrI8 _ => some (.V, 0x42)
  | .vshrI8Imm _ => some (.V, 0x42)
  | .vsraI32 _ => some (.V, 0x43)
  | .vsraI32Imm _ => some (.V, 0x43)
  | .vsraI16 _ => some (.V, 0x44)
  | .vsraI16Imm _ => some (.V, 0x44)
  | .vsraI8 _ => some (.V, 0x45)
  | .vsraI8Imm _ => some (.V, 0x45)
  | .vmulh _ => some (.V, 0x46)
  | .vsaddI16 _ => some (.V, 0x47)
  | .vsaddI8 _ => some (.V, 0x48)
  | .vssubI16 _ => some (.V, 0x49)
  | .vssubI8 _ => some (.V, 0x4A)
  | .vand _ => some (.V, 0x4B)
  | .vor _ => some (.V, 0x4C)
  | .vxor _ => some (.V, 0x4D)
  | .vandn _ => some (.V, 0x4E)
  | .vsel _ => some (.V, 0x4F)
  | .vcvt _ => some (.V, 0x50)
  | .vcvti _ => some (.V, 0x51)
  | .vcvtb8 _ => some (.V, 0x52)
  | .vwideb8 _ => some (.V, 0x53)
  | .vhad _ => some (.V, 0x54)
  | .vpack _ => some (.V, 0x55)
  | .vunpack _ => some (.V, 0x56)
  | .vdotBf16 _ => some (.V, 0x58)
  | .vdotI8 _ => some (.V, 0x59)
  | .vmov _ => some (.V, 0x5A)
  | .vbcst _ => some (.V, 0x5B)
  | .vins _ => some (.V, 0x5C)
  | .vext _ => some (.V, 0x5D)
  | .vperm _ => some (.V, 0x5E)
  | .vzip _ => some (.V, 0x5F)
  | .vunzip _ => some (.V, 0x60)
  | .vslide _ => some (.V, 0x61)
  | .vradd _ => some (.V, 0x62)
  | .vrmax _ => some (.V, 0x63)
  | .vrmin _ => some (.V, 0x64)
  | .vraddi _ => some (.V, 0x65)
  | .vpsum _ => some (.V, 0x66)
  | .vtopk _ => some (.V, 0x68)
  | .vmergek _ => some (.V, 0x69)
  | .vcntm _ => some (.V, 0x6A)
  | .vtld _ => some (.V, 0x6B)
  | .vtli _ => some (.V, 0x6C)
  | .vtlu _ => some (.V, 0x6D)
  | .vld _ => some (.V, 0x70)
  | .vst _ => some (.V, 0x71)
  | .vldt _ => some (.V, 0x72)
  | .vstt _ => some (.V, 0x73)
  | .vgath _ => some (.V, 0x74)
  | .vscat _ => some (.V, 0x75)
  | .vlds _ => some (.V, 0x76)
  | .vldb _ => some (.V, 0x77)
  | .vmlog _ => some (.V, 0x78)
  | .vmset _ => some (.V, 0x79)
  | .vmfirst _ => some (.V, 0x7A)
  | .vlerpF32 _ => some (.V, 0x7B)
  | .vlerpBf16 _ => some (.V, 0x7C)
  | .vfsgn _ => some (.V, 0x7D)
  | .vfscale _ => some (.V, 0x7E)
  | .mwld _ => some (.M, 0x00)
  | .mwlds _ => some (.M, 0x01)
  | .mwpre _ => some (.M, 0x02)
  | .mma _ => some (.M, 0x03)
  | .mmao _ => some (.M, 0x04)
  | .mzero _ => some (.M, 0x05)
  | .mdrain _ => some (.M, 0x06)
  | .msca _ => some (.M, 0x07)
  | .mstat _ => some (.M, 0x08)
  | .mresc _ => some (.M, 0x09)
  | .mtrn _ => some (.M, 0x0A)
  | .mwait _ => some (.M, 0x0B)
  | .mprog _ => some (.M, 0x0C)
  | .mflags _ => some (.M, 0x0D)
  | .mhold _ => some (.M, 0x0E)
  | .mflush _ => some (.M, 0x0F)
  | .cld _ => some (.C, 0x00)
  | .cst _ => some (.C, 0x01)
  | .cld2d _ => some (.C, 0x02)
  | .cst2d _ => some (.C, 0x03)
  | .cldr _ => some (.C, 0x04)
  | .catom _ => some (.C, 0x05)
  | .cwait _ => some (.C, 0x06)
  | .cpoll _ => some (.C, 0x07)
  | .cfence _ => some (.C, 0x08)
  | .ccancel _ => some (.C, 0x09)
  | .cget _ => some (.C, 0x10)
  | .pub _ => some (.C, 0x11)
  | .pubr _ => some (.C, 0x12)
  | .pubred _ => some (.C, 0x13)
  | .pip _ => some (.C, 0x14)
  | .subscribe _ => some (.C, 0x15)
  | .unsub _ => some (.C, 0x16)
  | .cpref _ => some (.C, 0x17)
  | .phase _ => some (.C, 0x18)
  | .pubc _ => some (.C, 0x19)
  | .subq _ => some (.C, 0x1A)
  | .ertq _ => some (.C, 0x20)
  | .erth _ => some (.C, 0x21)
  | .sumpq _ => some (.C, 0x22)
  | .powerOnReset => none
  | .recoveryGo => none
  | .measurementExtend => none
  | .registerWrite => none
  | .qtailWrite => none
  | .qctlWrite => none
  | .queueSelection => none
  | .nop => none
  | .load => none
  | .unload => none
  | .launch => none
  | .abort => none
  | .commandFenceRelease => none
  | .launchAcceptance => none
  | .waferAcknowledgement => none
  | .gateTimeout => none
  | .peerAbort => none
  | .firmwareAbort => none
  | .controlPip => none
  | .firmwarePriorityChange => none
  | .firmwareFault => none
  | .preemptionRequest => none
  | .tenantSwitch => none
  | .homeTableRebuild => none
  | .rimRequestStart => none
  | .taskHandoff => none
  | .distributorSelection => none
  | .passOverEnd => none
  | .entryHandover => none
  | .taskFire => none
  | .gangFire => none
  | .budgetExhausted => none
  | .thermalSample => none
  | .powerCheck => none
  | .coolantFault => none
  | .coolantTrip => none
  | .clusterRetirement => none
  | .clusterFailure => none
  | .fieldLoss => none
  | .bankSwitch => none
  | .switchDrainEnd => none
  | .correctableError => none
  | .freezeEnd => none
  | .uncorrectableError => none
  | .refreshWindow => none
  | .refreshWindowEnd => none
  | .stagingDequeue => none
  | .segmentAdmission => none
  | .holdLimitReached => none
  | .arraySelection => none
  | .weightLoadGrant => none
  | .weightLoadEnd => none
  | .positionFire => none
  | .rowResultWrite => none
  | .selectWrites => none
  | .install => none
  | .installAcknowledgement => none
  | .installRefusal => none
  | .removal => none
  | .publicationAtHome => none
  | .delivery => none
  | .heldDeliveryRelease => none
  | .pinRequest => none
  | .copyExpiry => none
  | .contribution => none
  | .partnerTimeout => none
  | .getRequest => none
  | .getResponse => none
  | .getRetryResend => none
  | .rimQuery => none
  | .queryReply => none
  | .prefetchAtHome => none
  | .copyRequest => none
  | .pageWalk => none
  | .boxPerformed => none
  | .atomicAtAgent => none
  | .remoteResult => none
  | .faultResume => none
  | .faultAbort => none
  | .faultAnswerTimeout => none
  | .vminvGo => none
  | .invalidationDone => none
  | .cfenceRelease => none
  | .releaseInjection => none
  | .ertWrite => none
  | .ertcmdPrefetch => none
  | .ertcmdPin => none
  | .ertcmdUnpin => none
  | .ertcmdRelease => none
  | .hintAtErtAgent => none
  | .rowAtHome => none
  | .pageSeal => none
  | .pageFailure => none
  | .policyAnswer => none
  | .policyTimeout => none
  | .stateNotice => none
  | .rowParking => none
  | .residencyNotice => none
  | .sumpDrain => none
  | .sweepStart => none
  | .sweepEnd => none
  | .phaseCloseNotice => none
  | .launchRetirement => none
  | .launchAbort => none
  | .traceWrite => none
  | .tbstepWrite => none
  | .tbnslRead => none
  | .timeLockChange => none
  | .ptpEventMessage => none
  | .ppsEdge => none
  | .linkPortFailure => none
  | .debugHalt => none
  | .debugStep => none
  | .stepEnd => none
  | .debugRun => none
  | .dbgdataAccess => none
  | .waiteTimeout => none
  | .linkPortFails => none
  | .linkPortRetrained => none
  | .linkCrcReplay => none
  | .routerFailure => none
  | .cutEdgeInstalled => none
  | .peerSweepResult => none
  | .launchFirmwareReload => none
  | .emptyBundle => none
  | .malformedHeader => none
  | .unassignedOpcode => none
  | .accumulatorPortRow => none
  | .cutEdgeCrossing => none

/-- The S-class opcode map: the instruction an opcode names, its fields filled from the words. -/
def readS (op : Nat) (w : Word) (x : Option Word) : Option Instr :=
  match op with
  | 0x00 => some (.add (SRForm.read w x))
  | 0x01 => some (.sub (SRForm.read w x))
  | 0x02 => some (.mul (SRForm.read w x))
  | 0x03 => some (.mulh (SRForm.read w x))
  | 0x04 => some (.mulhu (SRForm.read w x))
  | 0x05 => some (.div (SRForm.read w x))
  | 0x06 => some (.divu (SRForm.read w x))
  | 0x07 => some (.rem (SRForm.read w x))
  | 0x08 => some (.remu (SRForm.read w x))
  | 0x09 => some (.and (SRForm.read w x))
  | 0x0A => some (.or (SRForm.read w x))
  | 0x0B => some (.xor (SRForm.read w x))
  | 0x0C => some (.andn (SRForm.read w x))
  | 0x0D => some (.shl (SRForm.read w x))
  | 0x0E => some (.shr (SRForm.read w x))
  | 0x0F => some (.sra (SRForm.read w x))
  | 0x10 => some (.min (SRForm.read w x))
  | 0x11 => some (.max (SRForm.read w x))
  | 0x12 => some (.minu (SRForm.read w x))
  | 0x13 => some (.maxu (SRForm.read w x))
  | 0x14 => some (.clz (SRForm.read w x))
  | 0x15 => some (.popc (SRForm.read w x))
  | 0x16 => some (.bfx (SRForm.read w x))
  | 0x17 => some (.bfi (SRForm.read w x))
  | 0x18 => some (.li (LIForm.read w x))
  | 0x19 => some (.sel (SRForm.read w x))
  | 0x1A => some (.cmp (SRForm.read w x))
  | 0x1B => some (.plog (SRForm.read w x))
  | 0x20 => some (.br (SBForm.read w x))
  | 0x21 => some (.bri (SRForm.read w x))
  | 0x22 => some (.call (SBForm.read w x))
  | 0x23 => some (.calli (SRForm.read w x))
  | 0x24 => some (.ret (SRForm.read w x))
  | 0x25 => some (.loop (SLForm.read w x))
  | 0x26 => some (.loopi (SLForm.read w x))
  | 0x27 => some (.lexit (SLForm.read w x))
  | 0x30 => some (.ldw (SMForm.read w x))
  | 0x31 => some (.ldh (SMForm.read w x))
  | 0x32 => some (.ldhu (SMForm.read w x))
  | 0x33 => some (.ldb (SMForm.read w x))
  | 0x34 => some (.ldbu (SMForm.read w x))
  | 0x35 => some (.ldd (SMForm.read w x))
  | 0x36 => some (.stw (SMForm.read w x))
  | 0x37 => some (.sth (SMForm.read w x))
  | 0x38 => some (.stb (SMForm.read w x))
  | 0x39 => some (.std (SMForm.read w x))
  | 0x3A => some (.lds (LDSForm.read w x))
  | 0x3B => some (.stf (SMForm.read w x))
  | 0x3C => some (.feclr (SMForm.read w x))
  | 0x3D => some (.aadd (SMForm.read w x))
  | 0x3E => some (.amax (SMForm.read w x))
  | 0x3F => some (.aor (SMForm.read w x))
  | 0x40 => some (.axch (SMForm.read w x))
  | 0x41 => some (.acas (SMForm.read w x))
  | 0x48 => some (.rpop (SYForm.read w x))
  | 0x49 => some (.rtry (SYForm.read w x))
  | 0x4A => some (.rrel (SYForm.read w x))
  | 0x4B => some (.rclaim (SYForm.read w x))
  | 0x4C => some (.rfill (SYForm.read w x))
  | 0x4D => some (.rstat (SYForm.read w x))
  | 0x50 => some (.aset (SYForm.read w x))
  | 0x51 => some (.ainc (SYForm.read w x))
  | 0x60 => some (.mfc (SYForm.read w x))
  | 0x61 => some (.mtc (SYForm.read w x))
  | 0x62 => some (.fence (SYForm.read w x))
  | 0x63 => some (.trap (SYForm.read w x))
  | 0x64 => some (.tend (SYForm.read w x))
  | 0x65 => some (.waite (SYForm.read w x))
  | 0x66 => some (.bkpt (SYForm.read w x))
  | 0x67 => some (.gbar (SYForm.read w x))
  | 0x68 => some (.trace (SYForm.read w x))
  | 0x69 => some (.spause (SYForm.read w x))
  | _ => none

/-- The V-class opcode map: the instruction an opcode names, its fields filled from the words. -/
def readV (op : Nat) (w : Word) (x : Option Word) : Option Instr :=
  match op with
  | 0x00 => some (.vfaddF32 (VRForm.read w x))
  | 0x01 => some (.vfaddBf16 (VRForm.read w x))
  | 0x02 => some (.vfaddF16 (VRForm.read w x))
  | 0x03 => some (.vfsubF32 (VRForm.read w x))
  | 0x04 => some (.vfsubBf16 (VRForm.read w x))
  | 0x05 => some (.vfsubF16 (VRForm.read w x))
  | 0x06 => some (.vfmulF32 (VRForm.read w x))
  | 0x07 => some (.vfmulBf16 (VRForm.read w x))
  | 0x08 => some (.vfmulF16 (VRForm.read w x))
  | 0x09 => some (.vfmaF32 (VRForm.read w x))
  | 0x0A => some (.vfmaBf16 (VRForm.read w x))
  | 0x0B => some (.vfmaF16 (VRForm.read w x))
  | 0x0C => some (.vfmsF32 (VRForm.read w x))
  | 0x0D => some (.vfmsBf16 (VRForm.read w x))
  | 0x0E => some (.vfmsF16 (VRForm.read w x))
  | 0x0F => some (.vfnmaF32 (VRForm.read w x))
  | 0x10 => some (.vfnmaBf16 (VRForm.read w x))
  | 0x11 => some (.vfnmaF16 (VRForm.read w x))
  | 0x12 => some (.vfminF32 (VRForm.read w x))
  | 0x13 => some (.vfminBf16 (VRForm.read w x))
  | 0x14 => some (.vfminF16 (VRForm.read w x))
  | 0x15 => some (.vfmaxF32 (VRForm.read w x))
  | 0x16 => some (.vfmaxBf16 (VRForm.read w x))
  | 0x17 => some (.vfmaxF16 (VRForm.read w x))
  | 0x18 => some (.vfcmpF32 (VRForm.read w x))
  | 0x19 => some (.vfcmpBf16 (VRForm.read w x))
  | 0x1A => some (.vfcmpF16 (VRForm.read w x))
  | 0x1B => some (.vfclampF32 (VRForm.read w x))
  | 0x1C => some (.vfclampBf16 (VRForm.read w x))
  | 0x1D => some (.vfclampF16 (VRForm.read w x))
  | 0x1E => some (.vexp2 (VRForm.read w x))
  | 0x1F => some (.vlog2 (VRForm.read w x))
  | 0x20 => some (.vrcp (VRForm.read w x))
  | 0x21 => some (.vrsq (VRForm.read w x))
  | 0x22 => some (.vsqrt (VRForm.read w x))
  | 0x23 => some (.vfrnd (VRForm.read w x))
  | 0x24 => some (.vfclass (VRForm.read w x))
  | 0x28 => some (.vaddI32 (VRForm.read w x))
  | 0x29 => some (.vaddI16 (VRForm.read w x))
  | 0x2A => some (.vaddI8 (VRForm.read w x))
  | 0x2B => some (.vsubI32 (VRForm.read w x))
  | 0x2C => some (.vsubI16 (VRForm.read w x))
  | 0x2D => some (.vsubI8 (VRForm.read w x))
  | 0x2E => some (.vmulI32 (VRForm.read w x))
  | 0x2F => some (.vmulI16 (VRForm.read w x))
  | 0x30 => some (.vmulI8 (VRForm.read w x))
  | 0x31 => some (.vminI32 (VRForm.read w x))
  | 0x32 => some (.vminI16 (VRForm.read w x))
  | 0x33 => some (.vminI8 (VRForm.read w x))
  | 0x34 => some (.vmaxI32 (VRForm.read w x))
  | 0x35 => some (.vmaxI16 (VRForm.read w x))
  | 0x36 => some (.vmaxI8 (VRForm.read w x))
  | 0x37 => some (.vcmpI32 (VRForm.read w x))
  | 0x38 => some (.vcmpI16 (VRForm.read w x))
  | 0x39 => some (.vcmpI8 (VRForm.read w x))
  | 0x3A => some (.vabsI32 (VRForm.read w x))
  | 0x3B => some (.vabsI16 (VRForm.read w x))
  | 0x3C => some (.vabsI8 (VRForm.read w x))
  | 0x3D => some (if w.getLsbD 1 then .vshlI32Imm (VRForm.read w x) else .vshlI32 (VRForm.read w x))
  | 0x3E => some (if w.getLsbD 1 then .vshlI16Imm (VRForm.read w x) else .vshlI16 (VRForm.read w x))
  | 0x3F => some (if w.getLsbD 1 then .vshlI8Imm (VRForm.read w x) else .vshlI8 (VRForm.read w x))
  | 0x40 => some (if w.getLsbD 1 then .vshrI32Imm (VRForm.read w x) else .vshrI32 (VRForm.read w x))
  | 0x41 => some (if w.getLsbD 1 then .vshrI16Imm (VRForm.read w x) else .vshrI16 (VRForm.read w x))
  | 0x42 => some (if w.getLsbD 1 then .vshrI8Imm (VRForm.read w x) else .vshrI8 (VRForm.read w x))
  | 0x43 => some (if w.getLsbD 1 then .vsraI32Imm (VRForm.read w x) else .vsraI32 (VRForm.read w x))
  | 0x44 => some (if w.getLsbD 1 then .vsraI16Imm (VRForm.read w x) else .vsraI16 (VRForm.read w x))
  | 0x45 => some (if w.getLsbD 1 then .vsraI8Imm (VRForm.read w x) else .vsraI8 (VRForm.read w x))
  | 0x46 => some (.vmulh (VRForm.read w x))
  | 0x47 => some (.vsaddI16 (VRForm.read w x))
  | 0x48 => some (.vsaddI8 (VRForm.read w x))
  | 0x49 => some (.vssubI16 (VRForm.read w x))
  | 0x4A => some (.vssubI8 (VRForm.read w x))
  | 0x4B => some (.vand (VRForm.read w x))
  | 0x4C => some (.vor (VRForm.read w x))
  | 0x4D => some (.vxor (VRForm.read w x))
  | 0x4E => some (.vandn (VRForm.read w x))
  | 0x4F => some (.vsel (VRForm.read w x))
  | 0x50 => some (.vcvt (VRForm.read w x))
  | 0x51 => some (.vcvti (VRForm.read w x))
  | 0x52 => some (.vcvtb8 (VRForm.read w x))
  | 0x53 => some (.vwideb8 (VRForm.read w x))
  | 0x54 => some (.vhad (VRForm.read w x))
  | 0x55 => some (.vpack (VRForm.read w x))
  | 0x56 => some (.vunpack (VRForm.read w x))
  | 0x58 => some (.vdotBf16 (VRForm.read w x))
  | 0x59 => some (.vdotI8 (VRForm.read w x))
  | 0x5A => some (.vmov (VRForm.read w x))
  | 0x5B => some (.vbcst (VRForm.read w x))
  | 0x5C => some (.vins (VRForm.read w x))
  | 0x5D => some (.vext (VRForm.read w x))
  | 0x5E => some (.vperm (VRForm.read w x))
  | 0x5F => some (.vzip (VRForm.read w x))
  | 0x60 => some (.vunzip (VRForm.read w x))
  | 0x61 => some (.vslide (VRForm.read w x))
  | 0x62 => some (.vradd (VRForm.read w x))
  | 0x63 => some (.vrmax (VRForm.read w x))
  | 0x64 => some (.vrmin (VRForm.read w x))
  | 0x65 => some (.vraddi (VRForm.read w x))
  | 0x66 => some (.vpsum (VRForm.read w x))
  | 0x68 => some (.vtopk (VRForm.read w x))
  | 0x69 => some (.vmergek (VRForm.read w x))
  | 0x6A => some (.vcntm (VRForm.read w x))
  | 0x6B => some (.vtld (VRForm.read w x))
  | 0x6C => some (.vtli (VRForm.read w x))
  | 0x6D => some (.vtlu (VRForm.read w x))
  | 0x70 => some (.vld (VMForm.read w x))
  | 0x71 => some (.vst (VMForm.read w x))
  | 0x72 => some (.vldt (VMForm.read w x))
  | 0x73 => some (.vstt (VMForm.read w x))
  | 0x74 => some (.vgath (VMForm.read w x))
  | 0x75 => some (.vscat (VMForm.read w x))
  | 0x76 => some (.vlds (VMForm.read w x))
  | 0x77 => some (.vldb (VMForm.read w x))
  | 0x78 => some (.vmlog (VRForm.read w x))
  | 0x79 => some (.vmset (VRForm.read w x))
  | 0x7A => some (.vmfirst (VRForm.read w x))
  | 0x7B => some (.vlerpF32 (VRForm.read w x))
  | 0x7C => some (.vlerpBf16 (VRForm.read w x))
  | 0x7D => some (.vfsgn (VRForm.read w x))
  | 0x7E => some (.vfscale (VRForm.read w x))
  | _ => none

/-- The M-class opcode map: the instruction an opcode names, its fields filled from the words. -/
def readM (op : Nat) (w : Word) (x : Option Word) : Option Instr :=
  match op with
  | 0x00 => some (.mwld (MForm.read w (x.getD 0)))
  | 0x01 => some (.mwlds (MForm.read w (x.getD 0)))
  | 0x02 => some (.mwpre (MForm.read w (x.getD 0)))
  | 0x03 => some (.mma (MForm.read w (x.getD 0)))
  | 0x04 => some (.mmao (MForm.read w (x.getD 0)))
  | 0x05 => some (.mzero (MForm.read w (x.getD 0)))
  | 0x06 => some (.mdrain (MForm.read w (x.getD 0)))
  | 0x07 => some (.msca (MForm.read w (x.getD 0)))
  | 0x08 => some (.mstat (MForm.read w (x.getD 0)))
  | 0x09 => some (.mresc (MForm.read w (x.getD 0)))
  | 0x0A => some (.mtrn (MForm.read w (x.getD 0)))
  | 0x0B => some (.mwait (MForm.read w (x.getD 0)))
  | 0x0C => some (.mprog (MForm.read w (x.getD 0)))
  | 0x0D => some (.mflags (MForm.read w (x.getD 0)))
  | 0x0E => some (.mhold (MForm.read w (x.getD 0)))
  | 0x0F => some (.mflush (MForm.read w (x.getD 0)))
  | _ => none

/-- The C-class opcode map: the instruction an opcode names, its fields filled from the words. -/
def readC (op : Nat) (w : Word) (x : Option Word) : Option Instr :=
  match op with
  | 0x00 => some (.cld (CForm.read w x))
  | 0x01 => some (.cst (CForm.read w x))
  | 0x02 => some (.cld2d (CForm.read w x))
  | 0x03 => some (.cst2d (CForm.read w x))
  | 0x04 => some (.cldr (CForm.read w x))
  | 0x05 => some (.catom (CForm.read w x))
  | 0x06 => some (.cwait (CForm.read w x))
  | 0x07 => some (.cpoll (CForm.read w x))
  | 0x08 => some (.cfence (CForm.read w x))
  | 0x09 => some (.ccancel (CForm.read w x))
  | 0x10 => some (.cget (CForm.read w x))
  | 0x11 => some (.pub (CForm.read w x))
  | 0x12 => some (.pubr (CForm.read w x))
  | 0x13 => some (.pubred (CForm.read w x))
  | 0x14 => some (.pip (CForm.read w x))
  | 0x15 => some (.subscribe (CForm.read w x))
  | 0x16 => some (.unsub (CForm.read w x))
  | 0x17 => some (.cpref (CForm.read w x))
  | 0x18 => some (.phase (CForm.read w x))
  | 0x19 => some (.pubc (CForm.read w x))
  | 0x1A => some (.subq (CForm.read w x))
  | 0x20 => some (.ertq (CForm.read w x))
  | 0x21 => some (.erth (CForm.read w x))
  | 0x22 => some (.sumpq (CForm.read w x))
  | _ => none

/-- The words of an encoded instruction, and the class of the slot they stand in; none for a device step. -/
def encode : Instr → Option (SlotClass × Word × Option Word)
  | .add f => some (.S, f.word 0x00, f.x)
  | .sub f => some (.S, f.word 0x01, f.x)
  | .mul f => some (.S, f.word 0x02, f.x)
  | .mulh f => some (.S, f.word 0x03, f.x)
  | .mulhu f => some (.S, f.word 0x04, f.x)
  | .div f => some (.S, f.word 0x05, f.x)
  | .divu f => some (.S, f.word 0x06, f.x)
  | .rem f => some (.S, f.word 0x07, f.x)
  | .remu f => some (.S, f.word 0x08, f.x)
  | .and f => some (.S, f.word 0x09, f.x)
  | .or f => some (.S, f.word 0x0A, f.x)
  | .xor f => some (.S, f.word 0x0B, f.x)
  | .andn f => some (.S, f.word 0x0C, f.x)
  | .shl f => some (.S, f.word 0x0D, f.x)
  | .shr f => some (.S, f.word 0x0E, f.x)
  | .sra f => some (.S, f.word 0x0F, f.x)
  | .min f => some (.S, f.word 0x10, f.x)
  | .max f => some (.S, f.word 0x11, f.x)
  | .minu f => some (.S, f.word 0x12, f.x)
  | .maxu f => some (.S, f.word 0x13, f.x)
  | .clz f => some (.S, f.word 0x14, f.x)
  | .popc f => some (.S, f.word 0x15, f.x)
  | .bfx f => some (.S, f.word 0x16, f.x)
  | .bfi f => some (.S, f.word 0x17, f.x)
  | .li f => some (.S, f.word 0x18, f.x)
  | .sel f => some (.S, f.word 0x19, f.x)
  | .cmp f => some (.S, f.word 0x1A, f.x)
  | .plog f => some (.S, f.word 0x1B, f.x)
  | .br f => some (.S, f.word 0x20, none)
  | .bri f => some (.S, f.word 0x21, f.x)
  | .call f => some (.S, f.word 0x22, none)
  | .calli f => some (.S, f.word 0x23, f.x)
  | .ret f => some (.S, f.word 0x24, f.x)
  | .loop f => some (.S, f.word 0x25, f.x)
  | .loopi f => some (.S, f.word 0x26, f.x)
  | .lexit f => some (.S, f.word 0x27, f.x)
  | .ldw f => some (.S, f.word 0x30, f.x)
  | .ldh f => some (.S, f.word 0x31, f.x)
  | .ldhu f => some (.S, f.word 0x32, f.x)
  | .ldb f => some (.S, f.word 0x33, f.x)
  | .ldbu f => some (.S, f.word 0x34, f.x)
  | .ldd f => some (.S, f.word 0x35, f.x)
  | .stw f => some (.S, f.word 0x36, f.x)
  | .sth f => some (.S, f.word 0x37, f.x)
  | .stb f => some (.S, f.word 0x38, f.x)
  | .std f => some (.S, f.word 0x39, f.x)
  | .lds f => some (.S, f.word 0x3A, f.x)
  | .stf f => some (.S, f.word 0x3B, f.x)
  | .feclr f => some (.S, f.word 0x3C, f.x)
  | .aadd f => some (.S, f.word 0x3D, f.x)
  | .amax f => some (.S, f.word 0x3E, f.x)
  | .aor f => some (.S, f.word 0x3F, f.x)
  | .axch f => some (.S, f.word 0x40, f.x)
  | .acas f => some (.S, f.word 0x41, f.x)
  | .rpop f => some (.S, f.word 0x48, none)
  | .rtry f => some (.S, f.word 0x49, none)
  | .rrel f => some (.S, f.word 0x4A, none)
  | .rclaim f => some (.S, f.word 0x4B, none)
  | .rfill f => some (.S, f.word 0x4C, none)
  | .rstat f => some (.S, f.word 0x4D, none)
  | .aset f => some (.S, f.word 0x50, none)
  | .ainc f => some (.S, f.word 0x51, none)
  | .mfc f => some (.S, f.word 0x60, none)
  | .mtc f => some (.S, f.word 0x61, none)
  | .fence f => some (.S, f.word 0x62, none)
  | .trap f => some (.S, f.word 0x63, none)
  | .tend f => some (.S, f.word 0x64, none)
  | .waite f => some (.S, f.word 0x65, none)
  | .bkpt f => some (.S, f.word 0x66, none)
  | .gbar f => some (.S, f.word 0x67, none)
  | .trace f => some (.S, f.word 0x68, none)
  | .spause f => some (.S, f.word 0x69, none)
  | .vfaddF32 f => some (.V, f.word 0x00, f.x)
  | .vfaddBf16 f => some (.V, f.word 0x01, f.x)
  | .vfaddF16 f => some (.V, f.word 0x02, f.x)
  | .vfsubF32 f => some (.V, f.word 0x03, f.x)
  | .vfsubBf16 f => some (.V, f.word 0x04, f.x)
  | .vfsubF16 f => some (.V, f.word 0x05, f.x)
  | .vfmulF32 f => some (.V, f.word 0x06, f.x)
  | .vfmulBf16 f => some (.V, f.word 0x07, f.x)
  | .vfmulF16 f => some (.V, f.word 0x08, f.x)
  | .vfmaF32 f => some (.V, f.word 0x09, f.x)
  | .vfmaBf16 f => some (.V, f.word 0x0A, f.x)
  | .vfmaF16 f => some (.V, f.word 0x0B, f.x)
  | .vfmsF32 f => some (.V, f.word 0x0C, f.x)
  | .vfmsBf16 f => some (.V, f.word 0x0D, f.x)
  | .vfmsF16 f => some (.V, f.word 0x0E, f.x)
  | .vfnmaF32 f => some (.V, f.word 0x0F, f.x)
  | .vfnmaBf16 f => some (.V, f.word 0x10, f.x)
  | .vfnmaF16 f => some (.V, f.word 0x11, f.x)
  | .vfminF32 f => some (.V, f.word 0x12, f.x)
  | .vfminBf16 f => some (.V, f.word 0x13, f.x)
  | .vfminF16 f => some (.V, f.word 0x14, f.x)
  | .vfmaxF32 f => some (.V, f.word 0x15, f.x)
  | .vfmaxBf16 f => some (.V, f.word 0x16, f.x)
  | .vfmaxF16 f => some (.V, f.word 0x17, f.x)
  | .vfcmpF32 f => some (.V, f.word 0x18, f.x)
  | .vfcmpBf16 f => some (.V, f.word 0x19, f.x)
  | .vfcmpF16 f => some (.V, f.word 0x1A, f.x)
  | .vfclampF32 f => some (.V, f.word 0x1B, f.x)
  | .vfclampBf16 f => some (.V, f.word 0x1C, f.x)
  | .vfclampF16 f => some (.V, f.word 0x1D, f.x)
  | .vexp2 f => some (.V, f.word 0x1E, f.x)
  | .vlog2 f => some (.V, f.word 0x1F, f.x)
  | .vrcp f => some (.V, f.word 0x20, f.x)
  | .vrsq f => some (.V, f.word 0x21, f.x)
  | .vsqrt f => some (.V, f.word 0x22, f.x)
  | .vfrnd f => some (.V, f.word 0x23, f.x)
  | .vfclass f => some (.V, f.word 0x24, f.x)
  | .vaddI32 f => some (.V, f.word 0x28, f.x)
  | .vaddI16 f => some (.V, f.word 0x29, f.x)
  | .vaddI8 f => some (.V, f.word 0x2A, f.x)
  | .vsubI32 f => some (.V, f.word 0x2B, f.x)
  | .vsubI16 f => some (.V, f.word 0x2C, f.x)
  | .vsubI8 f => some (.V, f.word 0x2D, f.x)
  | .vmulI32 f => some (.V, f.word 0x2E, f.x)
  | .vmulI16 f => some (.V, f.word 0x2F, f.x)
  | .vmulI8 f => some (.V, f.word 0x30, f.x)
  | .vminI32 f => some (.V, f.word 0x31, f.x)
  | .vminI16 f => some (.V, f.word 0x32, f.x)
  | .vminI8 f => some (.V, f.word 0x33, f.x)
  | .vmaxI32 f => some (.V, f.word 0x34, f.x)
  | .vmaxI16 f => some (.V, f.word 0x35, f.x)
  | .vmaxI8 f => some (.V, f.word 0x36, f.x)
  | .vcmpI32 f => some (.V, f.word 0x37, f.x)
  | .vcmpI16 f => some (.V, f.word 0x38, f.x)
  | .vcmpI8 f => some (.V, f.word 0x39, f.x)
  | .vabsI32 f => some (.V, f.word 0x3A, f.x)
  | .vabsI16 f => some (.V, f.word 0x3B, f.x)
  | .vabsI8 f => some (.V, f.word 0x3C, f.x)
  | .vshlI32 f => some (.V, f.word 0x3D, f.x)
  | .vshlI32Imm f => some (.V, f.word 0x3D, f.x)
  | .vshlI16 f => some (.V, f.word 0x3E, f.x)
  | .vshlI16Imm f => some (.V, f.word 0x3E, f.x)
  | .vshlI8 f => some (.V, f.word 0x3F, f.x)
  | .vshlI8Imm f => some (.V, f.word 0x3F, f.x)
  | .vshrI32 f => some (.V, f.word 0x40, f.x)
  | .vshrI32Imm f => some (.V, f.word 0x40, f.x)
  | .vshrI16 f => some (.V, f.word 0x41, f.x)
  | .vshrI16Imm f => some (.V, f.word 0x41, f.x)
  | .vshrI8 f => some (.V, f.word 0x42, f.x)
  | .vshrI8Imm f => some (.V, f.word 0x42, f.x)
  | .vsraI32 f => some (.V, f.word 0x43, f.x)
  | .vsraI32Imm f => some (.V, f.word 0x43, f.x)
  | .vsraI16 f => some (.V, f.word 0x44, f.x)
  | .vsraI16Imm f => some (.V, f.word 0x44, f.x)
  | .vsraI8 f => some (.V, f.word 0x45, f.x)
  | .vsraI8Imm f => some (.V, f.word 0x45, f.x)
  | .vmulh f => some (.V, f.word 0x46, f.x)
  | .vsaddI16 f => some (.V, f.word 0x47, f.x)
  | .vsaddI8 f => some (.V, f.word 0x48, f.x)
  | .vssubI16 f => some (.V, f.word 0x49, f.x)
  | .vssubI8 f => some (.V, f.word 0x4A, f.x)
  | .vand f => some (.V, f.word 0x4B, f.x)
  | .vor f => some (.V, f.word 0x4C, f.x)
  | .vxor f => some (.V, f.word 0x4D, f.x)
  | .vandn f => some (.V, f.word 0x4E, f.x)
  | .vsel f => some (.V, f.word 0x4F, f.x)
  | .vcvt f => some (.V, f.word 0x50, f.x)
  | .vcvti f => some (.V, f.word 0x51, f.x)
  | .vcvtb8 f => some (.V, f.word 0x52, f.x)
  | .vwideb8 f => some (.V, f.word 0x53, f.x)
  | .vhad f => some (.V, f.word 0x54, f.x)
  | .vpack f => some (.V, f.word 0x55, f.x)
  | .vunpack f => some (.V, f.word 0x56, f.x)
  | .vdotBf16 f => some (.V, f.word 0x58, f.x)
  | .vdotI8 f => some (.V, f.word 0x59, f.x)
  | .vmov f => some (.V, f.word 0x5A, f.x)
  | .vbcst f => some (.V, f.word 0x5B, f.x)
  | .vins f => some (.V, f.word 0x5C, f.x)
  | .vext f => some (.V, f.word 0x5D, f.x)
  | .vperm f => some (.V, f.word 0x5E, f.x)
  | .vzip f => some (.V, f.word 0x5F, f.x)
  | .vunzip f => some (.V, f.word 0x60, f.x)
  | .vslide f => some (.V, f.word 0x61, f.x)
  | .vradd f => some (.V, f.word 0x62, f.x)
  | .vrmax f => some (.V, f.word 0x63, f.x)
  | .vrmin f => some (.V, f.word 0x64, f.x)
  | .vraddi f => some (.V, f.word 0x65, f.x)
  | .vpsum f => some (.V, f.word 0x66, f.x)
  | .vtopk f => some (.V, f.word 0x68, f.x)
  | .vmergek f => some (.V, f.word 0x69, f.x)
  | .vcntm f => some (.V, f.word 0x6A, f.x)
  | .vtld f => some (.V, f.word 0x6B, f.x)
  | .vtli f => some (.V, f.word 0x6C, f.x)
  | .vtlu f => some (.V, f.word 0x6D, f.x)
  | .vld f => some (.V, f.word 0x70, f.x)
  | .vst f => some (.V, f.word 0x71, f.x)
  | .vldt f => some (.V, f.word 0x72, f.x)
  | .vstt f => some (.V, f.word 0x73, f.x)
  | .vgath f => some (.V, f.word 0x74, f.x)
  | .vscat f => some (.V, f.word 0x75, f.x)
  | .vlds f => some (.V, f.word 0x76, f.x)
  | .vldb f => some (.V, f.word 0x77, f.x)
  | .vmlog f => some (.V, f.word 0x78, f.x)
  | .vmset f => some (.V, f.word 0x79, f.x)
  | .vmfirst f => some (.V, f.word 0x7A, f.x)
  | .vlerpF32 f => some (.V, f.word 0x7B, f.x)
  | .vlerpBf16 f => some (.V, f.word 0x7C, f.x)
  | .vfsgn f => some (.V, f.word 0x7D, f.x)
  | .vfscale f => some (.V, f.word 0x7E, f.x)
  | .mwld f => some (.M, f.word 0x00, some f.x)
  | .mwlds f => some (.M, f.word 0x01, some f.x)
  | .mwpre f => some (.M, f.word 0x02, some f.x)
  | .mma f => some (.M, f.word 0x03, some f.x)
  | .mmao f => some (.M, f.word 0x04, some f.x)
  | .mzero f => some (.M, f.word 0x05, some f.x)
  | .mdrain f => some (.M, f.word 0x06, some f.x)
  | .msca f => some (.M, f.word 0x07, some f.x)
  | .mstat f => some (.M, f.word 0x08, some f.x)
  | .mresc f => some (.M, f.word 0x09, some f.x)
  | .mtrn f => some (.M, f.word 0x0A, some f.x)
  | .mwait f => some (.M, f.word 0x0B, some f.x)
  | .mprog f => some (.M, f.word 0x0C, some f.x)
  | .mflags f => some (.M, f.word 0x0D, some f.x)
  | .mhold f => some (.M, f.word 0x0E, some f.x)
  | .mflush f => some (.M, f.word 0x0F, some f.x)
  | .cld f => some (.C, f.word 0x00, f.x)
  | .cst f => some (.C, f.word 0x01, f.x)
  | .cld2d f => some (.C, f.word 0x02, f.x)
  | .cst2d f => some (.C, f.word 0x03, f.x)
  | .cldr f => some (.C, f.word 0x04, f.x)
  | .catom f => some (.C, f.word 0x05, f.x)
  | .cwait f => some (.C, f.word 0x06, f.x)
  | .cpoll f => some (.C, f.word 0x07, f.x)
  | .cfence f => some (.C, f.word 0x08, f.x)
  | .ccancel f => some (.C, f.word 0x09, f.x)
  | .cget f => some (.C, f.word 0x10, f.x)
  | .pub f => some (.C, f.word 0x11, f.x)
  | .pubr f => some (.C, f.word 0x12, f.x)
  | .pubred f => some (.C, f.word 0x13, f.x)
  | .pip f => some (.C, f.word 0x14, f.x)
  | .subscribe f => some (.C, f.word 0x15, f.x)
  | .unsub f => some (.C, f.word 0x16, f.x)
  | .cpref f => some (.C, f.word 0x17, f.x)
  | .phase f => some (.C, f.word 0x18, f.x)
  | .pubc f => some (.C, f.word 0x19, f.x)
  | .subq f => some (.C, f.word 0x1A, f.x)
  | .ertq f => some (.C, f.word 0x20, f.x)
  | .erth f => some (.C, f.word 0x21, f.x)
  | .sumpq f => some (.C, f.word 0x22, f.x)
  | .powerOnReset => none
  | .recoveryGo => none
  | .measurementExtend => none
  | .registerWrite => none
  | .qtailWrite => none
  | .qctlWrite => none
  | .queueSelection => none
  | .nop => none
  | .load => none
  | .unload => none
  | .launch => none
  | .abort => none
  | .commandFenceRelease => none
  | .launchAcceptance => none
  | .waferAcknowledgement => none
  | .gateTimeout => none
  | .peerAbort => none
  | .firmwareAbort => none
  | .controlPip => none
  | .firmwarePriorityChange => none
  | .firmwareFault => none
  | .preemptionRequest => none
  | .tenantSwitch => none
  | .homeTableRebuild => none
  | .rimRequestStart => none
  | .taskHandoff => none
  | .distributorSelection => none
  | .passOverEnd => none
  | .entryHandover => none
  | .taskFire => none
  | .gangFire => none
  | .budgetExhausted => none
  | .thermalSample => none
  | .powerCheck => none
  | .coolantFault => none
  | .coolantTrip => none
  | .clusterRetirement => none
  | .clusterFailure => none
  | .fieldLoss => none
  | .bankSwitch => none
  | .switchDrainEnd => none
  | .correctableError => none
  | .freezeEnd => none
  | .uncorrectableError => none
  | .refreshWindow => none
  | .refreshWindowEnd => none
  | .stagingDequeue => none
  | .segmentAdmission => none
  | .holdLimitReached => none
  | .arraySelection => none
  | .weightLoadGrant => none
  | .weightLoadEnd => none
  | .positionFire => none
  | .rowResultWrite => none
  | .selectWrites => none
  | .install => none
  | .installAcknowledgement => none
  | .installRefusal => none
  | .removal => none
  | .publicationAtHome => none
  | .delivery => none
  | .heldDeliveryRelease => none
  | .pinRequest => none
  | .copyExpiry => none
  | .contribution => none
  | .partnerTimeout => none
  | .getRequest => none
  | .getResponse => none
  | .getRetryResend => none
  | .rimQuery => none
  | .queryReply => none
  | .prefetchAtHome => none
  | .copyRequest => none
  | .pageWalk => none
  | .boxPerformed => none
  | .atomicAtAgent => none
  | .remoteResult => none
  | .faultResume => none
  | .faultAbort => none
  | .faultAnswerTimeout => none
  | .vminvGo => none
  | .invalidationDone => none
  | .cfenceRelease => none
  | .releaseInjection => none
  | .ertWrite => none
  | .ertcmdPrefetch => none
  | .ertcmdPin => none
  | .ertcmdUnpin => none
  | .ertcmdRelease => none
  | .hintAtErtAgent => none
  | .rowAtHome => none
  | .pageSeal => none
  | .pageFailure => none
  | .policyAnswer => none
  | .policyTimeout => none
  | .stateNotice => none
  | .rowParking => none
  | .residencyNotice => none
  | .sumpDrain => none
  | .sweepStart => none
  | .sweepEnd => none
  | .phaseCloseNotice => none
  | .launchRetirement => none
  | .launchAbort => none
  | .traceWrite => none
  | .tbstepWrite => none
  | .tbnslRead => none
  | .timeLockChange => none
  | .ptpEventMessage => none
  | .ppsEdge => none
  | .linkPortFailure => none
  | .debugHalt => none
  | .debugStep => none
  | .stepEnd => none
  | .debugRun => none
  | .dbgdataAccess => none
  | .waiteTimeout => none
  | .linkPortFails => none
  | .linkPortRetrained => none
  | .linkCrcReplay => none
  | .routerFailure => none
  | .cutEdgeInstalled => none
  | .peerSweepResult => none
  | .launchFirmwareReload => none
  | .emptyBundle => none
  | .malformedHeader => none
  | .unassignedOpcode => none
  | .accumulatorPortRow => none
  | .cutEdgeCrossing => none

/-! ### Slot words -/

/-- The opcode map of a class (R167: none where the value is unassigned). -/
def readSlot (c : SlotClass) (op : Nat) (w : Word) (x : Option Word) : Option Instr :=
  match c with
  | .S => readS op w x
  | .V => readV op w x
  | .M => readM op w x
  | .C => readC op w x

/-- OPC is assigned in its class (R167). -/
def assigned (c : SlotClass) (op : Nat) : Bool := (readSlot c op 0 none).isSome

/-- The S-class opcodes whose words carry an X bit: formats SR and SM (R146, R155). -/
def sHasX (op : Nat) : Bool :=
  op ≤ 0x1B || op = 0x21 || op = 0x23 || op = 0x24 || (0x30 ≤ op && op ≤ 0x41)

/-- Whether a slot word takes an extension word (R146). -/
def takesExt (c : SlotClass) (w : Word) : Bool :=
  let op := (opcOf w).toNat
  assigned c op &&
  match c with
  | .S => (sHasX op && w.getLsbD 0) || op = 0x26
  | .V => w.getLsbD 0
  | .M => true
  | .C => w.getLsbD 0

/-- One slot word and its extension word (R147 step 3): its OPC, then its fields, bit 31 among them. -/
def decodeSlot (c : SlotClass) (w : Word) (x : Option Word) : Except DecodeErr Instr :=
  match readSlot c (opcOf w).toNat w x with
  | none => .error .illegalOpcode
  | some i => if !w.getLsbD 31 && i.legal then .ok i else .error .illegalEncoding

/-! ### Bundles and fetch lines -/

/-- The pad word (R126). -/
def padWord : Word := 0x807FFFFF

/-- Words of a fetch line (R123). -/
def lineWords : Nat := 16

/-- A header word: bit 31 set and bits [22:0] zero (R125). The pad word is none. -/
def isHeader (h : Word) : Bool := h.getLsbD 31 && h.extractLsb' 0 23 = 0

/-- The slots by index, with their classes (R117). -/
def slotTable : List (Nat × SlotClass) := [(0, .S), (1, .V), (2, .V), (3, .M), (4, .C), (5, .C)]

/-- The slots that a header marks present, in slot order (R125). -/
def presentSlots (h : Word) : List (Nat × SlotClass) := slotTable.filter fun k => h.getLsbD (30 - k.1)

/-- A slot word paired with its slot; the words of a bundle run in slot order (R124). -/
def pairSlots : List (Nat × SlotClass) → List Word → List (Nat × SlotClass × Word)
  | [], _ => []
  | _, [] => []
  | k :: ks, w :: ws => (k.1, k.2, w) :: pairSlots ks ws

/-- How many extension words the slot words take (R124, R146). -/
def extCount (ps : List (Nat × SlotClass × Word)) : Nat := (ps.filter fun p => takesExt p.2.1 p.2.2).length

/-- The words of a bundle whose header is `h` and whose line goes on with `rest` (R124). -/
def bundleLength (h : Word) (rest : List Word) : Nat :=
  let ks := presentSlots h
  1 + ks.length + extCount (pairSlots ks rest)

/-- A decoded bundle: header bits, length in words, and the instruction of each present slot. -/
structure Bundle where
  stop : Bool
  brk : Bool
  len : Nat
  slots : List (Nat × Instr)
  deriving DecidableEq, Repr

/-- Decode the slots in order, giving each the next extension word where it takes one (R124, R147 step 3). Where an earlier slot's fields
fail and a later slot's OPC is unassigned, the last sentence of step 2 and the order of step 3 name different causes; the model takes the
order of step 3 (log 64). -/
def decodeSlots : List (Nat × SlotClass × Word) → List Word → Except DecodeErr (List (Nat × Instr))
  | [], _ => .ok []
  | (k, c, w) :: ps, xs =>
    let (x, xs') := if takesExt c w then (some (xs.headD 0), xs.tail) else (none, xs)
    match decodeSlot c w x with
    | .error e => .error e
    | .ok i =>
      match decodeSlots ps xs' with
      | .error e => .error e
      | .ok is => .ok ((k, i) :: is)

/-- Decode the bundle whose header heads the given words, the rest of its fetch line (R147 steps 1 to 3). -/
def decodeBundle : List Word → Except DecodeErr Bundle
  | [] => .error .illegalEncoding
  | h :: rest =>
    if !isHeader h then .error .illegalEncoding
    else
      let ks := presentSlots h
      let ps := pairSlots ks rest
      let n := extCount ps
      if rest.length < ks.length then .error .illegalEncoding
      else if 2 < n then .error .illegalEncoding
      else if rest.length < ks.length + n then .error .illegalEncoding
      else match decodeSlots ps (rest.drop ks.length) with
        | .error e => .error e
        | .ok is => .ok ⟨h.getLsbD 24, h.getLsbD 23, 1 + ks.length + n, is⟩

/-- The start positions of a fetch line, from position `at` on (R127). `fuel` bounds the walk by the line's words.
A word that follows a bundle is a start position whatever the bundle's extension count. -/
def startsFrom : Nat → Nat → List Word → List Nat
  | 0, _, _ => []
  | _ + 1, _, [] => []
  | fuel + 1, pos, h :: rest =>
    if h = padWord then pos :: startsFrom fuel (pos + 1) rest
    else if !isHeader h then [pos]
    else
      let n := bundleLength h rest
      pos :: startsFrom fuel (pos + n) (rest.drop (n - 1))

/-- The start positions of a fetch line (R127). -/
def startPositions (line : List Word) : List Nat := startsFrom lineWords 0 line

/-- A start position that holds no pad word (R127). -/
def isBundlePosition (line : List Word) (pos : Nat) : Bool :=
  (startPositions line).contains pos && line.getD pos padWord ≠ padWord

/-! ### One word of the opcode table -/

/-- The classes in which a table word is tried. The table gives no class, and an opcode value names different
instructions in different slots (R145): the first class that decodes the word answers. -/
def tableClasses : List SlotClass := [.V, .S, .C, .M]

/-- Try one class on a slot word followed by zero words. -/
def decodeIn (c : SlotClass) (w : Word) : Option Instr :=
  match decodeSlot c w (if takesExt c w then some 0 else none) with
  | .ok i => some i
  | .error _ => none

/-- The class whose decoder reads a table word. -/
def tableClassOf (w : Word) : Option SlotClass := tableClasses.find? fun c => (decodeIn c w).isSome

/-- The instruction that the decoder reads from a slot word whose bits are `w`; every later word is zero. -/
def decodeTableWord (nbits w : Nat) : Option Instr :=
  if nbits ≠ 32 then none
  else match tableClassOf (BitVec.ofNat 32 w) with
    | none => none
    | some c => decodeIn c (BitVec.ofNat 32 w)

end Sys2Proof
end

