-- ==== Sys2Proof/Machine/Bits.lean ====
section
/-! DEFINITION. Bit-field, byte-order and saturation helpers (R5, and the notation of R4). -/

namespace Sys2Proof.Machine

/-- The little-endian value of bytes (R5). -/
def leNat : List Byte → Nat
  | [] => 0
  | b :: r => b.toNat + 256 * leNat r

/-- The `n` little-endian bytes of a value (R5). -/
def leBytes : Nat → Nat → List Byte
  | 0, _ => []
  | n + 1, v => BitVec.ofNat 8 v :: leBytes n (v / 256)

/-- Bits [hi:lo] of a natural number. -/
def bitsNat (v hi lo : Nat) : Nat := v / 2 ^ lo % 2 ^ (hi + 1 - lo)

/-- Sat(x, lo, hi). -/
def satInt (x lo hi : Int) : Int := if x < lo then lo else if hi < x then hi else x

/-- The signed value of a `w`-bit pattern held in a natural number. -/
def sext (v w : Nat) : Int := if v < 2 ^ (w - 1) then (v : Int) else (v : Int) - 2 ^ w

/-- Trunc(x, w): the low `w` bits of an integer. -/
def truncInt (x : Int) (w : Nat) : Nat := (x % (2 ^ w : Int)).toNat

/-- The leading zero bits of a 32-bit word (R189): fuel counts the bits left. -/
def clzFrom (w : Word) : Nat → Nat
  | 0 => 0
  | n + 1 => if w.getLsbD n then 0 else 1 + clzFrom w n

/-- The one bits among the low bits of a word (R189). -/
def popFrom {n : Nat} (w : BitVec n) : Nat → Nat
  | 0 => 0
  | k + 1 => (if w.getLsbD k then 1 else 0) + popFrom w k

/-- Lane `i` of `w` bits of a vector register, as a natural number (R242). -/
def lane (v : VWord) (i w : Nat) : Nat := v.toNat / 2 ^ (w * i) % 2 ^ w

/-- A vector register from the list of its lanes of `w` bits, lane 0 first. -/
def ofLanes (w : Nat) : List Nat → Nat
  | [] => 0
  | x :: r => x % 2 ^ w + 2 ^ w * ofLanes w r

/-- Build a register of `n` lanes of `w` bits from a function of the lane number. -/
def buildLanes (n w : Nat) (f : Nat → Nat) : VWord := BitVec.ofNat 1024 (ofLanes w ((List.range n).map f))

/-- The bytes of a vector register, byte 0 first (R242). -/
def vBytes (v : VWord) : List Byte := leBytes 128 v.toNat

/-- A vector register from its bytes (R242). -/
def vOfBytes (bs : List Byte) : VWord := BitVec.ofNat 1024 (leNat bs)

/-- `v` rounded up to a multiple of `m`. -/
def roundUp (v m : Nat) : Nat := (v + m - 1) / m * m

/-- The integer square root, by binary digits: `fuel` digits. -/
def isqrtFrom : Nat → Nat → Nat → Nat
  | 0, _, r => r
  | f + 1, n, r =>
    let c := r + 2 ^ f
    isqrtFrom f n (if c * c ≤ n then c else r)

/-- The integer square root of a number below 2^(2·fuel). -/
def isqrt (fuel n : Nat) : Nat := isqrtFrom fuel n 0

/-- The number of binary digits of a natural number: `Nat.log2` plus one, and 0 for 0. -/
def bitLen (n : Nat) : Nat := if n = 0 then 0 else Nat.log2 n + 1

end Sys2Proof.Machine
end

