-- ==== Sys2Proof/Config.lean ====
section
/-! DEFINITION. What the spec leaves open and the model does not choose: opaque constants, applied to the counter
`State.nonce` or to the operands. Nothing in Lean can evaluate them (log 3 to log 6). -/

namespace Sys2Proof.Config

/-- Which of several ready things moves next: the order between independent agents (log 4). -/
opaque pick : Nat → Nat

/-- How many cycles beyond the first a step takes (R2; log 3). -/
opaque freeCycles : Nat → Nat

/-- A value that the spec leaves open, the `n`-th of a run (log 5). -/
opaque freeValue : Nat → Nat

/-- What launch firmware's admission policy answers (R82): 0 accepts, any other value is the firmware's code (log 5). -/
opaque admission : Nat → BitVec 32

/-- The occupancy of a rim request less 1, modulo 16 (R88; log 5). -/
opaque occupancy : Nat → Nat

/-- Cycles, beyond the first, until a ring-slot return, a link's credit or a killed task's reply has arrived (R455; log 78). -/
opaque creditTime : Nat → Nat

/-- Where, in units of 4 MiB, a partition's tailings area (0), its spilled partials (1) or its park area (2) keeps something: Mboam lays the areas
out in HBM4E, and the spec gives no place (R345, R419; log 42). -/
opaque areaUnit : Nat → Nat → Nat → Nat

/-- Of two top-k pairs of one index, +0 and −0: whether that of +0 comes first (R69; log 80). -/
opaque zeroOrder : Bool

/-- The 32-bit security version of a firmware image, by its bytes without the signature block (R500; log 6). -/
opaque securityVersion : List Byte → BitVec 32

/-- The firmware version of an image, part number and stepping (R507): what the identity record holds; log 33. -/
opaque firmwareVersion : List Byte → BitVec 32

/-- The SHA-384 hashes of the public keys, of Ed25519 and of ML-DSA-65, which are fused in a module's ROM (R500; log 6). -/
opaque fusedEd : List Byte
opaque fusedMl : List Byte

end Sys2Proof.Config
end

