-- ==== Sys2Proof/CoreParts.lean ====
section
/-! DEFINITION. The state of a context bank and of what a core keeps for its tasks (05, 08, 09, 16). -/

namespace Sys2Proof.Machine

open Sys2Proof

/-- An address register (R222). ORG is not readable. -/
structure AddrReg where
  base : Word
  stride : Word
  modulo : Word
  swizzle : Bool
  org : Word
  deriving DecidableEq, Repr

/-- All fields of an address register read 0 when a task fires (R222). -/
def AddrReg.zero : AddrReg := ⟨0, 0, 0, false, 0⟩

/-- A hardware loop level (R136). -/
structure LoopLevel where
  active : Bool
  lc : Word
  lstart : Word
  lend : Word
  deriving DecidableEq, Repr

/-- An inactive level with all registers zero. -/
def LoopLevel.zero : LoopLevel := ⟨false, 0, 0, 0⟩

/-- Who holds a HELD ring slot: the task, or an operation of the matrix array (R205, R310). -/
inductive Holder where
  | task
  | array (op : Nat)
  deriving DecidableEq, Repr

/-- A HELD slot: its holder, and whether the holder has released it while an older slot is still held (R206, R310). -/
structure HeldSlot where
  holder : Holder
  released : Bool
  deriving DecidableEq, Repr

/-- Who took a ring slot (R205): RCLAIM, a delivery, a CLDR, or a draining matrix instruction, by its operation number. -/
inductive Filler where
  | task
  | engine (op : Nat)
  deriving DecidableEq, Repr

/-- A taken slot: in progress or FILLED (R205). -/
structure TakenSlot where
  filler : Filler
  filled : Bool
  deriving DecidableEq, Repr

/-- Who asks for a ring's slot (R205): the task, the slot at the fill position by RCLAIM and that at the pop position by RPOP; a CLDR or a matrix
instruction by its operation number; a held delivery by the number of its subscription. -/
inductive Asker where
  | task
  | engine (op : Nat)
  | delivery (uid : Nat)
  deriving DecidableEq, Repr

/-- A ring (R205, R226 to R229). The slots from `rel` on are the HELD ones, then the taken ones, then the FREE ones; `asks`: those that
wait for the slot at the fill position, `readers`: those for the slot at the pop position, each in the order of asking. -/
structure Ring where
  base : Nat
  lsize : Nat
  lslots : Nat
  rel : Nat
  held : List HeldSlot
  taken : List TakenSlot
  asks : List Asker
  readers : List Asker
  deriving DecidableEq, Repr

/-- The checked resources of a group (R129). -/
inductive Res where
  | s (n : Nat)
  | p (n : Nat)
  | v (n : Nat)
  | m (n : Nat)
  | a (n : Nat)
  | lc (n : Nat)
  | z (n : Nat)
  | ctl (n : Nat)
  deriving DecidableEq, Repr

/-- A copy group (R380): operations outstanding, the first recorded fault, how many of its requests are FAULTED (PF is 1 while that
number is not zero), a CCANCEL that clears the record when OUT reaches 0 (R393), and a CWAIT that has reported the record (R384). -/
structure CopyGroup where
  out : Nat
  fault : Option (BitVec 8)
  faulted : Nat
  clearing : Bool
  reported : Bool
  deriving DecidableEq, Repr

/-- An empty group. -/
def CopyGroup.empty : CopyGroup := ⟨0, none, 0, false, false⟩

/-- A register that waits for the reply of operation `op` (R389, R323). -/
structure PendingReg where
  reg : Nat
  op : Nat
  deriving DecidableEq, Repr

/-- The staged weight source of MWLDS (R313): where its 32 KiB lie, its format, and the ring slot it holds. -/
structure Staged where
  addr : Nat
  bfmt : BitVec 6
  count : Nat
  op : Nat
  ring : Option Nat
  deriving DecidableEq, Repr

/-- What a bank is doing (R118, R466, R467): empty; holding a task that issues or may issue; in page wait on a copy group;
stopped at a trap; past its TEND and waiting for engine work (R211). -/
inductive BankStatus where
  | empty
  | live
  | pageWait (grp : Nat)
  | trapped
  | ending
  deriving DecidableEq, Repr

/-- A context bank (R119, R121). -/
structure Bank where
  status : BankStatus
  /-- The task instance that occupies the bank, a key of `State.tasks`. -/
  task : Nat
  s : Vector Word 32
  p : BitVec 8
  v : Vector VWord 32
  m : Vector MWord 8
  a : Vector AddrReg 8
  loops : Vector LoopLevel 4
  cause : BitVec 8
  sr : Nat
  grpOpen : Bool
  iaddr : Word
  /-- Header address of the next bundle (the program counter). -/
  pc : Word
  taskid : Word
  gangRank : Word
  gangSize : Word
  /-- The gang's number, a key of `State.gangs`. -/
  gangId : Nat
  launch : Word
  gen : Word
  rnd : BitVec 3
  flags : BitVec 5
  /-- Cycles counted by CYC before the current stay as running bank. -/
  cycHeld : Nat
  /-- When the bank last became running, while it counts (R121, R114). -/
  since : Option Nat
  /-- The descriptor's BUDGET (R110). -/
  budget : Nat
  timeh : Option Word
  mbx : Vector Word 16
  /-- The indices of the control registers that hold poison (R470). -/
  psn : List Nat
  rings : List Ring
  wset : List Res
  events : BitVec 16
  groups : Vector CopyGroup 16
  phase : BitVec 4
  hold : BitVec 10
  staged : Option Staged
  stageCount : Nat
  /-- GBARs passed so far (R216). -/
  gbars : Nat
  imBase : Nat
  imLen : Nat
  tblBase : Nat
  tblLen : Nat
  /-- The next bundle issues no earlier than this cycle (SPAUSE, R218). -/
  pauseUntil : Nat
  pending : List PendingReg
  /-- The CYC at which a block began to hold the next bundle (R468). -/
  blockedSince : Option Nat
  /-- A WAITE whose cycle limit has expired (R215): the held bundle issues. -/
  waitOver : Bool
  /-- What the issued bundle keeps until it is complete, also over a trap (R143): the taken branch target, the value that
  CALL writes to s31 at the end, and RND as it stood at issue (R53). -/
  taken : Option Word
  link : Option Word
  issueRnd : BitVec 3
  /-- TEND has executed; the bank ends when its bundle is complete, also over a page wait or a trap (R211). -/
  tended : Bool
  deriving DecidableEq, Repr

/-- A trace record as a core, a router or a port emits it (R217, R492). -/
structure TraceRec where
  time : Nat
  code : BitVec 16
  source : BitVec 16
  launch : Word
  task : Word
  payload : List Byte
  deriving DecidableEq, Repr

/-- The debug halt reasons of DBGSTAT (R477). -/
inductive HaltReason where
  | none | request | brk | bkpt | stepEnded | trap
  deriving DecidableEq, Repr

/-- The debug registers of a core (R477). -/
structure Debug where
  brken : Bool
  traphalt : Bool
  sdrain : Bool
  halt : Bool
  den : Bool
  tcause : BitVec 8
  tag : BitVec 10
  reason : HaltReason
  hbank : Bool
  stepping : Bool
  halted : Bool
  abank : Bool
  item : BitVec 16
  /-- The stepped bundle has retired; nothing further issues before the step ends (R480). -/
  retired : Bool
  /-- Operations that the stepped bundle started, waited for under SDRAIN (R480). -/
  stepOps : List Nat
  deriving DecidableEq, Repr

/-- The debug registers at reset (R477). -/
def Debug.reset : Debug :=
  ⟨false, false, false, false, false, 0, 0, .none, false, false, false, false, 0, false, []⟩

/-- The row-progress register of a tile (R294) and the operation it describes. -/
structure RowProg where
  busy : Bool
  done : Nat
  fired : Nat
  op : Nat
  deriving DecidableEq, Repr

/-- A fault recorded against a tile, or against the task (`tile = none`), with its issuing task (R322). -/
structure TileFault where
  tile : Option Nat
  bank : Bool
  task : Nat
  code : BitVec 8
  deriving DecidableEq, Repr

/-- The M-class operations as they stand in the staging queue (R296, R306). -/
inductive MKind where
  | mwld | mwlds | mwpre | mma | mmao | mzero | mdrain | msca | mstat | mresc | mtrn | mwait | mprog | mflags | mhold | mflush
  deriving DecidableEq, Repr

/-- An M-class instruction in its core's staging queue, with what it read at issue (R130, R296): the operand addresses in
address form, the ring in ring form, and who issued it. -/
structure MOp where
  id : Nat
  kind : MKind
  bank : Bool
  task : Nat
  launch : Nat
  prio : Nat
  form : MForm
  addr : Nat
  addr2 : Nat
  deriving DecidableEq, Repr

/-- A row-by-row operation of the accumulator ports (R316 to R321): the instruction, the key of each of its units, for MTRN the
source rows as they were fired (with their poison), for MSCA the words of cs and then of rs (no bytes for one that could not be read),
the next row and the number of rows. -/
structure PortOp where
  op : MOp
  units : List Nat
  data : List (List Byte × Bool)
  row : Nat
  rows : Nat
  /-- A fault of the instruction has been recorded (R309). -/
  bad : Bool
  /-- The words of the step at `row` that have been written already (R434). -/
  moved : List Nat
  deriving DecidableEq, Repr

/-- A row in the array (R291, R292): its target, its segment's operation, the A row with its poison, and the weight load whose
tile it meets. -/
structure Flight where
  op : MOp
  row : Nat
  a : List Byte
  psn : Bool
  load : Nat
  deriving DecidableEq, Repr

/-- A weight key (R288, R313): slot, tile and format; for SLOT 63 the staged source. -/
structure WKey where
  slot : Nat
  tile : Nat
  bfmt : BitVec 6
  staged : Option (Nat × Bool × Nat)
  deriving DecidableEq, Repr

/-- A weight bank of the array (R288): the key recorded and the load whose tile it holds; no load where no usable tile is. -/
structure WBank where
  key : Option WKey
  load : Option Nat
  deriving DecidableEq, Repr

/-- A bank with nothing in it. -/
def WBank.empty : WBank := ⟨none, none⟩

/-- What a merge-buffer entry is (R297, R312, R313, R321). -/
inductive EntryKind where
  | product | transpose | load | prefetch | staged
  deriving DecidableEq, Repr

/-- A segment of an entry (R298): its operation, first stack position, rows, admission cycle, hold limit, the keys of its A rows,
the rows fired, whether it is aborted, and its flags, poison and fault. -/
structure Seg where
  op : MOp
  first : Nat
  n : Nat
  since : Nat
  h : Nat
  units : List Nat
  fired : Nat
  aborted : Bool
  flags : BitVec 8
  psn : Bool
  fault : Option (BitVec 8)
  deriving DecidableEq, Repr

/-- A merge-buffer entry (R298). -/
structure MEntry where
  num : Nat
  kind : EntryKind
  key : WKey
  afmt : BitVec 6
  solo : Bool
  since : Nat
  ready : Bool
  selected : Bool
  segs : List Seg
  /-- Positions fired. -/
  fired : Nat
  /-- Source rows of an MTRN as they fired. -/
  data : List (List Byte × Bool)
  /-- For SLOT 63, the key of the staged source in force as the operation left the queue (R313). -/
  src : Nat
  /-- The weight load whose tile the operation uses, once a bank holds it (R301, R450). -/
  tile : Option Nat
  /-- The cycle in which its first position fired (R291). -/
  began : Nat
  deriving DecidableEq, Repr

/-- A weight load of the array (R289, R312, R313): the entry it is made for (16 for none that still stands), its key, the key of the
staged source, whether the bank group has granted it, the fault or poison it met, its number, and whether its slot has become FREE
since the grant (R450). -/
structure LoadJob where
  entry : Nat
  key : WKey
  src : Nat
  granted : Bool
  bad : Option (BitVec 8)
  id : Nat
  stale : Bool
  deriving DecidableEq, Repr

/-- An operation of the select unit (R272): the register that takes its result when it finishes, that result, and the list words of a VTOPK,
which have not yet entered the port's order. -/
structure SelOp where
  id : Nat
  bank : Bool
  task : Nat
  dst : BitVec 5
  result : VWord
  writes : List (Nat × List Byte)
  deriving DecidableEq, Repr

/-- A gang (R109, R216, R219): its members' cores in rank order, how many GBARs each has reached, and the live mask. -/
structure Gang where
  cores : List Nat
  reached : List Nat
  live : List Bool
  deriving DecidableEq, Repr

/-- An image in a core's instruction memory, or its table RAM: the code object it is of, by namespace and index, its place and length
(R105). -/
structure CodeImage where
  table : Bool
  ns : Nat
  code : Nat
  base : Nat
  len : Nat
  deriving DecidableEq, Repr

/-- A context-bank switch in progress (R469): when its drain ends and which bank it leaves. -/
structure Drain where
  fromBank : Bool
  ends : Nat
  deriving DecidableEq, Repr

end Sys2Proof.Machine
end

