-- ==== Sys2Proof/Packets.lean ====
section
/-! DEFINITION. Plain data that the device's steps carry: packets of the name network, installs, queries, notices, register
writes, and what the outside hands to the device. -/

namespace Sys2Proof

/-- Where a packet comes from: the device itself, another wafer, or an operation of a task instance with its copy group. The model's own
note, no part of the header: it tells a cut edge's tiles published here (R89), what a fence at SYSTEM scope waits for (R392, R438), and which
packets a core has sent (R484). -/
inductive Origin where
  | device
  | peer
  | task (n : Nat) (grp : Option Nat)
  deriving DecidableEq, Repr

/-- A packet of the name network (R330, R331). `payload` has its LEN bytes; a GET request keeps the length asked for in `ask`, and
the operation it belongs to in `op` (the header names its first response slot). -/
structure Packet where
  name : DWord
  gen : BitVec 16
  launch : Nat
  phase : Nat
  kind : Nat
  srcCl : Nat
  srcCb : Nat
  dstCl : Nat
  dstCb : Nat
  gslot : Nat
  red : Nat
  cidx : Nat
  ccnt : Nat
  step : Nat
  flg : BitVec 5
  rel : Bool
  coll : Bool
  psn : Bool
  pclass : Nat
  retexp : Nat
  op : Nat
  ask : Nat
  org : Origin
  /-- The clusters of the other contributors whose values a combined contribution holds (R350). The model's own note, as `org`. -/
  also : List Nat
  payload : List Byte
  deriving DecidableEq, Repr

/-- The clusters whose cores have sent what a packet holds (R484). -/
def Packet.sources (p : Packet) : List Nat :=
  match p.org with
  | .task _ _ => p.srcCl :: p.also
  | _ => p.also

/-- LEN of the header (R330). -/
def Packet.len (p : Packet) : Nat := p.payload.length

/-- The 256 bits of the header flit (R330), as a number. -/
def Packet.header (p : Packet) : Nat :=
  p.name.toNat * 2 ^ 192 + p.gen.toNat * 2 ^ 176 + p.launch % 2 ^ 32 * 2 ^ 144 + p.phase % 16 * 2 ^ 140 + p.kind % 16 * 2 ^ 136 +
  p.len % 2 ^ 17 * 2 ^ 119 + p.srcCl % 2 ^ 11 * 2 ^ 108 + p.srcCb % 8 * 2 ^ 105 + p.dstCl % 2 ^ 11 * 2 ^ 94 + p.dstCb % 8 * 2 ^ 91 +
  p.gslot % 8 * 2 ^ 88 + p.red % 8 * 2 ^ 85 + p.cidx % 2 ^ 16 * 2 ^ 69 + p.ccnt % 2 ^ 16 * 2 ^ 53 + p.step % 2 ^ 16 * 2 ^ 37 +
  p.flg.toNat * 2 ^ 32 + (if p.rel then 2 ^ 31 else 0) + (if p.coll then 2 ^ 30 else 0) + (if p.psn then 2 ^ 29 else 0) +
  p.pclass % 4 * 2 ^ 27 + p.retexp % 32 * 2 ^ 22

/-- A packet with every field zero. -/
def Packet.zero : Packet :=
  ⟨0, 0, 0, 0, 0, 0, 0, 0, 0, 0, 0, 0, 0, 0, 0, false, false, false, 0, 0, 0, 0, .device, [], []⟩

/-- What a subscription matches (R38, R41, R335): GENRULE 0 ANY, 1 FIXED, 2 LAUNCH, with the generation the rule compares. -/
structure Pattern where
  value : DWord
  mask : DWord
  genrule : Nat
  gen : BitVec 16
  launch : Nat
  deriving DecidableEq, Repr

/-- The local target of a LOCAL entry (R335): the task instance, its subscription's index, and the number of that subscription,
which tells it from an earlier one of the same index (R404). -/
structure Target where
  task : Nat
  sub : Nat
  uid : Nat
  deriving DecidableEq, Repr

/-- An install or a removal on its way (R336, R337): the routers it has still to reach, each with the port by which it arrives
there (0 N, 1 E, 2 S, 3 W, 4 local), the routers it has passed, and the phase it carries (R541). -/
structure PathMsg where
  pat : Pattern
  tgt : Target
  nodata : Bool
  phase : Nat
  todo : List (Nat × Nat)
  done : List (Nat × Nat)
  home : Nat
  deriving DecidableEq, Repr

/-- The key of a retained copy (R342): name, generation and launch. -/
abbrev CopyKey := DWord × BitVec 16 × Nat

/-- Why a home asks the rim (R344 to R347, R406): for an install, a GET, a prefetch, or what a subscriber or a link port holds and whose
payload is fetched again (R90, R347). -/
inductive QueryFor where
  | install (m : PathMsg)
  | get (p : Packet)
  | prefetch
  | held (router : Nat) (tgt : Target) (key : CopyKey)
  | port (router : Nat) (key : CopyKey)
  deriving DecidableEq, Repr

/-- A rim query of a home, for one tile, with the generation a BACKED tile takes (R344, R346). For an install: the operation number
before which a tile was stored if the query is to bring it, the keys that the install was served from the ore bin, and where in the
order of serving it looks on: the storing number of a tailings tile, the lin of a BACKED one (R339). `room`: its reply's room is
reserved at the home. -/
structure Query where
  home : Nat
  name : DWord
  gen : BitVec 16
  launch : Nat
  phase : Nat
  backed : Bool
  why : QueryFor
  upTo : Nat
  served : List CopyKey
  from' : Nat
  room : Bool
  deriving DecidableEq, Repr

/-- What a rim query brings (R345, R346): a tile with its place in the order of serving, a miss, or a coordinate outside the
tensor's tiles. -/
inductive QueryAns where
  | tile (p : Packet) (pos : Nat)
  | miss
  | notFound
  deriving DecidableEq, Repr

/-- A row for a bound tensor that its home parks (R418, R419). -/
structure ParkedRow where
  pkt : Packet
  entry : Nat
  deriving DecidableEq, Repr

/-- Who makes an access: CLASS and PART (R503), and the port by which it arrives (R511): a host port, or above them one of the ports of
launch firmware and Mboam. -/
structure Master where
  cls : Nat
  part : Nat
  port : Nat
  deriving DecidableEq, Repr

/-- A write or a read of a device register, of the capability list (BAR0) or of a trace buffer (BAR4), with its master (R503, R511). -/
structure RegAccess where
  off : Nat
  width : Nat
  value : Nat
  by' : Master
  bar : Nat
  wr : Bool
  deriving DecidableEq, Repr

/-- A firmware image (R500): the image without its signature block; in that block the two public keys, whose hashes the ROM knows, and the two
signatures, each over all of the image. -/
structure Image where
  body : List Byte
  pkEd : List Byte
  pkMl : List Byte
  sigEd : List Byte
  sigMl : List Byte
  deriving DecidableEq, Repr

/-- What the partition configuration gives a partition (R72, R87, R345, R414, R419). -/
structure PartCfg where
  fields : List Nat
  queues : List Nat
  sumps : List Nat
  ertAgent : Nat
  parkBytes : Nat
  tailBytes : Nat
  devBytes : Nat
  deriving DecidableEq, Repr

/-- What the accepted image loads (R500 step 5): the enabled clusters, the partition configuration, the rim slot table, the access
tables (by target · 64 + entry) and the FW fields that differ from module to module, and the digests of the launch-firmware images that
it loads with them (R502). `enabled` lists the enabled clusters, of which a module has at least 1,920 (R1; log 75). -/
structure BootCfg where
  enabled : List Nat
  parts : List PartCfg
  rim : List Nat
  tables : List (Nat × Nat)
  windows : List Nat
  traceBase : Nat
  links : List (Nat × Nat × Nat)
  firmware : List (List Byte)
  deriving DecidableEq, Repr

/-- What reached the other wafers of a launch (R90, R91, R459). -/
inductive PeerMsg where
  | ack (group nwaf wafidx : Nat)
  | abort (group wafidx : Nat)
  | sweep (group wafidx : Nat) (clean : List Bool)
  | forward (peer : Nat) (p : Packet)
  deriving DecidableEq, Repr

/-- A place where an SRAM or weight-store error is found (R240, R241, R471, R492). -/
inductive ErrPlace where
  | scratchpad (core : Nat) (off : Nat)
  | instrMem (core : Nat) (off : Nat)
  | tableRam (core : Nat) (off : Nat)
  | accumulator (core : Nat) (off : Nat)
  /-- A control register of a bank, by its index (R121, R470). -/
  | control (core : Nat) (bank : Bool) (index : Nat)
  | mergeEntry (cluster : Nat) (num : Nat)
  | retained (router : Nat) (idx : Nat)
  | routerState (router : Nat) (launch : Option Nat)
  | weightLoad (cluster : Nat)
  | memory (key : Nat)
  deriving DecidableEq, Repr

end Sys2Proof
end

