-- ==== Sys2Proof/Events.lean ====
section
/-! DEFINITION. The steps of the device that no word encodes, each with what it works on. The bundle rows EMPTY_BUNDLE,
MALFORMED_HEADER and UNASSIGNED_OPCODE have no event: the core takes them at its program counter. -/

namespace Sys2Proof

/-- A step of the device, with what it works on. -/
inductive Event where
  /-- POWER_ON_RESET (R500). -/
  | powerOnReset (cfg : BootCfg)
  /-- RECOVERY_GO (R501). -/
  | recoveryGo (img : Image) (cfg : BootCfg) (port : Nat)
  /-- MEASUREMENT_EXTEND (R502). -/
  | measurementExtend (k : Nat) (digest : (List Byte)) (by' : Master)
  /-- REGISTER_WRITE (R6). -/
  | registerWrite (acc : RegAccess)
  /-- QTAIL_WRITE (R74). -/
  | qtailWrite (q : Nat) (v : Nat) (part : Nat) (port : Nat)
  /-- QCTL_WRITE (R75). -/
  | qctlWrite (q : Nat) (v : Nat) (part : Nat) (port : Nat)
  /-- QUEUE_SELECTION (R77). -/
  | queueSelection
  /-- NOP (R80). -/
  | nop (q : Nat)
  /-- LOAD (R80). -/
  | load (q : Nat)
  /-- UNLOAD (R80). -/
  | unload (q : Nat)
  /-- LAUNCH (R82). -/
  | launch (q : Nat)
  /-- ABORT (R80). -/
  | abort (q : Nat)
  /-- COMMAND_FENCE_RELEASE (R79). -/
  | commandFenceRelease (q : Nat)
  /-- LAUNCH_ACCEPTANCE (R84). -/
  | launchAcceptance (q : Nat)
  /-- WAFER_ACKNOWLEDGEMENT (R90). -/
  | waferAcknowledgement (group : Nat) (nwaf : Nat) (wafidx : Nat)
  /-- GATE_TIMEOUT (R90). -/
  | gateTimeout (l : Nat)
  /-- PEER_ABORT (R91). -/
  | peerAbort (group : Nat) (wafidx : Nat)
  /-- FIRMWARE_ABORT (R85). -/
  | firmwareAbort (part : Nat) (l : Nat) (code : Nat)
  /-- CONTROL_PIP (R86). -/
  | controlPip (part : Nat) (l : Nat) (code : Nat)
  /-- FIRMWARE_PRIORITY_CHANGE (R99). -/
  | firmwarePriorityChange (part : Nat) (l : Nat) (prio : Nat)
  /-- FIRMWARE_FAULT (R85). -/
  | firmwareFault (part : Nat)
  /-- PREEMPTION_REQUEST (R474). -/
  | preemptionRequest (part : Nat) (whole : Bool) (n : Nat)
  /-- TENANT_SWITCH (R475). -/
  | tenantSwitch (part : Nat) (fields : (List Nat)) (stage : Nat)
  /-- HOME_TABLE_REBUILD (R333). -/
  | homeTableRebuild (part : Nat)
  /-- RIM_REQUEST_START (R88). -/
  | rimRequestStart (i : Nat)
  /-- TASK_HANDOFF (R96). -/
  | taskHandoff (l : Nat)
  /-- DISTRIBUTOR_SELECTION (R98). -/
  | distributorSelection (f : Nat)
  /-- PASS_OVER_END (R100). -/
  | passOverEnd (t : Nat)
  /-- ENTRY_HANDOVER (R100). -/
  | entryHandover (t : Nat)
  /-- TASK_FIRE (R108). -/
  | taskFire (t : Nat)
  /-- GANG_FIRE (R109). -/
  | gangFire (g : Nat)
  /-- BUDGET_EXHAUSTED (R114). -/
  | budgetExhausted (c : Nat) (b : Bool)
  /-- THERMAL_SAMPLE (R518). -/
  | thermalSample (k : Nat) (temp : Nat)
  /-- POWER_CHECK (R520). -/
  | powerCheck (pwr : Nat)
  /-- COOLANT_FAULT (R521). -/
  | coolantFault
  /-- COOLANT_TRIP (R521). -/
  | coolantTrip
  /-- CLUSTER_RETIREMENT (R476). -/
  | clusterRetirement (k : Nat)
  /-- CLUSTER_FAILURE (R476). -/
  | clusterFailure (k : Nat)
  /-- FIELD_LOSS (R483). -/
  | fieldLoss (f : Nat)
  /-- BANK_SWITCH (R468). -/
  | bankSwitch (c : Nat)
  /-- SWITCH_DRAIN_END (R469). -/
  | switchDrainEnd (c : Nat)
  /-- CORRECTABLE_ERROR (R240). -/
  | correctableError (k : Nat) (unit : Nat)
  /-- FREEZE_END (R240). -/
  | freezeEnd (k : Nat)
  /-- UNCORRECTABLE_ERROR (R241). -/
  | uncorrectableError (k : Nat) (unit : Nat) (place : ErrPlace)
  /-- REFRESH_WINDOW (R237). -/
  | refreshWindow (f : Nat)
  /-- REFRESH_WINDOW_END (R237). -/
  | refreshWindowEnd (f : Nat)
  /-- STAGING_DEQUEUE (R296). -/
  | stagingDequeue (c : Nat)
  /-- SEGMENT_ADMISSION (R297). -/
  | segmentAdmission (c : Nat)
  /-- HOLD_LIMIT_REACHED (R299). -/
  | holdLimitReached (k : Nat) (num : Nat)
  /-- ARRAY_SELECTION (R301). -/
  | arraySelection (k : Nat)
  /-- WEIGHT_LOAD_GRANT (R289). -/
  | weightLoadGrant (k : Nat)
  /-- WEIGHT_LOAD_END (R289). -/
  | weightLoadEnd (k : Nat)
  /-- POSITION_FIRE (R291). -/
  | positionFire (k : Nat)
  /-- ROW_RESULT_WRITE (R292). -/
  | rowResultWrite (c : Nat)
  /-- SELECT_WRITES (R272). -/
  | selectWrites (c : Nat)
  /-- INSTALL (R336). -/
  | install (m : PathMsg)
  /-- INSTALL_ACKNOWLEDGEMENT (R336). -/
  | installAcknowledgement (m : PathMsg)
  /-- INSTALL_REFUSAL (R336). -/
  | installRefusal (m : PathMsg)
  /-- REMOVAL (R337). -/
  | removal (m : PathMsg)
  /-- PUBLICATION_AT_HOME (R339). -/
  | publicationAtHome (p : Packet)
  /-- DELIVERY (R338). -/
  | delivery (p : Packet) (r : Nat) (tgt : Target) (home : Nat)
  /-- HELD_DELIVERY_RELEASE (R347). -/
  | heldDeliveryRelease (r : Nat) (tgt : Target)
  /-- PIN_REQUEST (R347): the packet without its payload, the router that holds its key, the home. -/
  | pinRequest (p : Packet) (r : Nat) (home : Nat)
  /-- COPY_EXPIRY (R342). -/
  | copyExpiry (r : Nat)
  /-- CONTRIBUTION (R350). -/
  | contribution (p : Packet) (cover : (List Nat)) (r : Nat)
  /-- PARTNER_TIMEOUT (R350). -/
  | partnerTimeout (r : Nat) (i : Nat)
  /-- GET_REQUEST (R353). -/
  | getRequest (p : Packet)
  /-- GET_RESPONSE (R353). -/
  | getResponse (p : Packet) (how : Nat)
  /-- GET_RETRY_RESEND (R353). -/
  | getRetryResend (op : Nat)
  /-- RIM_QUERY (R344). -/
  | rimQuery (q : Query)
  /-- QUERY_REPLY (R344). -/
  | queryReply (q : Query) (a : QueryAns)
  /-- PREFETCH_AT_HOME (R406). -/
  | prefetchAtHome (p : Packet)
  /-- COPY_REQUEST (R369). -/
  | copyRequest (op : Nat)
  /-- PAGE_WALK (R364). -/
  | pageWalk (op : Nat)
  /-- BOX_PERFORMED (R369). -/
  | boxPerformed (op : Nat) (box : Nat)
  /-- ATOMIC_AT_AGENT (R376). -/
  | atomicAtAgent (op : Nat)
  /-- REMOTE_RESULT (R389). -/
  | remoteResult (op : Nat) (lo : Nat) (hi : Nat)
  /-- FAULT_RESUME (R372). -/
  | faultResume (part : Nat) (tag : Nat)
  /-- FAULT_ABORT (R372). -/
  | faultAbort (part : Nat) (tag : Nat)
  /-- FAULT_ANSWER_TIMEOUT (R372). -/
  | faultAnswerTimeout (op : Nat)
  /-- VMINV_GO (R367): the register's partition, and the master (R503). -/
  | vminvGo (part : Nat) (by' : Master)
  /-- INVALIDATION_DONE (R367). -/
  | invalidationDone (part : Nat)
  /-- CFENCE_RELEASE (R392). -/
  | cfenceRelease (op : Nat)
  /-- RELEASE_INJECTION (R396). -/
  | releaseInjection (op : Nat)
  /-- ERT_WRITE (R416). -/
  | ertWrite (acc : RegAccess)
  /-- ERTCMD_PREFETCH (R429): the register's partition, the entry, the master (R503). -/
  | ertcmdPrefetch (part : Nat) (e : Nat) (by' : Master)
  /-- ERTCMD_PIN (R429). -/
  | ertcmdPin (part : Nat) (e : Nat) (by' : Master)
  /-- ERTCMD_UNPIN (R429). -/
  | ertcmdUnpin (part : Nat) (e : Nat) (by' : Master)
  /-- ERTCMD_RELEASE (R429). -/
  | ertcmdRelease (part : Nat) (e : Nat) (by' : Master)
  /-- HINT_AT_ERT_AGENT (R427), with the launch and phase of its packet. -/
  | hintAtErtAgent (part : Nat) (e : Nat) (hint : Nat) (l : Nat) (phase : Nat)
  /-- ROW_AT_HOME (R418). -/
  | rowAtHome (p : Packet)
  /-- PAGE_SEAL (R422). -/
  | pageSeal (part : Nat) (e : Nat)
  /-- PAGE_FAILURE (R423). -/
  | pageFailure (part : Nat) (e : Nat) (code : BitVec 8)
  /-- POLICY_ANSWER (R428). -/
  | policyAnswer (part : Nat) (handle : Nat) (a : Nat) (b : Nat)
  /-- POLICY_TIMEOUT (R428). -/
  | policyTimeout (part : Nat) (handle : Nat)
  /-- STATE_NOTICE (R418). -/
  | stateNotice (part : Nat) (e : Nat) (st : Nat) (f : Nat)
  /-- ROW_PARKING (R419). -/
  | rowParking (part : Nat) (row : ParkedRow)
  /-- RESIDENCY_NOTICE (R424). -/
  | residencyNotice (part : Nat) (e : Nat) (f : Nat)
  /-- SUMP_DRAIN (R425). -/
  | sumpDrain (part : Nat) (e : Nat) (l : Nat)
  /-- SWEEP_START (R457). -/
  | sweepStart (l : Nat)
  /-- SWEEP_END (R459). -/
  | sweepEnd (l : Nat)
  /-- PHASE_CLOSE_NOTICE (R461). -/
  | phaseCloseNotice (l : Nat) (r : Nat) (q : Nat)
  /-- LAUNCH_RETIREMENT (R486). -/
  | launchRetirement (l : Nat)
  /-- LAUNCH_ABORT (R481). -/
  | launchAbort (l : Nat)
  /-- TRACE_WRITE (R496). -/
  | traceWrite (f : Nat)
  /-- TBSTEP_WRITE (R487). -/
  | tbstepWrite (n : Nat) (by' : Master)
  /-- TBNSL_READ (R487). -/
  | tbnslRead (by' : Master)
  /-- TIME_LOCK_CHANGE (R489). -/
  | timeLockChange (locked : Bool) (src : Nat) (offset : Nat)
  /-- PTP_EVENT_MESSAGE (R517). -/
  | ptpEventMessage (port : Nat)
  /-- PPS_EDGE (R517). -/
  | ppsEdge
  /-- LINK_PORT_FAILURE (R516). -/
  | linkPortFailure (p : Nat)
  /-- DEBUG_HALT (R478). -/
  | debugHalt (c : Nat)
  /-- DEBUG_STEP (R480); `inWrite`: it is the effect of a register write that has been checked (R505). -/
  | debugStep (c : Nat) (by' : Master) (inWrite : Bool)
  /-- STEP_END (R480). -/
  | stepEnd (c : Nat)
  /-- DEBUG_RUN (R478). -/
  | debugRun (c : Nat) (by' : Master) (inWrite : Bool)
  /-- DBGDATA_ACCESS (R479). -/
  | dbgdataAccess (c : Nat) (write : Bool) (v : Nat) (by' : Master) (inWrite : Bool)
  /-- WAITE_TIMEOUT (R215). -/
  | waiteTimeout (c : Nat) (b : Bool)
  /-- LINK_PORT_FAILS (R516). -/
  | linkPortFails (p : Nat)
  /-- LINK_PORT_RETRAINED (R516). -/
  | linkPortRetrained (p : Nat)
  /-- LINK_CRC_REPLAY (R515). -/
  | linkCrcReplay (p : Nat)
  /-- ROUTER_FAILURE (R483). -/
  | routerFailure (r : Nat)
  /-- CUT_EDGE_INSTALLED (R90). -/
  | cutEdgeInstalled (l : Nat)
  /-- PEER_SWEEP_RESULT (R459). -/
  | peerSweepResult (group : Nat) (wafidx : Nat) (clean : (List Bool))
  /-- LAUNCH_FIRMWARE_RELOAD (R85). -/
  | launchFirmwareReload (part : Nat) (digest : (List Byte))
  /-- ACCUMULATOR_PORT_ROW (R317). -/
  | accumulatorPortRow (c : Nat) (i : Nat)
  /-- CUT_EDGE_CROSSING (R494). -/
  | cutEdgeCrossing (p : Nat) (pkt : Packet) (inward : Bool)
  deriving DecidableEq, Repr

/-- The row of the opcode table that an event is. -/
def Event.instr : Event → Instr
  | .powerOnReset _ => .powerOnReset
  | .recoveryGo _ _ _ => .recoveryGo
  | .measurementExtend _ _ _ => .measurementExtend
  | .registerWrite _ => .registerWrite
  | .qtailWrite _ _ _ _ => .qtailWrite
  | .qctlWrite _ _ _ _ => .qctlWrite
  | .queueSelection => .queueSelection
  | .nop _ => .nop
  | .load _ => .load
  | .unload _ => .unload
  | .launch _ => .launch
  | .abort _ => .abort
  | .commandFenceRelease _ => .commandFenceRelease
  | .launchAcceptance _ => .launchAcceptance
  | .waferAcknowledgement _ _ _ => .waferAcknowledgement
  | .gateTimeout _ => .gateTimeout
  | .peerAbort _ _ => .peerAbort
  | .firmwareAbort _ _ _ => .firmwareAbort
  | .controlPip _ _ _ => .controlPip
  | .firmwarePriorityChange _ _ _ => .firmwarePriorityChange
  | .firmwareFault _ => .firmwareFault
  | .preemptionRequest _ _ _ => .preemptionRequest
  | .tenantSwitch _ _ _ => .tenantSwitch
  | .homeTableRebuild _ => .homeTableRebuild
  | .rimRequestStart _ => .rimRequestStart
  | .taskHandoff _ => .taskHandoff
  | .distributorSelection _ => .distributorSelection
  | .passOverEnd _ => .passOverEnd
  | .entryHandover _ => .entryHandover
  | .taskFire _ => .taskFire
  | .gangFire _ => .gangFire
  | .budgetExhausted _ _ => .budgetExhausted
  | .thermalSample _ _ => .thermalSample
  | .powerCheck _ => .powerCheck
  | .coolantFault => .coolantFault
  | .coolantTrip => .coolantTrip
  | .clusterRetirement _ => .clusterRetirement
  | .clusterFailure _ => .clusterFailure
  | .fieldLoss _ => .fieldLoss
  | .bankSwitch _ => .bankSwitch
  | .switchDrainEnd _ => .switchDrainEnd
  | .correctableError _ _ => .correctableError
  | .freezeEnd _ => .freezeEnd
  | .uncorrectableError _ _ _ => .uncorrectableError
  | .refreshWindow _ => .refreshWindow
  | .refreshWindowEnd _ => .refreshWindowEnd
  | .stagingDequeue _ => .stagingDequeue
  | .segmentAdmission _ => .segmentAdmission
  | .holdLimitReached _ _ => .holdLimitReached
  | .arraySelection _ => .arraySelection
  | .weightLoadGrant _ => .weightLoadGrant
  | .weightLoadEnd _ => .weightLoadEnd
  | .positionFire _ => .positionFire
  | .rowResultWrite _ => .rowResultWrite
  | .selectWrites _ => .selectWrites
  | .install _ => .install
  | .installAcknowledgement _ => .installAcknowledgement
  | .installRefusal _ => .installRefusal
  | .removal _ => .removal
  | .publicationAtHome _ => .publicationAtHome
  | .delivery _ _ _ _ => .delivery
  | .heldDeliveryRelease _ _ => .heldDeliveryRelease
  | .pinRequest _ _ _ => .pinRequest
  | .copyExpiry _ => .copyExpiry
  | .contribution _ _ _ => .contribution
  | .partnerTimeout _ _ => .partnerTimeout
  | .getRequest _ => .getRequest
  | .getResponse _ _ => .getResponse
  | .getRetryResend _ => .getRetryResend
  | .rimQuery _ => .rimQuery
  | .queryReply _ _ => .queryReply
  | .prefetchAtHome _ => .prefetchAtHome
  | .copyRequest _ => .copyRequest
  | .pageWalk _ => .pageWalk
  | .boxPerformed _ _ => .boxPerformed
  | .atomicAtAgent _ => .atomicAtAgent
  | .remoteResult _ _ _ => .remoteResult
  | .faultResume _ _ => .faultResume
  | .faultAbort _ _ => .faultAbort
  | .faultAnswerTimeout _ => .faultAnswerTimeout
  | .vminvGo _ _ => .vminvGo
  | .invalidationDone _ => .invalidationDone
  | .cfenceRelease _ => .cfenceRelease
  | .releaseInjection _ => .releaseInjection
  | .ertWrite _ => .ertWrite
  | .ertcmdPrefetch _ _ _ => .ertcmdPrefetch
  | .ertcmdPin _ _ _ => .ertcmdPin
  | .ertcmdUnpin _ _ _ => .ertcmdUnpin
  | .ertcmdRelease _ _ _ => .ertcmdRelease
  | .hintAtErtAgent _ _ _ _ _ => .hintAtErtAgent
  | .rowAtHome _ => .rowAtHome
  | .pageSeal _ _ => .pageSeal
  | .pageFailure _ _ _ => .pageFailure
  | .policyAnswer _ _ _ _ => .policyAnswer
  | .policyTimeout _ _ => .policyTimeout
  | .stateNotice _ _ _ _ => .stateNotice
  | .rowParking _ _ => .rowParking
  | .residencyNotice _ _ _ => .residencyNotice
  | .sumpDrain _ _ _ => .sumpDrain
  | .sweepStart _ => .sweepStart
  | .sweepEnd _ => .sweepEnd
  | .phaseCloseNotice _ _ _ => .phaseCloseNotice
  | .launchRetirement _ => .launchRetirement
  | .launchAbort _ => .launchAbort
  | .traceWrite _ => .traceWrite
  | .tbstepWrite _ _ => .tbstepWrite
  | .tbnslRead _ => .tbnslRead
  | .timeLockChange _ _ _ => .timeLockChange
  | .ptpEventMessage _ => .ptpEventMessage
  | .ppsEdge => .ppsEdge
  | .linkPortFailure _ => .linkPortFailure
  | .debugHalt _ => .debugHalt
  | .debugStep _ _ _ => .debugStep
  | .stepEnd _ => .stepEnd
  | .debugRun _ _ _ => .debugRun
  | .dbgdataAccess _ _ _ _ _ => .dbgdataAccess
  | .waiteTimeout _ _ => .waiteTimeout
  | .linkPortFails _ => .linkPortFails
  | .linkPortRetrained _ => .linkPortRetrained
  | .linkCrcReplay _ => .linkCrcReplay
  | .routerFailure _ => .routerFailure
  | .cutEdgeInstalled _ => .cutEdgeInstalled
  | .peerSweepResult _ _ _ => .peerSweepResult
  | .launchFirmwareReload _ _ => .launchFirmwareReload
  | .accumulatorPortRow _ _ => .accumulatorPortRow
  | .cutEdgeCrossing _ _ _ => .cutEdgeCrossing

end Sys2Proof
end

