-- ==== Sys2Proof/Machine/KMap.lean ====
section
/-! DEFINITION. Sparse tables: lists of (key, value) pairs with rising keys, sets of keys, and byte memory.
An unlisted key of a table reads as the default its reader gives; an unlisted byte of memory reads as zero. -/

namespace Sys2Proof.Machine

/-- A sparse table by natural-number key. -/
abbrev KMap (α : Type) := List (Nat × α)

/-- The entry of a key. -/
def kget {α : Type} : KMap α → Nat → Option α
  | [], _ => none
  | (k', v) :: r, k => if k = k' then some v else kget r k

/-- The entry of a key, or a default. -/
def kgetD {α : Type} (m : KMap α) (k : Nat) (d : α) : α := (kget m k).getD d

/-- Write the entry of a key, keeping the keys in rising order. -/
def kset {α : Type} : KMap α → Nat → α → KMap α
  | [], k, v => [(k, v)]
  | (k', v') :: r, k, v =>
    if k = k' then (k, v) :: r
    else if k < k' then (k, v) :: (k', v') :: r
    else (k', v') :: kset r k v

/-- Remove the entry of a key. -/
def kdel {α : Type} (m : KMap α) (k : Nat) : KMap α := m.filter fun e => e.1 ≠ k

/-- Change the entry of a key, starting from a default where it has none. -/
def kmod {α : Type} (m : KMap α) (k : Nat) (d : α) (f : α → α) : KMap α := kset m k (f (kgetD m k d))

/-- A key that no entry has: one above the largest. -/
def kfresh {α : Type} : KMap α → Nat
  | [] => 0
  | (k, _) :: r => max (k + 1) (kfresh r)

/-- Add a key to a rising set of keys. -/
def sadd : List Nat → Nat → List Nat
  | [], k => [k]
  | j :: r, k => if k = j then j :: r else if k < j then k :: j :: r else j :: sadd r k

/-- Remove a key from a set of keys. -/
def sdel (m : List Nat) (k : Nat) : List Nat := m.filter fun j => j ≠ k

/-- The value at a position of a list, written; a position past the end changes nothing. -/
def lset {α : Type} (l : List α) (i : Nat) (v : α) : List α := l.set i v

/-- Change the value at a position of a list. -/
def lmod {α : Type} (l : List α) (i : Nat) (f : α → α) : List α := l.modify i f

/-! ### Byte memory -/

/-- What an unlisted byte reads as: zero (log 1, DESIGN CHOICE). -/
def Memory.default : BitVec 8 := 0

/-- Read one byte. -/
def Memory.get : List (Nat × BitVec 8) → Nat → BitVec 8
  | [], _ => Memory.default
  | (k, v) :: r, a => if a = k then v else Memory.get r a

/-- Insert a byte in rising order. -/
def Memory.insert : List (Nat × BitVec 8) → Nat → BitVec 8 → List (Nat × BitVec 8)
  | [], a, v => [(a, v)]
  | (k, w) :: r, a, v =>
    if a < k then (a, v) :: (k, w) :: r
    else if a = k then (a, v) :: r
    else (k, w) :: Memory.insert r a v

/-- Write one byte. Writing the value that an unlisted byte reads as removes the entry, so that equal memories are
equal lists. -/
def Memory.set (m : List (Nat × BitVec 8)) (a : Nat) (v : BitVec 8) : List (Nat × BitVec 8) :=
  if v = Memory.default then m.filter fun e => e.1 ≠ a else Memory.insert m a v

/-- Rising keys, all above a bound, and no entry equal to the default. -/
def Memory.wfAbove : Option Nat → List (Nat × BitVec 8) → Bool
  | _, [] => true
  | b, (k, v) :: r =>
    (match b with | none => true | some j => decide (j < k)) && decide (v ≠ Memory.default) && Memory.wfAbove (some k) r

/-- The canonical form of memory: rising addresses, no entry equal to what an unlisted address reads as. -/
def Memory.wf (m : List (Nat × BitVec 8)) : Bool := Memory.wfAbove none m

/-- Read `n` bytes from an address, first byte first. -/
def Memory.getBytes (m : List (Nat × BitVec 8)) (a : Nat) : Nat → List (BitVec 8)
  | 0 => []
  | n + 1 => Memory.get m a :: Memory.getBytes m (a + 1) n

/-- Write bytes from an address, first byte first. -/
def Memory.setBytes (m : List (Nat × BitVec 8)) (a : Nat) : List (BitVec 8) → List (Nat × BitVec 8)
  | [] => m
  | b :: r => Memory.setBytes (Memory.set m a b) (a + 1) r

end Sys2Proof.Machine
end

