-- ==== Sys2Proof/DeviceParts.lean ====
section
/-! DEFINITION. The state of the device outside its cores: clusters, routers, copy engines, tasks, launches, work queues, experts,
partitions, links and the management registers. -/

namespace Sys2Proof.Machine

open Sys2Proof

/-! ### Routers (R335, R341 to R353) -/

/-- The kinds of name-match entries (R335). -/
inductive MatchKind where
  | loc (t : Target) (nodata : Bool)
  | transit
  | home
  deriving DecidableEq, Repr

/-- A name-match entry (R335): the port counts (N, E, S, W, local), and the homes that have ordered its install; of a HOME entry, `data`: how many
of the subscriptions that it counts are data subscriptions (NODATA 0, R418). The sticky flags of a LOCAL entry stand with its subscription,
`Sub.flg`. -/
structure MatchEntry where
  pat : Pattern
  kind : MatchKind
  counts : List Nat
  homes : List Nat
  data : Nat
  deriving DecidableEq, Repr

/-- A retained copy (R342): when its last flit was stored, its place in the order of storing, and in the order of storing and
serving; expired; pins. -/
structure Kept where
  pkt : Packet
  since : Nat
  stored : Nat
  used : Nat
  expired : Bool
  pins : Nat
  deriving DecidableEq, Repr

/-- A held delivery (R347): with `dropped`, only its key is kept and the home pins the copy; `fetching` while its home asks the rim
for the copy; `beside`: a row that has found the held granules exhausted, which no home retains: its payload takes none of them (log 95). -/
structure HeldDelivery where
  pkt : Packet
  tgt : Target
  home : Nat
  dropped : Bool
  fetching : Bool
  beside : Bool
  deriving DecidableEq, Repr

/-- A contribution or partial in a router (R350): the contributors it covers, when the wait for a partner ends, and whether it is
kept in the tailings area. -/
structure Partial where
  pkt : Packet
  cover : List Nat
  ends : Nat
  spilled : Bool
  deriving DecidableEq, Repr

/-- A reduction at its home (R349): the first contribution's RED and CCNT, the contributors that have arrived. -/
structure Reduction where
  pkt : Packet
  arrived : List Nat
  deriving DecidableEq, Repr

/-- What the home of a bound tensor keeps of an expert (R418): the entry's state, the lost field where it is LOST, and the launches with
rows in a sump. -/
structure ExpertView where
  part : Nat
  e : Nat
  st : Nat
  field : Nat
  parked : List Nat
  reported : Option Nat
  deriving DecidableEq, Repr

/-- A transit copy (R338): a packet that the router sends through several ports, by the number that its deliveries carry. -/
structure TransitCopy where
  id : Nat
  pkt : Packet
  deriving DecidableEq, Repr

/-- A packet that a link port cannot forward, held at the port's edge router as any subscriber's delivery is (R90, R347): the port, and the
home that it comes from. -/
structure PortHold where
  pkt : Packet
  port : Nat
  home : Nat
  dropped : Bool
  fetching : Bool
  beside : Bool
  deriving DecidableEq, Repr

/-- A router (R327, R335, R341 to R353). -/
structure Router where
  entries : List MatchEntry
  kept : List Kept
  held : List HeldDelivery
  holds : List PortHold
  transit : List TransitCopy
  /-- Room reserved for the replies of rim queries (R344): a tag each, and granules; by launch. -/
  reserved : List (Nat × Nat)
  partials : List Partial
  reds : List Reduction
  gets : List Packet
  /-- Keys of discarded TRANSIENT copies, oldest first (R343). -/
  listed : List (DWord × BitVec 16 × Nat)
  experts : List ExpertView
  stopped : Bool
  deriving DecidableEq, Repr

/-- A router with nothing in it. -/
def Router.reset : Router := ⟨[], [], [], [], [], [], [], [], [], [], [], false⟩

/-! ### Copy interfaces and engines (15, 16) -/

/-- The kinds of C-class operations and of the device's own copies. -/
inductive OpKind where
  | load | store | ring | atomic | get | publish | ertq | sumpq | control | page | fetch
  deriving DecidableEq, Repr

/-- A translated box (R369, R374): memory type, physical address, agent, and the page size's
base-2 logarithm. -/
structure Trans where
  mtype : Nat
  pa : Nat
  agent : Nat
  log : Nat
  deriving DecidableEq, Repr

/-- A box (R368): its virtual address, length, offset in the copy's local data, translation, and whether it has been performed. -/
structure Box where
  va : Nat
  len : Nat
  off : Nat
  tr : Option Trans
  done : Bool
  deriving DecidableEq, Repr

/-- Where an operation stands: in the interface, at its engine, FAULTED with its record's handle and time, FAULTED with a record that was
answered with ABORT or not at all (R372), or in the network. -/
inductive OpPlace where
  | queued
  | engine
  | faulted (tag box since : Nat)
  | abandoned
  | network
  | ended
  deriving DecidableEq, Repr

/-- A C-class operation, or a paging request or a BACKED fetch of an adit engine (R346, R357, R380 to R400). -/
structure COp where
  id : Nat
  kind : OpKind
  opc : Nat
  core : Nat
  bank : Bool
  task : Nat
  launch : Nat
  part : Nat
  gid : Nat
  grp : Option Nat
  phase : Nat
  place : OpPlace
  iface : Nat
  engine : Nat
  /-- Local key of the copy's first byte; for CLDR the ring. -/
  loc : Nat
  ring : Nat
  len : Nat
  /-- Rows, their remote stride and local pitch in units of 128 B, where the operation has rows (R357, R385). -/
  rows : Nat
  stride : Word
  pitch : Nat
  /-- The packet that a copy request left its interface as (R357). -/
  req : Option Packet
  boxes : List Box
  /-- CLDR: ring slots taken so far, by index. -/
  slots : List Nat
  dst : Nat
  wide : Bool
  aop : Nat
  opnd : Nat
  cmp : Nat
  /-- Publications: packets not yet injected, with the keys of their source bytes. -/
  pkts : List (Packet × List (Nat × Nat))
  /-- What leaves for the network when the operation is sent. -/
  send : List Event
  rel : Bool
  /-- Operations that a CFENCE makes it wait for (R392), and the scope. -/
  after : List Nat
  /-- Operations whose effects a release waits for (R396). -/
  before : List Nat
  fault : Option (BitVec 8)
  cancelled : Bool
  gslots : List Nat
  retryAt : Option Nat
  /-- What has been read and not yet written, by offset in the copy's data, with its poison: of a BACKED fetch (R346), or of a box whose
  units move apart (R434). -/
  got : List (Nat × List Byte × Bool)
  /-- Boxes whose walks were outstanding when an earlier box of the request faulted, and have not ended (R366, R370). -/
  ahead : List Nat
  deriving DecidableEq, Repr

/-- What a rim request does when it has started (R88): a step of its own, the write of a tile to the tailings area with its storing
number (R345), the write of a partial there, the read-back of partials that are combined (R350), or that of the oldest parked row of a
launch for an entry (R425). -/
inductive RimWork where
  | step (e : Event)
  | tail (stored : Nat) (p : Packet)
  | spill (l : Nat)
  | join (home : Nat) (p : Packet)
  | unpark (part e l : Nat)
  deriving DecidableEq, Repr

/-- A rim request that waits for a slot of its partition (R88), with its occupancy. -/
structure RimReq where
  agent : Nat
  part : Nat
  occ : Nat
  work : RimWork
  deriving DecidableEq, Repr

/-- A TLB entry (R366). -/
structure TlbEntry where
  part : Nat
  log : Nat
  vpage : Nat
  frame : Nat
  mtype : Nat
  gid : Nat
  rd : Bool
  w : Bool
  d : Bool
  deriving DecidableEq, Repr

/-- A cause of abort on its way to the launch processor (R481). -/
structure AbortCause where
  launch : Nat
  cause : BitVec 8
  detail : Word
  cycle : Nat
  deriving DecidableEq, Repr

/-- What counts in a phase although nothing of it is left to arrive (R455): a ring-slot return on its way to its router, the credit of a flit
that has crossed a link, a reply that finds its task killed. It counts at a reporter until a cycle that the spec leaves open (log 78). -/
structure Passing where
  launch : Nat
  phase : Nat
  reporter : Nat
  ends : Nat
  deriving DecidableEq, Repr

/-! ### Graphs, tasks and launches (01, 03, 04) -/

/-- A tensor descriptor (R21). -/
structure Tensor where
  tnum : Nat
  fmt : Nat
  rank : Nat
  pclass : Nat
  redop : Nat
  retexp : Nat
  redcnt : Nat
  shape : List Nat
  ext : List Nat
  cw : List Nat
  tstride : Nat
  base : Nat
  deriving DecidableEq, Repr

/-- A code object header (R30). -/
structure CodeObj where
  imLen : Nat
  imOff : Nat
  tbLen : Nat
  tbOff : Nat
  deriving DecidableEq, Repr

/-- A subscription entry of a descriptor (R38). -/
structure SubDesc where
  value : DWord
  mask : DWord
  count : Nat
  ring : Nat
  genrule : Nat
  nodata : Bool
  devns : Bool
  genval : BitVec 16
  deriving DecidableEq, Repr

/-- A task descriptor (R32 to R36). -/
structure TaskDesc where
  code : Nat
  entry : Nat
  nring : Nat
  gang : Nat
  restart : Bool
  prio : Nat
  subs : List SubDesc
  budget : Nat
  affkey : Nat
  argmask : Nat
  mbx : List Nat
  rings : List (Nat × Nat)
  deriving DecidableEq, Repr

/-- A loaded graph (R18, R28): its partition, its size, its parts, and the queue whose UNLOAD marked it. -/
structure Graph where
  part : Nat
  total : Nat
  tensors : List Tensor
  codes : List CodeObj
  tasks : List TaskDesc
  unloading : Bool
  deriving DecidableEq, Repr

/-- The state of a subscription (R405). -/
inductive SubState where
  | installing | active | refused
  deriving DecidableEq, Repr

/-- A subscription of a task instance (R38, R402, R405); `uid` is its own number. -/
structure Sub where
  index : Nat
  uid : Nat
  pat : Pattern
  count : Nat
  ring : Nat
  nodata : Bool
  dynamic : Bool
  st : SubState
  arrivals : Nat
  flg : BitVec 5
  psn : Bool
  homes : List Nat
  acks : Nat
  deriving DecidableEq, Repr

/-- The states of a pool entry (R97); `arming` until every install is acknowledged. -/
inductive PoolState where
  | pending | arming | armed | ready | running
  deriving DecidableEq, Repr

/-- A task instance: a pool entry with what arming gave it (R95 to R112); `joined`: when it first joined a queue, `queued`: when it joined
the queue of its priority (R98, R99); `keepPrio`: a resubscription keeps its selected priority (R111). -/
structure TaskInst where
  launch : Nat
  tmpl : Nat
  rank : Nat
  gang : Nat
  field : Nat
  st : PoolState
  queuePrio : Nat
  prio : Nat
  keepPrio : Bool
  joined : Nat
  queued : Nat
  passUntil : Option Nat
  noElig : Option Nat
  core : Nat
  bank : Bool
  subs : List Sub
  rings : List Ring
  imBase : Nat
  tbBase : Nat
  mbx : List Word
  readySeq : Nat
  restarted : Bool
  /-- Its next arming ends a resubscription (R112). -/
  resub : Bool
  overruns : Nat
  deriving DecidableEq, Repr

/-- A cut edge (R89). -/
structure CutEdge where
  peer : Nat
  inward : Bool
  tnum : Nat
  deriving DecidableEq, Repr

/-- What a sweep found of each counter, phases 0 to 15 (R457, R462): clean with the source tasks counted, and without; whether the tasks
had ended, and whether they stood still, as it started. -/
structure SweepView where
  clean : List Bool
  quiet : List Bool
  ended : Bool
  still : Bool
  deriving DecidableEq, Repr

/-- A live launch (R76, R84, R90, R453, R481). -/
structure Launch where
  part : Nat
  ns : Nat
  gen : BitVec 16
  queue : Nat
  seq : Nat
  cpl : Nat
  irq : Bool
  args : List Word
  tstart : Nat
  accepted : Nat
  tasks : Nat
  /-- Templates not yet handed over (R96). -/
  todo : Nat
  frontier : Nat
  closed : List Nat
  sweeping : Option SweepView
  last : Option SweepView
  closedLast : Bool
  nextSweep : Nat
  moved : Nat
  nwaf : Nat
  wafidx : Nat
  group : Nat
  /-- Another wafer has aborted its part, and has told every wafer (R91). -/
  told : Bool
  acks : List Nat
  edges : List CutEdge
  edgesIn : Bool
  peerViews : List (Nat × List Bool)
  retiring : Bool
  abort : Option AbortCause
  discarded : Bool
  discardClean : Nat
  deriving DecidableEq, Repr

/-- A work queue (R72 to R75). `epoch` counts the changes of EN. -/
structure WorkQueue where
  base : Nat
  en : Bool
  hold : Bool
  prio : Nat
  log2 : Nat
  part : Nat
  asg : Bool
  head : Nat
  tail : Nat
  err : Bool
  busy : Bool
  epoch : Nat
  deriving DecidableEq, Repr

/-- A queue at reset (R73, R74). -/
def WorkQueue.reset : WorkQueue := ⟨0, false, false, 0, 4, 0, false, 0, 0, false, false, 0⟩

/-- A selected command (R77 to R79): its 64 bytes as a number, what holds it, and what it has read. -/
structure Cmd where
  q : Nat
  w : Nat
  seq : Nat
  epoch : Nat
  held : Bool
  args : Option (List Word)
  edges : List CutEdge
  waitFor : Option Nat
  tstart : Nat
  deriving DecidableEq, Repr

/-! ### Experts (17) -/

/-- An entry of an expert residency table (R415); `pinned`: a pin hint has arrived while ABSENT or LOADING. -/
structure ErtEntry where
  bind : Nat
  lastuse : Nat
  home : Nat
  svalid : Bool
  sump : Nat
  tiles : Nat
  slot : Nat
  field : Nat
  st : Nat
  pinned : Bool
  wanting : Bool
  deriving DecidableEq, Repr

/-- An entry as Mboam zeroes it (R415). -/
def ErtEntry.reset : ErtEntry := ⟨0, 0, 0, false, 0, 0, 0, 0, 0, false, false⟩

/-- A sump (R419, R420): in use (`order` is not 0, and gives the order of taking) it holds the rows of one launch for one entry. -/
structure Sump where
  part : Nat
  launch : Nat
  entry : Nat
  rows : List ParkedRow
  order : Nat
  draining : Bool
  deriving DecidableEq, Repr

/-- A request to launch firmware (R428): for a field and slot, or for an entry to evict. -/
structure PolicyReq where
  part : Nat
  handle : Nat
  e : Nat
  evict : Bool
  since : Nat
  deriving DecidableEq, Repr

/-- The states of a weight-store slot (R236). -/
inductive SlotState where
  | free | loading | sealed
  deriving DecidableEq, Repr

/-! ### Partitions, links, management -/

/-- A partition (R87, R333, R345, R360, R367, R414, R428, R458). -/
structure Partition where
  fields : List Nat
  homes : List Nat
  stale : Bool
  ertAgent : Nat
  parkRoom : Nat
  tailRoom : Nat
  devRoom : Nat
  vmRoot : Nat
  vmEn : Bool
  invVpn : Nat
  invScope : Nat
  invBusy : Bool
  /-- Boxes that the invalidation in progress waits for. -/
  invWait : List (Nat × Nat)
  fsel : Bool
  evsel : Bool
  swexp : Nat
  noArm : List Nat
  fwFault : Bool
  deriving DecidableEq, Repr

/-- A partition at reset. -/
def Partition.reset : Partition := ⟨[], [], false, 0, 0, 0, 0, 0, false, 0, 0, false, [], false, false, 3, [], false⟩

/-- A Shohal port (R515, R516): its peer, whether it is mapped and up, since when it retrains, the CRC replays so far, and the steps
begun on it (R494). -/
structure LinkPort where
  peer : Option (Nat × Nat)
  up : Bool
  since : Nat
  replays : Nat
  begun : List (DWord × BitVec 16 × Nat)
  deriving DecidableEq, Repr

/-- A port at reset. -/
def LinkPort.reset : LinkPort := ⟨none, true, 0, 0, []⟩

/-- Boot (R500, R501): before it, running, in recovery, or stopped until a reset (R483, R521). -/
inductive BootState where
  | off | recovery | running | dead
  deriving DecidableEq, Repr

/-- The management side (R487, R500 to R508, R517 to R521). -/
structure Mgmt where
  boot : BootState
  meas : List (List Byte)
  flash : Option Image
  /-- The image that has been accepted and started (R500). -/
  image : Option Image
  minVer : Nat
  tables : KMap Nat
  viol : KMap Word
  windows : KMap DWord
  rim : List (Bool × Nat)
  rimNext : Option (List (Bool × Nat))
  tripth : Nat
  critth : Nat
  hotth : Nat
  hyst : Nat
  cap : Nat
  thr : Nat
  pwr : Nat
  thrHeld : Bool
  /-- The latches of TBNSL (R487). -/
  nsh : Option Nat
  frac : Option Nat
  /-- Time stamps of reference events (R517): source, nanoseconds. -/
  stamps : List (Nat × Nat)
  /-- The model's own: what register reads have answered, in order. -/
  reads : List Nat
  deriving DecidableEq, Repr

/-- The management side at power-on. -/
def Mgmt.reset : Mgmt where
  boot := .off
  meas := List.replicate 8 (List.replicate 48 0)
  flash := none
  image := none
  minVer := 0
  tables := []
  viol := []
  windows := []
  rim := List.replicate 64 (false, 0)
  rimNext := none
  tripth := 115
  critth := 105
  hotth := 95
  hyst := 3
  cap := 270
  thr := 0
  pwr := 0
  thrHeld := false
  nsh := none
  frac := none
  stamps := []
  reads := []

end Sys2Proof.Machine
end

