-- ==== Sys2Proof/Machine/State.lean ====
section
/-! DEFINITION. The state of the device: plain data, all that the spec gives the machine. -/

namespace Sys2Proof.Machine

open Sys2Proof

/-- A core (R117 to R120, R220, R234, R296, R477). Its memories stand in `State.mem`. -/
structure Core where
  b0 : Bank
  b1 : Bank
  running : Option Bool
  senior : Option Bool
  rowProg : Vector RowProg 4
  tflags : Vector (BitVec 8) 4
  tileFaults : List TileFault
  queue : List MOp
  port : List PortOp
  flights : List Flight
  sel : List SelOp
  traceQ : List TraceRec
  dbg : Debug
  drain : Option Drain
  noFire : List Nat
  /-- The images whose space nothing has reused (R105). -/
  images : List CodeImage
  deriving DecidableEq, Repr

/-- What the bundle in execution is (R132): its core and bank, slot, header address, length, fall-through address, and
what its slots have decided so far. -/
structure IssueCtx where
  core : Nat
  bank : Bool
  slot : Nat
  addr : Nat
  fall : Nat
  /-- The slots to the right of the one in execution. -/
  later : List Nat
  /-- GET response slots that were in use as the bundle issued (R352). -/
  gets : List Nat
  /-- BKPT halts the core when the bundle is complete (R213). -/
  bkpt : Bool
  /-- A slot has trapped, or BKPT has halted: slots to the right do not commit. -/
  stopped : Bool
  /-- A slot of the bundle has committed (R132, R142). -/
  begun : Bool
  deriving DecidableEq, Repr

/-- The time base (R487): nanoseconds and the 24-bit fraction at cycle `since`, and TBINC. -/
structure TimeBase where
  ns : Nat
  frac : Nat
  inc : Nat
  since : Nat
  locked : Bool
  src : BitVec 2
  offset : BitVec 16
  deriving DecidableEq, Repr

/-- The trace registers of a field (R495), the drops since the last gap record and when the first of them fell (R498),
and the unit served last (R496). -/
structure TraceBuf where
  base : DWord
  clen : BitVec 4
  wr : Nat
  rd : Nat
  drops : Vector Word 4
  gaps : Vector Nat 4
  gapTime : Option Nat
  served : Nat
  /-- The unread indices whose records have been replaced at a full buffer, in that order, with WR as it stood (R497). -/
  replaced : List (Nat × Nat)
  deriving DecidableEq, Repr

/-- A field: its trace buffer, the refresh rotation of its weight store, and its distributor. -/
structure FieldSt where
  trace : TraceBuf
  /-- The refresh rotation (R237, R238): the window in progress or the last one, whether it is in progress, and the number of
  the next one. -/
  refCur : Nat
  refAct : Bool
  refNext : Nat
  /-- DWGT (R103). -/
  agexp : Nat
  waff : Nat
  wcode : Nat
  wload : Nat
  wcool : Nat
  lost : Bool
  deriving DecidableEq, Repr

/-- A cluster: MHOLDC (R300), the defect and enabled-cluster maps (R107, R508), temperature and state (R106, R519), ECCSTAT (R472),
the freeze in progress and whether a further one follows (R240), the merge buffer and the array (R288, R298), the entry that
streams, the selected entry behind it, the weight load. -/
structure Cluster where
  mholdc : BitVec 10
  enabled : Bool
  mapped : Bool
  stopped : Bool
  retired : Bool
  temp : Nat
  tstate : Nat
  /-- COOL as the last sample left it (R519). -/
  cool : Nat
  /-- Reference cycles lost to halved clocks, and since when the clock is halved now (R106). -/
  slow : Nat
  slowSince : Option Nat
  ce : Nat
  ue : Nat
  freeze : Option Nat
  refreeze : Bool
  entries : List MEntry
  served : Nat
  stat : WBank
  shad : WBank
  current : Option Nat
  next : Option Nat
  job : Option LoadJob
  deriving DecidableEq, Repr

/-- Why a step stops with a fault. No meaning of this model answers with one: the spec gives every instruction and every
step of the device an effect. -/
inductive Fault where
  /-- Raised by nothing; kept so that the type names the case in which a step found no state to go on from. Safe. -/
  | stuck
  deriving DecidableEq, Repr

/-- Why a step is refused. -/
inductive Refusal where
  /-- The instruction has no meaning yet; raised by `exec` for an arm that is still rejected by name. Safe: the machine
  stops where the hardware goes on. -/
  | notModelled (mnemonic : String)
  deriving DecidableEq, Repr

structure State where
  /-- The model's own: how many free values have been used. -/
  nonce : Nat
  /-- Cycles of the 800 MHz reference clock since reset (R3). -/
  now : Nat
  /-- The model's own: the next operation number. -/
  opId : Nat
  ctx : IssueCtx
  /-- Every byte of the device's and the host's memories, by space and offset. -/
  mem : List Host.Cell
  /-- Scratchpad words whose full/empty bit is full (R224), by key of `mem`. -/
  full : List Nat
  /-- Words and units marked poison (R241), by key of `mem`. -/
  poison : List Nat
  cores : KMap Core
  gangs : KMap Gang
  fields : KMap FieldSt
  clusters : KMap Cluster
  /-- RMAX elements (R234) by core, tile and row; an unlisted one reads 0xFF80_0000. -/
  rmax : KMap Word
  /-- RSUM elements (R234); an unlisted one reads +0. -/
  rsum : KMap Word
  tb : TimeBase
  /-- Records waiting in the units' queues (R496), by unit, each with the field that it goes to. -/
  traceUnits : KMap (List (Nat × TraceRec))
  aborts : List AbortCause
  /-- Change bits (R457): counters that have changed since the last sweep read them, by launch and counter. -/
  changed : List Nat
  /-- Counter entries (R454) of the reporters: routers by index, adit agent a at 4,096 + a, link port p at 8,192 +
  p, the distributor of field f at 16,384 + f. -/
  counters : KMap (List Nat)
  /-- What still counts in a phase (R455). -/
  passing : List Passing
  /-- The model's own: the step in hand, for the meaning of the row that it is. -/
  ev : Option Event
  /-- What is on its way: packets, replies, notices, and what the outside does to the device. -/
  agenda : List Event
  /-- Requests that wait for a rim slot of their partition (R88). -/
  rim : List RimReq
  /-- The cycle at which the occupancy of the request that holds an adit agent ends (R88). -/
  rimBusy : KMap Nat
  routers : KMap Router
  ops : KMap COp
  /-- TLBs (R366): engine e at e, a field's second level at 1000 + f, an adit agent's at 2000 + a. -/
  tlbs : KMap (List TlbEntry)
  graphs : KMap Graph
  tasks : KMap TaskInst
  launches : KMap Launch
  queues : KMap WorkQueue
  /-- The arbiter's pointers (R77), by priority. -/
  ptrs : Vector Nat 8
  cmds : List Cmd
  parts : KMap Partition
  /-- Expert residency entries (R414), by partition · 65,536 + entry. -/
  ert : KMap ErtEntry
  sumps : KMap Sump
  /-- Slot tables (R236), by field · 48 + slot; an unlisted slot is FREE. -/
  slots : KMap SlotState
  policy : List PolicyReq
  /-- Tailings areas (R345), by partition. -/
  tail : KMap (List (Nat × Packet))
  links : KMap LinkPort
  mgmt : Mgmt
  /-- Pages, by key of `mem` div 4,096: of host memory, those at which the host bus does not complete an access (R83, R92, R94); of
  HBM4E and CXL memory, those at which a write meets an error (R375). -/
  hostBad : List Nat
  /-- MSI-X vectors raised (R486). -/
  msix : List Nat
  /-- What the launch processor and the agents have logged (R92, R94, R409, R416): a kind and a detail. -/
  log : List (Nat × Nat)
  /-- Messages to other wafers (R90, R91, R338, R459). -/
  outbox : List PeerMsg
  /-- The units that an engine write or a box in progress has already moved (R225, R434), by what is still on its way. -/
  early : List (Event × List Nat)
  /-- Accesses with E = 1 that wait for full words, by core and bank, with the words, in the order in which they reached the ports (R203,
  R249). -/
  waits : List (Nat × Bool × List Nat)
  deriving DecidableEq, Repr

/-- A bank at power-on: p0 reads true, every other register zero (log 2). -/
def Bank.reset : Bank where
  status := .empty
  task := 0
  s := Vector.replicate 32 0
  p := 0
  v := Vector.replicate 32 0
  m := Vector.replicate 8 0
  a := Vector.replicate 8 AddrReg.zero
  loops := Vector.replicate 4 LoopLevel.zero
  cause := 0
  sr := 0
  grpOpen := false
  iaddr := 0
  pc := 0
  taskid := 0
  gangRank := 0
  gangSize := 0
  gangId := 0
  launch := 0
  gen := 0
  rnd := 0
  flags := 0
  cycHeld := 0
  since := none
  budget := 0
  timeh := none
  mbx := Vector.replicate 16 0
  psn := []
  rings := []
  wset := []
  events := 0
  groups := Vector.replicate 16 CopyGroup.empty
  phase := 0
  hold := 0
  staged := none
  stageCount := 0
  gbars := 0
  imBase := 0
  imLen := 0
  tblBase := 0
  tblLen := 0
  pauseUntil := 0
  pending := []
  blockedSince := none
  waitOver := false
  taken := none
  link := none
  issueRnd := 0
  tended := false

/-- A core at power-on. -/
def Core.reset : Core where
  b0 := Bank.reset
  b1 := Bank.reset
  running := none
  senior := none
  rowProg := Vector.replicate 4 ⟨false, 0, 0, 0⟩
  tflags := Vector.replicate 4 0
  tileFaults := []
  queue := []
  port := []
  flights := []
  sel := []
  traceQ := []
  dbg := Debug.reset
  drain := none
  noFire := []
  images := []

/-- The trace registers at reset, with the values that Mboam loads (R495). -/
def TraceBuf.reset : TraceBuf := ⟨0, 0xF, 0, 0, Vector.replicate 4 0, Vector.replicate 4 0, none, 0, []⟩

/-- A field at power-on, with the values that Mboam loads (R103, R237, R495). -/
def FieldSt.reset : FieldSt where
  trace := TraceBuf.reset
  refCur := 0
  refAct := false
  refNext := 0
  agexp := 10
  waff := 8
  wcode := 4
  wload := 2
  wcool := 1
  lost := false

/-- A cluster at power-on: MHOLDC 96 (R300), everything else empty or zero. -/
def Cluster.reset : Cluster where
  mholdc := 96
  enabled := false
  mapped := false
  stopped := false
  retired := false
  temp := 0
  tstate := 0
  cool := 0
  slow := 0
  slowSince := none
  ce := 0
  ue := 0
  freeze := none
  refreeze := false
  entries := []
  served := 3
  stat := WBank.empty
  shad := WBank.empty
  current := none
  next := none
  job := none

/-- The device right after power-on reset, before the ROM takes its first step (R500): time base 0 (R487), every memory and table
empty, no launch, no task. The values the spec does not give are log 2's. -/
def State.reset : State where
  nonce := 0
  now := 0
  opId := 1
  ctx := ⟨0, false, 0, 0, 0, [], [], false, false, false⟩
  mem := []
  full := []
  poison := []
  cores := []
  gangs := []
  fields := []
  clusters := []
  rmax := []
  rsum := []
  tb := ⟨0, 0, 0x01400000, 0, false, 0, 0⟩
  traceUnits := []
  aborts := []
  changed := []
  counters := []
  passing := []
  ev := none
  agenda := []
  rim := []
  rimBusy := []
  routers := []
  ops := []
  tlbs := []
  graphs := []
  tasks := []
  launches := []
  queues := []
  ptrs := Vector.replicate 8 0
  cmds := []
  parts := []
  ert := []
  sumps := []
  slots := []
  policy := []
  tail := []
  links := []
  mgmt := Mgmt.reset
  hostBad := []
  msix := []
  log := []
  outbox := []
  early := []
  waits := []

end Sys2Proof.Machine
end

