-- ==== Sys2Proof/Machine/Ops.lean ====
section
/-! DEFINITION. The named operations over registers and memory that every meaning is written with, the local address map,
and taking a trap (R142, R143, R464, R465). -/

namespace Sys2Proof.Machine

open Sys2Proof

/-! ### Places of memory -/

/-- The memories of the device, each with its own addresses. -/
inductive Space where
  | hbm | cxl | host
  /-- The bus addresses of a host port at and above 2^50, which no copy can name (R512). -/
  | hostUp (port : Nat)
  | spad (core : Nat) | imem (core : Nat) | tram (core : Nat) | tiles (core : Nat)
  | wstore (field : Nat) | wload (load : Nat) | gobj (ns : Nat)
  deriving DecidableEq, Repr

/-- The number of a space; no two spaces of the device share one. -/
def Space.index : Space → Nat
  | .hbm => 0
  | .cxl => 1
  | .host => 2
  | .hostUp p => 3 + p % 4
  | .spad c => 8 + 8 * c
  | .imem c => 9 + 8 * c
  | .tram c => 10 + 8 * c
  | .tiles c => 11 + 8 * c
  | .wstore f => 12 + 8 * f
  | .wload i => 13 + 8 * i
  | .gobj n => 14 + 8 * n

/-- The key in `State.mem` of a byte of a space. -/
def Space.key (p : Space) (off : Nat) : Nat := p.index * 2 ^ 64 + off % 2 ^ 64

/-- The key of a byte of host memory, by host port and bus address (R512). -/
def hostKey (port bus : Nat) : Nat :=
  if bus % 2 ^ 64 < 2 ^ 50 then Space.host.key (port * 2 ^ 50 + bus) else (Space.hostUp port).key bus

/-- Read bytes at a key. -/
def readBytes (s : State) (k n : Nat) : List Byte := Memory.getBytes s.mem k n

/-- Read an `n`-byte little-endian value at a key. -/
def readNat (s : State) (k n : Nat) : Nat := leNat (readBytes s k n)

/-- Write bytes at a key. -/
def writeBytes (s : State) (k : Nat) (bs : List Byte) : State := { s with mem := Memory.setBytes s.mem k bs }

/-- Write an `n`-byte little-endian value at a key. -/
def writeNat (s : State) (k n v : Nat) : State := writeBytes s k (leBytes n v)

/-! ### Poison and full/empty marks of scratchpad words (R224, R241) -/

/-- The key of the word that holds a byte. -/
def wordKey (k : Nat) : Nat := k / 4 * 4

/-- The keys of the words that hold `n` bytes from key `k`. -/
def wordKeys (k n : Nat) : List Nat :=
  if n = 0 then [] else (List.range ((wordKey (k + n - 1) - wordKey k) / 4 + 1)).map fun i => wordKey k + 4 * i

/-- Some word among the bytes is poisoned. -/
def poisoned (s : State) (k n : Nat) : Bool := (wordKeys k n).any fun w => s.poison.contains w

/-- Mark words poisoned. -/
def markPoison (s : State) (ws : List Nat) : State := { s with poison := ws.foldl sadd s.poison }

/-- Clear the poison of words. -/
def clearPoison (s : State) (ws : List Nat) : State := { s with poison := ws.foldl sdel s.poison }

/-- The words that a write of `n` bytes at `k` covers whole: only a full write clears a word's poison (R241, R470). -/
def fullWords (k n : Nat) : List Nat := (wordKeys k n).filter fun w => k ≤ w && w + 4 ≤ k + n

/-- A word is full. -/
def isFull (s : State) (w : Nat) : Bool := s.full.contains w

/-- Set words full. -/
def setFull (s : State) (ws : List Nat) : State := { s with full := ws.foldl sadd s.full }

/-- Set words empty. -/
def setEmpty (s : State) (ws : List Nat) : State := { s with full := ws.foldl sdel s.full }

/-- A store to scratchpad by a task: the bytes are written, and a word written whole loses its poison (R201, R241). -/
def storeBytes (s : State) (k : Nat) (bs : List Byte) : State :=
  clearPoison (writeBytes s k bs) (fullWords k bs.length)

/-! ### Cores and banks -/

/-- A core of the device. -/
def State.core (s : State) (c : Nat) : Core := kgetD s.cores c Core.reset

/-- Change a core. -/
def State.modCore (s : State) (c : Nat) (f : Core → Core) : State := { s with cores := kset s.cores c (f (s.core c)) }

/-- A bank of a core. -/
def Core.bank (c : Core) (b : Bool) : Bank := if b then c.b1 else c.b0

/-- Change a bank of a core. -/
def Core.modBank (c : Core) (b : Bool) (f : Bank → Bank) : Core :=
  if b then { c with b1 := f c.b1 } else { c with b0 := f c.b0 }

/-- The bank of the bundle in execution. -/
def State.bank (s : State) : Bank := (s.core s.ctx.core).bank s.ctx.bank

/-- Change the bank of the bundle in execution. -/
def State.modBank (s : State) (f : Bank → Bank) : State := s.modCore s.ctx.core fun c => c.modBank s.ctx.bank f

/-- The field of a core: cluster = y·28 + x, fields of 4 × 6 clusters, 7 fields a row (R465). -/
def fieldOfCluster (k : Nat) : Nat := k / 28 / 6 * 7 + k % 28 / 4

/-- The field of a core. -/
def fieldOf (c : Nat) : Nat := fieldOfCluster (c / 4)

/-- The cluster within its field (R465). -/
def clusterInField (k : Nat) : Nat := k / 28 % 6 * 4 + k % 28 % 4

/-- The source of a core and bank (R465). -/
def sourceOf (c : Nat) (b : Bool) : BitVec 16 :=
  BitVec.ofNat 16 (fieldOf c * 512 + clusterInField (c / 4) * 16 + c % 4 * 4 + (if b then 2 else 0))

/-! ### Registers (R119) -/

/-- Read a scalar register; s0 reads 0. -/
def Bank.rdS (b : Bank) (r : BitVec 5) : Word := if r = 0 then 0 else b.s.get r.toFin

/-- Write a scalar register; a write to s0 is discarded. -/
def Bank.wrS (b : Bank) (r : BitVec 5) (v : Word) : Bank := if r = 0 then b else { b with s := b.s.set r.toFin v }

/-- Read a pair: the low half in the even register. -/
def Bank.rdPair (b : Bank) (r : BitVec 5) : DWord := (b.rdS (r + 1) ++ b.rdS r : BitVec 64)

/-- Read a predicate; p0 reads true. -/
def Bank.rdP (b : Bank) (r : BitVec 3) : Bool := r = 0 || b.p.getLsbD r.toNat

/-- Write a predicate; a write to p0 is discarded. -/
def Bank.wrP (b : Bank) (r : BitVec 3) (v : Bool) : Bank :=
  if r = 0 then b
  else { b with p := (b.p &&& ~~~((1#8) <<< r.toNat)) ||| ((if v then 1#8 else 0#8) <<< r.toNat) }

/-- Read a vector register. -/
def Bank.rdV (b : Bank) (r : BitVec 5) : VWord := b.v.get r.toFin

/-- Write a vector register. -/
def Bank.wrV (b : Bank) (r : BitVec 5) (v : VWord) : Bank := { b with v := b.v.set r.toFin v }

/-- Read a lane mask; m0 reads all ones. -/
def Bank.rdM (b : Bank) (r : BitVec 3) : MWord := if r = 0 then BitVec.allOnes 128 else b.m.get r.toFin

/-- Write a lane mask; a write to m0 is discarded. -/
def Bank.wrM (b : Bank) (r : BitVec 3) (v : MWord) : Bank := if r = 0 then b else { b with m := b.m.set r.toFin v }

/-- Read an address register. -/
def Bank.rdA (b : Bank) (r : BitVec 3) : AddrReg := b.a.get r.toFin

/-- Write an address register. -/
def Bank.wrA (b : Bank) (r : BitVec 3) (v : AddrReg) : Bank := { b with a := b.a.set r.toFin v }

/-- A loop level. -/
def Bank.loop (b : Bank) (l : BitVec 2) : LoopLevel := b.loops.get l.toFin

/-- Write a loop level. -/
def Bank.setLoop (b : Bank) (l : BitVec 2) (v : LoopLevel) : Bank := { b with loops := b.loops.set l.toFin v }

/-- The low 3 bits of a register field (R148). -/
def lo3 (r : BitVec 5) : BitVec 3 := r.extractLsb' 0 3

/-- The guard of a slot holds (R134). -/
def guardTrue (g : Guard) (b : Bank) : Bool := b.rdP g.p != g.neg

/-- The three outcomes of a meaning. -/
abbrev Result := Host.Outcome State Fault Refusal

/-- A slot with its guard: when the guard is false the slot does nothing (R134). -/
def guarded (g : Guard) (s : State) (f : State → State) : Result :=
  .next (if guardTrue g s.bank then f s else s)

/-! ### Time -/

/-- A cluster's own cycles (R106): of the reference clock's, every other one while the clock is halved. -/
def Cluster.clk (k : Cluster) (now : Nat) : Nat :=
  now - k.slow - (match k.slowSince with | some t => (now - t + 1) / 2 | none => 0)

/-- The cycles of a core's cluster. -/
def State.clk (s : State) (c : Nat) : Nat := (kgetD s.clusters (c / 4) Cluster.reset).clk s.now

/-- The time base as a count of 2^-24 ns units (R487). -/
def tbUnits (s : State) : Nat := s.tb.ns * 2 ^ 24 + s.tb.frac + s.tb.inc * (s.now - s.tb.since)

/-- TAI nanoseconds (R487, R489). -/
def taiNs (s : State) : Nat := tbUnits s / 2 ^ 24 % 2 ^ 64

/-- CYC of a bank (R121): cycles in which the task has held the running bank since firing. -/
def Bank.cyc (b : Bank) (now : Nat) : Nat :=
  b.cycHeld + (match b.since with | some t => now - t | none => 0)

/-- BUDGET reads the cycles remaining (R114). -/
def Bank.budgetLeft (b : Bank) (now : Nat) : Nat := b.budget - b.cyc now

/-- Stop counting CYC and BUDGET. -/
def Bank.stopClock (b : Bank) (now : Nat) : Bank := { b with cycHeld := b.cyc now, since := none }

/-- Start counting CYC and BUDGET. -/
def Bank.startClock (b : Bank) (now : Nat) : Bank :=
  match b.since with
  | some _ => b
  | none => { b with since := some now }

/-! ### Trace records (R490 to R497) -/

/-- A field of the device. -/
def State.field (s : State) (f : Nat) : FieldSt := kgetD s.fields f FieldSt.reset

/-- Change a field. -/
def State.modField (s : State) (f : Nat) (g : FieldSt → FieldSt) : State :=
  { s with fields := kset s.fields f (g (s.field f)) }

/-- Count one dropped record of a class (R495, R498). -/
def TraceBuf.drop (t : TraceBuf) (cls : Fin 4) (time : Nat) : TraceBuf :=
  { t with
    drops := t.drops.set cls (if t.drops.get cls = BitVec.allOnes 32 then t.drops.get cls else t.drops.get cls + 1)
    gaps := t.gaps.set cls (t.gaps.get cls + 1)
    gapTime := match t.gapTime with | none => some time | some x => some x }

/-- The class of an event code (R491, R492). -/
def traceClass (code : BitVec 16) : Fin 4 :=
  if 0x8000 ≤ code.toNat then 0
  else if code = 0x30 || code = 0x31 then 2
  else if code = 0x03 || (0x40 ≤ code.toNat && code.toNat ≤ 0x50) || code = 0x70 || code = 0xF0 then 3
  else 1

/-- The units that write trace records (R496): cores first, then routers, distributors, launch processor and Mboam, adit
agents, link ports, copy engines. -/
def unitRouter (k : Nat) : Nat := 10000 + k
def unitDistributor (f : Nat) : Nat := 13000 + f
def unitLaunch : Nat := 14000
def unitMboam : Nat := 14001
def unitAdit (a : Nat) : Nat := 14100 + a
def unitLink (p : Nat) : Nat := 14200 + p
def unitEngine (e : Nat) : Nat := 15000 + e

/-- A unit emits a record to a field's writer: it enters the unit's queue of 16, or is dropped and counted (R496). A record
of a disabled class is discarded (R495). -/
def emit (s : State) (field unit : Nat) (r : TraceRec) : State :=
  let q := kgetD s.traceUnits unit []
  if !(s.field field).trace.clen.getLsbD (traceClass r.code).val then s
  else if q.length < 16 then { s with traceUnits := kset s.traceUnits unit (q ++ [(field, r)]) }
  else s.modField field fun f => { f with trace := f.trace.drop (traceClass r.code) r.time }

/-- A record of a core's bank: LAUNCH and TASKID of the bank (R490). -/
def coreRec (s : State) (c : Nat) (b : Bool) (code : BitVec 16) (payload : List Byte) : TraceRec :=
  let k := (s.core c).bank b
  ⟨taiNs s, code, sourceOf c b, k.launch, k.taskid, payload⟩

/-- A core emits a device record to its own field (R496). -/
def emitCore (s : State) (c : Nat) (b : Bool) (code : BitVec 16) (payload : List Byte) : State :=
  emit s (fieldOf c) c (coreRec s c b code payload)

/-! ### Taking a trap -/

/-- A cause of abort leaves for the launch processor (R481). -/
def postAbort (s : State) (launch : Nat) (cause : BitVec 8) (detail : Word) : State :=
  { s with aborts := s.aborts ++ [⟨launch, cause, detail, s.now⟩] }

/-- DETAIL of an abort with cause 0x02 (R465). -/
def trapDetail (code : BitVec 8) (source : BitVec 16) : Word := (BitVec.setWidth 16 code ++ source : BitVec 32)

/-- A debugger holds the core at traps (R465, R478). -/
def Core.trapHalts (c : Core) : Bool := c.dbg.den && c.dbg.traphalt

/-- BUDGET and CYC of both banks stop counting (R478). -/
def Core.stopClocks (c : Core) (now : Nat) : Core :=
  (c.modBank false fun k => k.stopClock now).modBank true fun k => k.stopClock now

/-- The debug halt at a trap of bank `b` (R477, R478). BANK of DBGSTAT is the running bank, also where the parked one trapped (R211). -/
def Core.haltAtTrap (c : Core) (b : Bool) (code : BitVec 8) (now : Nat) : Core :=
  { c.stopClocks now with
    dbg := { c.dbg with halted := true, stepping := false, retired := false, stepOps := [], reason := .trap, tcause := code,
                        hbank := c.running.getD b } }

/-- A task takes a trap (R142, R143, R464, R465): TSW.CAUSE, IADDR and SR are written, a fault-class record is emitted
(its payload the TRAP code, cause, SR and IADDR of R492), and then the core halts under TRAPHALT or the launch is aborted with
cause 0x02. The slot and those to its right do not commit. -/
def takeTrapWith (s : State) (code : BitVec 8) (sr : Nat) (user : BitVec 16) : State :=
  let c := s.ctx.core
  let b := s.ctx.bank
  let s := s.modBank fun k =>
    { k with cause := code, iaddr := BitVec.ofNat 32 s.ctx.addr, sr := sr, status := .trapped, pc := BitVec.ofNat 32 s.ctx.addr }
  let s := emitCore s c b 0x0040
    (leBytes 2 user.toNat ++ leBytes 1 code.toNat ++ leBytes 1 sr ++ leBytes 4 s.ctx.addr)
  let s := { s with ctx := { s.ctx with stopped := true } }
  if (s.core c).trapHalts then s.modCore c fun k => k.haltAtTrap b code (s.clk c)
  else postAbort s (s.core c |>.bank b).launch.toNat 0x02 (trapDetail code (sourceOf c b))

/-- SR where the slot in execution stops (R142): its index, or 0 where no slot of the bundle has committed. -/
def stopSlot (s : State) : Nat := if s.ctx.begun then s.ctx.slot else 0

/-- An execution trap of the slot in execution (R132). -/
def takeTrap (s : State) (code : BitVec 8) : State := takeTrapWith s code (stopSlot s) 0

/-- An execution trap whose rule says that SR names its slot: of an element of a V-memory access (R245), of an operand of an M slot (R309) or of
a C slot (R383). DEDUCED (log 65): so also where no slot has committed, before R142's row. -/
def takeSlotTrap (s : State) (code : BitVec 8) : State := takeTrapWith s code s.ctx.slot 0

/-- Page wait (R466): the C slot takes cause 0x19, and the task is blocked until PF of its group is 0. It is resolved in the
core: no launch is aborted, no debugger sees it, and no fault-class record is emitted (log 30). -/
def takePageWait (s : State) (grp : Nat) : State :=
  let s := s.modBank fun k =>
    { k with cause := 0x19, iaddr := BitVec.ofNat 32 s.ctx.addr, sr := stopSlot s, status := .pageWait grp,
             pc := BitVec.ofNat 32 s.ctx.addr, blockedSince := some (k.cyc (s.clk s.ctx.core)) }
  { s with ctx := { s.ctx with stopped := true } }

/-- The slot in execution waits at its port, the slots to its left having committed: it goes on from there (R143, R249; log 66). A TEND among
those takes effect when the bundle is complete (R211). -/
def pauseSlot (s : State) : State :=
  let s := s.modBank fun k =>
    { k with iaddr := BitVec.ofNat 32 s.ctx.addr, sr := stopSlot s, pc := BitVec.ofNat 32 s.ctx.addr, status := .live }
  { s with ctx := { s.ctx with stopped := true } }

/-! ### The cause codes (R464) -/

def causeBranchTarget : BitVec 8 := 0x03
def causeInstrRange : BitVec 8 := 0x04
def causeLoopNesting : BitVec 8 := 0x05
def causeSoftware : BitVec 8 := 0x06
def causeGangBarrier : BitVec 8 := 0x07
def causeMisaligned : BitVec 8 := 0x08
def causeAddrRange : BitVec 8 := 0x09
def causeTableRange : BitVec 8 := 0x0A
def causeRingRange : BitVec 8 := 0x0B
def causeRingUnderflow : BitVec 8 := 0x0C
def causeMatrixOperand : BitVec 8 := 0x0D
def causePoison : BitVec 8 := 0x0E
def causeCopyLength : BitVec 8 := 0x10
def causeGetLength : BitVec 8 := 0x11
def causeUnknownTensor : BitVec 8 := 0x12
def causeTileSize : BitVec 8 := 0x13
def causeReduction : BitVec 8 := 0x14
def causeSubscription : BitVec 8 := 0x15
def causeExpertIndex : BitVec 8 := 0x16
def causeSumpIndex : BitVec 8 := 0x17
def causePhaseOrder : BitVec 8 := 0x18
def causeIllegalOpcode : BitVec 8 := 0x01
def causeIllegalEncoding : BitVec 8 := 0x02

/-! ### The local address map (R199, R219) -/

/-- The scratchpad bytes of a core. -/
def spadBytes : Nat := 0x180000

/-- Gang member `k` still holds its context bank: the gang's live mask (R219). -/
def gangLive (s : State) (g k : Nat) : Bool :=
  match kget s.gangs g with
  | some x => x.live.getD k false
  | none => false

/-- The core of gang member `k`. -/
def gangCore (s : State) (g k own : Nat) : Nat :=
  match kget s.gangs g with
  | some x => x.cores.getD k own
  | none => own

/-- Where a local address of a bank lies: the core whose scratchpad it names and the offset there; none when it is out of
range (R199, R219). -/
def localPlace (s : State) (own : Nat) (b : Bank) (a : Nat) : Option (Nat × Nat) :=
  if a < spadBytes then some (own, a)
  else if a < 0x01000000 then none
  else
    let k := (a - 0x01000000) / 0x00200000
    let o := (a - 0x01000000) % 0x00200000
    if b.gangSize.toNat ≤ k || spadBytes ≤ o then none
    else if k = b.gangRank.toNat then some (own, o)
    else if gangLive s b.gangId k then some (gangCore s b.gangId k own, o)
    else none

/-- The key of a local address of a bank of a core; none when it is out of range. -/
def localKey (s : State) (own : Nat) (b : Bank) (a : Nat) : Option Nat :=
  (localPlace s own b a).map fun p => (Space.spad p.1).key p.2

/-- The key of a span of local addresses that lies wholly within one range (R271, R309, R383). -/
def localSpan (s : State) (own : Nat) (b : Bank) (a n : Nat) : Option Nat :=
  match localPlace s own b a with
  | none => none
  | some (c, o) => if o + n ≤ spadBytes then some ((Space.spad c).key o) else none

/-! ### Clusters, events, change bits -/

/-- A cluster of the device. -/
def State.cluster (s : State) (k : Nat) : Cluster := kgetD s.clusters k Cluster.reset

/-- Change a cluster. -/
def State.modCluster (s : State) (k : Nat) (f : Cluster → Cluster) : State :=
  { s with clusters := kset s.clusters k (f (s.cluster k)) }

/-- Event `e` occurs for the task of a bank (R214). -/
def raiseEvent (s : State) (core : Nat) (b : Bool) (e : Nat) : State :=
  s.modCore core fun c => c.modBank b fun k => { k with events := k.events ||| ((1#16) <<< e) }

/-- The core whose scratchpad holds a key. -/
def spadOwner (k : Nat) : Option Nat :=
  let i := k / 2 ^ 64
  if 8 ≤ i && i % 8 = 0 then some ((i - 8) / 8) else none

/-- An engine sets words full (R225): event 6 for the tasks of both banks of their scratchpad's core (R214). -/
def engineFull (s : State) (ws : List Nat) : State :=
  match ws with
  | [] => s
  | w :: _ =>
    let s := setFull s ws
    match spadOwner w with
    | some c => raiseEvent (raiseEvent s c false 6) c true 6
    | none => s

/-- An engine's write to scratchpad: its words but those of `late`, which the same operation has still to write, become full in the same
access (R225), and poisoned where the data is. -/
def engineWriteBut (late : List Nat) (s : State) (k : Nat) (bs : List Byte) (psn : Bool) : State :=
  let s := engineFull (storeBytes s k bs) ((wordKeys k bs.length).filter fun w => !late.contains w)
  if psn then markPoison s (wordKeys k bs.length) else s

/-- An engine's whole write to scratchpad (R225). -/
def engineWrite (s : State) (k : Nat) (bs : List Byte) (psn : Bool) : State := engineWriteBut [] s k bs psn

/-- The spans, offset and length, of `len` bytes whose first lies at offset `a` of its unit of `w` bytes, that are left when the units
`done` have moved (R434). -/
def spansLeft (w a len : Nat) (done : List Nat) : List (Nat × Nat) :=
  if done.isEmpty then [(0, len)]
  else ((List.range ((a + len + w - 1) / w)).filter fun u => !done.contains u).map fun u =>
    (max (w * u) a - a, min (w * (u + 1)) (a + len) - max (w * u) a)

/-- The units that something on its way has moved already. -/
def movedUnits (s : State) (e : Event) : List Nat :=
  match s.early.find? fun x => x.1 = e with
  | some x => x.2
  | none => []

/-- The units that the step in hand has moved already. -/
def movedNow (s : State) : List Nat :=
  match s.ev with
  | some e => movedUnits s e
  | none => []

/-- The words that an engine write still has to move are written (R225, R434). -/
def engineWriteLeft (done : List Nat) (s : State) (k : Nat) (bs : List Byte) (psn : Bool) : State :=
  (spansLeft 4 (k % 4) bs.length done).foldl (fun s x => engineWrite s (k + x.1) ((bs.drop x.1).take x.2) psn) s

/-- The GET response slots of a bank in use (R352). -/
def slotsInUse (s : State) (c : Nat) (b : Bool) : List Nat :=
  s.ops.flatMap fun o => if o.2.core = c && o.2.bank = b && o.2.kind = .get then o.2.gslots else []

/-- The key of a launch's counter: phases 0 to 15, and 16 for the control counter (R455, R457); 32 to 48 for the same counters with
the source tasks left out (R462). -/
def counterKey (launch counter : Nat) : Nat := launch * 64 + counter

/-- A counter of a launch changes: its change bit is set (R457). -/
def touch (s : State) (launch counter : Nat) : State :=
  { s with changed := sadd s.changed (counterKey launch counter) }

/-- The frontier F of a launch (R453). -/
def frontier (s : State) (l : Nat) : Nat :=
  match kget s.launches l with
  | some x => x.frontier
  | none => 0

/-- A source task starts or stops counting in the phases from `lo` to below `hi`: their change bits are set, but not those of R462
(R454, R456). -/
def touchSpan (s : State) (launch lo hi : Nat) : State :=
  { s with changed := ((List.range 16).filter fun p => lo ≤ p && p < hi).foldl (fun c p => sadd c (counterKey launch p)) s.changed }

/-- A task with phase register `p` becomes a source or stops being one: it counts in every phase from Max(p, F) to 15 (R455). -/
def touchSource (s : State) (launch p : Nat) : State := touchSpan s launch (max p (frontier s launch)) 16

/-- Something of phase `p` of a launch is counted or stops being counted: the change bit of Max(p, F) is set (R453, R454). -/
def touchPhase (s : State) (launch p : Nat) : State := touch s launch (max p (frontier s launch))

/-- Something goes on counting in a phase at a reporter until a cycle that the spec leaves open (R455; log 78). -/
def passOn (launch p reporter : Nat) (s : State) : State :=
  touchPhase { s with passing := s.passing ++
    [⟨launch, p, reporter, s.now + 1 + Config.creditTime (s.nonce * 2 ^ 20 + s.passing.length)⟩] } launch p

/-- What has counted to its end counts no more (R455). -/
def settlePassing (s : State) : State :=
  (s.passing.filter fun x => x.ends ≤ s.now).foldl (fun s x => touchPhase s x.launch x.phase)
    { s with passing := s.passing.filter fun x => s.now < x.ends }

end Sys2Proof.Machine
end

