-- ==== Sys2Proof/Machine/Operands.lean ====
section
/-! DEFINITION. The operand forms: scalar second operands, addresses, the instruction image, rings, address registers. -/

namespace Sys2Proof.Machine

open Sys2Proof

/-! ### Scalar operands and addresses -/

/-- The second operand of an SR word: the extension word where X = 1, else s_B (R150, R185). -/
def opB (f : SRForm) (b : Bank) : Word := f.x.getD (b.rdS f.b)

/-- The address of an SM word: s_BASE + SignExtend(OFF9) × size, or s_BASE plus the unscaled extension word, modulo 2^32
(R151, R199). -/
def smAddr (b : Bank) (base : BitVec 5) (off : Int) (size : Nat) (x : Option Word) : Nat :=
  match x with
  | some w => (b.rdS base + w).toNat
  | none => (b.rdS base + BitVec.ofInt 32 (off * size)).toNat

/-- The address of an SM form. -/
def smFormAddr (f : SMForm) (b : Bank) (size : Nat) : Nat := smAddr b f.base f.off.toInt size f.x

/-- The address of LDS. -/
def ldsAddr (f : LDSForm) (b : Bank) : Nat := smAddr b f.base f.off.toInt 4 f.x

/-- Why an access of the S class traps, or where it lies: misaligned first, then out of range (R199). -/
def checkAddr (s : State) (b : Bank) (a size : Nat) : Except (BitVec 8) Nat :=
  if a % size ≠ 0 then .error causeMisaligned
  else match localKey s s.ctx.core b a with
    | none => .error causeAddrRange
    | some k => .ok k

/-! ### The instruction image (R123 to R127) -/

/-- A word of the image of a bank of a core. -/
def imWord (s : State) (c : Nat) (b : Bank) (a : Nat) : Word :=
  BitVec.ofNat 32 (readNat s ((Space.imem c).key (b.imBase + 4 * a)) 4)

/-- The words of the image. -/
def Bank.imWords (b : Bank) : Nat := b.imLen / 4

/-- The fetch line that holds a word address. -/
def lineOf (s : State) (c : Nat) (b : Bank) (a : Nat) : List Word :=
  (List.range lineWords).map fun i => imWord s c b (a / lineWords * lineWords + i)

/-- A bundle position of the image (R127). -/
def bundlePosition (s : State) (c : Nat) (b : Bank) (a : Nat) : Bool :=
  a < b.imWords && isBundlePosition (lineOf s c b a) (a % lineWords)

/-- The first start position of a line from `from` on that holds no pad word. -/
def nextInLine (line : List Word) (pos : Nat) : Option Nat :=
  (startPositions line).find? fun p => pos ≤ p && line.getD p padWord ≠ padWord

/-- The first header address at or after the head of a line, over lines that hold only pad words; `fuel` counts lines. At the
end of the image it answers the image's end. -/
def nextLineHead (s : State) (c : Nat) (b : Bank) : Nat → Nat → Nat
  | 0, a => a
  | fuel + 1, a =>
    if b.imWords ≤ a then a
    else match nextInLine (lineOf s c b a) 0 with
      | some p => a + p
      | none => nextLineHead s c b fuel (a + lineWords)

/-- The address at which the parse continues after the bundle at `a` (R195): the next start position that holds no pad
word, in this line or a later one. -/
def fallThrough (s : State) (c : Nat) (b : Bank) (a : Nat) : Nat :=
  let head := a / lineWords * lineWords
  match nextInLine (lineOf s c b a) (a % lineWords + 1) with
  | some p => head + p
  | none => nextLineHead s c b (b.imWords / lineWords + 1) (head + lineWords)

/-- The header address from which a bank issues next: pad words at its program counter are skipped (R126). -/
def issueAddr (s : State) (c : Nat) (b : Bank) : Nat :=
  let a := b.pc.toNat
  if a < b.imWords && imWord s c b a = padWord && (startPositions (lineOf s c b a)).contains (a % lineWords) then fallThrough s c b a
  else a

/-! ### Rings (R205, R226) -/

/-- The slot count. -/
def Ring.count (r : Ring) : Nat := 2 ^ r.lslots
/-- The slot size in bytes (R228). -/
def Ring.slotSize (r : Ring) : Nat := 2 ^ (7 + r.lsize)
/-- The pop position. -/
def Ring.popPos (r : Ring) : Nat := (r.rel + r.held.length) % r.count
/-- The fill position. -/
def Ring.fillPos (r : Ring) : Nat := (r.rel + r.held.length + r.taken.length) % r.count
/-- FILLED slots. -/
def Ring.filled (r : Ring) : Nat := (r.taken.filter fun t => t.filled).length
/-- FREE slots. -/
def Ring.free (r : Ring) : Nat := r.count - (r.held.length + r.taken.length)
/-- The byte offset of a slot in the scratchpad (R226). -/
def Ring.slotAddr (r : Ring) (i : Nat) : Nat := r.base + i * r.slotSize
/-- RCNT and RSTAT's result (R206, R229). -/
def Ring.counts (r : Ring) : Word :=
  BitVec.ofNat 32 (r.filled + r.free * 2 ^ 9 + r.held.length * 2 ^ 18)

/-- The slot at the pop position is FILLED. -/
def Ring.canPop (r : Ring) : Bool :=
  match r.taken with
  | t :: _ => t.filled
  | [] => false

/-- A reader may pop the slot at the pop position: it is FILLED, and no other reader has asked for it before (R205). -/
def Ring.canRead (r : Ring) (a : Asker) : Bool := r.canPop && (r.readers.isEmpty || r.readers.head? = some a)

/-- A reader asks for the slot at the pop position, once (R205). -/
def Ring.askRead (r : Ring) (a : Asker) : Ring := if r.readers.contains a then r else { r with readers := r.readers ++ [a] }

/-- A reader asks no more. -/
def Ring.readDone (r : Ring) (a : Asker) : Ring := { r with readers := r.readers.erase a }

/-- The slot at the pop position becomes HELD (R206). -/
def Ring.pop (r : Ring) (h : Holder) : Ring :=
  match r.taken with
  | _ :: ts => { r with held := r.held ++ [⟨h, false⟩], taken := ts }
  | [] => r

/-- The filler takes the slot at the fill position (R205). -/
def Ring.take (r : Ring) (f : Filler) : Ring := { r with taken := r.taken ++ [⟨f, false⟩] }

/-- A filler may take the slot at the fill position: it is FREE, and no other filler has asked for it before (R205). -/
def Ring.canTake (r : Ring) (a : Asker) : Bool := r.free ≠ 0 && (r.asks.isEmpty || r.asks.head? = some a)

/-- A filler asks for the slot at the fill position (R205). -/
def Ring.ask (r : Ring) (a : Asker) : Ring := { r with asks := r.asks ++ [a] }

/-- A filler has what it asked for. -/
def Ring.answered (r : Ring) (a : Asker) : Ring := { r with asks := r.asks.erase a }

/-- The slots that a filler has taken and not completed, in the order of taking. -/
def Ring.slotsOf (r : Ring) (f : Filler) : List Nat :=
  ((List.range r.taken.length).filter fun i => match r.taken[i]? with | some t => t.filler = f && !t.filled | none => false).map fun i =>
    (r.popPos + i) % r.count

/-- Mark the first slot that satisfies a test. -/
def markFirst {α : Type} (p : α → Bool) (f : α → α) : List α → List α
  | [] => []
  | x :: r => if p x then f x :: r else x :: markFirst p f r

/-- The oldest slot in progress of a filler becomes FILLED. -/
def Ring.fill (r : Ring) (f : Filler) : Ring :=
  { r with taken := markFirst (fun t => t.filler = f && !t.filled) (fun t => { t with filled := true }) r.taken }

/-- From the release position, each released slot becomes FREE (R206). -/
def Ring.settle (rel n : Nat) : List HeldSlot → Nat × List HeldSlot
  | [] => (rel, [])
  | h :: hs => if h.released then Ring.settle ((rel + 1) % n) n hs else (rel, h :: hs)

/-- The oldest slot of a holder that it has not released is released (R206, R310). -/
def Ring.release (r : Ring) (h : Holder) : Ring :=
  let held := markFirst (fun t => t.holder = h && !t.released) (fun t => { t with released := true }) r.held
  let x := Ring.settle r.rel r.count held
  { r with rel := x.1, held := x.2 }

/-- A holder holds a slot that it has not released. -/
def Ring.holds (r : Ring) (h : Holder) : Bool := r.held.any fun t => t.holder = h && !t.released

/-- A filler has a slot in progress. -/
def Ring.fills (r : Ring) (f : Filler) : Bool := r.taken.any fun t => t.filler = f && !t.filled

/-- Ring `k` of a bank. -/
def Bank.ring (b : Bank) (k : Nat) : Option Ring := b.rings[k]?

/-- Change ring `k` of a bank. -/
def Bank.modRing (b : Bank) (k : Nat) (f : Ring → Ring) : Bank := { b with rings := b.rings.modify k f }

/-! ### Address registers (R207, R223) -/

/-- Step (R207): exact, wrapped by MODULO, truncated. -/
def AddrReg.step (a : AddrReg) (inc : Int) : AddrReg :=
  let off := (a.base.toNat : Int) - a.org.toNat + inc
  let off := if a.modulo = 0 then off else off % (a.modulo.toNat : Int)
  { a with base := BitVec.ofInt 32 (a.org.toNat + off) }

/-- Swz (R223): the words of a 128-byte row permuted by the row number. -/
def swz (o : Nat) : Nat := o / 128 * 128 + ((o / 4 % 32) ^^^ (o / 128 % 32)) * 4 + o % 4

/-- The logical address of a V-memory word (R223). -/
def vmLa (f : VMForm) (b : Bank) : Nat := ((b.rdA f.ar).base + BitVec.ofInt 32 (f.off.toInt * 128)).toNat

end Sys2Proof.Machine
end

