-- ==== Sys2Proof/Machine/Flags.lean ====
section
/-! DEFINITION. The exception flags (R54, R55) and the rounding modes (R51 to R53). -/

namespace Sys2Proof.Machine

open Sys2Proof

/-- The rounding modes (R51). -/
inductive RMode where
  | rne | rtz | rdn | rup | rna
  deriving DecidableEq, Repr

/-- RND.MODE (R52). -/
def rmodeOfRnd (m : BitVec 3) : RMode :=
  if m = 1 then .rtz else if m = 2 then .rdn else if m = 3 then .rup else if m = 4 then .rna else .rne

/-- The effective mode of a rounding field (R53): code 0 is the mode in RND as it stood at issue. -/
def effMode (rm rnd : BitVec 3) : RMode :=
  if rm = 0 then rmodeOfRnd rnd
  else if rm = 2 then .rtz else if rm = 3 then .rdn else if rm = 4 then .rup else if rm = 5 then .rna else .rne

/-- A set of exception flags: NV, DZ, OF, UF, NX (R54). -/
structure Fl where
  nv : Bool
  dz : Bool
  of : Bool
  uf : Bool
  nx : Bool
  deriving DecidableEq, Repr

/-- No flag. -/
def Fl.none : Fl := ⟨false, false, false, false, false⟩
/-- Invalid operation. -/
def Fl.inv : Fl := ⟨true, false, false, false, false⟩
/-- Division by zero. -/
def Fl.div0 : Fl := ⟨false, true, false, false, false⟩

/-- Flags ORed together. -/
def Fl.or (a b : Fl) : Fl := ⟨a.nv || b.nv, a.dz || b.dz, a.of || b.of, a.uf || b.uf, a.nx || b.nx⟩

/-- All flags of a list ORed together. -/
def Fl.all (l : List Fl) : Fl := l.foldl Fl.or Fl.none

/-- The bits of FLAGS: NV 4, DZ 3, OF 2, UF 1, NX 0 (R54). -/
def Fl.bits (f : Fl) : BitVec 5 :=
  (((BitVec.ofBool f.nv ++ BitVec.ofBool f.dz : BitVec 2) ++ BitVec.ofBool f.of : BitVec 3) ++
    BitVec.ofBool f.uf : BitVec 4) ++ BitVec.ofBool f.nx

/-- The flags of five bits. -/
def Fl.ofBits (b : BitVec 5) : Fl := ⟨b.getLsbD 4, b.getLsbD 3, b.getLsbD 2, b.getLsbD 1, b.getLsbD 0⟩

/-- An instruction ORs its flags into FLAGS when its slot commits (R55). -/
def Bank.raise (b : Bank) (f : Fl) : Bank := { b with flags := b.flags ||| f.bits }

end Sys2Proof.Machine
end

