-- ==== Sys2Proof/Machine/Float.lean ====
section
/-! DEFINITION. Floating-point numbers (R46 to R62): decoded to exact values, combined exactly, rounded once. -/

namespace Sys2Proof.Machine

open Sys2Proof

/-- A decoded value: a NaN (signalling or quiet), an infinity, or (−1)^neg · m · 2^e, with a signed zero where m = 0. -/
inductive FVal where
  | nan (signalling : Bool)
  | inf (neg : Bool)
  | fin (neg : Bool) (m : Nat) (e : Int)
  deriving DecidableEq, Repr

/-- FP32, BF16 and FP16 (R46). -/
inductive FFmt where
  | f32 | bf16 | f16
  deriving DecidableEq, Repr

/-- Exponent bits. -/
def FFmt.eb : FFmt → Nat
  | .f32 => 8
  | .bf16 => 8
  | .f16 => 5
/-- Trailing significand bits. -/
def FFmt.mb : FFmt → Nat
  | .f32 => 23
  | .bf16 => 7
  | .f16 => 10
/-- Width in bits. -/
def FFmt.bits (t : FFmt) : Nat := 1 + t.eb + t.mb
/-- Bias. -/
def FFmt.bias (t : FFmt) : Nat := 2 ^ (t.eb - 1) - 1
/-- The exponent field of infinities and NaNs. -/
def FFmt.emaxField (t : FFmt) : Nat := 2 ^ t.eb - 1
/-- The sign bit. -/
def FFmt.sign (t : FFmt) (neg : Bool) : Nat := if neg then 2 ^ (t.eb + t.mb) else 0
/-- The canonical NaN (R46). -/
def FFmt.cnan (t : FFmt) : Nat := t.emaxField * 2 ^ t.mb + 2 ^ (t.mb - 1)
/-- An infinity. -/
def FFmt.infBits (t : FFmt) (neg : Bool) : Nat := t.sign neg + t.emaxField * 2 ^ t.mb
/-- The largest finite magnitude. -/
def FFmt.maxBits (t : FFmt) (neg : Bool) : Nat := t.sign neg + (t.emaxField * 2 ^ t.mb - 1)

/-- The float format of a type code (R149). -/
def fmtOf (t : BitVec 6) : FFmt := if t = 2 then .bf16 else if t = 3 then .f16 else .f32

/-- Decode a pattern (R46, R47). -/
def FFmt.decode (t : FFmt) (v : Nat) : FVal :=
  let m := v % 2 ^ t.mb
  let e := v / 2 ^ t.mb % 2 ^ t.eb
  let neg := v / 2 ^ (t.eb + t.mb) % 2 = 1
  if e = t.emaxField then (if m = 0 then .inf neg else .nan (m < 2 ^ (t.mb - 1)))
  else if e = 0 then .fin neg m (1 - (t.bias : Int) - t.mb)
  else .fin neg (2 ^ t.mb + m) ((e : Int) - t.bias - t.mb)

/-- Whether rounding goes away from zero, from the kept part's parity and the discarded part `rem` of `2^shift` (R51). -/
def roundsUp (mode : RMode) (neg odd : Bool) (rem half : Nat) : Bool :=
  match mode with
  | .rne => half < rem || (rem = half && odd)
  | .rna => half ≤ rem
  | .rtz => false
  | .rdn => neg && rem ≠ 0
  | .rup => !neg && rem ≠ 0

/-- `m · 2^e` rounded to a multiple of 2^q, as that multiple, and whether it is inexact. -/
def roundAt (mode : RMode) (neg : Bool) (m : Nat) (e q : Int) : Nat × Bool :=
  if q ≤ e then (m * 2 ^ (e - q).toNat, false)
  else
    let k := (q - e).toNat
    let r := m / 2 ^ k
    let rem := m % 2 ^ k
    (if roundsUp mode neg (r % 2 = 1) rem (2 ^ (k - 1)) then r + 1 else r, rem ≠ 0)

/-- The exponent of the leading bit of `m · 2^e`, m ≠ 0. -/
def leadExp (m : Nat) (e : Int) : Int := e + bitLen m - 1

/-- The result of rounding a non-zero magnitude to precision `mb + 1` with minimum exponent `emin` and no maximum:
the code (exponent steps above the subnormal range and trailing bits, in one number), inexact, and tiny after rounding (R54). -/
def roundCode (mb : Nat) (emin : Int) (mode : RMode) (neg : Bool) (m : Nat) (e : Int) : Nat × Bool × Bool :=
  let ex := leadExp m e
  let q := max (ex - mb) (emin - mb)
  let r := roundAt mode neg m e q
  let u := roundAt mode neg m e (ex - mb)
  ((q - (emin - mb)).toNat * 2 ^ mb + r.1, r.2, leadExp u.1 (ex - mb) < emin)

/-- The delivered magnitude on overflow is infinite, rather than the largest finite one (R51). -/
def overflowInf (mode : RMode) (neg : Bool) : Bool :=
  match mode with
  | .rne => true
  | .rna => true
  | .rtz => false
  | .rdn => neg
  | .rup => !neg

/-- Round a finite value once to a format (R56); `sat` delivers the largest finite value on overflow (R262). -/
def FFmt.round (t : FFmt) (mode : RMode) (sat : Bool) (neg : Bool) (m : Nat) (e : Int) : Nat × Fl :=
  if m = 0 then (t.sign neg, Fl.none)
  else
    let c := roundCode t.mb (1 - (t.bias : Int)) mode neg m e
    if t.emaxField * 2 ^ t.mb ≤ c.1 then
      (if !sat && overflowInf mode neg then t.infBits neg else t.maxBits neg, ⟨false, false, true, false, true⟩)
    else (t.sign neg + c.1, ⟨false, false, false, c.2.2 && c.2.1, c.2.1⟩)

/-- Encode a value: NaN to the canonical NaN, infinities kept, finite values rounded. -/
def FFmt.encode (t : FFmt) (mode : RMode) (sat : Bool) : FVal → Nat × Fl
  | .nan _ => (t.cnan, Fl.none)
  | .inf n => (t.infBits n, Fl.none)
  | .fin n m e => t.round mode sat n m e

/-! ### Exact sums of products -/

/-- A signalling NaN. -/
def FVal.isSnan : FVal → Bool
  | .nan s => s
  | _ => false
/-- Any NaN. -/
def FVal.isNan : FVal → Bool
  | .nan _ => true
  | _ => false
/-- An infinity. -/
def FVal.isInf : FVal → Bool
  | .inf _ => true
  | _ => false
/-- A zero. -/
def FVal.isZero : FVal → Bool
  | .fin _ m _ => m = 0
  | _ => false
/-- The sign. -/
def FVal.neg : FVal → Bool
  | .nan _ => false
  | .inf n => n
  | .fin n _ _ => n
/-- Exact negation. -/
def FVal.negate : FVal → FVal
  | .nan s => .nan s
  | .inf n => .inf (!n)
  | .fin n m e => .fin (!n) m e

/-- The signed zero and one of an exact value. -/
def FVal.zero : FVal := .fin false 0 0
def FVal.one : FVal := .fin false 1 0

/-- The exact product of factors without NaN, an infinity included. -/
def FVal.mul : FVal → FVal → FVal
  | .fin n m e, .fin n' m' e' => .fin (n != n') (m * m') (e + e')
  | .nan s, _ => .nan s
  | _, .nan s => .nan s
  | a, b => .inf (a.neg != b.neg)

/-- A product 0 × ∞ among the factors of a term: invalid also where a NaN stands beside them (R56). -/
def termInvalid (t : List FVal) : Bool := t.any FVal.isInf && t.any FVal.isZero

/-- The value of a term, a product of factors. -/
def termVal (t : List FVal) : FVal := t.foldl FVal.mul FVal.one

/-- The signed integer of a finite value at exponent `q`, where q ≤ e. -/
def FVal.at (q : Int) : FVal → Int
  | .fin n m e => (if n then -1 else 1) * ((m * 2 ^ (e - q).toNat : Nat) : Int)
  | _ => 0

/-- The exponent of a finite value, or a bound. -/
def FVal.expOr (d : Int) : FVal → Int
  | .fin _ m e => if m = 0 then d else min d e
  | _ => d

/-- The least exponent among finite values; 0 bounds it above. -/
def minExp (vs : List FVal) : Int := vs.foldl (fun q v => v.expOr q) 0

/-- The exact sum of finite values, with the sign of an exact zero of R56. -/
def sumFinite (mode : RMode) (vs : List FVal) : FVal :=
  let q := minExp vs
  let t := vs.foldl (fun a v => a + v.at q) (0 : Int)
  if t = 0 then
    (if vs.all fun v => v.neg then .fin true 0 0
     else if vs.any fun v => v.neg then .fin (mode = .rdn) 0 0
     else .fin false 0 0)
  else .fin (t < 0) t.natAbs q

/-- The exact value of a sum of terms, each a product, and the flags of invalid operations and signalling NaNs (R56). A quiet NaN
hides no invalid combination. -/
def sumTerms (mode : RMode) (ts : List (List FVal)) : FVal × Fl :=
  let vals := ts.map termVal
  let clean := (ts.filter fun t => !t.any FVal.isNan).map termVal
  let infs := clean.filter FVal.isInf
  let invalid := ts.any termInvalid || (infs.any FVal.neg && infs.any fun v => !v.neg)
  let snan := ts.any fun t => t.any FVal.isSnan
  let fl := if invalid || snan then Fl.inv else Fl.none
  if invalid || ts.any (fun t => t.any FVal.isNan) then (.nan false, fl)
  else match infs with
    | v :: _ => (v, fl)
    | [] => (sumFinite mode vals, fl)

/-- A sum of terms rounded once to a format (R56). -/
def FFmt.roundTerms (t : FFmt) (mode : RMode) (ts : List (List FVal)) : Nat × Fl :=
  let x := sumTerms mode ts
  let r := t.encode mode false x.1
  (r.1, x.2.or r.2)

/-- RoundNE(a + b, FP32) on patterns. -/
def addNE32 (a b : Nat) : Nat × Fl := FFmt.f32.roundTerms .rne [[FFmt.f32.decode a], [FFmt.f32.decode b]]

/-! ### Order -/

/-- −1, 0 or 1 as a finite or infinite value lies below, at or above another; zeros are equal. -/
def FVal.cmp (a b : FVal) : Int :=
  match a, b with
  | .inf n, .inf n' => if n = n' then 0 else if n then -1 else 1
  | .inf n, _ => if n then -1 else 1
  | _, .inf n => if n then 1 else -1
  | _, _ =>
    let q := min (a.expOr 0) (b.expOr 0)
    let d := a.at q - b.at q
    if d < 0 then -1 else if d = 0 then 0 else 1

/-- The order of R251: as `cmp`, with −0 below +0. -/
def FVal.below (a b : FVal) : Bool := a.cmp b < 0 || (a.cmp b = 0 && a.neg && !b.neg)

/-- Minimum and maximum of patterns (R68, R251): a NaN gives the canonical NaN, a signalling one NV. -/
def FFmt.minMax (t : FFmt) (isMax : Bool) (x y : Nat) : Nat × Fl :=
  let a := t.decode x
  let b := t.decode y
  if a.isNan || b.isNan then (t.cnan, if a.isSnan || b.isSnan then Fl.inv else Fl.none)
  else (if a.below b then (if isMax then y else x) else (if isMax then x else y), Fl.none)

/-! ### binary8 (R49, R50, R59, R60) -/

/-- A binary8 format: precision, unsigned, extended (R149: code 4P + 2U + X). -/
structure B8 where
  p : Nat
  u : Bool
  x : Bool
  deriving DecidableEq, Repr

/-- The binary8 format of a type code. -/
def b8Of (t : BitVec 6) : B8 := ⟨t.toNat / 4, t.toNat / 2 % 2 = 1, t.toNat % 2 = 1⟩
/-- Its NaN code. -/
def B8.nan (f : B8) : Nat := if f.u then 0xFF else 0x80
/-- Its bias. -/
def B8.bias (f : B8) : Nat := if f.u then 2 ^ (8 - f.p) else 2 ^ (7 - f.p)
/-- The magnitude code of M, the largest finite magnitude (R50). -/
def B8.maxMag (f : B8) : Nat := (if f.u then 0xFE else 0x7F) - (if f.x then 1 else 0)
/-- The sign bit of a code. -/
def B8.sign (f : B8) (neg : Bool) : Nat := if neg && !f.u then 0x80 else 0

/-- Decode8 (R49). -/
def B8.decode (f : B8) (c : Nat) : FVal :=
  if c = f.nan then .nan false
  else
    let neg := !f.u && 0x80 ≤ c
    let mag := if f.u then c else c % 0x80
    if f.x && mag = f.maxMag + 1 then .inf neg
    else
      let e := mag / 2 ^ (f.p - 1)
      let m := mag % 2 ^ (f.p - 1)
      if mag = 0 then .fin false 0 0
      else if e = 0 then .fin neg m (2 - (f.bias : Int) - f.p)
      else .fin neg (2 ^ (f.p - 1) + m) ((e : Int) - f.bias - (f.p - 1))

/-- Conversion to binary8 (R59, R60). -/
def B8.encode (f : B8) (mode : RMode) (sat : Bool) : FVal → Nat × Fl
  | .nan _ => (f.nan, Fl.none)
  | .inf neg =>
    if f.u && neg then (f.nan, Fl.inv)
    else if f.x then (f.sign neg + f.maxMag + 1, Fl.none)
    else if sat then (f.sign neg + f.maxMag, ⟨false, false, false, false, true⟩)
    else (f.nan, Fl.inv)
  | .fin neg m e =>
    if m = 0 then (0, Fl.none)
    else
      let c := roundCode (f.p - 1) (1 - (f.bias : Int)) mode neg m e
      let fl : Fl := ⟨false, false, false, c.2.2 && c.2.1, c.2.1⟩
      if c.1 = 0 then (0, fl)
      else if f.u && neg then (f.nan, Fl.inv)
      else if f.maxMag < c.1 then
        let big := if sat then f.sign neg + f.maxMag else if f.x then f.sign neg + f.maxMag + 1 else f.nan
        (if overflowInf mode neg then big else f.sign neg + f.maxMag, ⟨false, false, true, false, true⟩)
      else (f.sign neg + c.1, fl)

/-! ### Integers (R61, R62) -/

/-- The range of an integer type code: I32, I16, I8, UI8 (R48, R149). -/
def intRange (t : BitVec 6) : Int × Int :=
  if t = 0x20 then (-2 ^ 31, 2 ^ 31 - 1)
  else if t = 0x21 then (-2 ^ 15, 2 ^ 15 - 1)
  else if t = 0x22 then (-128, 127) else (0, 255)

/-- The integer that a lane holds: UI8 unsigned, the others signed (R263). -/
def intOfLane (t : BitVec 6) (v : Nat) : Int := if t = 0x23 then v else sext v (laneBits t)

/-- A finite value rounded to an integer, and whether it was inexact. -/
def roundInt (mode : RMode) (neg : Bool) (m : Nat) (e : Int) : Int × Bool :=
  let r := roundAt mode neg m e 0
  (if neg then -(r.1 : Int) else r.1, r.2)

/-- Conversion to an integer type (R61): it saturates with NV. -/
def toInteger (t : BitVec 6) (mode : RMode) : FVal → Int × Fl
  | .nan _ => (0, Fl.inv)
  | .inf neg => (if neg then (intRange t).1 else (intRange t).2, Fl.inv)
  | .fin neg m e =>
    let r := roundInt mode neg m e
    if r.1 < (intRange t).1 then ((intRange t).1, Fl.inv)
    else if (intRange t).2 < r.1 then ((intRange t).2, Fl.inv)
    else (r.1, ⟨false, false, false, false, r.2⟩)

/-- An integer as an exact value. -/
def FVal.ofInt (i : Int) : FVal := .fin (i < 0) i.natAbs 0

/-! ### The functions of R254 -/

/-- A positive result with a sticky half below its last place, where it is not exact. -/
def stickied (r : Nat) (exact : Bool) (e : Int) : Nat × Int := if exact then (r, e) else (2 * r + 1, e - 1)

/-- 1 ÷ (m · 2^e). -/
def recipNat (m : Nat) (e : Int) : Nat × Int :=
  let k := bitLen m + 64
  stickied (2 ^ k / m) (2 ^ k % m = 0) (-e - k)

/-- √(m · 2^e). -/
def sqrtNat (m : Nat) (e : Int) : Nat × Int :=
  let odd := e % 2 ≠ 0
  let m := (if odd then 2 * m else m) * 2 ^ 96
  let e := (if odd then e - 1 else e) - 96
  let r := isqrt 80 m
  stickied r (r * r = m) (e / 2)

/-- 1 ÷ √(m · 2^e). -/
def rsqrtNat (m : Nat) (e : Int) : Nat × Int :=
  let odd := e % 2 ≠ 0
  let m := if odd then 2 * m else m
  let e := if odd then e - 1 else e
  let k := 160 + 2 * bitLen m
  let r := isqrt (100 + bitLen m) (2 ^ k / m)
  stickied r (r * r * m = 2 ^ k) (-(e / 2) - k / 2)

/-- Fraction digits of the fixed-point work of 2^x. -/
def expDigits : Nat := 320

/-- The product of 2^(2^-i) over the one bits of a fraction, bit `n - 1` first: `root` is 2^(2^-i) in fixed point. -/
def exp2Bits : Nat → Nat → Nat → Nat → Nat
  | 0, _, _, acc => acc
  | n + 1, frac, root, acc =>
    let root := isqrt (expDigits + 2) (root * 2 ^ expDigits)
    exp2Bits n frac root (if frac / 2 ^ n % 2 = 1 then acc * root / 2 ^ expDigits else acc)

/-- 2^x for x = (−1)^neg · m · 2^e: exact for integers, else irrational and held to 300 digits. Beyond ±1,024 the exponent
is held at that bound, where every format has overflowed or underflowed. -/
def exp2Val (neg : Bool) (m : Nat) (e : Int) : Nat × Int :=
  if 0 ≤ e then
    let n : Int := (min (m * 2 ^ (min e 11).toNat) 1024 : Nat)
    (1, if neg then -n else n)
  else
    let k := (-e).toNat
    let i : Int := (min (m / 2 ^ k) 1024 : Nat)
    let f := m % 2 ^ k
    if f = 0 then (1, if neg then -i else i)
    else
      let fl : Int := if neg then -i - 1 else i
      let fr := if neg then 2 ^ k - f else f
      stickied (exp2Bits k fr (2 * 2 ^ expDigits) (2 ^ expDigits)) false (fl - expDigits)

/-- Digits of log2 of a number in [1, 2), by squaring, in fixed point of 400 digits. -/
def log2Bits : Nat → Nat → Nat → Nat
  | 0, _, acc => acc
  | n + 1, f, acc =>
    let g := f * f / 2 ^ 400
    if 2 * 2 ^ 400 ≤ g then log2Bits n (g / 2) (2 * acc + 1) else log2Bits n g (2 * acc)

/-- log2 of m · 2^e, m ≠ 0: exact for powers of two, else irrational and held to 160 fraction digits. -/
def log2Val (m : Nat) (e : Int) : FVal :=
  let n := bitLen m
  let i : Int := e + n - 1
  if m = 2 ^ (n - 1) then FVal.ofInt i
  else
    let f := log2Bits 160 (m * 2 ^ (400 - (n - 1))) 0
    let t : Int := i * 2 ^ 160 + f
    if 0 ≤ t then .fin false (2 * t.natAbs + 1) (-161) else .fin true (2 * t.natAbs - 1) (-161)

/-- The five functions of R254. -/
inductive FFun where
  | exp2 | log2 | rcp | rsq | sqrt
  deriving DecidableEq, Repr

/-- The exact value of a function, with the special cases and flags of R254. -/
def FFun.eval (g : FFun) (x : FVal) : FVal × Fl :=
  match x with
  | .nan sig => (.nan false, if sig then Fl.inv else Fl.none)
  | .inf neg =>
    match g with
    | .exp2 => (if neg then .fin false 0 0 else .inf false, Fl.none)
    | .log2 => if neg then (.nan false, Fl.inv) else (.inf false, Fl.none)
    | .rcp => (.fin neg 0 0, Fl.none)
    | .rsq => if neg then (.nan false, Fl.inv) else (.fin false 0 0, Fl.none)
    | .sqrt => if neg then (.nan false, Fl.inv) else (.inf false, Fl.none)
  | .fin neg m e =>
    if m = 0 then
      match g with
      | .exp2 => (FVal.one, Fl.none)
      | .log2 => (.inf true, Fl.div0)
      | .rcp => (.inf neg, Fl.div0)
      | .rsq => (.inf neg, Fl.div0)
      | .sqrt => (.fin neg 0 0, Fl.none)
    else
      match g with
      | .exp2 => (let r := exp2Val neg m e; .fin false r.1 r.2, Fl.none)
      | .log2 => if neg then (.nan false, Fl.inv) else (log2Val m e, Fl.none)
      | .rcp => (let r := recipNat m e; .fin neg r.1 r.2, Fl.none)
      | .rsq => if neg then (.nan false, Fl.inv) else (let r := rsqrtNat m e; .fin false r.1 r.2, Fl.none)
      | .sqrt => if neg then (.nan false, Fl.inv) else (let r := sqrtNat m e; .fin false r.1 r.2, Fl.none)

end Sys2Proof.Machine
end

