-- ==== Sys2Proof/Machine/Vector.lean ====
section
/-! DEFINITION. Lanes, masks, and the vector arithmetic, compare, integer and bitwise instructions (R242 to R244, R250 to R260,
R284, R285). -/

namespace Sys2Proof.Machine

open Sys2Proof

/-! ### Lanes and masks -/

/-- Lane `i` of `w` bits is active: the mask bit of its lowest byte (R243). -/
def laneOn (mask : MWord) (w i : Nat) : Bool := mask.getLsbD (i * w / 8)

/-- A register whose active lanes of `w` bits are written and whose other lanes keep their bits (R244). -/
def writeLanes (w : Nat) (mask : MWord) (old : VWord) (f : Nat → Nat) : VWord :=
  buildLanes (1024 / w) w fun i => if laneOn mask w i then f i else lane old i w

/-- The flags of the active lanes among the first `n` (R55, R244). -/
def laneFlags (w n : Nat) (mask : MWord) (f : Nat → Fl) : Fl :=
  Fl.all (((List.range n).filter fun i => laneOn mask w i).map f)

/-- A mask whose bits are each lane's result in every byte of the lane; inactive lanes are written 0 (R243, R253). -/
def maskOfLanes (w : Nat) (mask : MWord) (f : Nat → Bool) : MWord :=
  BitVec.ofNat 128 (ofLanes (w / 8) ((List.range (1024 / w)).map fun i =>
    if laneOn mask w i && f i then 2 ^ (w / 8) - 1 else 0))

/-- A lane-wise instruction on integers: sources and the old destination as lanes of `w` bits, no flags (R244, R256). -/
def laneBody (f : VRForm) (w : Nat) (op : Nat → Nat → Nat → Nat) (s : State) : State :=
  s.modBank fun b =>
    let x := b.rdV f.a
    let y := b.rdV f.b
    let d := b.rdV f.d
    b.wrV f.d (writeLanes w (b.rdM f.msk) d fun i => op (lane x i w) (lane y i w) (lane d i w))

/-- A lane-wise float instruction: each active lane's result and flags; the flags go to FLAGS (R55, R244, R250). -/
def floatBody (f : VRForm) (t : FFmt) (op : RMode → Nat → Nat → Nat → Nat × Fl) (s : State) : State :=
  s.modBank fun b =>
    let x := b.rdV f.a
    let y := b.rdV f.b
    let d := b.rdV f.d
    let r := fun i => op (effMode f.rm b.issueRnd) (lane x i t.bits) (lane y i t.bits) (lane d i t.bits)
    (b.wrV f.d (writeLanes t.bits (b.rdM f.msk) d fun i => (r i).1)).raise
      (laneFlags t.bits (1024 / t.bits) (b.rdM f.msk) fun i => (r i).2)

/-! ### Float arithmetic (R250) -/

/-- a + b. -/
def fAdd (t : FFmt) (m : RMode) (a b _ : Nat) : Nat × Fl := t.roundTerms m [[t.decode a], [t.decode b]]
/-- a − b. -/
def fSub (t : FFmt) (m : RMode) (a b _ : Nat) : Nat × Fl := t.roundTerms m [[t.decode a], [(t.decode b).negate]]
/-- a × b. -/
def fMul (t : FFmt) (m : RMode) (a b _ : Nat) : Nat × Fl := t.roundTerms m [[t.decode a, t.decode b]]
/-- a × b + d. -/
def fMa (t : FFmt) (m : RMode) (a b d : Nat) : Nat × Fl := t.roundTerms m [[t.decode a, t.decode b], [t.decode d]]
/-- a × b − d. -/
def fMs (t : FFmt) (m : RMode) (a b d : Nat) : Nat × Fl := t.roundTerms m [[t.decode a, t.decode b], [(t.decode d).negate]]
/-- −(a × b) + d. -/
def fNma (t : FFmt) (m : RMode) (a b d : Nat) : Nat × Fl := t.roundTerms m [[(t.decode a).negate, t.decode b], [t.decode d]]

/-- VFCLAMP (R252): Min(Max(x, lo), hi), with x = vD, lo = vA, hi = vB. -/
def fClamp (t : FFmt) (lo hi x : Nat) : Nat × Fl :=
  let fl := if (t.decode lo).isSnan || (t.decode hi).isSnan || (t.decode x).isSnan then Fl.inv else Fl.none
  if (t.decode lo).isNan || (t.decode hi).isNan || (t.decode x).isNan then (t.cnan, fl)
  else ((t.minMax false (t.minMax true x lo).1 hi).1, fl)

/-- The condition of VFCMP (R253). -/
def fCond (c : BitVec 4) (a b : FVal) : Bool :=
  let un := a.isNan || b.isNan
  match c.toNat with
  | 0 => !un && a.cmp b = 0
  | 1 => un || a.cmp b ≠ 0
  | 2 => !un && a.cmp b < 0
  | 3 => !un && a.cmp b ≤ 0
  | 4 => !un && 0 < a.cmp b
  | 5 => !un && 0 ≤ a.cmp b
  | 6 => un
  | _ => !un

/-- NV of VFCMP (R253): any NaN for LT, LE, GT and GE, a signalling one for the others. -/
def fCondFlags (c : BitVec 4) (a b : FVal) : Fl :=
  let any := a.isNan || b.isNan
  let sig := a.isSnan || b.isSnan
  if (if 2 ≤ c.toNat && c.toNat ≤ 5 then any else sig) then Fl.inv else Fl.none

/-- VFCMP (R253). -/
def fCmpBody (f : VRForm) (t : FFmt) (s : State) : State :=
  s.modBank fun b =>
    let x := fun i => t.decode (lane (b.rdV f.a) i t.bits)
    let y := fun i => t.decode (lane (b.rdV f.b) i t.bits)
    (b.wrM (lo3 f.d) (maskOfLanes t.bits (b.rdM f.msk) fun i => fCond f.cnd (x i) (y i))).raise
      (laneFlags t.bits (1024 / t.bits) (b.rdM f.msk) fun i => fCondFlags f.cnd (x i) (y i))

/-- A function of R254, rounded once to FP32. -/
def fFun (g : FFun) (m : RMode) (a _ _ : Nat) : Nat × Fl :=
  let x := g.eval (FFmt.f32.decode a)
  let r := FFmt.f32.encode m false x.1
  (r.1, x.2.or r.2)

/-- VFRND (R255): the integral value nearest in the mode, the sign of zero kept, NX never raised. -/
def fRnd (m : RMode) (a _ _ : Nat) : Nat × Fl :=
  match FFmt.f32.decode a with
  | .nan sig => (FFmt.f32.cnan, if sig then Fl.inv else Fl.none)
  | .inf n => (FFmt.f32.infBits n, Fl.none)
  | .fin n x e => ((FFmt.f32.round m false n (roundAt m n x e 0).1 0).1, Fl.none)

/-- VFCLASS (R255): the bit of the class. -/
def fClass (a : Nat) : Nat :=
  match FFmt.f32.decode a with
  | .nan sig => if sig then 2 ^ 8 else 2 ^ 9
  | .inf n => if n then 1 else 2 ^ 7
  | .fin n m e =>
    if m = 0 then (if n then 2 ^ 3 else 2 ^ 4)
    else if m < 2 ^ 23 && e = -149 then (if n then 2 ^ 2 else 2 ^ 5)
    else if n then 2 ^ 1 else 2 ^ 6

/-- d + t × (a − d), exact and rounded once; with infinities each step follows R56 (R284). -/
def fLerp (t : FFmt) (m : RMode) (a w d : Nat) : Nat × Fl :=
  let av := t.decode a
  let wv := t.decode w
  let dv := t.decode d
  let snan := av.isSnan || wv.isSnan || dv.isSnan
  let u := sumTerms m [[av], [dv.negate]]
  let y := sumTerms m [[wv, u.1], [dv]]
  let r := t.encode m false y.1
  (r.1, ((if snan then Fl.inv else Fl.none).or (u.2.or y.2)).or r.2)


/-- VFADD (R250). -/
def execVfaddF32 (f : VRForm) (s : State) : Result := guarded f.g s (floatBody f .f32 (fAdd .f32))
/-- VFADD (R250). -/
def execVfaddBf16 (f : VRForm) (s : State) : Result := guarded f.g s (floatBody f .bf16 (fAdd .bf16))
/-- VFADD (R250). -/
def execVfaddF16 (f : VRForm) (s : State) : Result := guarded f.g s (floatBody f .f16 (fAdd .f16))
/-- VFSUB (R250). -/
def execVfsubF32 (f : VRForm) (s : State) : Result := guarded f.g s (floatBody f .f32 (fSub .f32))
/-- VFSUB (R250). -/
def execVfsubBf16 (f : VRForm) (s : State) : Result := guarded f.g s (floatBody f .bf16 (fSub .bf16))
/-- VFSUB (R250). -/
def execVfsubF16 (f : VRForm) (s : State) : Result := guarded f.g s (floatBody f .f16 (fSub .f16))
/-- VFMUL (R250). -/
def execVfmulF32 (f : VRForm) (s : State) : Result := guarded f.g s (floatBody f .f32 (fMul .f32))
/-- VFMUL (R250). -/
def execVfmulBf16 (f : VRForm) (s : State) : Result := guarded f.g s (floatBody f .bf16 (fMul .bf16))
/-- VFMUL (R250). -/
def execVfmulF16 (f : VRForm) (s : State) : Result := guarded f.g s (floatBody f .f16 (fMul .f16))
/-- VFMA (R250). -/
def execVfmaF32 (f : VRForm) (s : State) : Result := guarded f.g s (floatBody f .f32 (fMa .f32))
/-- VFMA (R250). -/
def execVfmaBf16 (f : VRForm) (s : State) : Result := guarded f.g s (floatBody f .bf16 (fMa .bf16))
/-- VFMA (R250). -/
def execVfmaF16 (f : VRForm) (s : State) : Result := guarded f.g s (floatBody f .f16 (fMa .f16))
/-- VFMS (R250). -/
def execVfmsF32 (f : VRForm) (s : State) : Result := guarded f.g s (floatBody f .f32 (fMs .f32))
/-- VFMS (R250). -/
def execVfmsBf16 (f : VRForm) (s : State) : Result := guarded f.g s (floatBody f .bf16 (fMs .bf16))
/-- VFMS (R250). -/
def execVfmsF16 (f : VRForm) (s : State) : Result := guarded f.g s (floatBody f .f16 (fMs .f16))
/-- VFNMA (R250). -/
def execVfnmaF32 (f : VRForm) (s : State) : Result := guarded f.g s (floatBody f .f32 (fNma .f32))
/-- VFNMA (R250). -/
def execVfnmaBf16 (f : VRForm) (s : State) : Result := guarded f.g s (floatBody f .bf16 (fNma .bf16))
/-- VFNMA (R250). -/
def execVfnmaF16 (f : VRForm) (s : State) : Result := guarded f.g s (floatBody f .f16 (fNma .f16))
/-- VFMIN (R251). -/
def execVfminF32 (f : VRForm) (s : State) : Result := guarded f.g s (floatBody f .f32 fun _ a b _ => FFmt.minMax .f32 false a b)
/-- VFMIN (R251). -/
def execVfminBf16 (f : VRForm) (s : State) : Result := guarded f.g s (floatBody f .bf16 fun _ a b _ => FFmt.minMax .bf16 false a b)
/-- VFMIN (R251). -/
def execVfminF16 (f : VRForm) (s : State) : Result := guarded f.g s (floatBody f .f16 fun _ a b _ => FFmt.minMax .f16 false a b)
/-- VFMAX (R251). -/
def execVfmaxF32 (f : VRForm) (s : State) : Result := guarded f.g s (floatBody f .f32 fun _ a b _ => FFmt.minMax .f32 true a b)
/-- VFMAX (R251). -/
def execVfmaxBf16 (f : VRForm) (s : State) : Result := guarded f.g s (floatBody f .bf16 fun _ a b _ => FFmt.minMax .bf16 true a b)
/-- VFMAX (R251). -/
def execVfmaxF16 (f : VRForm) (s : State) : Result := guarded f.g s (floatBody f .f16 fun _ a b _ => FFmt.minMax .f16 true a b)
/-- VFCMP (R253). -/
def execVfcmpF32 (f : VRForm) (s : State) : Result := guarded f.g s (fCmpBody f .f32)
/-- VFCMP (R253). -/
def execVfcmpBf16 (f : VRForm) (s : State) : Result := guarded f.g s (fCmpBody f .bf16)
/-- VFCMP (R253). -/
def execVfcmpF16 (f : VRForm) (s : State) : Result := guarded f.g s (fCmpBody f .f16)
/-- VFCLAMP (R252). -/
def execVfclampF32 (f : VRForm) (s : State) : Result := guarded f.g s (floatBody f .f32 fun _ a b d => fClamp .f32 a b d)
/-- VFCLAMP (R252). -/
def execVfclampBf16 (f : VRForm) (s : State) : Result := guarded f.g s (floatBody f .bf16 fun _ a b d => fClamp .bf16 a b d)
/-- VFCLAMP (R252). -/
def execVfclampF16 (f : VRForm) (s : State) : Result := guarded f.g s (floatBody f .f16 fun _ a b d => fClamp .f16 a b d)
/-- VEXP2 (R254). -/
def execVexp2 (f : VRForm) (s : State) : Result := guarded f.g s (floatBody f .f32 (fFun .exp2))
/-- VLOG2 (R254). -/
def execVlog2 (f : VRForm) (s : State) : Result := guarded f.g s (floatBody f .f32 (fFun .log2))
/-- VRCP (R254). -/
def execVrcp (f : VRForm) (s : State) : Result := guarded f.g s (floatBody f .f32 (fFun .rcp))
/-- VRSQ (R254). -/
def execVrsq (f : VRForm) (s : State) : Result := guarded f.g s (floatBody f .f32 (fFun .rsq))
/-- VSQRT (R254). -/
def execVsqrt (f : VRForm) (s : State) : Result := guarded f.g s (floatBody f .f32 (fFun .sqrt))
/-- VFRND (R255). -/
def execVfrnd (f : VRForm) (s : State) : Result := guarded f.g s (floatBody f .f32 fRnd)
/-- VFCLASS (R255): no flag. -/
def execVfclass (f : VRForm) (s : State) : Result := guarded f.g s (laneBody f 32 fun a _ _ => fClass a)

/-! ### Integer arithmetic (R256 to R259) -/

/-- The smaller of two lanes, unsigned with Q = 1 (R256). -/
def iMin (q : Bool) (w a b : Nat) : Nat := if (if q then a < b else sext a w < sext b w) then a else b
/-- The larger of two lanes (R256). -/
def iMax (q : Bool) (w a b : Nat) : Nat := if (if q then b < a else sext b w < sext a w) then a else b
/-- The absolute value; the most negative number stays (R256). -/
def iAbs (w a : Nat) : Nat := truncInt (sext a w).natAbs w
/-- VMULH (R256). -/
def iMulh (q : Bool) (a b : Nat) : Nat := if q then a * b / 2 ^ 32 else truncInt (sext a 32 * sext b 32 / 2 ^ 32) 32
/-- A saturating sum or difference (R258). -/
def iSat (q sub : Bool) (w a b : Nat) : Nat :=
  let x : Int := if q then a else sext a w
  let y : Int := if q then b else sext b w
  let v := if sub then x - y else x + y
  truncInt (if q then satInt v 0 (2 ^ w - 1) else satInt v (-2 ^ (w - 1)) (2 ^ (w - 1) - 1)) w
/-- The condition of an integer compare: EQ, NE, LT, LE, GT, GE (R259). -/
def iCond (q : Bool) (c : BitVec 4) (w a b : Nat) : Bool :=
  let x : Int := if q then a else sext a w
  let y : Int := if q then b else sext b w
  match c.toNat with
  | 0 => a = b
  | 1 => a ≠ b
  | 2 => x < y
  | 3 => x ≤ y
  | 4 => y < x
  | _ => y ≤ x

/-- VCMP (R259). -/
def iCmpBody (f : VRForm) (w : Nat) (s : State) : State :=
  s.modBank fun b =>
    b.wrM (lo3 f.d) (maskOfLanes w (b.rdM f.msk) fun i =>
      iCond f.q f.cnd w (lane (b.rdV f.a) i w) (lane (b.rdV f.b) i w))

/-- The arithmetic shift right of a lane (R257). -/
def iSra (w a k : Nat) : Nat := truncInt (sext a w / 2 ^ k) w

/-- VADD (R256). -/
def execVaddI32 (f : VRForm) (s : State) : Result := guarded f.g s (laneBody f 32 fun a b _ => (a + b) % 2 ^ 32)
/-- VADD (R256). -/
def execVaddI16 (f : VRForm) (s : State) : Result := guarded f.g s (laneBody f 16 fun a b _ => (a + b) % 2 ^ 16)
/-- VADD (R256). -/
def execVaddI8 (f : VRForm) (s : State) : Result := guarded f.g s (laneBody f 8 fun a b _ => (a + b) % 2 ^ 8)
/-- VSUB (R256). -/
def execVsubI32 (f : VRForm) (s : State) : Result := guarded f.g s (laneBody f 32 fun a b _ => (a + 2 ^ 32 - b) % 2 ^ 32)
/-- VSUB (R256). -/
def execVsubI16 (f : VRForm) (s : State) : Result := guarded f.g s (laneBody f 16 fun a b _ => (a + 2 ^ 16 - b) % 2 ^ 16)
/-- VSUB (R256). -/
def execVsubI8 (f : VRForm) (s : State) : Result := guarded f.g s (laneBody f 8 fun a b _ => (a + 2 ^ 8 - b) % 2 ^ 8)
/-- VMUL (R256). -/
def execVmulI32 (f : VRForm) (s : State) : Result := guarded f.g s (laneBody f 32 fun a b _ => a * b % 2 ^ 32)
/-- VMUL (R256). -/
def execVmulI16 (f : VRForm) (s : State) : Result := guarded f.g s (laneBody f 16 fun a b _ => a * b % 2 ^ 16)
/-- VMUL (R256). -/
def execVmulI8 (f : VRForm) (s : State) : Result := guarded f.g s (laneBody f 8 fun a b _ => a * b % 2 ^ 8)
/-- VMIN (R256). -/
def execVminI32 (f : VRForm) (s : State) : Result := guarded f.g s (laneBody f 32 fun a b _ => iMin f.q 32 a b)
/-- VMIN (R256). -/
def execVminI16 (f : VRForm) (s : State) : Result := guarded f.g s (laneBody f 16 fun a b _ => iMin f.q 16 a b)
/-- VMIN (R256). -/
def execVminI8 (f : VRForm) (s : State) : Result := guarded f.g s (laneBody f 8 fun a b _ => iMin f.q 8 a b)
/-- VMAX (R256). -/
def execVmaxI32 (f : VRForm) (s : State) : Result := guarded f.g s (laneBody f 32 fun a b _ => iMax f.q 32 a b)
/-- VMAX (R256). -/
def execVmaxI16 (f : VRForm) (s : State) : Result := guarded f.g s (laneBody f 16 fun a b _ => iMax f.q 16 a b)
/-- VMAX (R256). -/
def execVmaxI8 (f : VRForm) (s : State) : Result := guarded f.g s (laneBody f 8 fun a b _ => iMax f.q 8 a b)
/-- VCMP (R259). -/
def execVcmpI32 (f : VRForm) (s : State) : Result := guarded f.g s (iCmpBody f 32)
/-- VCMP (R259). -/
def execVcmpI16 (f : VRForm) (s : State) : Result := guarded f.g s (iCmpBody f 16)
/-- VCMP (R259). -/
def execVcmpI8 (f : VRForm) (s : State) : Result := guarded f.g s (iCmpBody f 8)
/-- VABS (R256). -/
def execVabsI32 (f : VRForm) (s : State) : Result := guarded f.g s (laneBody f 32 fun a _ _ => iAbs 32 a)
/-- VABS (R256). -/
def execVabsI16 (f : VRForm) (s : State) : Result := guarded f.g s (laneBody f 16 fun a _ _ => iAbs 16 a)
/-- VABS (R256). -/
def execVabsI8 (f : VRForm) (s : State) : Result := guarded f.g s (laneBody f 8 fun a _ _ => iAbs 8 a)
/-- VSHL (R257): the count is the lane of vB modulo the width. -/
def execVshlI32 (f : VRForm) (s : State) : Result := guarded f.g s (laneBody f 32 fun a b _ => a * 2 ^ (b % 32) % 2 ^ 32)
/-- VSHL (R257): the count is IMM. -/
def execVshlI32Imm (f : VRForm) (s : State) : Result := guarded f.g s (laneBody f 32 fun a _ _ => a * 2 ^ (f.imm.toNat) % 2 ^ 32)
/-- VSHL (R257): the count is the lane of vB modulo the width. -/
def execVshlI16 (f : VRForm) (s : State) : Result := guarded f.g s (laneBody f 16 fun a b _ => a * 2 ^ (b % 16) % 2 ^ 16)
/-- VSHL (R257): the count is IMM. -/
def execVshlI16Imm (f : VRForm) (s : State) : Result := guarded f.g s (laneBody f 16 fun a _ _ => a * 2 ^ (f.imm.toNat) % 2 ^ 16)
/-- VSHL (R257): the count is the lane of vB modulo the width. -/
def execVshlI8 (f : VRForm) (s : State) : Result := guarded f.g s (laneBody f 8 fun a b _ => a * 2 ^ (b % 8) % 2 ^ 8)
/-- VSHL (R257): the count is IMM. -/
def execVshlI8Imm (f : VRForm) (s : State) : Result := guarded f.g s (laneBody f 8 fun a _ _ => a * 2 ^ (f.imm.toNat) % 2 ^ 8)
/-- VSHR (R257): the count is the lane of vB modulo the width. -/
def execVshrI32 (f : VRForm) (s : State) : Result := guarded f.g s (laneBody f 32 fun a b _ => a / 2 ^ (b % 32))
/-- VSHR (R257): the count is IMM. -/
def execVshrI32Imm (f : VRForm) (s : State) : Result := guarded f.g s (laneBody f 32 fun a _ _ => a / 2 ^ (f.imm.toNat))
/-- VSHR (R257): the count is the lane of vB modulo the width. -/
def execVshrI16 (f : VRForm) (s : State) : Result := guarded f.g s (laneBody f 16 fun a b _ => a / 2 ^ (b % 16))
/-- VSHR (R257): the count is IMM. -/
def execVshrI16Imm (f : VRForm) (s : State) : Result := guarded f.g s (laneBody f 16 fun a _ _ => a / 2 ^ (f.imm.toNat))
/-- VSHR (R257): the count is the lane of vB modulo the width. -/
def execVshrI8 (f : VRForm) (s : State) : Result := guarded f.g s (laneBody f 8 fun a b _ => a / 2 ^ (b % 8))
/-- VSHR (R257): the count is IMM. -/
def execVshrI8Imm (f : VRForm) (s : State) : Result := guarded f.g s (laneBody f 8 fun a _ _ => a / 2 ^ (f.imm.toNat))
/-- VSRA (R257): the count is the lane of vB modulo the width. -/
def execVsraI32 (f : VRForm) (s : State) : Result := guarded f.g s (laneBody f 32 fun a b _ => iSra 32 a (b % 32))
/-- VSRA (R257): the count is IMM. -/
def execVsraI32Imm (f : VRForm) (s : State) : Result := guarded f.g s (laneBody f 32 fun a _ _ => iSra 32 a (f.imm.toNat))
/-- VSRA (R257): the count is the lane of vB modulo the width. -/
def execVsraI16 (f : VRForm) (s : State) : Result := guarded f.g s (laneBody f 16 fun a b _ => iSra 16 a (b % 16))
/-- VSRA (R257): the count is IMM. -/
def execVsraI16Imm (f : VRForm) (s : State) : Result := guarded f.g s (laneBody f 16 fun a _ _ => iSra 16 a (f.imm.toNat))
/-- VSRA (R257): the count is the lane of vB modulo the width. -/
def execVsraI8 (f : VRForm) (s : State) : Result := guarded f.g s (laneBody f 8 fun a b _ => iSra 8 a (b % 8))
/-- VSRA (R257): the count is IMM. -/
def execVsraI8Imm (f : VRForm) (s : State) : Result := guarded f.g s (laneBody f 8 fun a _ _ => iSra 8 a (f.imm.toNat))
/-- VMULH (R256). -/
def execVmulh (f : VRForm) (s : State) : Result := guarded f.g s (laneBody f 32 fun a b _ => iMulh f.q a b)
/-- VSADD (R258). -/
def execVsaddI16 (f : VRForm) (s : State) : Result := guarded f.g s (laneBody f 16 fun a b _ => iSat f.q false 16 a b)
/-- VSADD (R258). -/
def execVsaddI8 (f : VRForm) (s : State) : Result := guarded f.g s (laneBody f 8 fun a b _ => iSat f.q false 8 a b)
/-- VSSUB (R258). -/
def execVssubI16 (f : VRForm) (s : State) : Result := guarded f.g s (laneBody f 16 fun a b _ => iSat f.q true 16 a b)
/-- VSSUB (R258). -/
def execVssubI8 (f : VRForm) (s : State) : Result := guarded f.g s (laneBody f 8 fun a b _ => iSat f.q true 8 a b)

/-! ### Bitwise operations and select (R260): bytes -/

/-- VAND (R260). -/
def execVand (f : VRForm) (s : State) : Result := guarded f.g s (laneBody f 8 fun a b _ => a &&& b)
/-- VOR (R260). -/
def execVor (f : VRForm) (s : State) : Result := guarded f.g s (laneBody f 8 fun a b _ => a ||| b)
/-- VXOR (R260). -/
def execVxor (f : VRForm) (s : State) : Result := guarded f.g s (laneBody f 8 fun a b _ => a ^^^ b)
/-- VANDN (R260). -/
def execVandn (f : VRForm) (s : State) : Result := guarded f.g s (laneBody f 8 fun a b _ => a &&& (255 - b))
/-- VSEL (R260): the mask selects instead of gating, so every byte is written. -/
def execVsel (f : VRForm) (s : State) : Result :=
  guarded f.g s fun s => s.modBank fun b =>
    b.wrV f.d (writeLanes 8 (b.rdM f.msk) (b.rdV f.b) fun i => lane (b.rdV f.a) i 8)

/-! ### Interpolation and sign (R284, R285) -/

/-- VLERP (R284). -/
def execVlerpF32 (f : VRForm) (s : State) : Result := guarded f.g s (floatBody f .f32 (fLerp .f32))
/-- VLERP (R284). -/
def execVlerpBf16 (f : VRForm) (s : State) : Result := guarded f.g s (floatBody f .bf16 (fLerp .bf16))
/-- VFSGN (R285): the bits of vA with the sign bit of vB; no flag. -/
def execVfsgn (f : VRForm) (s : State) : Result :=
  guarded f.g s (laneBody f (fmtOf f.ta).bits fun a b _ =>
    let h := 2 ^ ((fmtOf f.ta).bits - 1)
    a % h + b / h * h)

end Sys2Proof.Machine
end

