-- ==== Sys2Proof/Machine/Convert.lean ====
section
/-! DEFINITION. Vector conversions and scaling (R261 to R267). -/

namespace Sys2Proof.Machine

open Sys2Proof

/-- A conversion that writes the first `n` lanes of `wd` bits, destination lane `i` from `op i`; lane activity is decided by the
destination, and bytes beyond lane `n` keep their contents (R261). -/
def convBody (f : VRForm) (n wd : Nat) (op : Bank → Nat → Nat × Fl) (s : State) : State :=
  s.modBank fun b =>
    (b.wrV f.d (writeLanes wd (b.rdM f.msk) (b.rdV f.d) fun i =>
      if i < n then (op b i).1 else lane (b.rdV f.d) i wd)).raise
      (laneFlags wd n (b.rdM f.msk) fun i => (op b i).2)

/-- The flag of a signalling NaN operand (R58). -/
def snanFlag (x : FVal) : Fl := if x.isSnan then Fl.inv else Fl.none

/-- VCVT (R262): SAT acts on finite sources that overflow only. -/
def execVcvt (f : VRForm) (s : State) : Result :=
  let ta := fmtOf f.ta
  let tb := fmtOf f.tb
  guarded f.g s (convBody f (1024 / max ta.bits tb.bits) tb.bits fun b i =>
    let x := ta.decode (lane (b.rdV f.a) i ta.bits)
    let r := tb.encode (effMode f.rm b.issueRnd) f.sat x
    (r.1, (snanFlag x).or r.2))

/-- One lane of VCVTI (R61, R62, R263). -/
def cvtiLane (ta tb : BitVec 6) (m : RMode) (v : Nat) : Nat × Fl :=
  if isFloat ta then
    let r := toInteger tb m ((fmtOf ta).decode v)
    (truncInt r.1 (laneBits tb), r.2)
  else (fmtOf tb).encode m false (FVal.ofInt (intOfLane ta v))

/-- VCVTI (R263). -/
def execVcvti (f : VRForm) (s : State) : Result :=
  guarded f.g s (convBody f (1024 / max (laneBits f.ta) (laneBits f.tb)) (laneBits f.tb) fun b i =>
    cvtiLane f.ta f.tb (effMode f.rm b.issueRnd) (lane (b.rdV f.a) i (laneBits f.ta)))

/-- VCVTB8 (R264): the exact product of value and scale, rounded once. -/
def execVcvtb8 (f : VRForm) (s : State) : Result :=
  guarded f.g s (convBody f 32 8 fun b i =>
    let m := effMode f.rm b.issueRnd
    let x := sumTerms m [[FFmt.f32.decode (lane (b.rdV f.a) i 32), FFmt.f32.decode (lane (b.rdV f.b) i 32)]]
    let r := (b8Of f.tb).encode m f.sat x.1
    (r.1, x.2.or r.2))

/-- VWIDEB8 (R265): no RM field, so any rounding uses RND. -/
def execVwideb8 (f : VRForm) (s : State) : Result :=
  let tb := fmtOf f.tb
  let n := 1024 / tb.bits
  guarded f.g s (convBody f n tb.bits fun b i =>
    tb.encode (rmodeOfRnd b.issueRnd) false ((b8Of f.ta).decode (lane (b.rdV f.a) ((if f.q then n else 0) + i) 8)))

/-- One value of VPACK: saturated to the range of TB, or its low bits (R62, R266). -/
def packLane (tb : BitVec 6) (sat : Bool) (x : Int) : Nat :=
  truncInt (if sat then satInt x (intRange tb).1 (intRange tb).2 else x) (laneBits tb)

/-- VPACK (R266): the lanes of vA, then those of vB. -/
def execVpack (f : VRForm) (s : State) : Result :=
  let ws := laneBits f.ta
  let na := 1024 / ws
  guarded f.g s (convBody f (2 * na) (laneBits f.tb) fun b i =>
    (packLane f.tb f.sat (intOfLane f.ta (if i < na then lane (b.rdV f.a) i ws else lane (b.rdV f.b) (i - na) ws)), Fl.none))

/-- VUNPACK (R266). -/
def execVunpack (f : VRForm) (s : State) : Result :=
  let wd := laneBits f.tb
  let n := 1024 / wd
  guarded f.g s (convBody f n wd fun b i =>
    (truncInt (intOfLane f.ta (lane (b.rdV f.a) ((if f.q then n else 0) + i) (laneBits f.ta))) wd, Fl.none))

/-- a × 2^k, exact. Beyond ±2,000 the scale is held: every format has overflowed or underflowed there. -/
def FVal.scale (x : FVal) (k : Int) : FVal :=
  match x with
  | .fin n m e => .fin n m (e + max (-2000) (min 2000 k))
  | v => v

/-- VFSCALE (R267). -/
def execVfscale (f : VRForm) (s : State) : Result :=
  let t := fmtOf f.ta
  guarded f.g s (floatBody f t fun m a b _ =>
    let x := t.decode a
    let r := t.encode m false (x.scale (sext b t.bits))
    (r.1, (snanFlag x).or r.2))

end Sys2Proof.Machine
end

