-- ==== Sys2Proof/Machine/Control.lean ====
section
/-! DEFINITION. Branches, calls, returns and hardware loops (R123, R135 to R139, R195 to R198). A taken transfer and the link
value are kept in the bank until every slot of the bundle has committed. -/

namespace Sys2Proof.Machine

open Sys2Proof

/-- A control transfer of the S slot (R123, R135): beyond the image the instruction-range cause, elsewhere than at a bundle
position the branch-target cause, else control goes to the target when the bundle is complete. `link` is what s31 receives. DESIGN CHOICE (log 85):
a target below word 0 takes the instruction-range cause. -/
def transfer (s : State) (t : Int) (link : Option Word) : State :=
  if t < 0 || (s.bank.imWords : Int) ≤ t then takeTrap s causeInstrRange
  else if !bundlePosition s s.ctx.core s.bank t.toNat then takeTrap s causeBranchTarget
  else s.modBank fun b => { b with taken := some (BitVec.ofInt 32 t), link := link }

/-- The link value: the fall-through address (R195). -/
def linkValue (s : State) : Option Word := some (BitVec.ofNat 32 s.ctx.fall)

/-- The relative target of BR and CALL (R152, R195). -/
def relTarget (f : SBForm) (s : State) : Int := s.ctx.addr + f.off.toInt

/-- BR (R195). -/
def execBr (f : SBForm) (s : State) : Result := guarded f.g s fun s => transfer s (relTarget f s) none

/-- BRI (R195). -/
def execBri (f : SRForm) (s : State) : Result := guarded f.g s fun s => transfer s (s.bank.rdS f.a).toNat none

/-- CALL (R195): writes s31. -/
def execCall (f : SBForm) (s : State) : Result := guarded f.g s fun s => transfer s (relTarget f s) (linkValue s)

/-- CALLI (R195, R196): reads the old s31 and writes the new one. -/
def execCalli (f : SRForm) (s : State) : Result :=
  guarded f.g s fun s => transfer s (s.bank.rdS f.a).toNat (linkValue s)

/-- RET (R195). -/
def execRet (f : SRForm) (s : State) : Result := guarded f.g s fun s => transfer s (s.bank.rdS 31).toNat none

/-- Levels below `l`, from the highest down. -/
def levelsBelow (l : BitVec 2) : List (BitVec 2) := ([2, 1, 0] : List (BitVec 2)).filter fun k => k.toNat < l.toNat

/-- Some level at or above `l` is active (R137). -/
def levelBusy (b : Bank) (l : BitVec 2) : Bool :=
  ([0, 1, 2, 3] : List (BitVec 2)).any fun k => l.toNat ≤ k.toNat && (b.loop k).active

/-- LEND lies beyond the LEND of the highest active level below `l` (R137). -/
def beyondOuter (b : Bank) (l : BitVec 2) (lend : Nat) : Bool :=
  match (levelsBelow l).find? fun k => (b.loop k).active with
  | some k => (b.loop k).lend.toNat < lend
  | none => false

/-- LOOP and LOOPI with count `n` (R137): the two checks, then the level becomes active, or with n = 0 control passes to the
start position after the bundle at LEND. -/
def setLoop (f : SLForm) (n : Word) (s : State) : State :=
  let lend := s.ctx.addr + f.endOff.toNat
  if !bundlePosition s s.ctx.core s.bank lend || lend ≤ s.ctx.addr then takeTrap s causeBranchTarget
  else if levelBusy s.bank f.lvl || beyondOuter s.bank f.lvl lend then takeTrap s causeLoopNesting
  else if n = 0 then
    let t := fallThrough s s.ctx.core s.bank lend
    if s.bank.imWords ≤ t then takeTrap s causeInstrRange
    else s.modBank fun b =>
      { b with taken := some (BitVec.ofNat 32 t) }.setLoop f.lvl
        ⟨false, n, BitVec.ofNat 32 s.ctx.fall, BitVec.ofNat 32 lend⟩
  else s.modBank fun b => b.setLoop f.lvl ⟨true, n, BitVec.ofNat 32 s.ctx.fall, BitVec.ofNat 32 lend⟩

/-- LOOP (R197): the count is s_CNT. -/
def execLoop (f : SLForm) (s : State) : Result := guarded f.g s fun s => setLoop f (s.bank.rdS f.cnt) s

/-- LOOPI (R197): the count is the extension word. -/
def execLoopi (f : SLForm) (s : State) : Result := guarded f.g s fun s => setLoop f (f.x.getD 0) s

/-- LEXIT (R198): the level becomes inactive and LC := 0; LSTART and LEND keep their values. -/
def execLexit (f : SLForm) (s : State) : Result :=
  guarded f.g s fun s => s.modBank fun b => b.setLoop f.lvl { b.loop f.lvl with active := false, lc := 0 }

/-- The loop levels at an end bundle (R138), from level 3 down: a back-edge target, or none, and the bank. -/
def loopBack (addr : Nat) : List (BitVec 2) → Bank → Option Word × Bank
  | [], b => (none, b)
  | l :: ls, b =>
    let v := b.loop l
    if v.active && v.lend.toNat = addr then
      let lc := v.lc - 1
      if lc ≠ 0 then (some v.lstart, b.setLoop l { v with lc := lc })
      else loopBack addr ls (b.setLoop l { v with lc := 0, active := false })
    else loopBack addr ls b

/-- Some active level ends at a bundle (R128). -/
def endsLoop (b : Bank) (addr : Nat) : Bool :=
  ([0, 1, 2, 3] : List (BitVec 2)).any fun l => (b.loop l).active && (b.loop l).lend.toNat = addr

end Sys2Proof.Machine
end

