-- ==== Sys2Proof/Machine/DeviceOps.lean ====
section
/-! DEFINITION. Operations on the device outside the cores: accessors, posting, homes and routes, tensors, access tables. -/

namespace Sys2Proof.Machine

open Sys2Proof

/-! ### Accessors -/

/-- A router. -/
def State.router (s : State) (r : Nat) : Router := kgetD s.routers r Router.reset
/-- Change a router. -/
def State.modRouter (s : State) (r : Nat) (f : Router → Router) : State :=
  { s with routers := kset s.routers r (f (s.router r)) }
/-- A partition. -/
def State.part (s : State) (p : Nat) : Partition := kgetD s.parts p Partition.reset
/-- Change a partition. -/
def State.modPart (s : State) (p : Nat) (f : Partition → Partition) : State :=
  { s with parts := kset s.parts p (f (s.part p)) }
/-- A work queue. -/
def State.queue (s : State) (q : Nat) : WorkQueue := kgetD s.queues q WorkQueue.reset
/-- Change a work queue. -/
def State.modQueue (s : State) (q : Nat) (f : WorkQueue → WorkQueue) : State :=
  { s with queues := kset s.queues q (f (s.queue q)) }
/-- Change a task instance that exists. -/
def State.modTask (s : State) (t : Nat) (f : TaskInst → TaskInst) : State :=
  match kget s.tasks t with
  | some x => { s with tasks := kset s.tasks t (f x) }
  | none => s
/-- Change a live launch. -/
def State.modLaunch (s : State) (l : Nat) (f : Launch → Launch) : State :=
  match kget s.launches l with
  | some x => { s with launches := kset s.launches l (f x) }
  | none => s
/-- Change an operation that exists. -/
def State.modOp (s : State) (o : Nat) (f : COp → COp) : State :=
  match kget s.ops o with
  | some x => { s with ops := kset s.ops o (f x) }
  | none => s
/-- An entry of an expert residency table. -/
def State.ertEntry (s : State) (p e : Nat) : ErtEntry := kgetD s.ert (p * 65536 + e) ErtEntry.reset
/-- Change an entry of an expert residency table. -/
def State.modErt (s : State) (p e : Nat) (f : ErtEntry → ErtEntry) : State :=
  { s with ert := kset s.ert (p * 65536 + e) (f (s.ertEntry p e)) }
/-- A weight-store slot's state (R236). -/
def State.slot (s : State) (f k : Nat) : SlotState := kgetD s.slots (f * 48 + k) .free
/-- Set a weight-store slot's state. -/
def State.setSlot (s : State) (f k : Nat) (v : SlotState) : State := { s with slots := kset s.slots (f * 48 + k) v }
/-- A link port. -/
def State.link (s : State) (p : Nat) : LinkPort := kgetD s.links p LinkPort.reset
/-- Change a link port. -/
def State.modLink (s : State) (p : Nat) (f : LinkPort → LinkPort) : State :=
  { s with links := kset s.links p (f (s.link p)) }
/-- Change a bank of a core. -/
def State.modBankAt (s : State) (c : Nat) (b : Bool) (f : Bank → Bank) : State := s.modCore c fun k => k.modBank b f
/-- Log something (R92, R94, R409, R416). -/
def State.note (s : State) (kind detail : Nat) : State := { s with log := s.log ++ [(kind, detail)] }
/-- The partition of a launch (R79). -/
def partOf (l : Nat) : Nat := l / 2 ^ 28 % 16
/-- One of `n` choices that the spec leaves open, the `k`-th of a step (log 4). -/
def State.choose (s : State) (k n : Nat) : Nat := Config.pick (s.nonce * 2 ^ 20 + k) % n
/-- A value that the spec leaves open, the `k`-th of a step (log 5). -/
def State.free (s : State) (k : Nat) : Nat := Config.freeValue (s.nonce * 2 ^ 20 + k)
/-- Take a fresh operation number. -/
def State.bump (s : State) : State := { s with opId := s.opId + 1 }

/-! ### Posting, and what phases count (R455) -/

/-- What an event on its way counts as: the launch, and the phase or the control counter. -/
def Event.traffic : Event → Option (Nat × Option Nat)
  | .publicationAtHome p => some (p.launch, some p.phase)
  | .contribution p _ _ => some (p.launch, some p.phase)
  | .delivery p _ _ _ => some (p.launch, some p.phase)
  | .getRequest p => some (p.launch, some p.phase)
  | .getResponse p _ => some (p.launch, some p.phase)
  | .rowAtHome p => some (p.launch, some p.phase)
  | .rimQuery q => some (q.launch, some q.phase)
  | .queryReply q _ => some (q.launch, some q.phase)
  | .prefetchAtHome p => some (p.launch, some p.phase)
  | .rowParking _ r => some (r.pkt.launch, some r.pkt.phase)
  | .hintAtErtAgent _ _ _ l p => some (l, some p)
  | .pinRequest p _ _ => some (p.launch, none)
  | .install m => some (m.pat.launch, none)
  | .installAcknowledgement m => some (m.pat.launch, none)
  | .installRefusal m => some (m.pat.launch, none)
  | .removal m => some (m.pat.launch, none)
  | .cutEdgeCrossing _ p _ => some (p.launch, some p.phase)
  | .phaseCloseNotice l _ _ => some (l, none)
  | _ => none

/-- An event's counter changes. -/
def touchTraffic (e : Event) (s : State) : State :=
  match Event.traffic e with
  | some (l, some p) => touchPhase s l p
  | some (l, none) => touch s l 16
  | none => s

/-- What is on its way is so no longer: its counter changes (R455). -/
def takeOff (e : Event) (s : State) : State := touchTraffic e { s with agenda := s.agenda.erase e }

/-- Send something on its way. -/
def post (e : Event) (s : State) : State := touchTraffic e { s with agenda := s.agenda ++ [e] }

/-- Send several things on their way, in order. -/
def postAll (es : List Event) (s : State) : State := es.foldl (fun s e => post e s) s

/-- Work waits at a rim agent for a slot of its partition (R88), with an occupancy that the spec leaves open (log 5). -/
def rimQueue (agent part : Nat) (w : RimWork) (s : State) : State :=
  { s with rim := s.rim ++ [⟨agent, part, Config.occupancy (s.nonce * 2 ^ 20 + s.rim.length) % 16 + 1, w⟩] }

/-- A request waits at a rim agent for a slot of its partition (R88). -/
def rimWait (agent part : Nat) (e : Event) (s : State) : State := touchTraffic e (rimQueue agent part (.step e) s)

/-- What waiting rim work counts as: a read-back at its home ends a wait for no contributor (R350, R455). -/
def RimWork.traffic : RimWork → Option (Nat × Option Nat)
  | .step e => Event.traffic e
  | .join _ p => some (p.launch, some p.phase)
  | _ => none

/-- The launch that waiting rim work belongs to, where it is one launch's. -/
def RimWork.launch : RimWork → Option Nat
  | .step e => (Event.traffic e).map fun t => t.1
  | .tail _ p => some p.launch
  | .spill l => some l
  | .join _ p => some p.launch
  | .unpark _ _ l => some l

/-! ### Graphs and tensors (R18, R21) -/

/-- The tensor of a number in a namespace. -/
def tensorOf (s : State) (ns tnum : Nat) : Option Tensor :=
  match kget s.graphs ns with
  | some g => g.tensors.find? fun t => t.tnum = tnum
  | none => none

/-- Namespace bits [63:52] of a name (R14). -/
def nsOf (n : DWord) : Nat := (n.extractLsb' 52 12).toNat
/-- Tensor number bits [51:32] of a name. -/
def tnumOf (n : DWord) : Nat := (n.extractLsb' 32 20).toNat
/-- Coordinate bits [31:0] of a name. -/
def coordOf (n : DWord) : Nat := (n.extractLsb' 0 32).toNat
/-- A name of the device's or a graph's namespace. -/
def mkName (ns tnum coord : Nat) : DWord := BitVec.ofNat 64 (ns % 2 ^ 12 * 2 ^ 52 + tnum % 2 ^ 20 * 2 ^ 32 + coord % 2 ^ 32)
/-- A name with its namespace replaced (R19). -/
def withNs (ns : Nat) (n : DWord) : DWord := mkName ns (tnumOf n) (coordOf n)

/-- The element size of FMT (R22), 0 for a reserved code. -/
def fmtSize (f : Nat) : Nat :=
  if f = 1 || f = 4 then 4
  else if f = 2 || f = 3 || f = 5 then 2
  else if f = 6 || f = 7 then 1
  else if f = 8 then 8
  else if 0x44 ≤ f && f ≤ 0x5F then 1 else 0

/-- The tile size (R23). -/
def Tensor.tileSize (t : Tensor) : Nat := t.shape.foldl (fun a b => a * b) (fmtSize t.fmt)
/-- The tile counts (R23). -/
def Tensor.counts (t : Tensor) : List Nat := (t.ext.zip t.shape).map fun e => (e.1 + e.2 - 1) / e.2

/-- The coordinates of a packed coordinate (R16), and what is left above them. -/
def unpackCoord : List Nat → Nat → List Nat × Nat
  | [], c => ([], c)
  | w :: ws, c =>
    let r := unpackCoord ws (c / 2 ^ w)
    (c % 2 ^ w :: r.1, r.2)

/-- lin of coordinates (R27). -/
def linOf : List Nat → List Nat → Nat
  | n :: ns, c :: cs => c + n * linOf ns cs
  | _, _ => 0

/-- lin of a name's coordinate, where it lies within the tensor's tiles (R17, R27). -/
def Tensor.lin (t : Tensor) (coord : Nat) : Option Nat :=
  let u := unpackCoord t.cw coord
  if u.2 = 0 && (u.1.zip t.counts).all fun e => e.1 < e.2 then some (linOf t.counts u.1) else none

/-- The packed coordinate of a lin (R16, R27). -/
def packLin : List Nat → List Nat → Nat → Nat
  | n :: ns, w :: ws, l => l % n + 2 ^ w * packLin ns ws (l / n)
  | _, _, _ => 0

/-- The matching rule of R41, with LAUNCH (R335). -/
def Pattern.hits (t : Pattern) (n : DWord) (g : BitVec 16) (l : Nat) : Bool :=
  ((n ^^^ t.value) &&& t.mask) = 0 && t.launch = l && (t.genrule = 0 || t.gen = g)

/-! ### Homes and routes (R332, R334) -/

/-- The hash of R332. -/
def homeHash (n : DWord) (part : Nat) : Nat :=
  let hi := n.toNat / 2 ^ 32
  let key := if nsOf n ≠ 0 then hi
    else if tnumOf n = 2 then hi ^^^ part
    else hi ^^^ coordOf n
  let h := key * 0x9E3779B1 % 2 ^ 32
  h ^^^ (h / 2 ^ 16)

/-- The partition whose home table a name's traffic uses (R332). -/
def trafficPart (s : State) (n : DWord) (l : Nat) : Nat :=
  if nsOf n ≠ 0 then (match kget s.graphs (nsOf n) with | some g => g.part | none => partOf l) else partOf l

/-- The home router of a name (R332). -/
def homeOf (s : State) (n : DWord) (l : Nat) : Nat :=
  let p := trafficPart s n l
  let t := (s.part p).homes
  t.getD (homeHash n p % t.length) 0

/-- The adit agent that a home queries for a name (R344). -/
def queryAgent (s : State) (n : DWord) (l : Nat) : Nat := homeHash n (trafficPart s n l) % 24

/-- The next router toward a destination by dimension order (R334), and the port by which the packet arrives there:
0 N, 1 E, 2 S, 3 W. -/
def nextHop (r dst : Nat) : Nat × Nat :=
  if r % 28 < dst % 28 then (r + 1, 3)
  else if dst % 28 < r % 28 then (r - 1, 1)
  else if r / 28 < dst / 28 then (r + 28, 2) else (r - 28, 0)

/-- The routers from `r` to `dst` after `r`, each with its arrival port; `fuel` bounds the hops. -/
def hops (dst : Nat) : Nat → Nat → List (Nat × Nat)
  | 0, _ => []
  | f + 1, r => if r = dst then [] else nextHop r dst :: hops dst f (nextHop r dst).1

/-- The path of an install: the subscriber's router by its local port, then the routers up to the home. -/
def installPath (src dst : Nat) : List (Nat × Nat) := (src, 4) :: hops dst 128 src

/-- The router through a port of a router. -/
def neighbour (r port : Nat) : Nat :=
  if port = 0 then r + 28 else if port = 1 then r + 1 else if port = 2 then r - 28 else r - 1

/-! ### Access tables (R503 to R506) -/

/-- An entry of an access table admits an access (R504, R505). -/
def tableAdmits (e unit cls part : Nat) (wr rd : Bool) : Bool :=
  bitsNat e 0 0 = 1 && bitsNat e 39 16 ≤ unit && unit ≤ bitsNat e 63 40 && bitsNat e (9 + cls) (9 + cls) = 1 &&
    (bitsNat e 8 8 = 1 || bitsNat e 7 4 = part) && (!wr || bitsNat e 2 2 = 1) && (!rd || bitsNat e 1 1 = 1)

/-- The access table of target `k` admits an access (R505). -/
def admitted (s : State) (k unit cls part : Nat) (wr rd : Bool) : Bool :=
  (List.range 64).any fun i => tableAdmits (kgetD s.mgmt.tables (k * 64 + i) 0) unit cls part wr rd

/-- A violation is recorded in the target's ACCVIOL (R505, R506). -/
def violate (s : State) (k unit cls part : Nat) (wr : Bool) : State :=
  let old := (kgetD s.mgmt.viol k (0 : Word)).toNat
  let n := min (old / 2 ^ 24 + 1) 255
  { s with mgmt := { s.mgmt with
      viol := kset s.mgmt.viol k (BitVec.ofNat 32 (n * 2 ^ 24 + part % 16 * 2 ^ 20 + cls % 8 * 2 ^ 17 +
        (if wr then 2 ^ 16 else 0) + unit % 2 ^ 16)) } }

/-- Check an access: performed where it is admitted, else recorded (R505). -/
def checked (s : State) (k unit cls part : Nat) (wr rd : Bool) (yes no : State → State) : State :=
  if admitted s k unit cls part wr rd then yes s else no (violate s k unit cls part wr)

/-- A cluster's traffic waits while it is frozen (R240). -/
def thawed (s : State) (k : Nat) : Bool := (s.cluster k).freeze.isNone

/-- The cores of a cluster. -/
def coresOf (k : Nat) : List Nat := [4 * k, 4 * k + 1, 4 * k + 2, 4 * k + 3]

/-- The clusters of a field, in ascending index (R465). -/
def clustersOf (f : Nat) : List Nat :=
  (List.range 6).flatMap fun y => (List.range 4).map fun x => (f / 7 * 6 + y) * 28 + f % 7 * 4 + x

/-! ### Source tasks (R456) and quiet counters (R455) -/

/-- A task instance is a source (R456). -/
def TaskInst.source (t : TaskInst) : Bool :=
  match t.st with
  | .ready => true
  | .running => true
  | .pending => t.subs.isEmpty || t.restarted
  | .arming => (t.subs.isEmpty || t.restarted)
  | .armed => t.restarted

/-- The phase register of a task instance: its bank's while it runs, else 0. -/
def taskPhase (s : State) (t : TaskInst) : Nat :=
  if t.st = .running then ((s.core t.core).bank t.bank).phase.toNat else 0

/-- Some template that the launch processor has still to hand over (R96) will be a source as soon as it is PENDING. -/
def sourceToCome (s : State) (l : Nat) : Bool :=
  match kget s.launches l with
  | some x => (match kget s.graphs x.ns with
      | some g => (g.tasks.drop x.todo).any fun d => d.subs.isEmpty
      | none => false)
  | none => false

/-- Some source task of the launch counts in phase `p` (R455). -/
def sourceIn (s : State) (l p : Nat) : Bool :=
  (sourceToCome s l && frontier s l ≤ p) ||
    s.tasks.any fun e => e.2.launch = l && e.2.source && max (taskPhase s e.2) (frontier s l) ≤ p

/-- An operation is a task's: no paging request or BACKED fetch of an adit engine. -/
def COp.ofTask (o : COp) : Bool := o.kind ≠ .page && o.kind ≠ .fetch

/-- An operation counts in a phase: a GET from its issue, a copy or atomic from its injection, until its reply has sunk (R455). -/
def COp.counts (o : COp) : Bool :=
  match o.kind with
  | .get => !(o.place = .ended)
  | .publish => false
  | .control => false
  | .page => false
  | .fetch => true
  | _ => !(o.place = .queued) && !(o.place = .ended)

/-- Some GET is parked at a home (R353), and so is not counted. -/
def parkedGet (s : State) (o : COp) : Bool :=
  o.kind = .get && s.routers.any fun r => r.2.gets.any fun g => g.op = o.id

/-! ### Reporters (R454, R455, R509) -/

/-- The edge router of an adit agent, and the port by which the agent is attached (R509): 1 E, 3 W. -/
def aditRouter (a : Nat) : Nat × Nat := if a < 12 then ((6 * a + 3) * 28, 3) else ((6 * (a - 12) + 3) * 28 + 27, 1)

/-- The edge router of a Shohal port, and the mesh port by which it is attached (R509): 0 N, 1 E, 2 S, 3 W. -/
def linkRouter (p : Nat) : Nat × Nat :=
  if p < 24 then (p + 2, 2)
  else if p < 48 then (71 * 28 + (p - 22), 0)
  else if p < 72 then ((3 * (p - 48) + 1) * 28, 3)
  else ((3 * (p - 72) + 1) * 28 + 27, 1)

/-- The reporter of an adit agent, and of a link port (R454). -/
def aditReporter (a : Nat) : Nat := 4096 + a
def linkReporter (p : Nat) : Nat := 8192 + p

/-- The router at which a packet of a launch enters the network: its source's, its home for one of the device or a peer. -/
def Packet.entry (s : State) (p : Packet) : Nat :=
  match p.org with
  | .task _ _ => p.srcCl
  | _ => homeOf s p.name p.launch

/-- The router that holds something on its way, which the spec leaves open: that where it enters the network or is to be handled (log 77). What an
adit agent or a link port sends or receives is at its edge router (R509). -/
def Event.router (s : State) (e : Event) : Nat :=
  match e with
  | .publicationAtHome p | .rowAtHome p | .getRequest p | .prefetchAtHome p => Packet.entry s p
  | .contribution _ _ r | .delivery _ r _ _ | .phaseCloseNotice _ r _ => r
  | .getResponse p _ => p.dstCl
  | .rimQuery q | .queryReply q _ => (aditRouter (queryAgent s q.name q.launch)).1
  | .rowParking _ r => homeOf s r.pkt.name r.pkt.launch
  | .hintAtErtAgent part _ _ _ _ => (aditRouter (s.part part).ertAgent).1
  | .pinRequest _ r _ => r
  | .install m | .installAcknowledgement m | .installRefusal m | .removal m => (m.todo.headD (m.home, 4)).1
  | .cutEdgeCrossing l p inward =>
    if 96 ≤ l then homeOf s p.name p.launch else if inward then linkReporter l else (linkRouter l).1
  | _ => 0

/-- The routers of a unicast packet's way (R334), both ends with it. -/
def way (a b : Nat) : List Nat := a :: (hops b 128 a).map fun h => h.1

/-- The router of a copy engine: an adit engine's is its agent's. DESIGN CHOICE (log 118): a field engine stands at its field's lowest cluster; the
spec gives it no place. -/
def engineRouter (e : Nat) : Nat := if e < 336 then (clustersOf (e / 4)).headD 0 else (aditRouter ((e - 336) / 8)).1

/-- The routers that carry the flits of an operation's request and reply between its core and its engine, and between the engine and the adit
agent of a box (R357, R369); of a query, between its core and the agent (R408, R410). -/
def COp.ways (s : State) (o : COp) (box : Nat) : List Nat :=
  let c := if o.ofTask then o.core / 4 else engineRouter o.engine
  let both := fun (a b : Nat) => way a b ++ way b a
  match o.kind with
  | .ertq => both c (aditRouter (s.part o.part).ertAgent).1
  | .sumpq => both c (aditRouter (o.opnd % 24)).1
  | _ => both c (engineRouter o.engine) ++
      (match (o.boxes[box]?).bind fun b => b.tr with | some t => both (engineRouter o.engine) (aditRouter t.agent).1 | none => [])

/-- The routers, and the link port, that something on its way passes (R334, R454, R509): from where it enters the network to where it is
handled. A late serve and a reply travel back from where they start. -/
def Event.path (s : State) (e : Event) : List Nat :=
  let op := fun (i box : Nat) => match kget s.ops i with | some o => COp.ways s o box | none => []
  match e with
  | .publicationAtHome p | .rowAtHome p | .getRequest p | .prefetchAtHome p => way (Packet.entry s p) (homeOf s p.name p.launch)
  | .delivery p r _ home => if p.kind = 5 then way home r else way r home
  | .getResponse p _ => way p.srcCl p.dstCl
  | .rimQuery q => way q.home (aditRouter (queryAgent s q.name q.launch)).1
  | .queryReply q _ => way (aditRouter (queryAgent s q.name q.launch)).1 q.home
  | .pinRequest _ r home => way r home
  | .installAcknowledgement m | .installRefusal m =>
    way (m.todo.headD (m.home, 4)).1 (m.done.headD (m.todo.headD (m.home, 4))).1
  | .cutEdgeCrossing l p inward =>
    if 96 ≤ l then [homeOf s p.name p.launch]
    else if inward then linkReporter l :: way (linkRouter l).1 (homeOf s p.name p.launch)
    else way (homeOf s p.name p.launch) (linkRouter l).1
  | .boxPerformed i box => op i box
  | .atomicAtAgent i => op i 0
  | .remoteResult i _ _ => op i 0
  | e => [Event.router s e]

/-- What something on its way carries: its own launch and phase, or those of the operation that it belongs to. -/
def Event.carries (s : State) (e : Event) : Option (Nat × Option Nat) :=
  match e with
  | .boxPerformed i _ | .atomicAtAgent i | .remoteResult i _ _ => (kget s.ops i).map fun o => (o.launch, some o.phase)
  | e => Event.traffic e

/-- What waits or travels: its reporter, its launch, and its phase, none where the phase is the control counter (R455). -/
def trafficAt (s : State) : List (Nat × Nat × Option Nat) :=
  (s.agenda.filterMap fun e => (Event.traffic e).map fun t => (Event.router s e, t)) ++
    (s.rim.filterMap fun r => r.work.traffic.map fun t => (aditReporter r.agent, t)) ++
    s.routers.flatMap (fun r => (r.2.held.map fun h => (r.1, h.pkt.launch, some h.pkt.phase)) ++
      (r.2.holds.map fun h => (r.1, h.pkt.launch, some h.pkt.phase)) ++ (r.2.transit.map fun t => (r.1, t.pkt.launch, some t.pkt.phase)) ++
      (r.2.partials.filter fun p => p.ends ≠ 0).map fun p => (r.1, p.pkt.launch, some p.pkt.phase)) ++
    (s.ops.filter fun o => o.2.counts && !parkedGet s o.2).map (fun o =>
      (if o.2.ofTask then o.2.core / 4 else aditReporter ((o.2.engine - 336) / 8), o.2.launch, some o.2.phase)) ++
    (s.passing.map fun x => (x.reporter, x.launch, some x.phase)) ++
    s.sumps.flatMap fun u => u.2.rows.map fun r => (aditReporter (u.1 % 24), r.pkt.launch, some r.pkt.phase)

/-- What waits or travels, without its reporter. -/
def trafficAll (s : State) : List (Nat × Option Nat) := (trafficAt s).map fun t => t.2

/-- The counter of a launch in which something of a phase counts: 16 is the control counter (R453). -/
def counterOf (s : State) (l : Nat) (p : Option Nat) : Nat :=
  match p with
  | some p => max p (frontier s l)
  | none => 16

/-- The reporter at which a source task counts: its cluster's router, or its distributor while it is PENDING (R455). -/
def TaskInst.reporter (t : TaskInst) : Nat := if t.st = .pending then 16384 + t.field else t.core / 4

/-- The counters that do not read zero, by reporter and key (R454, R455). -/
def countersNow (s : State) : List (Nat × Nat) :=
  ((trafficAt s).map fun t => (t.1, counterKey t.2.1 (counterOf s t.2.1 t.2.2))) ++
    (s.tasks.filter fun t => t.2.source).flatMap fun t =>
      ((List.range 16).filter fun p => max (taskPhase s t.2) (frontier s t.2.launch) ≤ p).map fun p =>
        (TaskInst.reporter t.2, counterKey t.2.launch p)

/-- Counters that have come to count have an entry at their reporter (R454). -/
def noteCounters (s : State) : State :=
  { s with counters := (countersNow s).foldl (fun m x => kset m x.1 (sadd (kgetD m x.1 []) x.2)) s.counters }

/-- Each reporter that a flit of a launch has passed has counted it in a phase, or in the control counter, and has an entry (R454, R455). -/
def noteWay (l : Nat) (p : Option Nat) (rs : List Nat) (s : State) : State :=
  if (kget s.launches l).isNone then s
  else { s with counters := rs.foldl (fun m r => kset m r (sadd (kgetD m r []) (counterKey l (counterOf s l p)))) s.counters }

/-- Each reporter that something has passed on its way has an entry for it; `s0`: the state in which it has arrived. -/
def notePath (s0 : State) (e : Event) (s : State) : State :=
  match Event.carries s0 e with
  | some (l, p) => noteWay l p (Event.path s0 e) s
  | none => s

/-- What a task's operation sends toward an adit agent has passed the routers between its core and the agent (R427). -/
def COp.sent (s : State) (o : COp) (e : Event) : List Nat :=
  match e with
  | .hintAtErtAgent part _ _ _ _ => way (o.core / 4) (aditRouter (s.part part).ertAgent).1
  | _ => []

/-- A sweep has read a launch's change bits: its entries that read zero are free (R454). -/
def freeCounters (l : Nat) (s : State) : State :=
  let now := countersNow s
  { s with counters := (s.counters.map fun (x : Nat × List Nat) => (x.1, x.2.filter fun k => k / 64 ≠ l || now.contains (x.1, k))).filter fun x =>
      !x.2.isEmpty }

/-- The entries of a launch are gone. -/
def dropCounters (l : Nat) (s : State) : State :=
  { s with counters := (s.counters.map fun (x : Nat × List Nat) => (x.1, x.2.filter fun k => k / 64 ≠ l)).filter fun x => !x.2.isEmpty }

/-- The counter entries that a reporter has of its own (R454). -/
def reporterRoom (k : Nat) : Nat := if 4096 ≤ k && k < 8192 then 4096 else 512

/-- The router in whose ore bin a reporter's further entries stand: its own, or the edge router of an adit agent or of a link port (R454, R509;
log 77). -/
def reporterBin (k : Nat) : Option Nat :=
  if k < 4096 then some k else if k < 8192 then some (aditRouter (k - 4096)).1
  else if k < 16384 then some (linkRouter (k - 8192)).1 else none

/-- Ore-bin tags of a router that counter entries take (R454). -/
def counterTags (s : State) (r : Nat) : Nat :=
  s.counters.foldl (fun n x => n + (if reporterBin x.1 = some r then x.2.length - reporterRoom x.1 else 0)) 0

/-- A counter of a launch, source tasks left out, is not zero; counter 16 is the control counter (R455). -/
def busyCounter (s : State) (l k : Nat) : Bool :=
  (trafficAll s).any fun t => t.1 = l && counterOf s l t.2 = k

/-- BAR2 and BAR4 respond: an image runs, or has stopped for a reset (R500, R501). -/
def barOpen (s : State) : Bool := s.mgmt.boot = .running || s.mgmt.boot = .dead

/-- An access through BAR2; it is ignored until the image has been accepted and started (R501). -/
def onBar (f : State → State) (s : State) : State := if barOpen s then f s else s

end Sys2Proof.Machine
end

