-- ==== Sys2Proof/Machine/Scalar.lean ====
section
/-! DEFINITION. Scalar integer arithmetic, bit fields, selection and predicates (R185, R188 to R194). -/

namespace Sys2Proof.Machine

open Sys2Proof

/-- A two-operand instruction (R188): s_D := value of s_A and b. -/
def aluBody (f : SRForm) (op : Word → Word → Word) (s : State) : State :=
  s.modBank fun b => b.wrS f.d (op (b.rdS f.a) (opB f b))

/-- MULH: Floor(sa × sb ÷ 2^32). -/
def mulhWord (a b : Word) : Word := BitVec.ofInt 32 (a.toInt * b.toInt / 2 ^ 32)

/-- MULHU: Floor(a × b ÷ 2^32). -/
def mulhuWord (a b : Word) : Word := BitVec.ofNat 32 (a.toNat * b.toNat / 2 ^ 32)

/-- DIV (R188): toward zero; by zero all ones; the most negative number by −1 is itself. -/
def divWord (a b : Word) : Word :=
  if b = 0 then 0xFFFFFFFF
  else if a = 0x80000000 && b = 0xFFFFFFFF then 0x80000000
  else BitVec.ofInt 32 (a.toInt.tdiv b.toInt)

/-- DIVU (R188). -/
def divuWord (a b : Word) : Word := if b = 0 then 0xFFFFFFFF else BitVec.ofNat 32 (a.toNat / b.toNat)

/-- REM (R188): the sign is the dividend's. -/
def remWord (a b : Word) : Word :=
  if b = 0 then a
  else if a = 0x80000000 && b = 0xFFFFFFFF then 0
  else BitVec.ofInt 32 (a.toInt - b.toInt * a.toInt.tdiv b.toInt)

/-- REMU (R188). -/
def remuWord (a b : Word) : Word := if b = 0 then a else BitVec.ofNat 32 (a.toNat % b.toNat)

/-- The shift count: bits [4:0] of b (R188). -/
def shamt (b : Word) : Nat := (b.extractLsb' 0 5).toNat

/-- ADD (R188). -/
def execAdd (f : SRForm) (s : State) : Result := guarded f.g s (aluBody f fun a b => a + b)

/-- SUB (R188). -/
def execSub (f : SRForm) (s : State) : Result := guarded f.g s (aluBody f fun a b => a - b)

/-- MUL (R188). -/
def execMul (f : SRForm) (s : State) : Result := guarded f.g s (aluBody f fun a b => a * b)

/-- MULH (R188). -/
def execMulh (f : SRForm) (s : State) : Result := guarded f.g s (aluBody f fun a b => mulhWord a b)

/-- MULHU (R188). -/
def execMulhu (f : SRForm) (s : State) : Result := guarded f.g s (aluBody f fun a b => mulhuWord a b)

/-- DIV (R188). -/
def execDiv (f : SRForm) (s : State) : Result := guarded f.g s (aluBody f fun a b => divWord a b)

/-- DIVU (R188). -/
def execDivu (f : SRForm) (s : State) : Result := guarded f.g s (aluBody f fun a b => divuWord a b)

/-- REM (R188). -/
def execRem (f : SRForm) (s : State) : Result := guarded f.g s (aluBody f fun a b => remWord a b)

/-- REMU (R188). -/
def execRemu (f : SRForm) (s : State) : Result := guarded f.g s (aluBody f fun a b => remuWord a b)

/-- AND (R188). -/
def execAnd (f : SRForm) (s : State) : Result := guarded f.g s (aluBody f fun a b => a &&& b)

/-- OR (R188). -/
def execOr (f : SRForm) (s : State) : Result := guarded f.g s (aluBody f fun a b => a ||| b)

/-- XOR (R188). -/
def execXor (f : SRForm) (s : State) : Result := guarded f.g s (aluBody f fun a b => a ^^^ b)

/-- ANDN (R188). -/
def execAndn (f : SRForm) (s : State) : Result := guarded f.g s (aluBody f fun a b => a &&& ~~~b)

/-- SHL (R188). -/
def execShl (f : SRForm) (s : State) : Result := guarded f.g s (aluBody f fun a b => a <<< shamt b)

/-- SHR (R188). -/
def execShr (f : SRForm) (s : State) : Result := guarded f.g s (aluBody f fun a b => a >>> shamt b)

/-- SRA (R188). -/
def execSra (f : SRForm) (s : State) : Result := guarded f.g s (aluBody f fun a b => a.sshiftRight (shamt b))

/-- MIN (R188). -/
def execMin (f : SRForm) (s : State) : Result := guarded f.g s (aluBody f fun a b => if a.toInt < b.toInt then a else b)

/-- MAX (R188). -/
def execMax (f : SRForm) (s : State) : Result := guarded f.g s (aluBody f fun a b => if a.toInt > b.toInt then a else b)

/-- MINU (R188). -/
def execMinu (f : SRForm) (s : State) : Result := guarded f.g s (aluBody f fun a b => if a.toNat < b.toNat then a else b)

/-- MAXU (R188). -/
def execMaxu (f : SRForm) (s : State) : Result := guarded f.g s (aluBody f fun a b => if a.toNat > b.toNat then a else b)

/-- CLZ (R189): the leading zero bits, 32 for 0. -/
def execClz (f : SRForm) (s : State) : Result :=
  guarded f.g s (aluBody f fun a _ => BitVec.ofNat 32 (clzFrom a 32))

/-- POPC (R189): the one bits. -/
def execPopc (f : SRForm) (s : State) : Result :=
  guarded f.g s (aluBody f fun a _ => BitVec.ofNat 32 (popFrom a 32))

/-- The position of a field descriptor (R191). -/
def fieldPos (d : Word) : Nat := (d.extractLsb' 0 5).toNat

/-- The effective width of a field descriptor: Min(w, 32 − pos) (R191). -/
def fieldWidth (d : Word) : Nat := min (d.extractLsb' 5 6).toNat (32 - fieldPos d)

/-- BFX of a word (R191). -/
def bfxWord (sx : Bool) (a d : Word) : Word :=
  let w := fieldWidth d
  let f := a.toNat / 2 ^ fieldPos d % 2 ^ w
  if w = 0 then 0
  else if sx then BitVec.ofInt 32 (sext f w) else BitVec.ofNat 32 f

/-- BFX (R191). -/
def execBfx (f : SRForm) (s : State) : Result := guarded f.g s (aluBody f (bfxWord (f.fn.getLsbD 0)))

/-- BFI into a word (R191): the field's bits come from the low bits of `a`, the others stay. -/
def bfiWord (old a d : Word) : Word :=
  let m := BitVec.ofNat 32 ((2 ^ fieldWidth d - 1) * 2 ^ fieldPos d)
  (old &&& ~~~m) ||| ((a <<< fieldPos d) &&& m)

/-- BFI (R191): s_D is read and written. -/
def execBfi (f : SRForm) (s : State) : Result :=
  guarded f.g s fun s => s.modBank fun b => b.wrS f.d (bfiWord (b.rdS f.d) (b.rdS f.a) (opB f b))

/-- LI (R190). -/
def execLi (f : LIForm) (s : State) : Result :=
  guarded f.g s fun s => s.modBank fun b => b.wrS f.d (f.x.getD (BitVec.signExtend 32 f.imm14))

/-- SEL (R192): FN[2:0] names the predicate, FN[3] inverts it. -/
def execSel (f : SRForm) (s : State) : Result :=
  guarded f.g s fun s => s.modBank fun b =>
    b.wrS f.d (if b.rdP (f.fn.extractLsb' 0 3) != f.fn.getLsbD 3 then b.rdS f.a else opB f b)

/-- The conditions of CMP (R155, R193). -/
def cmpCond (c : BitVec 4) (a b : Word) : Bool :=
  match c.toNat with
  | 0 => a = b
  | 1 => a ≠ b
  | 2 => a.toInt < b.toInt
  | 3 => b.toInt ≤ a.toInt
  | 4 => a.toInt ≤ b.toInt
  | 5 => b.toInt < a.toInt
  | 6 => a.toNat < b.toNat
  | 7 => b.toNat ≤ a.toNat
  | 8 => a.toNat ≤ b.toNat
  | _ => b.toNat < a.toNat

/-- CMP (R193). A CMP into p0 has no effect. -/
def execCmp (f : SRForm) (s : State) : Result :=
  guarded f.g s fun s => s.modBank fun b => b.wrP (lo3 f.d) (cmpCond f.fn (b.rdS f.a) (opB f b))

/-- A truth table of two inputs: bit a + 2b (R194, R283). -/
def truthTable (tt : BitVec 4) (a b : Bool) : Bool := tt.getLsbD ((if a then 1 else 0) + (if b then 2 else 0))

/-- PLOG (R194). -/
def execPlog (f : SRForm) (s : State) : Result :=
  guarded f.g s fun s => s.modBank fun b => b.wrP (lo3 f.d) (truthTable f.fn (b.rdP (lo3 f.a)) (b.rdP (lo3 f.b)))

end Sys2Proof.Machine
end

