-- ==== Sys2Proof/Machine/VectorMem.lean ====
section
/-! DEFINITION. Vector memory access (R223, R245 to R249). -/

namespace Sys2Proof.Machine

open Sys2Proof

/-- The element size in bytes of ESZ (R158). -/
def eszBytes (e : BitVec 2) : Nat := if e = 0 then 4 else if e = 1 then 2 else 1

/-- An active element: its lane and its offset from la. -/
abbrev Elem := Nat × Nat

/-- The active lanes of `w` bits, ascending. -/
def activeLanes (mask : MWord) (w : Nat) : List Nat := (List.range (1024 / w)).filter fun i => laneOn mask w i

/-- Where the element at logical address `a` lies: checked, its alignment before its range as R245 lists them (DEDUCED, log 67), then swizzled
within its scratchpad (R223). -/
def elemPlace (s : State) (swizzle aligned : Bool) (a : Nat) : Except (BitVec 8) Nat :=
  if !aligned then .error causeMisaligned
  else match localPlace s s.ctx.core s.bank a with
    | none => .error causeAddrRange
    | some (c, o) => .ok ((Space.spad c).key (if swizzle then swz o else o))

/-- The element at logical address `a`, which is to be a multiple of `align`. -/
def elemKey (s : State) (swizzle : Bool) (align a : Nat) : Except (BitVec 8) Nat := elemPlace s swizzle (a % align = 0) a

/-- The keys of the elements in ascending lane order; the first failure decides (R245). `whole`: la itself
is to be aligned, as of VLD and VST. -/
def elemKeys (s : State) (swizzle : Bool) (align la : Nat) (whole : Bool) : List Elem → Except (BitVec 8) (List (Nat × Nat))
  | [] => .ok []
  | (i, e) :: r =>
    match elemPlace s swizzle ((if whole then la else la + e) % align = 0) (la + e) with
    | .error c => .error c
    | .ok k =>
      match elemKeys s swizzle align la whole r with
      | .error c => .error c
      | .ok ks => .ok ((i, k) :: ks)

/-- The post-increment (R207, R223): Step with inc = STRIDE. -/
def postInc (f : VMForm) (s : State) : State :=
  if f.pi then s.modBank fun b => b.wrA f.ar ((b.rdA f.ar).step (b.rdA f.ar).stride.toInt) else s

/-- A V-memory access: form la, check the active elements, take the poison-consumed cause where a load meets a poisoned word
(R470), act on their keys, then post-increment. Either trap leaves the address register. DESIGN CHOICE (log 89): all its words are performed
in one step. -/
def vAccess (f : VMForm) (align : Nat) (whole reads : Bool) (size : Nat) (es : List Elem)
    (act : List (Nat × Nat) → State → State) (s : State) : State :=
  match elemKeys s (s.bank.rdA f.ar).swizzle align (vmLa f s.bank) whole es with
  | .error c => takeSlotTrap s c
  | .ok ks =>
    if reads && ks.any (fun k => poisoned s k.2 size) then takeTrap s causePoison
    else postInc f (act ks s)

/-- The value of lane `i` among accessed elements, or the old one. -/
def pickElem (ks : List (Nat × Nat)) (i : Nat) : Option Nat := (ks.find? fun k => k.1 = i).map fun k => k.2

/-- Load elements of `size` bytes into their lanes. -/
def loadElems (f : VMForm) (size : Nat) (ks : List (Nat × Nat)) (s : State) : State :=
  s.modBank fun b =>
    b.wrV f.d (buildLanes (128 / size) (8 * size) fun i =>
      match pickElem ks i with
      | some k => readNat s k size
      | none => lane (b.rdV f.d) i (8 * size))

/-- The words whose four bytes are all among the written bytes: they lose their poison (R241). -/
def coveredWords (bytes : List Nat) : List Nat :=
  ((bytes.map wordKey).dedup).filter fun w => (List.range 4).all fun i => bytes.contains (w + i)

/-- Store lanes of `size` bytes to their elements, in ascending lane order (R247). -/
def storeElems (f : VMForm) (size : Nat) (ks : List (Nat × Nat)) (s : State) : State :=
  let v := s.bank.rdV f.d
  let s' := ks.foldl (fun s k => writeBytes s k.2 (leBytes size (lane v k.1 (8 * size)))) s
  clearPoison s' (coveredWords (ks.flatMap fun k => (List.range size).map fun j => k.2 + j))

/-- The byte elements of VLD, VST and VLDS. -/
def rowElems (f : VMForm) (b : Bank) : List Elem := (activeLanes (b.rdM f.msk) 8).map fun j => (j, j)

/-- The column elements of VLDT and VSTT. -/
def columnElems (f : VMForm) (b : Bank) : List Elem :=
  (activeLanes (b.rdM f.msk) (8 * eszBytes f.esz)).map fun r => (r, 128 * r)

/-- The indexed elements of VGATH and VSCAT. -/
def indexElems (f : VMForm) (b : Bank) : List Elem :=
  let sz := eszBytes f.esz
  (activeLanes (b.rdM f.msk) (8 * sz)).map fun i => (i, lane (b.rdV f.vi) i (8 * sz) * sz)

/-- VLD (R247). -/
def execVld (f : VMForm) (s : State) : Result :=
  guarded f.g s fun s => vAccess f 128 true true 1 (rowElems f s.bank) (loadElems f 1) s
/-- VST (R247). -/
def execVst (f : VMForm) (s : State) : Result :=
  guarded f.g s fun s => vAccess f 128 true false 1 (rowElems f s.bank) (storeElems f 1) s
/-- VLDT (R247). -/
def execVldt (f : VMForm) (s : State) : Result :=
  let sz := eszBytes f.esz
  guarded f.g s fun s => vAccess f sz false true sz (columnElems f s.bank) (loadElems f sz) s
/-- VSTT (R247). -/
def execVstt (f : VMForm) (s : State) : Result :=
  let sz := eszBytes f.esz
  guarded f.g s fun s => vAccess f sz false false sz (columnElems f s.bank) (storeElems f sz) s
/-- VGATH (R247). -/
def execVgath (f : VMForm) (s : State) : Result :=
  let sz := eszBytes f.esz
  guarded f.g s fun s => vAccess f sz false true sz (indexElems f s.bank) (loadElems f sz) s
/-- VSCAT (R247): the higher lane's bytes remain. -/
def execVscat (f : VMForm) (s : State) : Result :=
  let sz := eszBytes f.esz
  guarded f.g s fun s => vAccess f sz false false sz (indexElems f s.bank) (storeElems f sz) s

/-- The accessed words are full. -/
def watchedFull (s : State) (ks : List (Nat × Nat)) : Bool := ks.all fun k => isFull s (wordKey k.2)

/-- Some word that VLDS watches is empty, with its address in range (R249). -/
def vldsEmpty (f : VMForm) (s : State) : Bool :=
  match elemKeys s (s.bank.rdA f.ar).swizzle 128 (vmLa f s.bank) true (rowElems f s.bank) with
  | .ok ks => !watchedFull s ks
  | .error _ => false

/-- VLDS (R249): the active bytes, and with E = 1 every watched word becomes empty in the same action. The bundle has waited until
the watched words are full; one that a slot to the left has emptied is waited for again. -/
def execVlds (f : VMForm) (s : State) : Result :=
  guarded f.g s fun s =>
    if vldsEmpty f s then pauseSlot s
    else vAccess f 128 true true 1 (rowElems f s.bank) (fun ks s =>
      let s' := loadElems f 1 ks s
      if f.e then setEmpty s' (ks.map fun k => wordKey k.2) else s') s

/-- VLDB (R247): one element, read only if a lane is active, goes to every active lane. -/
def execVldb (f : VMForm) (s : State) : Result :=
  let sz := eszBytes f.esz
  guarded f.g s fun s =>
    let on := activeLanes (s.bank.rdM f.msk) (8 * sz)
    vAccess f sz false true sz (if on.isEmpty then [] else [(0, 0)]) (fun ks s =>
      match ks with
      | [] => s
      | k :: _ => loadElems f sz (on.map fun i => (i, k.2)) s) s

end Sys2Proof.Machine
end

