-- ==== Sys2Proof/Machine/VectorSpecial.lean ====
section
/-! DEFINITION. Selection, butterflies, tables, dot products, reductions, permutes and mask instructions (R269 to R283). -/

namespace Sys2Proof.Machine

open Sys2Proof

/-! ### Ranked lists (R69, R269) -/

/-- A (score, index) pair: an FP32 pattern and a 32-bit index. -/
abbrev Pair := Nat × Nat

/-- An unfilled entry: (−∞, 0xFFFF_FFFF). -/
def Pair.unfilled : Pair := (0xFF800000, 0xFFFFFFFF)

/-- Pair `a` ranks strictly before pair `b` (R69). -/
def ranksBefore (a b : Pair) : Bool :=
  let x := FFmt.f32.decode a.1
  let y := FFmt.f32.decode b.1
  if x.isNan then y.isNan && a.2 < b.2
  else if y.isNan then true
  else if 0 < x.cmp y then true
  else if x.cmp y < 0 then false
  else a.2 < b.2

/-- Which of two pairs of equal rank and equal index comes first where one score is +0 and the other −0: R69 is silent, R71 asks for one order
whatever the arrival. The order is a constant that nothing can evaluate (DESIGN CHOICE, log 80). -/
def tiedBefore (a b : Pair) : Bool :=
  a.2 = b.2 && a.1 ≠ b.1 && !(FFmt.f32.decode a.1).isNan && !(FFmt.f32.decode b.1).isNan && (FFmt.f32.decode a.1).cmp (FFmt.f32.decode b.1) = 0 &&
    (if a.1 < b.1 then Config.zeroOrder else !Config.zeroOrder)

/-- Insert before pairs of equal rank. -/
def insertRank (p : Pair) : List Pair → List Pair
  | [] => [p]
  | q :: r => if ranksBefore q p || tiedBefore q p then q :: insertRank p r else p :: q :: r

/-- SortByRank: stable for equal pairs (R271); pairs that differ have one order (R71). -/
def sortByRank (l : List Pair) : List Pair := l.foldr insertRank []

/-- A score as it is written: its bits, a NaN as the canonical NaN (R269). -/
def writtenScore (v : Nat) : Nat := if (FFmt.f32.decode v).isNan then FFmt.f32.cnan else v

/-- The bytes of a pair in a list (R269). -/
def pairBytes (p : Pair) : List Byte := leBytes 4 (writtenScore p.1) ++ leBytes 4 p.2

/-- NV where a score is a signalling NaN (R269). -/
def scoreFlags (l : List Pair) : Fl := if l.any fun p => (FFmt.f32.decode p.1).isSnan then Fl.inv else Fl.none

/-! ### VTOPK (R270 to R272) -/

/-- What a VTOPK works on, from its registers (R270). -/
structure TopK where
  la : Nat
  ob : Nat
  swizzle : Bool
  ibase : Nat
  cols : Nat
  rows : Nat
  k : Nat
  deriving DecidableEq, Repr

/-- The shape and addresses of a VTOPK. -/
def topkOf (f : VRForm) (b : Bank) : TopK :=
  let a := b.rdA (lo3 f.a)
  let sh := (b.rdS f.b).toNat
  ⟨a.base.toNat, (a.base + a.stride).toNat, a.swizzle, bitsNat sh 31 16, bitsNat sh 12 8 + 1, bitsNat sh 7 0 + 1,
    (f.imm.extractLsb' 0 5).toNat + 1⟩

/-- The active columns: lane active and below C. -/
def TopK.columns (t : TopK) (mask : MWord) : List Nat := (List.range 32).filter fun j => laneOn mask 32 j && j < t.cols

/-- Where the word at row `r`, column `j` of the scores lies, given the core and offset of la. -/
def TopK.scoreKey (t : TopK) (c o r j : Nat) : Nat :=
  (Space.spad c).key (if t.swizzle then swz (o + 128 * r + 4 * j) else o + 128 * r + 4 * j)

/-- The scores of a column as pairs, in row order. -/
def TopK.column (t : TopK) (s : State) (c o j : Nat) : List Pair :=
  (List.range t.rows).map fun r => (readNat s (t.scoreKey c o r j) 4, (t.ibase + r) % 2 ^ 32)

/-- The k pairs written for a column. -/
def TopK.list (t : TopK) (l : List Pair) : List Pair :=
  let r := sortByRank l
  (List.range t.k).map fun q => r.getD q Pair.unfilled

/-- The addresses pass the checks of R271, giving the core and offset of la and the key of ob. -/
def TopK.check (t : TopK) (s : State) : Except (BitVec 8) ((Nat × Nat) × Nat) :=
  if t.la % 128 ≠ 0 || t.ob % 128 ≠ 0 then .error causeMisaligned
  else match localPlace s s.ctx.core s.bank t.la, localSpan s s.ctx.core s.bank t.ob (256 * (t.cols - 1) + 8 * t.k) with
    | some (c, o), some kb => if o + 128 * t.rows ≤ spadBytes then .ok ((c, o), kb) else .error causeAddrRange
    | _, _ => .error causeAddrRange

/-- vD of a VTOPK: the threshold of each active column, −∞ in active lanes at or above C (R271). -/
def TopK.dest (t : TopK) (mask : MWord) (old : VWord) (thr : Nat → Nat) : VWord :=
  buildLanes 32 32 fun j =>
    if !laneOn mask 32 j then lane old j 32 else if j < t.cols then thr j else 0xFF800000

/-- The select unit starts an operation (R272): its flags are raised, and vD and the list words take its result when it finishes
(SELECT_WRITES). -/
def startSelect (f : VRForm) (v : VWord) (fl : Fl) (writes : List (Nat × List Byte)) (s : State) : State :=
  let t := (s.modBank fun b => b.raise fl).modCore s.ctx.core fun k =>
    { k with sel := k.sel ++ [⟨s.opId, s.ctx.bank, s.bank.task, f.d, v, writes⟩] }
  { t with opId := s.opId + 1 }

/-- VTOPK (R271, R272): every score is read now. -/
def topkBody (f : VRForm) (s : State) : State :=
  let b := s.bank
  let t := topkOf f b
  let mask := b.rdM f.msk
  let cols := t.columns mask
  if cols.isEmpty then startSelect f (t.dest mask (b.rdV f.d) fun j => lane (b.rdV f.d) j 32) Fl.none [] s
  else match t.check s with
    | .error c => takeTrap s c
    | .ok ((c, o), kb) =>
      if cols.any (fun j => (List.range t.rows).any fun r => poisoned s (t.scoreKey c o r j) 4) then takeTrap s causePoison
      else
        let cell := fun j => t.list (t.column s c o j)
        let writes := cols.map fun j => (kb + 256 * j, (cell j).flatMap pairBytes)
        startSelect f (t.dest mask (b.rdV f.d) fun j => writtenScore ((cell j).getLastD Pair.unfilled).1)
          (Fl.all (cols.map fun j => scoreFlags (t.column s c o j))) writes s

/-- VTOPK (R271). -/
def execVtopk (f : VRForm) (s : State) : Result := guarded f.g s (topkBody f)

/-- The pairs of a register, inactive ones unfilled (R273). -/
def regPairs (mask : MWord) (v : VWord) : List Pair :=
  (List.range 16).map fun i =>
    if mask.getLsbD (8 * i) then (lane v (2 * i) 32, lane v (2 * i + 1) 32) else Pair.unfilled

/-- The 32 pairs of a VMERGEK (R273). -/
def mergedPairs (f : VRForm) (b : Bank) : List Pair :=
  regPairs (b.rdM f.msk) (b.rdV f.a) ++ regPairs (b.rdM f.msk) (b.rdV f.b)

/-- The result of a VMERGEK (R273): the k highest-ranked of the 32 pairs; the rest unfilled. -/
def mergeResult (f : VRForm) (b : Bank) : VWord :=
  let r := (sortByRank (mergedPairs f b)).take (f.imm.toNat + 1)
  vOfBytes (((List.range 16).map fun i => r.getD i Pair.unfilled).flatMap pairBytes)

/-- VMERGEK (R272, R273). -/
def execVmergek (f : VRForm) (s : State) : Result :=
  guarded f.g s fun s => startSelect f (mergeResult f s.bank) (scoreFlags (mergedPairs f s.bank)) [] s

/-! ### VHAD (R70, R274) -/

/-- One butterfly stage on a list of FP32 lanes: `h` is 2^(t−1). -/
def hadStage (h : Nat) (xs : List Nat) : List (Nat × Fl) :=
  (List.range xs.length).map fun j =>
    if j / h % 2 = 0 then addNE32 (xs.getD j 0) (xs.getD (j + h) 0)
    else FFmt.f32.roundTerms .rne [[FFmt.f32.decode (xs.getD (j - h) 0)], [(FFmt.f32.decode (xs.getD j 0)).negate]]

/-- The stages t = 1 to s, then the scaling by 2^−⌊s/2⌋. -/
def hadStages : Nat → Nat → Nat → List Nat → Fl → List Nat × Fl
  | 0, _, s, xs, fl =>
    let r := xs.map fun x => FFmt.f32.encode .rne false ((FFmt.f32.decode x).scale (-((s / 2 : Nat) : Int)))
    (r.map fun p => p.1, fl.or (Fl.all (r.map fun p => p.2)))
  | n + 1, h, s, xs, fl =>
    let r := hadStage h xs
    hadStages n (2 * h) s (r.map fun p => p.1) (fl.or (Fl.all (r.map fun p => p.2)))

/-- VHAD (R274): above 5 stages the registers are runs of 2^(s−5). -/
def execVhad (f : VRForm) (s : State) : Result :=
  guarded f.g s fun s => s.modBank fun b =>
    let st := f.imm.toNat
    let n := 2 ^ (st - 5)
    let xs := (List.range n).flatMap fun q => (List.range 32).map fun i => lane (b.rdV (f.a + BitVec.ofNat 5 q)) i 32
    let r := hadStages st 1 st xs Fl.none
    ((List.range n).foldl (fun b q =>
      b.wrV (f.d + BitVec.ofNat 5 q) (buildLanes 32 32 fun i => r.1.getD (32 * q + i) 0)) b).raise r.2

/-! ### Tables (R275 to R278) -/

/-- The key of a byte of the task's table image (R31). -/
def tableKey (s : State) (off : Nat) : Nat := (Space.tram s.ctx.core).key (s.bank.tblBase + off)

/-- VTLD (R275). DEDUCED (log 90): the checks of its offset do not look at the mask; with no active lane nothing is accessed (R268). -/
def execVtld (f : VRForm) (s : State) : Result :=
  guarded f.g s fun s =>
    let off := (s.bank.rdS f.a).toNat
    if off % 128 ≠ 0 then takeTrap s causeMisaligned
    else if s.bank.tblLen < off + 128 then takeTrap s causeTableRange
    else if !(activeLanes (s.bank.rdM f.msk) 8).isEmpty && poisoned s (tableKey s off) 128 then takeTrap s causePoison
    else s.modBank fun b =>
      b.wrV f.d (writeLanes 8 (b.rdM f.msk) (b.rdV f.d) fun j => readNat s (tableKey s (off + j)) 1)

/-- An FP32 value of the table. -/
def tableF32 (s : State) (off : Nat) : FVal := FFmt.f32.decode (readNat s (tableKey s off) 4)

/-- The knot values of VTLI at a knot position `u` in [0, N−1] (R277): knot number, and the fraction f = u − i. -/
def knotOf (u : FVal) (n : Nat) : Nat × FVal :=
  let fl := match u with
    | .fin _ m e => if 0 ≤ e then m * 2 ^ e.toNat else m / 2 ^ (-e).toNat
    | _ => 0
  let i := min fl (n - 2)
  (i, (sumTerms .rne [[u], [(FVal.ofInt i).negate]]).1)

/-- One lane of VTLI (R277): the value before the last rounding, the flags so far, and the knot read, if any. -/
def vtliLane (s : State) (h n lo hi : Nat) (x : FVal) : FVal × Fl × Option Nat :=
  if x.isNan then (.nan false, snanFlag x, none)
  else
    let r := FFmt.f32.roundTerms .rne [[x, tableF32 s h], [tableF32 s (h + 4)]]
    let u := FFmt.f32.decode r.1
    let top := FVal.ofInt ((n : Int) - 1)
    if u.isNan then (.nan false, r.2, none)
    else
      let low := u.cmp FVal.zero < 0
      let out := low || 0 < u.cmp top
      let mode := if low then lo else hi
      if out && mode = 1 then (x, r.2, none)
      else if out && mode = 2 then (FVal.zero, r.2, none)
      else
        let k := knotOf (if out then (if low then FVal.zero else top) else u) n
        let y := FFmt.f32.roundTerms .rne [[k.2, tableF32 s (h + 20 + 8 * k.1)], [tableF32 s (h + 16 + 8 * k.1)]]
        (FFmt.f32.decode y.1, r.2.or y.2, some k.1)

/-- VTLI (R276, R277). -/
def vtliBody (f : VRForm) (s : State) : State :=
  let b := s.bank
  let t := fmtOf f.tb
  let h := (b.rdS f.b).toNat
  let n := readNat s (tableKey s (h + 8)) 4
  let lo := (f.imm.extractLsb' 2 2).toNat
  let hi := (f.imm.extractLsb' 0 2).toNat
  let mask := b.rdM f.msk
  if h % 16 ≠ 0 then takeTrap s causeMisaligned
  else if b.tblLen < h + 16 then takeTrap s causeTableRange
  else if !(activeLanes mask t.bits).isEmpty && poisoned s (tableKey s h) 12 then takeTrap s causePoison
  else if n < 2 || 2046 < n || b.tblLen < h + 16 + 8 * n then takeTrap s causeTableRange
  else
    let x := fun i => t.decode (lane (b.rdV f.a) i t.bits)
    let y := fun i => vtliLane s h n lo hi (x i)
    let on := activeLanes mask t.bits
    if on.any (fun i => match (y i).2.2 with
          | some k => poisoned s (tableKey s (h + 16 + 8 * k)) 8
          | none => false) then takeTrap s causePoison
    else
      let z := fun i => t.encode (effMode f.rm b.issueRnd) false (y i).1
      s.modBank fun b =>
        (b.wrV f.d (writeLanes t.bits mask (b.rdV f.d) fun i => (z i).1)).raise
          (laneFlags t.bits (1024 / t.bits) mask fun i => (y i).2.1.or (z i).2)

/-- VTLI (R277). DEDUCED (log 90): the checks of its offset and of N do not look at the mask; with no active lane there is no poison trap
(R268). -/
def execVtli (f : VRForm) (s : State) : Result := guarded f.g s (vtliBody f)

/-- VTLU (R278): entry x of the table where x < N, else 0. DEDUCED (log 90): the checks of its offset and of N do not look at the mask. -/
def execVtlu (f : VRForm) (s : State) : Result :=
  guarded f.g s fun s =>
    let b := s.bank
    let w := laneBits f.tb
    let d := (b.rdS f.b).toNat
    let off := bitsNat d 13 0
    let n := bitsNat d 27 14
    let mask := b.rdM f.msk
    let idx := fun i => lane (b.rdV f.a) i w
    if off % (w / 8) ≠ 0 then takeTrap s causeMisaligned
    else if n = 0 || b.tblLen < off + n * (w / 8) then takeTrap s causeTableRange
    else if ((List.range (1024 / w)).filter fun i => laneOn mask w i && idx i < n).any fun i =>
        poisoned s (tableKey s (off + idx i * (w / 8))) (w / 8) then takeTrap s causePoison
    else s.modBank fun b =>
      b.wrV f.d (writeLanes w mask (b.rdV f.d) fun i =>
        if idx i < n then readNat s (tableKey s (off + idx i * (w / 8))) (w / 8) else 0)

/-! ### Dot products (R66, R279) -/

/-- VDOT on BF16 (R279): the accumulator and two products, summed exactly and rounded once. -/
def execVdotBf16 (f : VRForm) (s : State) : Result :=
  guarded f.g s fun s => s.modBank fun b =>
    let h := fun (r : BitVec 5) i => FFmt.bf16.decode (lane (b.rdV r) i 16)
    let y := fun i => FFmt.f32.roundTerms (effMode f.rm b.issueRnd)
      [[FFmt.f32.decode (lane (b.rdV f.d) i 32)], [h f.a (2 * i), h f.b (2 * i)], [h f.a (2 * i + 1), h f.b (2 * i + 1)]]
    (b.wrV f.d (writeLanes 32 (b.rdM f.msk) (b.rdV f.d) fun i => (y i).1)).raise
      (laneFlags 32 32 (b.rdM f.msk) fun i => (y i).2)

/-- VDOT on I8 (R279): the exact sum wrapped to 32 bits. -/
def execVdotI8 (f : VRForm) (s : State) : Result :=
  guarded f.g s fun s => s.modBank fun b =>
    let p := fun i => sext (lane (b.rdV f.a) i 8) 8 * sext (lane (b.rdV f.b) i 8) 8
    b.wrV f.d (writeLanes 32 (b.rdM f.msk) (b.rdV f.d) fun i =>
      truncInt (lane (b.rdV f.d) i 32 + p (4 * i) + p (4 * i + 1) + p (4 * i + 2) + p (4 * i + 3)) 32)

/-! ### Reductions and prefix sums (R65, R280, R281) -/

/-- A leaf or node of the tree of R65: inactive, or a value with the flags met below it. -/
abbrev RNode := Option Nat × Fl

/-- A node over two children (R65). -/
def reduceNode (m : RMode) (x y : RNode) : RNode :=
  match x.1, y.1 with
  | some a, some b =>
    let r := FFmt.f32.roundTerms m [[FFmt.f32.decode a], [FFmt.f32.decode b]]
    (some r.1, (x.2.or y.2).or r.2)
  | some a, none => (some a, x.2.or y.2)
  | none, o => (o, x.2.or y.2)

/-- One level of the tree: adjacent pairs. -/
def reduceLevel (m : RMode) : List RNode → List RNode
  | x :: y :: r => reduceNode m x y :: reduceLevel m r
  | l => l

/-- The tree over a list of lanes; `fuel` counts levels. -/
def reduceTree (m : RMode) : Nat → List RNode → RNode
  | 0, l => l.headD (none, Fl.none)
  | n + 1, l => reduceTree m n (reduceLevel m l)

/-- The result of a reduction: lane 0, every other byte 0 (R280). -/
def lane0 (v : Nat) : VWord := BitVec.ofNat 1024 v

/-- A lane widened exactly to FP32, with NV for a signalling NaN (R58, R280). -/
def widen32 (t : FFmt) (v : Nat) : Nat × Fl :=
  let x := t.decode v
  ((FFmt.f32.encode .rne false x).1, snanFlag x)

/-- VRADD (R280): the tree of R65 in FP32; no active lane gives −0. -/
def execVradd (f : VRForm) (s : State) : Result :=
  guarded f.g s fun s => s.modBank fun b =>
    let t := fmtOf f.ta
    let leaf := fun i : Nat =>
      let x := widen32 t (lane (b.rdV f.a) i t.bits)
      if laneOn (b.rdM f.msk) t.bits i then ((some x.1, x.2) : RNode) else (none, Fl.none)
    let r := reduceTree (effMode f.rm b.issueRnd) 6 ((List.range (1024 / t.bits)).map leaf)
    (b.wrV f.d (lane0 (r.1.getD 0x80000000))).raise r.2

/-- The active lanes of a register as values. -/
def activeVals (b : Bank) (f : VRForm) (w : Nat) : List Nat :=
  ((List.range (1024 / w)).filter fun i => laneOn (b.rdM f.msk) w i).map fun i => lane (b.rdV f.a) i w

/-- VRMAX and VRMIN (R68, R280). -/
def reduceMinMax (f : VRForm) (isMax : Bool) (s : State) : State :=
  s.modBank fun b =>
    if isFloat f.ta then
      let t := fmtOf f.ta
      let r := (activeVals b f t.bits).foldl (fun (a : Nat × Fl) v =>
        let x := t.minMax isMax a.1 v
        (x.1, a.2.or ((snanFlag (t.decode v)).or Fl.none))) (t.infBits isMax, Fl.none)
      (b.wrV f.d (lane0 r.1)).raise r.2
    else
      let w := laneBits f.ta
      let r := (activeVals b f w).foldl (fun (a : Int) v =>
        if isMax then max a (intOfLane f.ta v) else min a (intOfLane f.ta v))
        (if isMax then (intRange f.ta).1 else (intRange f.ta).2)
      b.wrV f.d (lane0 (truncInt r w))

/-- VRMAX (R280). -/
def execVrmax (f : VRForm) (s : State) : Result := guarded f.g s (reduceMinMax f true)
/-- VRMIN (R280). -/
def execVrmin (f : VRForm) (s : State) : Result := guarded f.g s (reduceMinMax f false)

/-- VRADDI (R280): the integer sum, truncated to 32 bits. -/
def execVraddi (f : VRForm) (s : State) : Result :=
  guarded f.g s fun s => s.modBank fun b =>
    b.wrV f.d (lane0 (truncInt ((activeVals b f (laneBits f.ta)).foldl (fun (a : Int) v => a + intOfLane f.ta v) 0) 32))

/-- The inclusive running sum of R281 over the lanes from `i` on: for each lane its written value, or none. -/
def prefixSum (first : Nat → Nat × Fl) (add : Nat → Nat → Nat × Fl) : List (Bool × Nat) → Option Nat → Fl → List (Option Nat) × Fl
  | [], _, fl => ([], fl)
  | (on, x) :: r, acc, fl =>
    if !on then
      let t := prefixSum first add r acc fl
      (none :: t.1, t.2)
    else
      let v := match acc with
        | none => first x
        | some a => add a x
      let t := prefixSum first add r (some v.1) (fl.or v.2)
      (some v.1 :: t.1, t.2)

/-- The first active lane of a running sum: exact, but a NaN is the canonical NaN, and a signalling one raises NV (R47, R56, R281). -/
def sumFirst (t : BitVec 6) (x : Nat) : Nat × Fl :=
  let v := (fmtOf t).decode x
  if isFloat t && v.isNan then ((fmtOf t).cnan, if v.isSnan then Fl.inv else Fl.none) else (x, Fl.none)

/-- VPSUM (R281): no RM field, so float sums round in RND.MODE. -/
def execVpsum (f : VRForm) (s : State) : Result :=
  guarded f.g s fun s => s.modBank fun b =>
    let w := laneBits f.ta
    let add := fun a x =>
      if isFloat f.ta then
        (fmtOf f.ta).roundTerms (rmodeOfRnd b.issueRnd) [[(fmtOf f.ta).decode a], [(fmtOf f.ta).decode x]]
      else ((a + x) % 2 ^ w, Fl.none)
    let r := prefixSum (sumFirst f.ta) add ((List.range (1024 / w)).map fun i => (laneOn (b.rdM f.msk) w i, lane (b.rdV f.a) i w)) none Fl.none
    (b.wrV f.d (buildLanes (1024 / w) w fun i => ((r.1.getD i none).getD (lane (b.rdV f.d) i w)))).raise r.2

/-! ### Moves and permutes (R282) -/

/-- A permute: active lane `i` of `w` bits takes `src i`. -/
def permBody (f : VRForm) (w : Nat) (src : Bank → Nat → Nat) (s : State) : State :=
  s.modBank fun b => b.wrV f.d (writeLanes w (b.rdM f.msk) (b.rdV f.d) (src b))

/-- VMOV (R282). -/
def execVmov (f : VRForm) (s : State) : Result := guarded f.g s (permBody f 8 fun b i => lane (b.rdV f.a) i 8)

/-- VBCST (R282): w = 32 without an extension word. -/
def execVbcst (f : VRForm) (s : State) : Result :=
  let w := if f.x.isSome then laneBits f.tb else 32
  guarded f.g s (permBody f w fun b _ => (b.rdS f.a).toNat % 2 ^ w)

/-- VINS (R282): lane IMM only. -/
def execVins (f : VRForm) (s : State) : Result :=
  let w := laneBits f.tb
  guarded f.g s (permBody f w fun b i => if i = f.imm.toNat then (b.rdS f.a).toNat % 2 ^ w else lane (b.rdV f.d) i w)

/-- VEXT (R282): sign-extended for I8 and I16, zero-extended otherwise. -/
def execVext (f : VRForm) (s : State) : Result :=
  guarded f.g s fun s => s.modBank fun b =>
    let w := laneBits f.ta
    let v := lane (b.rdV f.a) f.imm.toNat w
    b.wrS f.d (if f.ta = 0x21 || f.ta = 0x22 then BitVec.ofInt 32 (sext v w) else BitVec.ofNat 32 v)

/-- VPERM (R282): w = 8 without an extension word. -/
def execVperm (f : VRForm) (s : State) : Result :=
  let w := if f.x.isSome then laneBits f.ta else 8
  guarded f.g s (permBody f w fun b i => lane (b.rdV f.a) (lane (b.rdV f.b) i w % (1024 / w)) w)

/-- VZIP (R282). -/
def execVzip (f : VRForm) (s : State) : Result :=
  let w := laneBits f.ta
  let o := if f.q then 1024 / w / 2 else 0
  guarded f.g s (permBody f w fun b i => if i % 2 = 0 then lane (b.rdV f.a) (o + i / 2) w else lane (b.rdV f.b) (o + i / 2) w)

/-- Element `i` of the 2n lanes of vA (low) and vB (high). -/
def pairLane (f : VRForm) (b : Bank) (w i : Nat) : Nat :=
  if i < 1024 / w then lane (b.rdV f.a) i w else lane (b.rdV f.b) (i - 1024 / w) w

/-- VUNZIP (R282). -/
def execVunzip (f : VRForm) (s : State) : Result :=
  let w := laneBits f.ta
  guarded f.g s (permBody f w fun b i => pairLane f b w (2 * i + (if f.q then 1 else 0)))

/-- VSLIDE (R282). -/
def execVslide (f : VRForm) (s : State) : Result :=
  let w := laneBits f.ta
  guarded f.g s (permBody f w fun b i => pairLane f b w (i + f.imm.toNat))

/-! ### Mask instructions (R283) -/

/-- The bits of a mask gated by mK: the others keep their value. -/
def gateMask (mk old new : MWord) : MWord := (new &&& mk) ||| (old &&& ~~~mk)

/-- A mask from its bits. -/
def maskOf (g : Nat → Bool) : MWord := BitVec.ofNat 128 (ofLanes 1 ((List.range 128).map fun j => if g j then 1 else 0))

/-- VMLOG (R283). -/
def execVmlog (f : VRForm) (s : State) : Result :=
  guarded f.g s fun s => s.modBank fun b =>
    let x := b.rdM (lo3 f.a)
    let y := b.rdM (lo3 f.b)
    b.wrM (lo3 f.d) (gateMask (b.rdM f.msk) (b.rdM (lo3 f.d))
      (maskOf fun j => truthTable (f.imm.extractLsb' 0 4) (x.getLsbD j) (y.getLsbD j)))

/-- VMSET (R283): bit j is 1 for j < Min(s_A, 128). -/
def execVmset (f : VRForm) (s : State) : Result :=
  guarded f.g s fun s => s.modBank fun b =>
    b.wrM (lo3 f.d) (gateMask (b.rdM f.msk) (b.rdM (lo3 f.d))
      (BitVec.ofNat 128 (2 ^ (min (b.rdS f.a).toNat 128) - 1)))

/-- VMFIRST (R283): the least set bit, or 128. -/
def execVmfirst (f : VRForm) (s : State) : Result :=
  guarded f.g s fun s => s.modBank fun b =>
    let x := b.rdM (lo3 f.a) &&& b.rdM f.msk
    b.wrS f.d (BitVec.ofNat 32 (((List.range 128).find? fun j => x.getLsbD j).getD 128))

/-- VCNTM (R283): the number of set bits. -/
def execVcntm (f : VRForm) (s : State) : Result :=
  guarded f.g s fun s => s.modBank fun b =>
    b.wrS f.d (BitVec.ofNat 32 (popFrom (b.rdM (lo3 f.a) &&& b.rdM f.msk) 128))

end Sys2Proof.Machine
end

