-- ==== Sys2Proof/Machine/Network.lean ====
section
/-! DEFINITION. The name network (R327 to R355): installs and removals, publications at their homes, deliveries, ore bins,
reductions, GETs. -/

namespace Sys2Proof.Machine

open Sys2Proof

/-! ### Records and causes -/

/-- The source of a router's or cluster's records (R490). -/
def clusterSource (k : Nat) : BitVec 16 := BitVec.ofNat 16 (fieldOfCluster k * 512 + clusterInField k * 16)

/-- The source in DETAIL of a fault that a router finds (R465): its field; with no core, bits [8:0] are zero. -/
def routerFault (k : Nat) : BitVec 16 := BitVec.ofNat 16 (fieldOfCluster k * 512)

/-- The source in DETAIL of a fault of adit work (R465, R490): with no core, bits [8:0] are zero. -/
def aditFault : BitVec 16 := BitVec.ofNat 16 (126 * 512)

/-- A cause of kind L (R465): the launch is aborted with cause 0x02, the code and the source in DETAIL. -/
def abortCode (l : Nat) (code : BitVec 8) (src : BitVec 16) (s : State) : State := postAbort s l 0x02 (trapDetail code src)

/-- The HBM window table admits an access of CLASS 1 to what an adit agent keeps in a partition's areas (R503 to R505). -/
def areaAdmits (s : State) (part area n : Nat) (wr : Bool) : Bool := admitted s 0 (Config.areaUnit part area n % 2 ^ 24) 1 part wr (!wr)

/-- An adit agent writes or reads a tile, a partial or a row of a launch in its partition's areas. What the table refuses is not performed, is
recorded, and aborts the launch with the access cause, as R375 says of a refusal at an agent (R503, R505; DEDUCED, log 42). -/
def areaAccess (part area n l : Nat) (wr : Bool) (yes : State → State) (s : State) : State :=
  checked s 0 (Config.areaUnit part area n % 2 ^ 24) 1 part wr (!wr) yes (abortCode l 0x24 aditFault)

/-- The source of an adit agent's records (R490). -/
def aditUnit (a : Nat) : BitVec 16 := BitVec.ofNat 16 (126 * 512 + a * 16)

/-- A record of a router, distributor or other unit. -/
def unitRec (s : State) (code src : BitVec 16) (launch : Nat) (task : Word) (payload : List Byte) : TraceRec :=
  ⟨taiNs s, code, src, BitVec.ofNat 32 launch, task, payload⟩

/-- The field to which records of a launch from outside the fields go (R496). -/
def launchField (s : State) (l : Nat) : Nat :=
  match kget s.launches l with
  | some x => ((s.part x.part).fields.foldl min 84) % 84
  | none => 0

/-- A collective step record of a home (R493). -/
def stepRecord (r : Nat) (code : BitVec 16) (p : Packet) (s : State) : State :=
  emit s (fieldOfCluster r) (unitRouter r) (unitRec s code (clusterSource r) p.launch 0xFFFFFFFF
    (leBytes 8 p.name.toNat ++ leBytes 2 p.step ++ leBytes 2 p.gen.toNat))

/-- A launch is live and not being discarded. -/
def liveLaunch (s : State) (l : Nat) : Bool :=
  match kget s.launches l with
  | some x => !x.discarded
  | none => false

/-! ### Rings of a task instance -/

/-- Ring `k` of a task instance: in its bank while it runs, else as arming reserved it (R110). -/
def taskRing (s : State) (t : TaskInst) (k : Nat) : Option Ring :=
  if t.st = .running then ((s.core t.core).bank t.bank).ring k else t.rings[k]?

/-- Change ring `k` of task instance `n`. -/
def modTaskRing (n k : Nat) (f : Ring → Ring) (s : State) : State :=
  match kget s.tasks n with
  | none => s
  | some t =>
    if t.st = .running then s.modBankAt t.core t.bank fun b => b.modRing k f
    else s.modTask n fun t => { t with rings := t.rings.modify k f }

/-- An event of a task instance that runs (R214). -/
def taskEvent (n e : Nat) (s : State) : State :=
  match kget s.tasks n with
  | some t => if t.st = .running then raiseEvent s t.core t.bank e else s
  | none => s

/-- A task whose descriptor subscriptions are all satisfied becomes READY, and a source in the same step (R42, R456). -/
def checkReady (n : Nat) (s : State) : State :=
  match kget s.tasks n with
  | none => s
  | some t =>
    if t.st = .armed && t.subs.all (fun x => x.dynamic || x.count ≤ x.arrivals) then
      (touchSource (s.modTask n fun t => { t with st := .ready, readySeq := s.opId }) t.launch 0).bump
    else s

/-- A subscription is the one that a target names: not another that has taken its index since (R403, R404). -/
def Sub.isAt (x : Sub) (tgt : Target) : Bool := x.index = tgt.sub && x.uid = tgt.uid

/-- The subscription of a target. -/
def subOf (s : State) (tgt : Target) : Option Sub :=
  match kget s.tasks tgt.task with
  | some t => t.subs.find? fun x => x.isAt tgt
  | none => none

/-- Change the subscription of a target. -/
def modSub (tgt : Target) (f : Sub → Sub) (s : State) : State :=
  s.modTask tgt.task fun t => { t with subs := t.subs.map fun x => if x.isAt tgt then f x else x }

/-! ### Ore bins (R341, R342) -/

/-- Granules of a packet (R341): a pip takes none. -/
def granules (p : Packet) : Nat := (p.payload.length + 255) / 256

/-- Tags in use (R341, R344): a value in the tailings area has none. -/
def Router.tags (r : Router) : Nat :=
  r.kept.length + r.held.length + r.holds.length + (r.partials.filter fun p => !p.spilled).length + r.gets.length + r.transit.length + r.reserved.length

/-- Granules of the held deliveries, those of link ports among them (R90). -/
def Router.heldGranules (r : Router) : Nat :=
  r.held.foldl (fun n h => n + (if h.dropped || h.beside then 0 else granules h.pkt)) 0 +
    r.holds.foldl (fun n h => n + (if h.dropped || h.beside then 0 else granules h.pkt)) 0

/-- Granules in use. -/
def Router.granules (r : Router) : Nat :=
  r.kept.foldl (fun n k => n + Machine.granules k.pkt) 0 + r.heldGranules +
    r.partials.foldl (fun n p => n + (if p.spilled then 0 else Machine.granules p.pkt)) 0 +
    r.transit.foldl (fun n t => n + Machine.granules t.pkt) 0 + r.reserved.foldl (fun n x => n + x.2) 0

/-- Tags in use at a router of the device, those of counter entries among them (R341, R454). -/
def tagsOf (s : State) (r : Nat) : Nat := Router.tags (s.router r) + counterTags s r

/-- Change the retained copies of a router. -/
def mapKept (h : Nat) (f : Kept → Kept) (s : State) : State := s.modRouter h fun r => { r with kept := r.kept.map f }
/-- Change the name-match entries of a router. -/
def mapEntries (h : Nat) (f : MatchEntry → MatchEntry) (s : State) : State :=
  s.modRouter h fun r => { r with entries := r.entries.map f }

/-- The key of a retained copy (R342). -/
def copyKey (p : Packet) : CopyKey := (p.name, p.gen, p.launch)

/-- When a copy expires, in network cycles (R342). -/
def Kept.expiry (k : Kept) : Nat := 2 * k.since + 2 ^ k.pkt.retexp

/-- A copy's age has reached 2^RETEXP network cycles (R342). -/
def Kept.old (k : Kept) (now : Nat) : Bool := k.expired || k.expiry ≤ 2 * now

/-- Copy `a` is evicted before copy `b` (R342): expired ones by expiry, then the least recently stored or served; ties by the
order of storing. -/
def evictBefore (now : Nat) (a b : Kept) : Bool :=
  if a.old now != b.old now then a.old now
  else if a.old now then a.expiry < b.expiry || (a.expiry = b.expiry && a.stored < b.stored)
  else a.used < b.used

/-- The copy that the home evicts next, among those that hold granules where granules are wanted (R342). -/
def victim (now : Nat) (r : Router) (wantGranules : Bool) : Option Kept :=
  (r.kept.filter fun k => k.pins = 0 && (!wantGranules || granules k.pkt ≠ 0)).foldl (fun a k => match a with
    | none => some k
    | some y => if evictBefore now k y then some k else some y) none

/-- Bytes of the tiles of a partition that wait to be written to its tailings area, but for one of `key` (R88, R345). -/
def tailComing (s : State) (part : Nat) (key : Option CopyKey) : Nat :=
  s.rim.foldl (fun n r => match r.work with
    | .tail _ p => if partOf p.launch = part && some (copyKey p) ≠ key then n + p.payload.length else n
    | _ => n) 0

/-- Room of a partition's tailings area still free (R345), beside its tiles and the partials kept there (R350); a tile of `key` is to be
replaced, and takes none. -/
def tailFree (s : State) (part : Nat) (key : Option CopyKey) : Nat :=
  (s.part part).tailRoom - (((kgetD s.tail part []).filter fun p => some (copyKey p.2) ≠ key).foldl (fun n p => n + p.2.payload.length) 0 +
    tailComing s part key +
    s.routers.foldl (fun n r => r.2.partials.foldl (fun n p =>
      n + (if p.spilled && partOf p.pkt.launch = part then p.pkt.payload.length else 0)) n) 0)

/-- A key enters the list of discarded names, which keeps the last 4,096 (R343). DESIGN CHOICE (log 109): a key that is discarded again keeps one
entry, which becomes the youngest. -/
def listKey (h : Nat) (p : Packet) (s : State) : State :=
  s.modRouter h fun r =>
    let l := (r.listed.filter fun k => k ≠ copyKey p) ++ [copyKey p]
    { r with listed := l.drop (l.length - 4096) }

/-- Eviction by class (R26, R342, R343, R345) of the copy stored as number `n`; a SPILL tile is written to the tailings area in a slot
of its partition (R88), and replaces an earlier tile of its key there when it is written. -/
def evictAs (h n : Nat) (p : Packet) (s : State) : State :=
  if p.pclass = 1 then
    let part := partOf p.launch
    if p.payload.length ≤ tailFree s part (some (copyKey p)) then rimQueue (queryAgent s p.name p.launch) part (.tail n p) s
    else listKey h p s
  else if p.pclass = 0 then listKey h p s
  else s

/-- A router evicts a copy. -/
def evictCopy (h : Nat) (v : Kept) (s : State) : State :=
  evictAs h v.stored v.pkt (s.modRouter h fun r => { r with kept := r.kept.filter fun k => k.stored ≠ v.stored })

/-- Make room for `g` granules and a tag, evicting at most `fuel` copies: whether there is room, and the state. -/
def makeRoom (h g : Nat) : Nat → State → Bool × State
  | 0, s => (false, s)
  | fuel + 1, s =>
    let r := s.router h
    let noTag := 4096 ≤ tagsOf s h
    let noGran := 2048 < Router.granules r + g
    if !noTag && !noGran then (true, s)
    else match victim s.now r noGran with
      | none => (false, s)
      | some v => makeRoom h g fuel (evictCopy h v s)

/-- Counter entries have taken tags beyond a router's 4,096, and are never evicted: copies are (R341, R342, R454), at most `fuel`. -/
def trimTags (h : Nat) : Nat → State → State
  | 0, s => s
  | fuel + 1, s =>
    if tagsOf s h ≤ 4096 then s
    else match victim s.now (s.router h) false with
      | none => s
      | some v => trimTags h fuel (evictCopy h v s)

/-- The routers whose tags counter entries take make up for it. -/
def trimAll (s : State) : State :=
  ((s.counters.filterMap fun x => if reporterRoom x.1 < x.2.length then reporterBin x.1 else none).dedup).foldl (fun s r =>
    trimTags r (s.router r).kept.length s) s

/-- The home retains a copy (R342), with its number in the order of storing: it replaces an earlier copy of its key, whose pins stay with
the key. Where nothing can be evicted it is treated as evicted at once. -/
def retainAt (h n : Nat) (p : Packet) (s : State) : State :=
  let pins := match (s.router h).kept.find? fun k => copyKey k.pkt = copyKey p with | some k => k.pins | none => 0
  let s := s.modRouter h fun r => { r with kept := r.kept.filter fun k => copyKey k.pkt ≠ copyKey p }
  let m := makeRoom h (granules p) ((s.router h).kept.length + 1) s
  if m.1 then
    (m.2.modRouter h fun r => { r with kept := r.kept ++ [⟨p, m.2.now, n, m.2.opId, false, pins⟩] }).bump
  else (evictAs h n p m.2).bump

/-- The home retains a publication (R342). -/
def retain (h : Nat) (p : Packet) (s : State) : State := retainAt h s.opId p s

/-- There is room for `g` granules and a tag at a router, or eviction makes it. -/
def hasRoom (s : State) (r g : Nat) : Bool := (makeRoom r g ((s.router r).kept.length + 1) s).1

/-- A retained copy of a key is served (R342). -/
def noteServed (h : Nat) (key : CopyKey) (s : State) : State :=
  (mapKept h (fun k => if copyKey k.pkt = key then { k with used := s.opId } else k) s).bump

/-- COPY_EXPIRY (R342): copies whose age has reached 2^RETEXP network cycles become expired. -/
def execCopyExpiry (s : State) : Result :=
  .next (match s.ev with
    | some (.copyExpiry h) =>
      mapKept h (fun k => if k.expiry ≤ 2 * s.now then { k with expired := true } else k) s
    | _ => s)

/-! ### Trees (R335 to R338) -/

/-- An entry of a router matches a packet. -/
def MatchEntry.matches (e : MatchEntry) (p : Packet) : Bool := Pattern.hits e.pat p.name p.gen p.launch

/-- The mesh ports through which a router sends a packet: those with a count in some matching entry of the kind (R338). -/
def portsFor (r : Router) (kind : MatchKind) (p : Packet) : List Nat :=
  (List.range 4).filter fun i => r.entries.any fun e => e.kind = kind && e.matches p && e.counts.getD i 0 ≠ 0

/-- The LOCAL entries of a router that a home's packet is delivered to: those whose install that home has ordered (R339). -/
def localsFor (r : Router) (home : Nat) (p : Packet) : List Target :=
  r.entries.filterMap fun e => match e.kind with
    | .loc t _ => if e.matches p && e.homes.contains home then some t else none
    | _ => none

/-- The deliveries below a router (R338); `fuel` bounds the depth of the tree. -/
def spread (s : State) (home : Nat) (p : Packet) : Nat → Nat → List (Nat × Target)
  | 0, _ => []
  | f + 1, r =>
    ((localsFor (s.router r) home p).map fun t => (r, t)) ++
      (portsFor (s.router r) (if r = home then .home else .transit) p).flatMap fun i => spread s home p f (neighbour r i)

/-- The routers that send a packet through several ports of its tree (R338); `fuel` bounds the depth of the tree. -/
def forks (s : State) (home : Nat) (p : Packet) : Nat → Nat → List Nat
  | 0, _ => []
  | f + 1, r =>
    let ps := portsFor (s.router r) (if r = home then .home else .transit) p
    let n := ps.length + (if (localsFor (s.router r) home p).isEmpty then 0 else 1)
    (if 2 ≤ n then [r] else []) ++ ps.flatMap fun i => forks s home p f (neighbour r i)

/-- Every router of a packet's tree that sends it through several ports has transit granules for it (R338). DESIGN CHOICE (log 117): a router where
no copy is ahead, whose drain would end the hold, holds nothing, however full its bin is. -/
def treeRoom (s : State) (h : Nat) (p : Packet) : Bool :=
  (forks s h p 128 h).dedup.all fun r => (s.router r).transit.isEmpty || hasRoom s r (granules p)

/-- A router stores a transit copy (R338). -/
def addTransit (id : Nat) (p : Packet) (s : State) (r : Nat) : State :=
  (makeRoom r (granules p) ((s.router r).kept.length + 1) s).2.modRouter r fun x => { x with transit := x.transit ++ [⟨id, p⟩] }

/-- Some delivery of a transit copy is still on its way. -/
def transitOut (s : State) (id : Nat) : Bool :=
  s.agenda.any fun e => match e with
    | .delivery p _ _ _ => p.op = id
    | _ => false

/-- Transit copies whose last delivery has been made are drained (R338). -/
def drainTransit (p : Packet) (s : State) : State :=
  if p.op = 0 || transitOut s p.op then s
  else touchPhase { s with routers := s.routers.map fun (x : Nat × Router) =>
    (x.1, { x.2 with transit := x.2.transit.filter fun t => t.id ≠ p.op }) } p.launch p.phase

/-- The home forwards a packet down its tree (R338), to each target once (R339): routers that send it through several ports keep it
in transit granules until the copies are through. -/
def forward (h : Nat) (p : Packet) (s : State) : State :=
  let ds := (spread s h p 128 h).dedup
  let fs := (forks s h p 128 h).dedup
  if fs.isEmpty then postAll (ds.map fun x => .delivery { p with op := 0 } x.1 x.2 h) s
  else postAll (ds.map fun x => .delivery { p with op := s.opId } x.1 x.2 h) (fs.foldl (addTransit s.opId p) s).bump

/-! ### Installs and removals (R336, R337) -/

/-- The kind of entry an install needs at a router above the subscriber's. -/
def upKind (m : PathMsg) (r : Nat) : MatchKind := if r = m.home then .home else .transit

/-- What a subscription counts among the data subscriptions of an entry: a HOME entry counts those of NODATA 0 (R418). -/
def dataCount (m : PathMsg) (r : Nat) : Nat := if r = m.home && !m.nodata then 1 else 0

/-- Count one subscription more through a port, in the entry of the pattern, which is created where there is none. -/
def countUp (m : PathMsg) (r port : Nat) (s : State) : State :=
  s.modRouter r fun x =>
    let k := upKind m r
    let es := if x.entries.any (fun e => e.kind = k && e.pat = m.pat) then x.entries
      else x.entries ++ [⟨m.pat, k, [0, 0, 0, 0, 0], [], 0⟩]
    { x with entries := es.map fun e =>
        if e.kind = k && e.pat = m.pat then { e with counts := e.counts.modify port (· + 1), data := e.data + dataCount m r } else e }

/-- Count one less; an entry whose counts are all 0 is freed (R337). -/
def countDown (m : PathMsg) (r port : Nat) (s : State) : State :=
  s.modRouter r fun x =>
    let k := upKind m r
    { x with entries := (x.entries.map fun e =>
        if e.kind = k && e.pat = m.pat then { e with counts := e.counts.modify port (· - 1), data := e.data - dataCount m r } else e).filter fun e =>
          !(e.kind = k && e.pat = m.pat && e.counts.all (· = 0)) }

/-- The LOCAL entry of an install at its subscriber's router. -/
def addLocal (m : PathMsg) (r : Nat) (s : State) : State :=
  s.modRouter r fun x =>
    if x.entries.any (fun e => e.kind = .loc m.tgt m.nodata) then x
    else { x with entries := x.entries ++ [⟨m.pat, .loc m.tgt m.nodata, [], [], 0⟩] }

/-- The LOCAL entry of a target loses a home; one that no home has ordered is deleted (R336, R337). -/
def dropLocal (m : PathMsg) (r : Nat) (s : State) : State :=
  s.modRouter r fun x =>
    { x with entries := (x.entries.map fun e =>
        if e.kind = .loc m.tgt m.nodata then { e with homes := sdel e.homes m.home } else e).filter fun e =>
          !(e.kind = .loc m.tgt m.nodata && e.homes.isEmpty) }

/-- A home has ordered the install that a removal undoes. -/
def orderedHere (s : State) (m : PathMsg) (r : Nat) : Bool :=
  (s.router r).entries.any fun e => e.kind = .loc m.tgt m.nodata && e.homes.contains m.home

/-- Another install of the same target is on its way. -/
def installOut (s : State) (m : PathMsg) : Bool :=
  s.agenda.any fun e => match e with
    | .install x => x.tgt = m.tgt && x.home ≠ m.home
    | _ => false

/-- The entries that an install needs anew at a router. -/
def newEntries (s : State) (m : PathMsg) (r : Nat) : Nat :=
  (if m.done.isEmpty && !((s.router r).entries.any fun e => e.kind = .loc m.tgt m.nodata) then 1 else 0) +
    (if (m.done.isEmpty && r ≠ m.home) || (s.router r).entries.any (fun e => e.kind = upKind m r && e.pat = m.pat) then 0 else 1)

/-- The tensors of a graph that a pattern can match, homed at a router. -/
def tensorsFor (s : State) (m : PathMsg) : List Tensor :=
  match kget s.graphs (nsOf m.pat.value) with
  | none => []
  | some g => g.tensors.filter fun t =>
      ((mkName 0 t.tnum 0 ^^^ m.pat.value) &&& m.pat.mask &&& 0x000FFFFF00000000) = 0 &&
        homeOf s (mkName (nsOf m.pat.value) t.tnum 0) m.pat.launch = m.home

/-- Copies in the order of storing. -/
def insertStored (k : Kept) : List Kept → List Kept
  | [] => [k]
  | j :: r => if k.stored < j.stored then k :: j :: r else j :: insertStored k r

/-- The core and bank of a target, as DSTCB names them (R330). -/
def targetCb (s : State) (tgt : Target) : Nat :=
  match kget s.tasks tgt.task with
  | some t => t.core % 4 * 2 + (if t.bank then 1 else 0)
  | none => 0

/-- A late serve of a copy to an install's target (R331, R340, R541): kind 5, with the phase of the install. -/
def lateServe (m : PathMsg) (p : Packet) (s : State) : State :=
  let r := (m.done.headD (m.todo.headD (m.home, 4))).1
  post (.delivery { p with kind := 5, phase := m.phase, dstCl := r, dstCb := targetCb s m.tgt, op := 0 } r m.tgt m.home) s

/-- An install meets a listed key of a TRANSIENT copy, among the names `mine`, and no retained copy of that name has served it: its launch is
aborted (R26, R113, R343; log 79). -/
def meetListed (m : PathMsg) (served : List CopyKey) (mine : DWord → Bool) (s : State) : State :=
  if (s.router m.home).listed.any (fun k =>
      Pattern.hits m.pat k.1 k.2.1 k.2.2 && mine k.1 && !(served.any fun x => x.1 = k.1)) then
    abortCode m.pat.launch 0x20 (routerFault m.home) s
  else s

/-- Some coordinate bit is open in an install's pattern (R346). -/
def Pattern.isOpen (t : Pattern) : Bool := t.mask.extractLsb' 0 32 ≠ 0xFFFFFFFF

/-- An install is for one key of a tensor: no coordinate bit open, and one generation. -/
def Pattern.oneKey (t : Pattern) : Bool := !Pattern.isOpen t && t.genrule ≠ 0

/-- The generation of a BACKED tile that an install is served (R346). -/
def backedGen (s : State) (t : Pattern) : BitVec 16 :=
  if t.genrule = 1 then t.gen else match kget s.launches t.launch with | some x => x.gen | none => 0

/-- The next lin of a BACKED tensor, from `k` on, that an install is served from memory (R346): the coordinate agrees with the pattern
and no retained copy supplied it. -/
def nextLin (ns : Nat) (m : PathMsg) (t : Tensor) (served : List CopyKey) (k : Nat) : Option Nat :=
  let total := t.counts.foldl (fun a b => a * b) 1
  ((List.range (total - k)).map (· + k)).find? fun l =>
    let n := mkName ns t.tnum (packLin t.counts t.cw l)
    ((n ^^^ m.pat.value) &&& m.pat.mask) = 0 && !(served.any fun x => x.1 = n)

/-- A home asks the rim (R88, R344): the query waits for a slot of the partition, and for room for its reply. -/
def askRim (q : Query) (s : State) : State := rimWait (queryAgent s q.name q.launch) (partOf q.launch) (.rimQuery q) s

/-- A query for an install of the tiles of a tensor that the ore bin did not supply, from `k` on in the order of serving (R339, R345,
R346); of a BACKED tensor whose coordinates are all served there is none. -/
def askFor (m : PathMsg) (t : Tensor) (upTo : Nat) (served : List CopyKey) (k : Nat) (s : State) : State :=
  let ns := nsOf m.pat.value
  let q := fun (coord pos : Nat) (backed : Bool) =>
    (⟨m.home, mkName ns t.tnum coord, backedGen s m.pat, m.pat.launch, m.phase, backed, .install m, upTo, served, pos, false⟩ : Query)
  if t.pclass = 1 then askRim (q (coordOf m.pat.value) k false) s
  else if Pattern.isOpen m.pat then
    match nextLin ns m t served k with
    | some l => askRim (q (packLin t.counts t.cw l) l true) s
    | none => s
  else askRim (q (coordOf m.pat.value) 0 true) s

/-- What an install falls through to for one tensor (R26, R343 to R346): a TRANSIENT tensor's listed names; for SPILL and BACKED the rim,
unless the one name that the pattern gives of this tensor was served from the ore bin. -/
def fallThroughFor (m : PathMsg) (served : List CopyKey) (t : Tensor) (s : State) : State :=
  let own := served.filter fun k => tnumOf k.1 = t.tnum
  if t.pclass = 0 then meetListed m own (fun n => tnumOf n = t.tnum) s
  else if !own.isEmpty && (if t.pclass = 1 then Pattern.oneKey m.pat else !Pattern.isOpen m.pat) then s
  else askFor m t s.opId own 0 s

/-- The home orders an install (R339): from now on the tree reaches it; what is retained is served late, oldest first. -/
def orderInstall (m : PathMsg) (r0 : Nat) (s : State) : State :=
  let s := mapEntries r0 (fun e => if e.kind = .loc m.tgt m.nodata then { e with homes := sadd e.homes m.home } else e) s
  let hit := ((s.router m.home).kept.filter fun k => Pattern.hits m.pat k.pkt.name k.pkt.gen k.pkt.launch).foldr insertStored []
  let s := hit.foldl (fun s k => noteServed m.home (copyKey k.pkt) (lateServe m k.pkt s)) s
  if nsOf m.pat.value = 0 then meetListed m (hit.map fun k => copyKey k.pkt) (fun _ => true) s
  else (tensorsFor s m).foldl (fun s t => fallThroughFor m (hit.map fun k => copyKey k.pkt) t s) s

/-- An install is applied at the next router of its path, or refused there (R336). -/
def applyInstall (m : PathMsg) (s : State) : State :=
  match m.todo with
  | [] => s
  | (r, port) :: rest =>
    if 2048 < (s.router r).entries.length + newEntries s m r then
      let s := (m.done.drop 1).foldl (fun s x => countDown m x.1 x.2 s) s
      let s := match m.done with | x :: _ => if installOut s m then s else dropLocal m x.1 s | [] => s
      post (.installRefusal m) s
    else
      let s := if m.done.isEmpty then addLocal m r s else s
      let s := if !m.done.isEmpty || r = m.home then countUp m r port s else s
      let m' := { m with todo := rest, done := m.done ++ [(r, port)] }
      if rest.isEmpty then post (.installAcknowledgement m') (orderInstall m' (m'.done.headD (r, 4)).1 s)
      else post (.install m') s

/-- INSTALL (R336). -/
def execInstall (s : State) : Result :=
  .next (match s.ev with
    | some (.install m) => if liveLaunch s m.pat.launch then applyInstall m s else s
    | _ => s)

/-- REMOVAL (R337). -/
def execRemoval (s : State) : Result :=
  .next (match s.ev with
    | some (.removal m) =>
      (match m.todo with
       | [] => s
       | (r, port) :: rest =>
         if m.done.isEmpty && !orderedHere s m r then s
         else
         let s := if m.done.isEmpty then dropLocal m r s else s
         let s := if !m.done.isEmpty || r = m.home then countDown m r port s else s
         if rest.isEmpty then s else post (.removal { m with todo := rest, done := m.done ++ [(r, port)] }) s)
    | _ => s)

/-- The homes that a pattern's install goes to (R332, R334): one for a named tensor, else those of every tensor it can match. -/
def patternHomes (s : State) (pat : Pattern) : List Nat :=
  if (pat.mask.extractLsb' 32 20) = 0xFFFFF then [homeOf s pat.value pat.launch]
  else match kget s.graphs (nsOf pat.value) with
    | none => []
    | some g => ((g.tensors.filter fun t =>
        ((mkName 0 t.tnum 0 ^^^ pat.value) &&& pat.mask &&& 0x000FFFFF00000000) = 0).map fun t =>
          homeOf s (mkName (nsOf pat.value) t.tnum 0) pat.launch).dedup

/-- The install messages of a subscription from a router. -/
def installsOf (s : State) (r task : Nat) (x : Sub) (phase : Nat) : List PathMsg :=
  (patternHomes s x.pat).map fun h => ⟨x.pat, ⟨task, x.index, x.uid⟩, x.nodata, phase, installPath r h, [], h⟩

/-- A subscription's removal leaves on CTL (R337). -/
def sendRemoval (r task : Nat) (x : Sub) (s : State) : State :=
  postAll (x.homes.map fun h => .removal ⟨x.pat, ⟨task, x.index, x.uid⟩, x.nodata, 0, installPath r h, [], h⟩) s

/-! ### Deliveries (R41, R338, R347, R351) -/

/-- The slot that a delivery writes: the one that it has taken with its first data, else the one at the fill position (R205). -/
def Ring.slotNow (r : Ring) : Nat := (r.slotsOf (.engine 0)).headD r.fillPos

/-- A delivery's first data takes the slot at the fill position, in its turn (R205). -/
def Ring.takeNow (r : Ring) (uid : Nat) : Ring :=
  if r.fills (.engine 0) then r else (r.answered (.delivery uid)).take (.engine 0)

/-- A delivery for a subscription fills a slot of its ring (R226): the words that it has not written yet are written and set full, then
the slot is FILLED; events 0 and 6. -/
def fillRing (n : Nat) (t : TaskInst) (x : Sub) (p : Packet) (s : State) : State :=
  match taskRing s t x.ring with
  | none => s
  | some r =>
    let key := (Space.spad t.core).key (r.slotAddr r.slotNow)
    let s := engineWriteLeft (if r.fills (.engine 0) then movedNow s else []) s key p.payload p.psn
    taskEvent n 0 (modTaskRing n x.ring (fun r => (r.takeNow x.uid).fill (.engine 0)) s)

/-- A packet is a reduction result, also where it is served late as kind 5: RED of what is no reduction is zero (R330, R331). -/
def Packet.isResult (p : Packet) : Bool := p.kind = 3 || (p.kind = 5 && p.red ≠ 0)

/-- A packet is a pip, also where it is served late: it alone has no payload (R331). -/
def Packet.isPip (p : Packet) : Bool := p.kind = 1 || (p.kind = 5 && p.payload.isEmpty)

/-- A delivery counts one arrival, and a result's flags and poison stick (R41, R351). -/
def countArrival (tgt : Target) (p : Packet) (s : State) : State :=
  modSub tgt (fun x =>
    { x with arrivals := min (x.arrivals + 1) 65535,
             flg := if Packet.isResult p then x.flg ||| p.flg else x.flg, psn := x.psn || (Packet.isResult p && p.psn) }) s

/-- A held delivery is for a ring of a task (R42, R205). -/
def HeldDelivery.isFor (s : State) (task ring : Nat) (h : HeldDelivery) : Bool :=
  h.tgt.task = task && (subOf s h.tgt).map (fun x => x.ring) = some ring

/-- A delivery must wait: its ring has no FREE slot, or an earlier one for the same entry waits (R347), or one for the same ring
(R42). -/
def mustHold (s : State) (r : Nat) (tgt : Target) (t : TaskInst) (x : Sub) : Bool :=
  (s.router r).held.any (HeldDelivery.isFor s tgt.task x.ring) ||
    (match taskRing s t x.ring with | some g => !g.fills (.engine 0) && !g.canTake (.delivery x.uid) | none => false)

/-- A router takes a tag, evicting a copy where it must (R341, R342). -/
def takeTag (r : Nat) (s : State) : State := (makeRoom r 0 ((s.router r).kept.length + 1) s).2

/-- Take held granules and a tag for a packet (R341, R347): whether its payload has found them. Where it has not, a tag at least. -/
def takeHeld (r : Nat) (p : Packet) (s : State) : Bool × State :=
  let m := if Router.heldGranules (s.router r) + granules p ≤ 1024 then makeRoom r (granules p) ((s.router r).kept.length + 1) s
    else (false, s)
  if m.1 then m else (false, takeTag r m.2)

/-- Hold a delivery (R347), which asks for a slot of its ring (R205); without granules only its key is kept, and the home pins the copy. Every
delivery is accepted (R348, R354). DESIGN CHOICE (log 95): a row, which no home retains, then keeps its payload beside the granules, and a router
without a tag to spare holds a delivery all the same. -/
def holdDelivery (r : Nat) (tgt : Target) (home k : Nat) (p : Packet) (s : State) : State :=
  let m := takeHeld r p (modTaskRing tgt.task k (fun g => g.ask (.delivery tgt.uid)) s)
  let hold := fun (h : HeldDelivery) => touchPhase (m.2.modRouter r fun x => { x with held := x.held ++ [h] }) p.launch p.phase
  if m.1 || p.kind = 4 then hold ⟨p, tgt, home, false, false, !m.1⟩
  else post (.pinRequest { p with payload := [] } r home) (hold ⟨{ p with payload := [] }, tgt, home, true, false, false⟩)

/-- A delivery reaches its LOCAL entry (R338, R41). Without the entry, or for a subscription that is gone, it is discarded (R355,
R404). -/
def deliver (p : Packet) (r : Nat) (tgt : Target) (home : Nat) (s : State) : State :=
  if !((s.router r).entries.any (fun e => match e.kind with | .loc t _ => t = tgt | _ => false)) then s
  else match kget s.tasks tgt.task, subOf s tgt with
    | some t, some x =>
      let s := countArrival tgt p s
      let s :=
        if Packet.isPip p then (if x.nodata then taskEvent tgt.task 4 s else s)
        else if x.nodata then taskEvent tgt.task 4 s
        else if mustHold s r tgt t x then holdDelivery r tgt home x.ring p s
        else fillRing tgt.task t x p s
      checkReady tgt.task s
    | _, _ => s

/-- DELIVERY (R338). -/
def execDelivery (s : State) : Result :=
  .next (match s.ev with
    | some (.delivery p r tgt home) => drainTransit p (deliver p r tgt home s)
    | _ => s)

/-- An event is the pin request of a router for a key. -/
def isPin (r home : Nat) (key : CopyKey) (e : Event) : Bool :=
  match e with
  | .pinRequest p q h => copyKey p = key && q = r && h = home
  | _ => false

/-- A router's pin request for a key is on its way to a home. -/
def pinOut (s : State) (r home : Nat) (key : CopyKey) : Bool := s.agenda.any (isPin r home key)

/-- The delivery of a target that waits first for its ring can fill it; one to be fetched again follows its pin request, and is fetched
once. -/
def heldReady (s : State) (r : Nat) (tgt : Target) : Option HeldDelivery :=
  match kget s.tasks tgt.task, subOf s tgt, (s.router r).held.find? (fun h => h.tgt = tgt) with
  | some t, some x, some h =>
    if (s.router r).held.find? (HeldDelivery.isFor s tgt.task x.ring) ≠ some h then none
    else if h.dropped && (h.fetching || pinOut s r h.home (copyKey h.pkt)) then none
    else (match taskRing s t x.ring with
      | some g =>
        if (if g.fills (.engine 0) then !(movedUnits s (.heldDeliveryRelease r tgt)).isEmpty else g.canTake (.delivery x.uid)) then some h else none
      | none => none)
  | _, _, _ => none

/-- Unpin the copy that a fetched delivery came from (R347). -/
def unpin (home : Nat) (p : Packet) (s : State) : State :=
  mapKept home (fun k => if copyKey k.pkt = copyKey p then { k with pins := k.pins - 1 } else k) s

/-- A held delivery leaves its router and fills the slot at its ring's fill position. -/
def releaseHeld (r : Nat) (h : HeldDelivery) (t : TaskInst) (x : Sub) (p : Packet) (s : State) : State :=
  fillRing h.tgt.task t x p
    (touchPhase (s.modRouter r fun y => { y with held := y.held.erase h }) h.pkt.launch h.pkt.phase)

/-- What a router fetches again of a packet whose key alone it kept (R347): the retained copy of its home, unpinned by this serve. -/
def keptAgain (s : State) (home : Nat) (p : Packet) : Option Packet :=
  ((s.router home).kept.find? fun c => copyKey c.pkt = copyKey p).map fun c => { c.pkt with kind := 5, phase := p.phase }

/-- The home has evicted the copy before the pin arrived: of a SPILL or BACKED tensor it asks the rim (R345, R346), and `fetching` notes it at
the router; a TRANSIENT name is not found (R343). -/
def fetchLost (home : Nat) (p : Packet) (why : QueryFor) (fetching : State → State) (s : State) : State :=
  match tensorOf s (nsOf p.name) (tnumOf p.name) with
  | none => abortCode p.launch 0x20 (routerFault home) s
  | some x =>
    if x.pclass = 0 then abortCode p.launch 0x20 (routerFault home) s
    else askRim ⟨home, p.name, p.gen, p.launch, p.phase, x.pclass = 2, why, s.opId, [], 0, false⟩ (fetching s)

/-- A delivery whose key alone was kept is fetched from its home (R347): the retained copy is served late and unpinned. -/
def refetch (r : Nat) (h : HeldDelivery) (t : TaskInst) (u : Sub) (s : State) : State :=
  match keptAgain s h.home h.pkt with
  | some c => noteWay c.launch (some c.phase) (way h.home r) (releaseHeld r h t u c (noteServed h.home (copyKey c) (unpin h.home c s)))
  | none => fetchLost h.home h.pkt (.held r h.tgt (copyKey h.pkt))
      (fun s => s.modRouter r fun y => { y with held := y.held.map fun z => if z = h then { z with fetching := true } else z }) s

/-- The delivery of a target that waits first fills the slot of its ring; one whose payload was dropped is fetched from its home again. -/
def releaseAt (r : Nat) (tgt : Target) (s : State) : State :=
  match heldReady s r tgt, kget s.tasks tgt.task, subOf s tgt with
  | some h, some t, some x => if h.dropped then refetch r h t x s else releaseHeld r h t x h.pkt s
  | _, _, _ => s

/-- What a held delivery that can be released brings: what the router holds, or the home's copy. -/
def releasing (s : State) (r : Nat) (tgt : Target) : Option Packet :=
  match heldReady s r tgt with
  | some h => if h.dropped then keptAgain s h.home h.pkt else some h.pkt
  | none => none

/-- HELD_DELIVERY_RELEASE (R347): a slot is FREE, and the held delivery fills it. -/
def execHeldDeliveryRelease (s : State) : Result :=
  .next (match s.ev with
    | some (.heldDeliveryRelease r tgt) => releaseAt r tgt s
    | _ => s)

/-- A home pins the copy of a key (R347). -/
def pinKey (h : Nat) (key : CopyKey) (s : State) : State :=
  mapKept h (fun k => if copyKey k.pkt = key then { k with pins := k.pins + 1 } else k) s

/-- PIN_REQUEST (R347): the home keeps the copy from eviction until it is fetched. -/
def execPinRequest (s : State) : Result :=
  .next (match s.ev with
    | some (.pinRequest p _ home) => pinKey home (copyKey p) s
    | _ => s)

/-! ### Reductions (R67 to R69, R349 to R351) -/

/-- The 32-bit words of a payload. -/
def wordsOf : List Byte → List Nat
  | a :: b :: c :: d :: r => leNat [a, b, c, d] :: wordsOf r
  | _ => []

/-- The pairs of a TOPK payload. -/
def pairsOf : List Nat → List Pair
  | a :: b :: r => (a, b) :: pairsOf r
  | _ => []

/-- Two values of one reduction combined, with their flags (R350): SUM rounds to nearest even, MAX and MIN follow R68, TOPK keeps the
highest pairs (R69). -/
def combineBytes (red : Nat) (x y : List Byte) : List Byte × Fl :=
  if red = 4 then
    let ps := pairsOf (wordsOf x) ++ pairsOf (wordsOf y)
    let k := x.length / 8
    let r := sortByRank ps
    ((List.range k).flatMap fun i => pairBytes (r.getD i Pair.unfilled), scoreFlags ps)
  else
    let f := fun a b => if red = 1 then addNE32 a b else FFmt.f32.minMax (red = 2) a b
    let r := List.zipWith f (wordsOf x) (wordsOf y)
    (r.flatMap fun p => leBytes 4 p.1, Fl.all (r.map fun p => p.2))

/-- Covers `a` and `b` are siblings in the tree of R67 over `n` contributors, `a` the left one. -/
def siblings (n : Nat) (a b : List Nat) : Bool :=
  let lo := a.headD 0
  (List.range 17).any fun l =>
    lo % 2 ^ (l + 1) = 0 && a.length = 2 ^ l && b.headD 0 = lo + 2 ^ l && b.length = min (2 ^ l) (n - (lo + 2 ^ l))

/-- Two values may be combined (R350). -/
def combinable (red n : Nat) (a b : List Nat) : Bool := red ≠ 1 || siblings n a b || siblings n b a

/-- The same reduction (R349). -/
def sameReduction (p q : Packet) : Bool := copyKey p = copyKey q

/-- Two partials combined (R350, R351): the lower cover first, flags and poison ORed, the lowest PHASE. -/
def combine (x y : Partial) : Partial :=
  let l := if y.cover.headD 0 < x.cover.headD 0 then (y, x) else (x, y)
  let c := combineBytes l.1.pkt.red l.1.pkt.payload l.2.pkt.payload
  { l.1 with
    cover := l.2.cover.foldl sadd l.1.cover
    pkt := { l.1.pkt with payload := c.1, also := (Packet.sources l.2.pkt).foldl sadd l.1.pkt.also, flg := l.1.pkt.flg ||| l.2.pkt.flg ||| c.2.bits, psn := l.1.pkt.psn || l.2.pkt.psn,
                          rel := l.1.pkt.rel || l.2.pkt.rel, coll := l.1.pkt.coll || l.2.pkt.coll,
                          phase := min l.1.pkt.phase l.2.pkt.phase } }

/-- Two values of one reduction that agree in RED and CCNT and cover different contributors: what disagrees goes to the home, which
aborts the launch (R349). -/
def partners (x y : Partial) : Bool :=
  sameReduction x.pkt y.pkt && x.pkt.red = y.pkt.red && x.pkt.ccnt = y.pkt.ccnt && !(x.cover.any y.cover.contains) &&
    combinable x.pkt.red x.pkt.ccnt x.cover y.cover

/-- Absorb a value into a list of partials, combining while a partner is there; what is in the tailings area has to be read back first.
`fuel` bounds the combinations. DESIGN CHOICE (log 96): a combined value waits for a partner as long as the one that came last. -/
def absorb : Nat → Partial → List Partial → List Partial
  | 0, x, l => l ++ [x]
  | f + 1, x, l =>
    match l.find? fun y => !x.spilled && !y.spilled && partners x y with
    | some y => absorb f { combine x y with ends := x.ends } (l.erase y)
    | none => l ++ [x]

/-- Every NaN of a result is the canonical one, and a signalling NaN raises NV (R67). -/
def finalBytes (red : Nat) (bs : List Byte) : List Byte × Fl :=
  if red = 4 then ((pairsOf (wordsOf bs)).flatMap pairBytes, scoreFlags (pairsOf (wordsOf bs)))
  else
    let r := (wordsOf bs).map fun v =>
      let x := FFmt.f32.decode v
      (if x.isNan then FFmt.f32.cnan else v, if x.isSnan then Fl.inv else Fl.none)
    (r.flatMap fun p => leBytes 4 p.1, Fl.all (r.map fun p => p.2))

/-! ### Publications at home (R338 to R343, R353) -/

/-- The header of a GET's response (R330, R331, R353): it goes from the home to the core and bank that asked. -/
def replyTo (h : Nat) (g : Packet) : Packet := { g with kind := 9, srcCl := h, srcCb := 0, dstCl := g.srcCl, dstCb := g.srcCb }

/-- A GET's response leaves its home (R353): at most the bytes asked for. -/
def answerGet (h : Nat) (g p : Packet) (s : State) : State :=
  post (.getResponse { replyTo h g with payload := p.payload.take g.ask, psn := p.psn } 0) s

/-- The parked GETs that a publication answers (R353). -/
def answerParked (h : Nat) (p : Packet) (s : State) : State :=
  let hit := (s.router h).gets.filter fun g => g.name = p.name && g.launch = p.launch
  let s := s.modRouter h fun r => { r with gets := r.gets.filter fun g => !(g.name = p.name && g.launch = p.launch) }
  hit.foldl (fun s g => answerGet h g p (touchPhase s g.launch g.phase)) s

/-- The peers that a tensor's tiles go to (R89). -/
def cutPeers (s : State) (p : Packet) : List Nat :=
  match kget s.launches p.launch with
  | some x => if nsOf p.name = x.ns then
      ((x.edges.filter fun e => !e.inward && e.tnum = tnumOf p.name).map fun e => e.peer).dedup else []
  | none => []

/-- The port that a tensor's traffic to a peer uses (R516). -/
def cutPort (s : State) (peer : Nat) (n : DWord) : Option Nat :=
  let ps := s.links.filter fun x => match x.2.peer with | some q => q.1 = peer | none => false
  if ps.isEmpty then none
  else (ps[n.toNat / 2 ^ 32 * 0x9E3779B1 % 2 ^ 32 % ps.length]?).map fun x => x.1

/-- Tiles of a cut edge that were published here cross to their peers (R89, R90); with no port mapped to a peer they wait for one, under the
number 96 + peer. DESIGN CHOICE (log 92): of a reduction of a cut tensor its result crosses, not its contributions. -/
def crossOut (p : Packet) (s : State) : State :=
  (if p.org = .peer then [] else cutPeers s p).foldl (fun s q => post (.cutEdgeCrossing ((cutPort s q p.name).getD (96 + q)) p false) s) s

/-- The port through which a crossing goes: none while it is to wait, since the port is down or no port is mapped to the peer (R90,
R516). -/
def crossingPort (s : State) (l : Nat) (p : Packet) : Option Nat :=
  let k := if l < 96 then some l else cutPort s (l - 96) p.name
  k.filter fun x => (s.link x).up && (s.link x).peer.isSome

/-- A publication, pip or reduction result at its home (R339): retained, forwarded, and the answer to parked GETs. -/
def publishHome (h : Nat) (p : Packet) (s : State) : State :=
  crossOut p (forward h p (answerParked h p (retain h { p with op := 0 } s)))

/-- The released value of a reduction (R351). -/
def resultOf (x : Partial) : Packet :=
  let f := finalBytes x.pkt.red x.pkt.payload
  { x.pkt with kind := 3, cidx := 0, ccnt := 0, org := .device, also := [], payload := f.1, flg := x.pkt.flg ||| f.2.bits }

/-- A partial covers all contributors of its reduction. -/
def Partial.whole (x : Partial) : Bool := x.pkt.ccnt ≤ x.cover.length

/-- Two partials of a packet's reduction that can be combined once what is in the tailings area has been read back (R350). -/
def joinPair (r : Router) (p : Packet) : Option (Partial × Partial) :=
  let l := r.partials.filter fun x => sameReduction x.pkt p
  (l.flatMap fun x => l.map fun y => (x, y)).find? fun z => z.1.spilled && partners z.1 z.2

/-- The home asks for partials of a reduction to be read back from the tailings area (R88, R350), once at a time. -/
def askJoin (h : Nat) (p : Packet) (s : State) : State :=
  let w := RimWork.join h { p with payload := [] }
  let out := s.rim.any fun r => match r.work with | .join k q => k = h && sameReduction q p | _ => false
  if (joinPair (s.router h) p).isNone || out then s
  else touchPhase (rimQueue (queryAgent s p.name p.launch) (partOf p.launch) w s) p.launch p.phase

/-- The value of a whole partial leaves the partials (R351). The home still knows which contributors have arrived: one that comes again aborts the
launch (R349, R412). -/
def releaseWhole (h : Nat) (x : Partial) (s : State) : State :=
  let s := s.modRouter h fun r => { r with partials := r.partials.erase x }
  if x.pkt.coll then stepRecord h 0x31 (resultOf x) s else s

/-- A whole value of a reduction is released and published (R351), or, where its tree has no transit granules yet, is on its way to that (R338).
Without one, the home asks for partials in the tailings area that can be combined. -/
def settleReduction (h : Nat) (p : Packet) (s : State) : State :=
  match (s.router h).partials.find? fun x => sameReduction x.pkt p && Partial.whole x with
  | some x =>
    let t := releaseWhole h x s
    if treeRoom t h (resultOf x) then publishHome h (resultOf x) t else post (.publicationAtHome (resultOf x)) t
  | none => askJoin h p s

/-- Partials that have been read back are combined (R350), and with what they meet in the ore bin; a value of which no part was in the ore bin is
written to the tailings area again. -/
def joinAt (h : Nat) (p : Packet) (s : State) : State :=
  match joinPair (s.router h) p with
  | none => s
  | some (x, y) =>
    let z := { combine x y with spilled := x.spilled && y.spilled }
    let s := s.modRouter h fun r =>
      let l := (r.partials.erase x).erase y
      { r with partials := if z.spilled then l ++ [z] else absorb 17 z l }
    settleReduction h z.pkt
      (if z.spilled && !Partial.whole z then rimQueue (queryAgent s p.name p.launch) (partOf p.launch) (.spill p.launch) s else s)

/-- A value finds a partner in the ore bin (R350): it is combined at once, and takes no room of its own. -/
def meetsPartner (r : Router) (p : Packet) (cover : List Nat) : Bool := r.partials.any fun y => !y.spilled && partners ⟨p, cover, 0, false⟩ y

/-- The home accepts a contribution or partial (R349 to R351). -/
def contributeHome (h : Nat) (p : Packet) (cover : List Nat) (s : State) : State :=
  let r := s.router h
  let src := routerFault h
  match r.reds.find? fun d => sameReduction d.pkt p with
  | some d =>
    if d.pkt.red ≠ p.red || d.pkt.ccnt ≠ p.ccnt || cover.any d.arrived.contains then abortCode p.launch 0x2A src s
    else accept h p (cover.foldl sadd d.arrived) s
  | none => accept h p cover (if p.coll then stepRecord h 0x30 p s else s)
where
  /-- The value joins the home's partials: at once with a partner that the ore bin holds, else with a granule and a tag of its own, for which
  retained copies are evicted (R342), and else in the tailings area. With every contributor in, the result is released. DESIGN CHOICE (log 116):
  where the bin has the granules and no copy gives up its tag, it is held all the same. -/
  accept (h : Nat) (p : Packet) (arrived : List Nat) (s : State) : State :=
    let s := s.modRouter h fun r =>
      { r with reds := (r.reds.filter fun d => !sameReduction d.pkt p) ++ [⟨p, arrived⟩] }
    let join := fun (spill : Bool) (s : State) =>
      settleReduction h p (s.modRouter h fun r => { r with partials := absorb 17 ⟨p, cover, 0, spill⟩ r.partials })
    if meetsPartner (s.router h) p cover then join false s
    else
      let s := (makeRoom h (granules p) ((s.router h).kept.length + 1) s).2
      if Router.granules (s.router h) + granules p ≤ 2048 then join false s
      else if p.payload.length ≤ tailFree s (partOf p.launch) none then
        join true (rimQueue (queryAgent s p.name p.launch) (partOf p.launch) (.spill p.launch) s)
      else abortCode p.launch 0x2F (routerFault h) s

/-- A contribution at a router below the home (R350): combined with a partner, or held up to 64 network cycles. -/
def contributeRouter (r : Nat) (p : Packet) (cover : List Nat) (s : State) : State :=
  let s := touchPhase s p.launch p.phase
  let s := ((s.router r).partials.filter fun y => sameReduction y.pkt p).foldl (fun s y => touchPhase s y.pkt.launch y.pkt.phase) s
  s.modRouter r fun x => { x with partials := absorb 17 ⟨p, cover, s.now + 32, false⟩ x.partials }

/-- CONTRIBUTION (R350). -/
def execContribution (s : State) : Result :=
  .next (match s.ev with
    | some (.contribution p cover r) =>
      if !liveLaunch s p.launch then s
      else if r = homeOf s p.name p.launch then contributeHome r p cover s
      else if !meetsPartner (s.router r) p cover && (2048 < Router.granules (s.router r) + granules p || 4096 ≤ tagsOf s r) then
        post (.contribution p cover (nextHop r (homeOf s p.name p.launch)).1) s
      else contributeRouter r p cover s
    | _ => s)

/-- PARTNER_TIMEOUT (R350): a contribution held without a partner goes on unchanged. -/
def execPartnerTimeout (s : State) : Result :=
  .next (match s.ev with
    | some (.partnerTimeout r i) =>
      (match (s.router r).partials[i]? with
       | some x =>
         let s := touchPhase (s.modRouter r fun y => { y with partials := y.partials.eraseIdx i }) x.pkt.launch x.pkt.phase
         post (.contribution x.pkt x.cover (nextHop r (homeOf s x.pkt.name x.pkt.launch)).1) s
       | none => s)
    | _ => s)

/-! ### GETs (R353) -/

/-- The youngest retained copy of a name that belongs to a launch (R353). DEDUCED (log 97): a tile from the tailings area keeps the age that it was
stored with. -/
def youngest (r : Router) (n : DWord) (l : Nat) : Option Kept :=
  (r.kept.filter fun k => k.pkt.name = n && k.pkt.launch = l).foldl (fun a k => match a with
    | none => some k
    | some y => if y.stored < k.stored then some k else some y) none

/-- Park a GET at its home; without a tag it is answered with a retry (R353). -/
def parkGet (h : Nat) (g : Packet) (s : State) : State :=
  let m := makeRoom h 0 ((s.router h).kept.length + 1) s
  if m.1 then touchPhase (m.2.modRouter h fun r => { r with gets := r.gets ++ [g] }) g.launch g.phase
  else post (.getResponse (replyTo h g) 2) m.2

/-- A GET at its home (R353): answered from the youngest copy, or it falls through (R343). -/
def getHome (h : Nat) (g : Packet) (s : State) : State :=
  match youngest (s.router h) g.name g.launch with
  | some k => answerGet h g k.pkt (noteServed h (copyKey k.pkt) s)
  | none =>
    match tensorOf s (nsOf g.name) (tnumOf g.name) with
    | none => parkGet h g s
    | some t =>
      if t.pclass = 0 then
        if (s.router h).listed.any (fun k => k.1 = g.name && k.2.2 = g.launch) then post (.getResponse (replyTo h g) 1) s
        else parkGet h g s
      else askRim ⟨h, g.name, match kget s.launches g.launch with | some x => x.gen | none => 0, g.launch, g.phase,
          t.pclass = 2, .get g, s.opId, [], 0, false⟩ s

/-- GET_REQUEST (R353). -/
def execGetRequest (s : State) : Result :=
  .next (match s.ev with
    | some (.getRequest p) => if liveLaunch s p.launch then getHome (homeOf s p.name p.launch) p s else s
    | _ => s)

/-- PREFETCH_AT_HOME (R406): a home that holds no copy of the name for the launch queries the rim. -/
def execPrefetchAtHome (s : State) : Result :=
  .next (match s.ev with
    | some (.prefetchAtHome p) =>
      let h := homeOf s p.name p.launch
      (match youngest (s.router h) p.name p.launch, tensorOf s (nsOf p.name) (tnumOf p.name) with
       | none, some t =>
         if t.pclass = 0 || !liveLaunch s p.launch then s
         else askRim ⟨h, p.name, p.gen, p.launch, p.phase, t.pclass = 2, .prefetch, s.opId, [], 0, false⟩ s
       | _, _ => s)
    | _ => s)

/-- The granules that a query's reply needs (R344): those of a tile of its tensor. -/
def Query.granules (s : State) (q : Query) : Nat :=
  match tensorOf s (nsOf q.name) (tnumOf q.name) with
  | some t => (t.tileSize + 255) / 256
  | none => 0

/-- A home reserves the room of a query's reply (R344). -/
def reserveFor (q : Query) (s : State) : State :=
  (makeRoom q.home (Query.granules s q) ((s.router q.home).kept.length + 1) s).2.modRouter q.home fun r =>
    { r with reserved := r.reserved ++ [(q.launch, Query.granules s q)] }

/-- The room of a query whose reply has come is free for the tile. -/
def unreserve (q : Query) (s : State) : State :=
  if q.room then s.modRouter q.home fun r => { r with reserved := r.reserved.erase (q.launch, Query.granules s q) } else s

/-- The tile of a reply is retained as a publication would be (R344), unless a copy of its key is retained already. One from the
tailings area keeps its place in the order of storing. -/
def retainReply (q : Query) (p : Packet) (pos : Nat) (s : State) : State :=
  if (s.router q.home).kept.any fun k => copyKey k.pkt = copyKey p then s
  else retainAt q.home (if q.backed then s.opId else pos) p s

/-- A held delivery of a router that is being fetched again: its fetch is over. -/
def fetchOver (r : Nat) (tgt : Target) (key : CopyKey) (s : State) : State :=
  s.modRouter r fun y =>
    { y with held := y.held.map fun z =>
        if z.tgt = tgt && copyKey z.pkt = key && z.fetching then { z with fetching := false } else z }

/-- A packet that a link port holds and that is being fetched again: its fetch is over (R90). -/
def portFetchOver (r : Nat) (key : CopyKey) (s : State) : State :=
  s.modRouter r fun y =>
    { y with holds := y.holds.map fun z => if copyKey z.pkt = key && z.fetching then { z with fetching := false } else z }

/-- The tensor of a query goes on being asked for: an install is served its next tile (R339, R345, R346). -/
def askNext (q : Query) (m : PathMsg) (pos : Nat) (s : State) : State :=
  match tensorOf s (nsOf q.name) (tnumOf q.name) with
  | some t => if (if q.backed then Pattern.isOpen m.pat else !Pattern.oneKey m.pat) then askFor m t q.upTo q.served (pos + 1) s else s
  | none => s

/-- What a query reply is for, once its tile is retained (R344 to R347): a late serve to the install, the answer to the GET, or the copy
that a held delivery is fetched from, pinned for it. -/
def serveReply (q : Query) (a : QueryAns) (s : State) : State :=
  let src := routerFault q.home
  match q.why, a with
  | .install m, .tile p pos => askNext q m pos (lateServe m p (noteServed q.home (copyKey p) s))
  | .install _, .miss => s
  | .install _, .notFound => abortCode q.launch 0x20 src s
  | .get g, .tile p _ => answerGet q.home g p (noteServed q.home (copyKey p) s)
  | .get g, .miss =>
    -- A publication that came while the query was out answers the GET as it would a parked one.
    (match youngest (s.router q.home) g.name g.launch with
     | some k => answerGet q.home g k.pkt (noteServed q.home (copyKey k.pkt) s)
     | none => parkGet q.home g s)
  | .get g, .notFound => post (.getResponse (replyTo q.home g) 1) s
  | .prefetch, _ => s
  | .held r tgt key, .tile _ _ => fetchOver r tgt key (pinKey q.home key s)
  | .held _ _ _, _ => abortCode q.launch 0x20 src s
  | .port r key, .tile _ _ => portFetchOver r key (pinKey q.home key s)
  | .port _ _, _ => abortCode q.launch 0x20 src s

/-- QUERY_REPLY (R344): the tile is retained as a publication would be, and served. -/
def execQueryReply (s : State) : Result :=
  .next (match s.ev with
    | some (.queryReply q a) =>
      if !liveLaunch s q.launch then s
      else
        let s := unreserve q s
        serveReply q a (match a with
          | .tile p pos => retainReply q p pos s
          | _ => s)
    | _ => s)

/-! ### Edge routers and cut edges (R90, R494, R509) -/

/-- A collective step record of a link port (R494). -/
def linkRecord (l : Nat) (code : BitVec 16) (p : Packet) (s : State) : State :=
  emit s (launchField s p.launch) (unitLink l) (unitRec s code (BitVec.ofNat 16 (127 * 512 + l * 4)) p.launch 0xFFFFFFFF
    (leBytes 8 p.name.toNat ++ leBytes 2 p.step ++ leBytes 2 p.gen.toNat))

/-- A packet of a step crosses a link port in either direction (R494): the first one leaves a step-begin record, the result a step-end
record. -/
def noteStep (l : Nat) (p : Packet) (s : State) : State :=
  let key := copyKey p
  let begun := (s.link l).begun.contains key
  let ends := p.kind = 3 || p.kind = 0
  if !p.coll then s
  else
    let s := if begun then s else linkRecord l 0x30 p s
    let s := if ends then linkRecord l 0x31 p s else s
    s.modLink l fun x => { x with begun := if ends then x.begun.erase key else if begun then x.begun else x.begun ++ [key] }

/-- A packet from a peer enters the network at the edge router of its port (R509): a contribution is combined from there on, a row or
a publication goes to its home. -/
def enterAt (l : Nat) (p : Packet) (s : State) : State :=
  if p.kind = 2 then post (.contribution p [p.cidx] (linkRouter l).1) s
  else if p.kind = 4 then post (.rowAtHome p) s
  else post (.publicationAtHome p) s

/-- What the router of a link port holds for a port, in order. -/
def holdsFor (s : State) (l : Nat) : List PortHold := (s.router (linkRouter l).1).holds.filter fun h => h.port = l

/-- A packet waits for its port: the port cannot forward it, or an earlier one for the port waits (R90, R347). A held packet has a number of its
own in `op`. -/
def waitsAtPort (s : State) (l : Nat) (p : Packet) : Bool :=
  match crossingPort s l p with
  | some k => match holdsFor s k with | h :: _ => h.pkt.op ≠ p.op | [] => false
  | none => true

/-- The port's edge router holds a packet, as any subscriber's delivery is held (R90, R347): without granules only its key is kept, and the
home pins the copy. A row is retained nowhere, and always keeps its payload (log 95). -/
def holdAtPort (l : Nat) (p : Packet) (s : State) : State :=
  let r := (linkRouter l).1
  let h := homeOf s p.name p.launch
  let m := takeHeld r p s
  let hold := fun (q : Packet) (dropped beside : Bool) (s : State) =>
    touchPhase (s.modRouter r fun x =>
      { x with holds := x.holds ++ [⟨{ q with op := s.opId + 1 }, l, h, dropped, false, beside⟩] }).bump p.launch p.phase
  if m.1 || p.kind = 4 then hold p false (!m.1) m.2
  else post (.pinRequest { p with payload := [] } r h) (hold { p with payload := [] } true false m.2)

/-- A packet leaves through a link port for its peer; it counts there until its credit returns (R455). -/
def sendAcross (k : Nat) (p : Packet) (s : State) : State :=
  let s := noteStep k p s
  passOn p.launch p.phase (linkReporter k) { s with outbox := s.outbox ++ [.forward (((s.link k).peer.map fun q => q.1).getD 0) p] }

/-- The packet that a port's router holds first goes, fetched again from its home where only its key was kept (R90, R347). -/
def crossHeld (k : Nat) (h : PortHold) (s : State) : State :=
  let r := (linkRouter k).1
  let gone := fun (s : State) =>
    touchPhase (s.modRouter r fun x => { x with holds := x.holds.erase h }) h.pkt.launch h.pkt.phase
  if !h.dropped then sendAcross k { h.pkt with op := 0 } (gone s)
  else match keptAgain s h.home h.pkt with
    | some c => noteWay c.launch (some c.phase) (way h.home r)
      (sendAcross k { h.pkt with op := 0, payload := c.payload, psn := c.psn } (noteServed h.home (copyKey c) (unpin h.home c (gone s))))
    | none => fetchLost h.home h.pkt (.port r (copyKey h.pkt))
        (fun s => s.modRouter r fun y => { y with holds := y.holds.map fun z => if z = h then { z with fetching := true } else z }) s

/-- A port can forward what its router holds first; what is to be fetched again follows its pin request, and is fetched once. -/
def portGoes (s : State) (l : Nat) : Option PortHold :=
  match holdsFor s l with
  | h :: _ =>
    if crossingPort s l h.pkt = some l && !(h.dropped && (h.fetching || pinOut s (linkRouter l).1 h.home (copyKey h.pkt))) then some h else none
  | [] => none

/-- CUT_EDGE_CROSSING (R90, R494, R509): outward, a packet that has come from its home to the edge router of its port crosses the port to the
peer, or is held there; what is held goes in its turn. With no port mapped to the peer it waits for one. Inward it enters the network at the port's edge router. -/
def execCutEdgeCrossing (s : State) : Result :=
  .next (match s.ev with
    | some (.cutEdgeCrossing l p inward) =>
      if inward then enterAt l { p with org := .peer } (noteStep l p s)
      else if waitsAtPort s l p then
        (if l < 96 || (crossingPort s l p).isSome then holdAtPort ((crossingPort s l p).getD l) p s else post (.cutEdgeCrossing l p false) s)
      else match crossingPort s l p with
        | none => s
        | some k =>
          match (holdsFor s k).head? with
          | some h => (match portGoes s k with | some _ => crossHeld k h s | none => s)
          | none => sendAcross k p s
    | _ => s)

/-- A router without the state of a launch (R355). -/
def Router.without (r : Router) (l : Nat) : Router :=
  { r with entries := r.entries.filter (fun e => e.pat.launch ≠ l),
           kept := r.kept.filter (fun k => k.pkt.launch ≠ l),
           held := r.held.filter (fun h => h.pkt.launch ≠ l),
           holds := r.holds.filter (fun h => h.pkt.launch ≠ l),
           transit := r.transit.filter (fun t => t.pkt.launch ≠ l),
           reserved := r.reserved.filter (fun x => x.1 ≠ l),
           partials := r.partials.filter (fun p => p.pkt.launch ≠ l),
           reds := r.reds.filter (fun d => d.pkt.launch ≠ l),
           gets := r.gets.filter (fun g => g.launch ≠ l),
           listed := r.listed.filter (fun k => k.2.2 ≠ l),
           experts := r.experts.map (fun v => { v with parked := v.parked.filter (fun k => k ≠ l) }) }

/-- The network state of a launch is dropped (R355). -/
def dropNetwork (l : Nat) (s : State) : State :=
  { s with routers := s.routers.map (fun (x : Nat × Router) => (x.1, x.2.without l)),
           tail := s.tail.map (fun (x : Nat × List (Nat × Packet)) => (x.1, x.2.filter (fun p => p.2.launch ≠ l))),
           links := s.links.map (fun (x : Nat × LinkPort) => (x.1, { x.2 with begun := x.2.begun.filter fun k => k.2.2 ≠ l })),
           rim := s.rim.filter (fun r => r.work.launch ≠ some l) }

end Sys2Proof.Machine
end

