-- ==== Sys2Proof/Machine/Sumps.lean ====
section
/-! DEFINITION. Bound tensors at their homes, and sumps (R415 to R421, R425, R430): the home's copy of an entry, parked rows, and their way
back. -/

namespace Sys2Proof.Machine

open Sys2Proof

/-! ### Entries, homes and notices -/

/-- The entry of a partition that binds a name's tensor (R416). -/
def boundEntry (s : State) (part : Nat) (n : DWord) : Option Nat :=
  (s.ert.find? fun x => x.1 / 65536 = part && x.2.bind ≠ 0 && x.2.bind = n.toNat / 2 ^ 32).map fun x => x.1 % 65536

/-- The name at coordinate 0 of a bound tensor. -/
def bindName (x : ErtEntry) : DWord := BitVec.ofNat 64 (x.bind * 2 ^ 32)

/-- The home of a bound tensor (R332). -/
def bindHome (s : State) (part : Nat) (x : ErtEntry) : Nat := homeOf s (bindName x) (part * 2 ^ 28)

/-- What a home keeps of an entry (R418); before any notice the entry is ABSENT. -/
def viewOf (s : State) (h part e : Nat) : ExpertView :=
  ((s.router h).experts.find? fun v => v.part = part && v.e = e).getD ⟨part, e, 0, 0, [], none⟩

/-- Change what a home keeps of an entry. -/
def modView (h part e : Nat) (f : ExpertView → ExpertView) (s : State) : State :=
  s.modRouter h fun r => { r with experts := f (viewOf s h part e) :: r.experts.filter fun v => !(v.part = part && v.e = e) }

/-- An entry changes its STATE, and the agent sends the bound tensor's home a notice (R417, R418). -/
def setEntry (part e st : Nat) (f : ErtEntry → ErtEntry) (s : State) : State :=
  let s := s.modErt part e fun x => { f x with st := st }
  if (s.ertEntry part e).bind = 0 then s else post (.stateNotice part e st (s.ertEntry part e).field) s

/-- A pattern can match names of a bound tensor: the namespace is its own, and so is every TNUM bit that the pattern fixes. -/
def Pattern.forTensor (t : Pattern) (n : DWord) : Bool :=
  nsOf t.value = nsOf n && ((t.value ^^^ n) &&& t.mask &&& 0x000FFFFF00000000) = 0

/-- The home of a bound tensor holds a HOME entry of a data subscription for it, of a launch or of any launch: from the install's arrival there until
the removal's (R418, R428). -/
def dataSub (s : State) (h : Nat) (n : DWord) (l : Option Nat) : Bool :=
  (s.router h).entries.any fun x => x.kind = .home && x.data ≠ 0 && Pattern.forTensor x.pat n &&
    (match l with | some l => x.pat.launch = l | none => true)

/-! ### Sumps (R419 to R421) -/

/-- The sumps in use for an entry of a partition, in the order in which they were taken, with their index. -/
def sumpsFor (s : State) (part e : Nat) (l : Option Nat) : List (Nat × Sump) :=
  (s.sumps.filter fun u => u.2.part = part && u.2.order ≠ 0 && u.2.entry = e &&
    (match l with | some l => u.2.launch = l | none => true)).foldr (fun u acc => insertSump u acc) []
where
  /-- Insert by order of taking. -/
  insertSump (u : Nat × Sump) : List (Nat × Sump) → List (Nat × Sump)
    | [] => [u]
    | x :: r => if u.2.order < x.2.order then u :: x :: r else x :: insertSump u r

/-- Change a sump. -/
def modSump (i : Nat) (f : Sump → Sump) (s : State) : State :=
  match kget s.sumps i with
  | some u => { s with sumps := kset s.sumps i (f u) }
  | none => s

/-- SVALID and SUMP of an entry name the oldest sump that holds rows for it (R415). -/
def refreshSump (part e : Nat) (s : State) : State :=
  let held := (sumpsFor s part e none).filter fun u => !u.2.rows.isEmpty
  s.modErt part e fun x => match held with
    | u :: _ => { x with svalid := true, sump := u.1 }
    | [] => { x with svalid := false, sump := 0 }

/-- A device pip (R20), which carries a launch and counts in a phase of it until it has been delivered; with `rel` it is a release (R461). -/
def devicePip (tnum coord : Nat) (gen : BitVec 16) (launch phase : Nat) (rel : Bool) (s : State) : State :=
  post (.publicationAtHome { Packet.zero with name := mkName 0 tnum coord, gen := gen, launch := launch, phase := phase, kind := 1,
                                              rel := rel, retexp := 20 }) s

/-- A sump's pip (R421). -/
def sumpPip (i code : Nat) (s : State) : State :=
  match kget s.sumps i with
  | some u =>
    devicePip 2 i (BitVec.ofNat 16 code) u.launch (frontier s u.launch) false
      (noteWay u.launch (some (frontier s u.launch)) (way (aditRouter (i % 24)).1 (homeOf s (mkName 0 2 i) u.launch))
        (emit s (launchField s u.launch) (unitAdit (i % 24)) (unitRec s 0x60 (aditUnit (i % 24)) u.launch 0xFFFFFFFF
          (leBytes 2 i ++ leBytes 2 code ++ leBytes 2 u.entry))))
  | none => s

/-- A sump becomes free, with an event (R421). -/
def freeSump (code : Nat) (s : State) (u : Nat × Sump) : State :=
  let s := u.2.rows.foldl (fun s r => touchPhase s r.pkt.launch r.pkt.phase) (sumpPip u.1 code s)
  refreshSump u.2.part u.2.entry (modSump u.1 (fun u => { u with rows := [], order := 0, draining := false, launch := 0, entry := 0 }) s)

/-- The sumps of a launch discard their rows (R431). -/
def dropSumps (l : Nat) (s : State) : State :=
  (s.sumps.filter fun u => u.2.order ≠ 0 && u.2.launch = l).foldl (freeSump 5) s

/-- A row is on its way to a sump. -/
def isParking (part e l : Nat) (x : Event) : Bool :=
  match x with
  | .rowParking p r => p = part && r.entry = e && r.pkt.launch = l
  | _ => false

/-- Rim work is the parking of a row. -/
def RimWork.parks (part e l : Nat) : RimWork → Bool
  | .step x => isParking part e l x
  | _ => false

/-- Rows of a launch for an entry are on their way to its sump. -/
def parkingOut (s : State) (part e l : Nat) : Bool :=
  s.agenda.any (isParking part e l) || s.rim.any fun r => r.work.parks part e l

/-! ### Rows forwarded (R418, R425, R430) -/

/-- The home forwards a row to the expert, and reports it for LASTUSE at most every 2^16 network cycles (R418, R430). -/
def forwardRow (h part e : Nat) (p : Packet) (s : State) : State :=
  let v := viewOf s h part e
  let due := match v.reported with | none => true | some t => t + 2 ^ 15 ≤ s.now
  let s := if due then
      modView h part e (fun v => { v with reported := some s.now }) (s.modErt part e fun x => { x with lastuse := taiNs s })
    else s
  crossOut p (forward h p s)

/-- The first and third conditions of R418 hold for a launch: the entry is RESIDENT or PINNED, and a data subscription is installed. -/
def mayForward (s : State) (part e l : Nat) : Bool :=
  let x := s.ertEntry part e
  let h := bindHome s part x
  let v := viewOf s h part e
  x.bind ≠ 0 && (v.st = 2 || v.st = 3) && dataSub s h (bindName x) (some l)

/-- The oldest row of a launch for an entry, with its sump (R425). -/
def oldestRow (s : State) (part e l : Nat) : Option ((Nat × Sump) × ParkedRow) :=
  (sumpsFor s part e (some l)).findSome? fun u => u.2.rows.head?.map fun r => (u, r)

/-- A row of a launch for an entry is being read back (R425). -/
def unparking (s : State) (part e l : Nat) : Bool := s.rim.any fun r => r.work = .unpark part e l

/-- Every row of a launch for an entry has been forwarded, and none is on its way to a sump: the sumps become free, SVALID 0, and the home forwards
new rows directly (R425). -/
def freeEmptied (part e l : Nat) (s : State) : State :=
  if (oldestRow s part e l).isSome || parkingOut s part e l then s
  else modView (bindHome s part (s.ertEntry part e)) part e (fun v => { v with parked := sdel v.parked l })
    ((sumpsFor s part e (some l)).foldl (freeSump 4) s)

/-- The oldest row has been read back and goes to the home, which forwards it; with the last one the sumps become free (R425). -/
def unparkRow (part e l : Nat) (s : State) : State :=
  match oldestRow s part e l with
  | none => s
  | some (u, r) =>
    if !mayForward s part e l then s
    else areaAccess part 2 r.pkt.header l false (fun s =>
      let s := refreshSump part e (modSump u.1 (fun u => { u with rows := u.rows.drop 1 }) s)
      let h := bindHome s part (s.ertEntry part e)
      let s := noteWay r.pkt.launch (some r.pkt.phase) (way (aditRouter (u.1 % 24)).1 h) (touchPhase s r.pkt.launch r.pkt.phase)
      freeEmptied part e l (forwardRow h part e r.pkt s)) s

/-- A row can be read back: the tree of its tensor has transit granules for it (R338). -/
def unparkGoes (s : State) (part e l : Nat) : Bool :=
  match oldestRow s part e l with
  | some (_, r) => treeRoom s (bindHome s part (s.ertEntry part e)) r.pkt
  | none => true

end Sys2Proof.Machine
end

