-- ==== Sys2Proof/Machine/CopyEngines.lean ====
section
/-! DEFINITION. Copy engines and virtual memory (R356 to R378), and the replies that end a task's C-class operations (R353, R381,
R384, R389). -/

namespace Sys2Proof.Machine

open Sys2Proof

/-! ### Groups and the end of operations (R380, R381, R384) -/

/-- Change a copy group of a bank. -/
def modGroup (c : Nat) (b : Bool) (g : Nat) (f : CopyGroup → CopyGroup) (s : State) : State :=
  s.modBankAt c b fun k => { k with groups := k.groups.set (Fin.ofNat 16 g) (f (k.groups.get (Fin.ofNat 16 g))) }

/-- Group `g` of a bank. -/
def Bank.group (b : Bank) (g : Nat) : CopyGroup := b.groups.get (Fin.ofNat 16 g)

/-- An operation leaves its group, with the first fault recorded (R380, R384); OUT reaching 0 is event 1 (R214). -/
def leaveGroup (o : COp) (s : State) : State :=
  match o.grp with
  | none => s
  | some g =>
    let s := modGroup o.core o.bank g (fun x =>
      { x with out := x.out - 1, fault := match x.fault with | some f => some f | none => o.fault }) s
    if (((s.core o.core).bank o.bank).group g).out = 0 then
      let s := raiseEvent s o.core o.bank 1
      modGroup o.core o.bank g (fun x =>
        if x.clearing then { x with fault := none, faulted := 0, clearing := false, reported := false } else x) s
    else s

/-- An operation that counts in a phase stops counting (R455). -/
def touchOp (o : COp) (s : State) : State :=
  match kget s.ops o.id with
  | some x => if x.counts then touchPhase s o.launch o.phase else s
  | none => s

/-- An operation is over (R381): it leaves its group, frees its GET slots and its pending register, and is forgotten. -/
def endOp (o : COp) (s : State) : State :=
  let s := { touchOp o s with ops := kdel s.ops o.id }
  let s := s.modBankAt o.core o.bank fun b =>
    { b with pending := b.pending.filter (fun p => p.op ≠ o.id) }
  leaveGroup o s

/-- A request becomes FAULTED, or is so no longer, in its group's PF (R380). -/
def notePf (o : COp) (up : Bool) (s : State) : State :=
  match o.grp with
  | some g => modGroup o.core o.bank g (fun x => { x with faulted := if up then x.faulted + 1 else x.faulted - 1 }) s
  | none => s

/-! ### Sending (R357, R382, R392, R396) -/

/-- The queued operations of a bank, in commit order. -/
def queuedOps (s : State) (c : Nat) (b : Bool) : List COp :=
  (s.ops.filter fun o => o.2.core = c && o.2.bank = b && o.2.ofTask && o.2.place = .queued).map fun o => o.2

/-- Some engine write of an earlier MDRAIN or MSTAT, or a write of an earlier VTOPK, among `ids` is outstanding (R210). -/
def drainsOut (s : State) (c : Nat) (ids : List Nat) : Bool :=
  (s.core c).port.any (fun p => ids.contains p.op.id) || (s.core c).queue.any (fun q => ids.contains q.id) ||
    (s.core c).sel.any fun q => ids.contains q.id

/-- Operations among `ids` that have not ended. -/
def outstanding (s : State) (ids : List Nat) : Bool := ids.any fun i => (kget s.ops i).isSome

/-- A tensor is a cut edge of a launch, outward (R89, R396). -/
def cutEdgeOf (s : State) (p : Packet) : Bool := !(cutPeers s p).isEmpty

/-- A packet comes from an operation of a task instance, and of a copy group where one is named. -/
def Packet.isOf (p : Packet) (task : Nat) (grp : Option Nat) : Bool :=
  match p.org with
  | .task n g => n = task && (grp.isNone || g = grp)
  | _ => false

/-- A publication of a task across a cut edge, of a copy group where one is named, has not been accepted by the peer's link port (R392,
R438). -/
def crossingOut (s : State) (task : Nat) (grp : Option Nat) : Bool :=
  let mine := fun (p : Packet) => Packet.isOf p task grp && !(p.kind = 2 || p.kind = 3)
  (s.agenda.any fun e => match e with
    | .publicationAtHome p => mine p && cutEdgeOf s p
    | .rowAtHome p => mine p && cutEdgeOf s p
    | .cutEdgeCrossing _ p inward => mine p && !inward
    | _ => false) ||
    s.routers.any fun r => r.2.holds.any fun h => mine h.pkt

/-- A request is a CFENCE (R392). -/
def COp.isFence (o : COp) : Bool := o.kind = .control && o.opc = 8

/-- What a CFENCE, or a release, at the scope in `opnd` waits for beside its operations (R392, R438): at SYSTEM scope the acceptance of
the earlier publications across cut edges, those of its group (in `dst`) or the task's. -/
def scopeOver (s : State) (o : COp) : Bool := o.opnd ≠ 4 || !crossingOut s o.task (if o.isFence then some o.dst else none)

/-- What a CFENCE or a release makes an operation wait for has been performed (R392, R396). -/
def released (s : State) (o : COp) : Bool :=
  !outstanding s o.after && !outstanding s o.before && !drainsOut s o.core (o.before ++ o.after) && scopeOver s o

/-- What holds a CFENCE, the next of its bank to leave, has been performed (R392). -/
def fenceDone (s : State) (o : COp) : Bool :=
  o.isFence && !outstanding s o.after && !drainsOut s o.core o.after && scopeOver s o

/-- The bytes of a publication's source: its spans, each a key and a length. -/
def sourceBytes (s : State) (spans : List (Nat × Nat)) : List Byte := spans.flatMap fun x => readBytes s x.1 x.2

/-- A packet enters the network (R331, R338, R350): rows and publications go to their homes, contributions to the first router. DESIGN CHOICE (log
112): the source is read whole, at this moment. -/
def inject (s : State) (p : Packet) (spans : List (Nat × Nat)) : State :=
  let p := { p with payload := sourceBytes s spans, psn := spans.any fun x => poisoned s x.1 x.2 }
  if p.kind = 4 then post (.rowAtHome p) s
  else if p.kind = 2 then post (.contribution p [p.cidx] p.srcCl) s
  else post (.publicationAtHome p) s

/-- The body of a copy request (R357): the local scratchpad is given by cluster and core, and the place in it by an offset; where a ring, or
the result registers, name the place the core is the task's own and the offset zero (log 60). -/
def COp.body (o : COp) : Nat :=
  let va := match o.boxes with | b :: _ => b.va | [] => 0
  let dir := o.opc ≠ 4 && o.opc ≠ 5
  let c := if dir then (o.loc / 2 ^ 64 - 8) / 8 else o.core
  va % 2 ^ 57 * 2 ^ 199 + o.gid % 2 ^ 12 * 2 ^ 187 + o.part % 16 * 2 ^ 183 + o.opc % 16 * 2 ^ 179 + (o.grp.getD 0) % 16 * 2 ^ 175 +
    (if o.opc = 4 then o.ring % 16 * 2 ^ 171 else 0) + o.len % 2 ^ 21 * 2 ^ 150 + o.stride.toNat * 2 ^ 118 + o.rows % 2 ^ 16 * 2 ^ 102 +
    o.pitch % 2 ^ 8 * 2 ^ 94 + (if dir then o.loc % 2 ^ 21 * 2 ^ 73 else 0) + c / 4 % 2 ^ 11 * 2 ^ 62 + c % 4 * 2 ^ 60

/-- The packet of a copy request (R357): kind 7, name zero, the body; for an atomic also a flit with operand and compare value, 8 bytes
each (the order is the model's, log 60). -/
def COp.request (o : COp) : Packet :=
  { Packet.zero with
    launch := o.launch, phase := o.phase, kind := 7, srcCl := o.core / 4, srcCb := o.core % 4 * 2 + (if o.bank then 1 else 0), op := o.id,
    payload := leBytes 32 o.body ++ (if o.kind = .atomic then leBytes 8 o.opnd ++ leBytes 24 o.cmp else []) }

/-- An operation leaves its interface (R382): a publication reads its source and is injected whole; a GET's request, a hint or a query
leaves; a copy goes to its engine. -/
def sendOp (o : COp) (s : State) : State :=
  match o.kind with
  | .publish => endOp o (o.pkts.foldl (fun s x => inject s x.1 x.2) s)
  | .control => endOp o (noteWay o.launch (some o.phase) (o.send.flatMap (o.sent s)) (postAll o.send s))
  | .get => touchPhase (postAll o.send (s.modOp o.id fun o => { o with place := .network })) o.launch o.phase
  | .ertq => touchPhase (o.send.foldl (fun s e => rimWait (s.part o.part).ertAgent o.part e s)
      (s.modOp o.id fun o => { o with place := .network })) o.launch o.phase
  | .sumpq => touchPhase (o.send.foldl (fun s e => rimWait (o.opnd % 24) o.part e s)
      (s.modOp o.id fun o => { o with place := .network })) o.launch o.phase
  | _ => noteWay o.launch (some o.phase) (if o.ofTask then way (o.core / 4) (engineRouter o.engine) else [])
      (touchPhase (s.modOp o.id fun o =>
        { o with place := .engine, after := [], req := if o.ofTask then some o.request else none }) o.launch o.phase)

/-- A copy or atomic: it goes to an engine. -/
def COp.toEngine (o : COp) : Bool :=
  match o.kind with
  | .load => true
  | .store => true
  | .ring => true
  | .atomic => true
  | .page => true
  | .fetch => true
  | _ => false

/-- The queued network operations of a bank that nothing holds leave, in commit order (R382); `fuel` bounds them. -/
def flushBank (c : Nat) (b : Bool) : Nat → State → State
  | 0, s => s
  | f + 1, s =>
    match queuedOps s c b with
    | o :: _ => if !o.toEngine && o.after.isEmpty && o.before.isEmpty && (!o.rel || scopeOver s o) && (!o.isFence || scopeOver s o) then
        flushBank c b f (sendOp o s)
      else s
    | [] => s

/-- Requests an engine holds (R356). -/
def engineLoad (s : State) (e : Nat) : Nat :=
  (s.ops.filter fun o => o.2.engine = e && o.2.toEngine && (match o.2.place with
    | .engine => true
    | .faulted _ _ _ => true
    | .abandoned => true
    | _ => false)).length

/-- Operation `o` is the next of its bank to leave. -/
def nextToLeave (s : State) (o : COp) : Bool :=
  o.place = .queued && (match queuedOps s o.core o.bank with | x :: _ => x.id = o.id | [] => false)

/-- The interface of an operation's core acts: its cluster is not frozen (R240). -/
def ifaceRuns (s : State) (o : COp) : Bool := (s.cluster (o.core / 4)).freeze.isNone

/-- The engine can accept a copy request (R356, R382). -/
def copyReady (s : State) (o : COp) : Bool :=
  o.toEngine && o.place = .queued && (!o.ofTask || (nextToLeave s o && ifaceRuns s o)) && o.after.isEmpty && engineLoad s o.engine < 64

/-- COPY_REQUEST (R356, R369): an engine accepts a copy request. -/
def execCopyRequest (s : State) : Result :=
  .next (match s.ev with
    | some (.copyRequest i) =>
      (match kget s.ops i with
       | some o => if copyReady s o then flushBank o.core o.bank 64 (sendOp o s) else s
       | none => s)
    | _ => s)

/-- CFENCE_RELEASE (R392): the operations that the request waits for are performed; it leaves, or becomes free to. -/
def execCfenceRelease (s : State) : Result :=
  .next (match s.ev with
    | some (.cfenceRelease i) =>
      (match kget s.ops i with
       | some o =>
         if nextToLeave s o && ifaceRuns s o && fenceDone s o then
           flushBank o.core o.bank 64 (endOp o s)
         else s
       | none => s)
    | _ => s)

/-- RELEASE_INJECTION (R396): the task's earlier effects are performed at the scope; the publication is injected. -/
def execReleaseInjection (s : State) : Result :=
  .next (match s.ev with
    | some (.releaseInjection i) =>
      (match kget s.ops i with
       | some o =>
         if nextToLeave s o && ifaceRuns s o && o.rel && released s o then flushBank o.core o.bank 64 (sendOp o s) else s
       | none => s)
    | _ => s)

/-! ### Translation (R360 to R366) -/

/-- Why a walk faults: FCAUSE (R371). -/
abbrev FCause := Nat

/-- A leaf's page size, as its base-2 logarithm (R363); none where malformed. -/
def leafLog (level sz : Nat) : Option Nat :=
  if 4 ≤ level || 2 ≤ sz || (level = 3 && sz = 1) then none else some (12 + 9 * level + 4 * sz)

/-- CXL window `w` is valid, of the partition, and contains an address (R514). -/
def windowHolds (s : State) (part w pa : Nat) : Bool :=
  let v := (kgetD s.mgmt.windows w (0 : DWord)).toNat
  bitsNat v 0 0 = 1 && bitsNat v 5 2 = part && bitsNat v 63 40 * 2 ^ 28 ≤ pa && pa < (bitsNat v 63 40 + bitsNat v 39 16 + 1) * 2 ^ 28

/-- A CXL window decodes an address of a partition (R514): the lowest valid window that contains it. -/
def cxlWindow (s : State) (part pa : Nat) : Option (Nat × DWord) :=
  (List.range 32).findSome? fun w => if windowHolds s part w pa then some (w, kgetD s.mgmt.windows w (0 : DWord)) else none

/-- The port of a CXL address in a window (R514). -/
def cxlPort (x : DWord) (pa : Nat) : Nat :=
  let v := x.toNat
  (bitsNat v 9 6 + (pa - bitsNat v 63 40 * 2 ^ 28) / (4096 * 2 ^ bitsNat v 12 10) % 2 ^ bitsNat v 15 13) % 16

/-- The agent that owns a CXL port or host port (R510). -/
def cxlAgent (port : Nat) : Nat := 3 * (port / 2) + port % 2
def hostAgent (port : Nat) : Nat := 6 * port + 2

/-- The agent of a physical address (R374); none where no window decodes it. -/
def agentOf (s : State) (part mtype pa : Nat) : Option Nat :=
  if mtype = 0 then some (pa / 4096 % 24)
  else if mtype = 1 then (cxlWindow s part pa).map fun x => cxlAgent (cxlPort x.2 pa)
  else some (hostAgent (pa / 2 ^ 50 % 4))

/-- A page lies wholly within its memory type's range (R364, R374, R514). -/
def pageInRange (s : State) (part mtype frame log : Nat) : Bool :=
  if mtype = 0 then frame + 2 ^ log ≤ 1152 * 2 ^ 30
  else if mtype = 1 then
    (List.range 32).any fun w => windowHolds s part w frame && windowHolds s part w (frame + 2 ^ log - 1)
  else frame + 2 ^ log ≤ 2 ^ 52

/-- A translation (R364, R366): memory type, the physical address, and the TLB entry it leaves. -/
structure Found where
  mtype : Nat
  pa : Nat
  tlb : TlbEntry
  deriving DecidableEq, Repr

/-- Check a leaf entry (R364), `log` its page size. -/
def checkLeaf (s : State) (part gid va : Nat) (rd wr : Bool) (e log : Nat) : Except FCause Found :=
  let frame := bitsNat e 51 12 * 4096
  let mt := bitsNat e 11 9
  let g := bitsNat e 63 52
  if 3 ≤ mt || frame % 2 ^ log ≠ 0 || !pageInRange s part mt frame log then .error 2
  else if g ≠ 0 && g ≠ gid then .error 3
  else if (rd && bitsNat e 2 2 = 0) || (wr && bitsNat e 3 3 = 0) then .error 4
  else .ok ⟨mt, frame + va % 2 ^ log,
    ⟨part, log, va / 2 ^ log, frame, mt, g, bitsNat e 2 2 = 1, bitsNat e 3 3 = 1, wr || bitsNat e 4 4 = 1⟩⟩

/-- The walk (R361, R364, R365) from a level down, in a table at an HBM address: a translation and the state with A and D set, or a
fault. The first argument is the level plus 1. DESIGN CHOICE (log 94): a table beyond HBM reads zero, and a poisoned entry as its bytes. -/
def walk (s : State) (part gid va : Nat) (rd wr : Bool) : Nat → Nat → Except FCause (Found × State)
  | 0, _ => .error 2
  | l + 1, table =>
    let key := Space.hbm.key (table + va / 2 ^ (12 + 9 * l) % 512 * 8)
    let e := readNat s key 8
    if bitsNat e 0 0 = 0 then .error 1
    else if bitsNat e 6 6 = 1 then
      match leafLog l (bitsNat e 8 7) with
      | none => .error 2
      | some log =>
        match checkLeaf s part gid va rd wr e log with
        | .error c => .error c
        | .ok f =>
          let d := if wr && bitsNat e 4 4 = 0 then e ||| 0x30 else if rd && bitsNat e 5 5 = 0 then e ||| 0x20 else e
          .ok (f, if d = e then s else writeNat s key 8 d)
    else if l = 0 || bitsNat e 63 52 ≠ 0 || bitsNat e 11 7 ≠ 0 || bitsNat e 5 1 ≠ 0 then .error 2
    else walk s part gid va rd wr l (bitsNat e 51 12 * 4096)

/-- A TLB entry covers an access (R366): page, permission and identity hold. -/
def TlbEntry.covers (t : TlbEntry) (part gid va : Nat) (rd wr : Bool) : Bool :=
  t.part = part && t.vpage = va / 2 ^ t.log && (t.gid = 0 || t.gid = gid) && (!rd || t.rd) && (!wr || t.w)

/-- A TLB entry serves an access (R366): it covers it, and a write needs D recorded. -/
def TlbEntry.serves (t : TlbEntry) (part gid va : Nat) (rd wr : Bool) : Bool := t.covers part gid va rd wr && (!wr || t.d)

/-- The second-level TLB of an engine (R356, R366). -/
def secondTlb (e : Nat) : Nat := if e < 336 then 1000 + e / 4 else 2000 + (e - 336) / 8

/-- Put an entry in front of a TLB of `n` entries, replacing the same page (least recently used at the end). -/
def tlbPut (k n : Nat) (t : TlbEntry) (s : State) : State :=
  let l := (kgetD s.tlbs k []).filter fun x => !(x.part = t.part && x.log = t.log && x.vpage = t.vpage)
  { s with tlbs := kset s.tlbs k ((t :: l).take n) }

/-- The entry of an engine's first-level TLB, else of its second level, that serves an access (R366). A write box that the first level
covers with D clear walks again. -/
def tlbHit (s : State) (eng part gid va : Nat) (rd wr : Bool) : Option TlbEntry × Option TlbEntry :=
  let l := kgetD s.tlbs eng []
  (l.find? fun t => t.serves part gid va rd wr,
   if l.any fun t => t.covers part gid va rd wr then none
   else (kgetD s.tlbs (secondTlb eng) []).find? fun t => t.serves part gid va rd wr)

/-- Translate for an engine (R364 to R366): its TLB, the second level, then a walk, whose result both keep. -/
def translate (s : State) (eng part gid va : Nat) (rd wr : Bool) : Except FCause (Found × State) :=
  let hit := tlbHit s eng part gid va rd wr
  let use := fun (t : TlbEntry) => (⟨t.mtype, t.frame + va % 2 ^ t.log, t⟩ : Found)
  match hit.1 with
  | some t => .ok (use t, tlbPut eng 64 t s)
  | none =>
    match hit.2 with
    | some t => .ok (use t, tlbPut (secondTlb eng) 4096 t (tlbPut eng 64 t s))
    | none =>
      if !(s.part part).vmEn then .error 1
      else match walk s part gid va rd wr 5 (s.part part).vmRoot with
        | .error c => .error c
        | .ok (f, s) => .ok (f, tlbPut (secondTlb eng) 4096 f.tlb (tlbPut eng 64 f.tlb s))

/-- An operation's boxes read memory, write it, or both (R364). -/
def COp.reads (o : COp) : Bool := o.kind ≠ .store
def COp.writes (o : COp) : Bool := o.kind = .store || o.kind = .atomic

/-- The first untranslated box, which an engine starts next (R369). -/
def nextBox (o : COp) : Option Nat := o.boxes.findIdx? fun b => !b.done && b.tr.isNone

/-! ### Rim slots (R87, R88) -/

/-- The slot of this cycle belongs to a partition (R87). -/
def ownSlot (s : State) (part : Nat) : Bool := s.mgmt.rim.getD (s.now / 16 % 64) (false, 0) = (true, part)

/-- A request of an occupancy can hold an adit agent from this cycle on: no other holds it, and its occupancy ends in the slot (R88). -/
def agentFree (s : State) (agent occ : Nat) : Bool := kgetD s.rimBusy agent 0 ≤ s.now && s.now % 16 + occ ≤ 16

/-- A request holds an adit agent for its occupancy (R88). -/
def holdAgent (agent occ : Nat) (s : State) : State := { s with rimBusy := kset s.rimBusy agent (s.now + occ) }

/-- The addresses of the table entries that a walk reads (R361). -/
def walkReads (s : State) (va : Nat) : Nat → Nat → List Nat
  | 0, _ => []
  | l + 1, table =>
    let pa := table + va / 2 ^ (12 + 9 * l) % 512 * 8
    let e := readNat s (Space.hbm.key pa) 8
    let pointer := bitsNat e 0 0 = 1 && bitsNat e 6 6 = 0 && bitsNat e 63 52 = 0 && bitsNat e 11 7 = 0 && bitsNat e 5 1 = 0
    pa :: (if pointer then walkReads s va l (bitsNat e 51 12 * 4096) else [])

/-- The addresses of the table entries that the translation of a box of an operation reads: none where a TLB serves it. -/
def opReads (s : State) (o : COp) (va : Nat) : List Nat :=
  let hit := tlbHit s o.engine o.part o.gid va o.reads o.writes
  if hit.1.isSome || hit.2.isSome || !(s.part o.part).vmEn then [] else walkReads s va 5 (s.part o.part).vmRoot

/-- The adit agents of those entries. -/
def walkAgents (s : State) (o : COp) (va : Nat) : List Nat := ((opReads s o va).map fun pa => pa / 4096 % 24).dedup

/-- The class of an operation's accesses (R503). -/
def COp.cls (o : COp) : Nat := if o.ofTask then 0 else 1

/-- The HBM window table admits the read of a table entry, or the update of one, by the walker of an operation's engine (R365, R504, R505). DEDUCED
(log 93): under the CLASS of the operation (R503). -/
def walkAdmits (s : State) (o : COp) (pa : Nat) (wr : Bool) : Bool := admitted s 0 (pa / 2 ^ 22) o.cls o.part wr true

/-- The first access of a walk that the table refuses: a read of an entry, then the update of A and D, and whether it is that. -/
def walkRefused (s : State) (o : COp) (va : Nat) : Option (Nat × Bool) :=
  let pas := opReads s o va
  match pas.find? fun pa => !walkAdmits s o pa false with
  | some pa => some (pa, false)
  | none =>
    match translate s o.engine o.part o.gid va o.reads o.writes with
    | .ok (_, t) => if t.mem ≠ s.mem && !walkAdmits s o (pas.getLastD 0) true then some (pas.getLastD 0, true) else none
    | .error _ => none

/-- The occupancy of a walk's reads, which the spec leaves open (log 5). -/
def walkOcc (s : State) : Nat := Config.occupancy (s.nonce * 2 ^ 20 + 2 ^ 19) % 16 + 1

/-- A translation can end now: its walk reads the tables in a slot of the partition (R88). -/
def walkFits (s : State) (o : COp) (va : Nat) : Bool :=
  let a := walkAgents s o va
  a.isEmpty || (ownSlot s o.part && a.all fun k => agentFree s k (walkOcc s))

/-- The reads of a walk hold their agents. -/
def holdWalk (o : COp) (va : Nat) (s : State) : State := (walkAgents s o va).foldl (fun s k => holdAgent k (walkOcc s) s) s

/-- The box whose walk ends next: at its engine, the first untranslated one; while the request is FAULTED, one whose walk was outstanding when the
fault was found (R369, R370). -/
def walkNext (o : COp) : Option Nat :=
  match o.place with
  | .engine => nextBox o
  | .faulted _ _ _ => o.ahead.head?
  | _ => none

/-- A walk can end for an operation: some box is to be translated, and the copy interface of its core, which may have to note a fault or ask for a
ring's slot, is not frozen (R240). -/
def walkReady (s : State) (o : COp) : Bool :=
  !o.cancelled && (!o.ofTask || ifaceRuns s o) && match (walkNext o).bind fun i => o.boxes[i]? with
    | some b => walkFits s o b.va
    | none => false

/-- The fault record of a FAULTED request (R371), as a number. -/
def faultRecord (o : COp) (va box acc cause tag task : Nat) : Nat :=
  va * 2 ^ 199 + o.gid * 2 ^ 187 + o.part * 2 ^ 183 + o.opc * 2 ^ 179 + box * 2 ^ 171 + acc * 2 ^ 168 + cause * 2 ^ 164 +
    o.launch % 2 ^ 32 * 2 ^ 128 + task % 2 ^ 32 * 2 ^ 96 +
    (if !o.ofTask then 126 * 512 else (sourceOf o.core o.bank).toNat) * 2 ^ 80 + o.engine * 2 ^ 70 + tag % 2 ^ 64

/-- TASKID of a task instance (R110). -/
def taskidOf (t : TaskInst) : Nat := t.tmpl % 2 ^ 16 + t.rank * 2 ^ 16

/-- A walk ends in a fault (R370): the request is FAULTED, and a record goes to the partition's launch firmware. -/
def pageFault (o : COp) (i : Nat) (b : Box) (cause : FCause) (s : State) : State :=
  let task := match kget s.tasks o.task with | some t => if o.ofTask then taskidOf t else 0 | none => 0
  let acc := if o.kind = .atomic then 2 else if o.kind = .store then 1 else 0
  let s := s.modOp o.id fun x => { x with place := .faulted o.id i s.now }
  let s := notePf o true s
  let s := s.note 4 (faultRecord o b.va i acc cause o.id task)
  let f := if o.engine < 336 then o.engine / 4 else if o.kind = .page then 0 else launchField s o.launch
  emit s f (unitEngine o.engine) (unitRec s 0x50 (if o.ofTask then sourceOf o.core o.bank else aditUnit ((o.engine - 336) / 8))
    (if o.kind = .page then 0 else o.launch) (if o.ofTask then BitVec.ofNat 32 task else 0xFFFFFFFF) (leBytes 2 o.engine ++ leBytes 1 cause ++ leBytes 1 i ++ leBytes 8 b.va))

/-- A paging request fails (R423); its expert entry is in `dst`. -/
def failPage (o : COp) (code : BitVec 8) (s : State) : State := post (.pageFailure o.part o.dst code) s

/-- A box of an operation is refused for good (R375, R423): a paging request fails, a BACKED fetch aborts its launch with no core as
source, and so does a task's request with its own. -/
def failBox (o : COp) (code : BitVec 8) (s : State) : State :=
  if o.kind = .page then failPage o 0x2C s
  else if o.kind = .fetch then abortCode o.launch code aditFault s
  else abortCode o.launch code (sourceOf o.core o.bank) s

/-- Ring slots of a CLDR that its first `n` bytes need. -/
def slotsFor (r : Ring) (n : Nat) : Nat := (n + r.slotSize - 1) / r.slotSize

/-- The slots of a ring that a CLDR needs: those of all its bytes, or after a CCANCEL those of the boxes in flight (R387, R393). -/
def COp.slotsWanted (o : COp) (r : Ring) : Nat :=
  slotsFor r (if o.cancelled then (o.boxes.filter fun b => b.tr.isSome).foldl (fun n b => max n (b.off + b.len)) 0 else o.len)

/-- A CLDR whose boxes go to their agents asks for the slots that it has not taken, once (R205, R387). -/
def askSlots (o : COp) (s : State) : State :=
  if o.kind ≠ .ring then s
  else s.modBankAt o.core o.bank fun b => b.modRing o.ring fun r =>
    if r.asks.contains (.engine o.id) || o.slotsWanted r ≤ o.slots.length then r else r.ask (.engine o.id)

/-- Box `i` of an operation has its translation and waits at its agent (R369, R374). -/
def sendBox (o : COp) (i a : Nat) (f : Found) (s : State) : State :=
  let s := s.modOp o.id fun o =>
    { o with boxes := o.boxes.modify i fun b => { b with tr := some ⟨f.mtype, f.pa, a, f.tlb.log⟩ } }
  rimWait a o.part (if o.kind = .atomic then .atomicAtAgent o.id else .boxPerformed o.id i) s

/-- Later boxes whose walks are outstanding when box `i` faults (R366, R370): as many as the spec leaves open, up to 31 (log 40). Those that
succeed are translated and performed; of those that fault nothing is reported. -/
def walksAhead (s : State) (o : COp) (i : Nat) : List Nat :=
  ((List.range (s.choose 2 32)).map (· + (i + 1))).filter fun j => match o.boxes[j]? with
    | some b => !b.done && b.tr.isNone
    | none => false

/-- A walk ends for box `i` of an operation: it goes to its agent, or the request faults, or a table refuses the walk. The agent of CXL memory is
decoded as the box is sent (R514); with no window then, the access cause meets it there. -/
def endWalk (o : COp) (i : Nat) (b : Box) (s : State) : State :=
  match walkRefused s o b.va with
  | some x =>
    failBox o 0x24 (violate (s.modOp o.id fun y => { y with cancelled := true }) 0 (x.1 / 2 ^ 22) o.cls o.part x.2)
  | none =>
    match translate s o.engine o.part o.gid b.va o.reads o.writes with
    | .error c =>
      if o.place = .engine then pageFault o i b c (s.modOp o.id fun y => { y with ahead := walksAhead s o i }) else s
    | .ok (f, t) => askSlots o (sendBox o i ((agentOf t o.part f.mtype f.pa).getD 0) f t)

/-- PAGE_WALK (R364, R369): the next walk of a request ends. -/
def execPageWalk (s : State) : Result :=
  .next (match s.ev with
    | some (.pageWalk id) =>
      (match kget s.ops id with
       | none => s
       | some o =>
         match walkNext o with
         | none => s
         | some i =>
           if !walkReady s o then s
           else match o.boxes[i]? with
             | none => s
             | some b => endWalk o i b (holdWalk o b.va (s.modOp id fun y => { y with ahead := y.ahead.drop 1 })))
    | _ => s)

/-! ### Performing (R369, R374 to R377, R385 to R388) -/

/-- The key of a translated address: of CXL memory, the address at the port that its agent is for (R510, R514). -/
def memKey (t : Trans) : Nat :=
  if t.mtype = 0 then Space.hbm.key t.pa else if t.mtype = 1 then Space.cxl.key (t.agent * 2 ^ 56 + t.pa) else Space.host.key t.pa

/-- Why an agent does not perform an access (R375, R505, R514): the access cause where a table refuses it or no window decodes it to
the agent, the memory error where a write meets an error, or (DESIGN CHOICE, log 100) where the host bus does not complete a read or a write. -/
def refusal (s : State) (cls part : Nat) (t : Trans) (wr rd : Bool) : Option (BitVec 8) :=
  if t.mtype = 2 then (if s.hostBad.contains (memKey t / 4096) then some 0x29 else none)
  else
    let ok := if t.mtype = 0 then admitted s 0 (t.pa / 2 ^ 22) cls part wr rd else admitted s 1 (t.pa / 2 ^ 28) cls part wr rd
    if !ok || agentOf s part t.mtype t.pa ≠ some t.agent then some 0x24
    else if wr && s.hostBad.contains (memKey t / 4096) then some 0x29 else none

/-- Why an agent does not perform a box of an operation. -/
def accessFault (s : State) (o : COp) (t : Trans) (wr rd : Bool) : Option (BitVec 8) := refusal s o.cls o.part t wr rd

/-- A refused access is recorded (R505). -/
def noteRefusal (cls part : Nat) (t : Trans) (wr rd : Bool) (s : State) : State :=
  if t.mtype = 0 && !admitted s 0 (t.pa / 2 ^ 22) cls part wr rd then violate s 0 (t.pa / 2 ^ 22) cls part wr
  else if t.mtype = 1 && !admitted s 1 (t.pa / 2 ^ 28) cls part wr rd then violate s 1 (t.pa / 2 ^ 28) cls part wr
  else s

/-- A refused box of an operation is recorded. -/
def noteAccess (o : COp) (t : Trans) (s : State) : State := noteRefusal o.cls o.part t o.writes o.reads s

/-- Granules of 4 KiB that a translated box touches (R377). -/
def sameGranule (a b : Trans) : Bool := a.mtype = b.mtype && a.pa / 4096 = b.pa / 4096

/-- An earlier request of the task lets a box go (R377): its own boxes are all translated, but for those that CCANCEL has stopped, and
none of them that is not yet performed touches the granule where either writes. -/
def clearOf (x o : COp) (t : Trans) : Bool :=
  x.boxes.all fun b => b.done ||
    match b.tr with
    | none => x.cancelled
    | some y => !(sameGranule y t && (x.writes || o.writes))

/-- A box may be sent (R377, R387): the order of its task's requests allows it, and a CLDR's slots can be taken. -/
def boxReady (s : State) (id i : Nat) : Bool :=
  match kget s.ops id with
  | none => true
  | some o =>
    match o.boxes[i]? with
    | none => true
    | some b =>
      match b.tr with
      | none => true
      | some t =>
        !o.ofTask ||
        ((s.ops.all fun x => !(x.2.id < o.id && x.2.core = o.core && x.2.bank = o.bank && x.2.ofTask && x.2.toEngine) ||
            clearOf x.2 o t) &&
          (o.kind ≠ .ring || match ((s.core o.core).bank o.bank).ring o.ring with
            | none => true
            | some r => slotsFor r (b.off + b.len) ≤ o.slots.length))

/-- The slot at index `i` of a ring becomes FILLED. -/
def Ring.fillAt (r : Ring) (i : Nat) : Ring :=
  { r with taken := r.taken.modify ((i + r.count - r.popPos % r.count) % r.count) fun t => { t with filled := true } }

/-- A CLDR that asks for a slot of its ring before all others takes the slot at the fill position as it becomes FREE, one at a time, and
asks no more when it has its slots (R205, R387). -/
def takeSlot (o : COp) (s : State) : State :=
  match ((s.core o.core).bank o.bank).ring o.ring with
  | none => s
  | some r =>
    if r.free = 0 || r.asks.head? ≠ some (.engine o.id) then s
    else
      (s.modOp o.id fun o => { o with slots := o.slots ++ [r.fillPos] }).modBankAt o.core o.bank fun b =>
        b.modRing o.ring fun r =>
          (if o.slotsWanted r ≤ o.slots.length + 1 then r.answered (.engine o.id) else r).take (.engine o.id)

/-- The CLDRs of a cluster that is not frozen take the slots that are theirs. -/
def takeSlots (s : State) : State :=
  (s.ops.filter fun o => o.2.kind = .ring && (s.cluster (o.2.core / 4)).freeze.isNone).foldl (fun s o =>
    (List.range 256).foldl (fun s _ => match kget s.ops o.1 with | some x => takeSlot x s | none => s) s) s

/-- A rim request may start: a box is sent only when the order of its task's requests allows it (R377) and, for a CLDR, when its slots
are taken (R387); a query when the room for its reply can be reserved (R344). -/
def rimReady (s : State) (r : RimReq) : Bool :=
  match r.work with
  | .step (.boxPerformed op i) => boxReady s op i
  | .step (.atomicAtAgent op) => boxReady s op 0
  | .step (.rimQuery q) => q.room || hasRoom s q.home (Query.granules s q)
  | .unpark part e l => unparkGoes s part e l
  | _ => true

/-- What ERTQ reads of an entry (R408). -/
def ertValue (s : State) (part e : Nat) : Nat :=
  let x := s.ertEntry part e
  let held := 1 ≤ x.st && x.st ≤ 3
  x.tiles % 2 ^ 11 * 2 ^ 16 + (if held then x.field * 2 ^ 9 + x.slot * 8 else 0) + x.st

/-- What SUMPQ reads of a sump (R410). -/
def sumpValue (s : State) (part i : Nat) : Nat :=
  match kget s.sumps i with
  | some u => if u.part = part && u.order ≠ 0 then u.entry * 2 ^ 16 + 2 ^ 15 + min u.rows.length 4096 else 0
  | none => 0

/-- A query of the expert residency table passes its access table (R504, R505). -/
def ertAdmits (s : State) (o : COp) : Bool := admitted s 2 (o.part * 65536 + o.opnd) o.cls o.part false true

/-- A request that has started is served: a query of a table samples it here (R408, R410). What a refused one answers is open (log 42). -/
def sampled (s : State) (e : Event) : Event :=
  match e with
  | .remoteResult id lo hi =>
    (match kget s.ops id with
     | some o =>
       if o.kind = .ertq then .remoteResult id (if ertAdmits s o then ertValue s o.part o.opnd else s.free 6 % 2 ^ 32) 0
       else if o.kind = .sumpq then .remoteResult id (sumpValue s o.part o.opnd) 0
       else .remoteResult id lo hi
     | none => .remoteResult id lo hi)
  | e => e

/-- A refused query of the expert residency table is recorded (R505). -/
def noteErtq (e : Event) (s : State) : State :=
  match e with
  | .remoteResult id _ _ =>
    (match kget s.ops id with
     | some o => if o.kind = .ertq && !ertAdmits s o then violate s 2 (o.part * 65536 + o.opnd) o.cls o.part false else s
     | none => s)
  | _ => s

/-- The room for a query's reply is reserved before it is sent (R344). -/
def roomFor (e : Event) (s : State) : State :=
  match e with
  | .rimQuery q => if q.room then s else reserveFor q s
  | _ => s

/-- A query whose room is reserved. -/
def withRoom (e : Event) : Event :=
  match e with
  | .rimQuery q => .rimQuery { q with room := true }
  | e => e

/-- A tile is written to its partition's tailings area, in the place of an earlier one of its key (R345). -/
def tailWrite (n : Nat) (p : Packet) (s : State) : State :=
  let part := partOf p.launch
  { s with tail := kset s.tail part (((kgetD s.tail part []).filter fun x => copyKey x.2 ≠ copyKey p) ++ [(n, p)]) }

/-- The engine decodes a box as it sends it to its agent (R514): of CXL memory the agent of the window that decodes it now, which the order of
the task's requests may have made it wait for (R377). -/
def resend (e : Event) (s : State) : State :=
  let at' := fun (op i : Nat) => s.modOp op fun o =>
    { o with boxes := o.boxes.modify i fun b =>
        { b with tr := b.tr.map fun t => { t with agent := (agentOf s o.part t.mtype t.pa).getD t.agent } } }
  match e with
  | .boxPerformed op i => at' op i
  | .atomicAtAgent op => at' op 0
  | _ => s

/-- The agent at whose queue a request waits (R374, R514): of a box in CXL memory that of the window that decodes it now. -/
def agentNow (s : State) (r : RimReq) : Nat :=
  let of := fun (op i : Nat) => ((kget s.ops op).bind fun o => (o.boxes[i]?).bind fun b => b.tr.bind fun t =>
    agentOf s o.part t.mtype t.pa).getD r.agent
  match r.work with
  | .step (.boxPerformed op i) => of op i
  | .step (.atomicAtAgent op) => of op 0
  | _ => r.agent

/-- Rim request `i` is the first of its partition at its agent that may start. -/
def rimFirst (s : State) (i : Nat) (r : RimReq) : Bool :=
  rimReady s r && (s.rim.take i).all fun x => !(agentNow s x = agentNow s r && x.part = r.part && rimReady s x)

/-- The slot of this cycle belongs to the request's partition, its occupancy ends in it, and no other request holds the agent (R87,
R88). -/
def rimFits (s : State) (r : RimReq) : Bool := ownSlot s r.part && agentFree s (agentNow s r) r.occ

/-- A rim request starts: it leaves its queue, holds its agent, and is on its way or performed (R88). -/
def startRim (i : Nat) (r : RimReq) (s : State) : State :=
  let t := holdAgent (agentNow s r) r.occ { s with rim := s.rim.eraseIdx i }
  match r.work with
  | .step e =>
    let u := noteErtq e (resend e (roomFor e t))
    { u with agenda := u.agenda ++ [withRoom (sampled s e)] }
  | .tail n p => areaAccess (partOf p.launch) 0 n p.launch true (tailWrite n p) t
  | .spill l => areaAccess (partOf l) 1 l l true id t
  | .join h p => areaAccess (partOf p.launch) 1 p.launch p.launch false (joinAt h p) (touchPhase t p.launch p.phase)
  | .unpark part e l => unparkRow part e l t

/-- What crosses a rim resource's data path on its way back: an answer that memory or a table gives (R88). Its partition. -/
def answerPart (s : State) (e : Event) : Option Nat :=
  match e with
  | .boxPerformed op _ => (kget s.ops op).bind fun o => if o.kind = .store then none else some o.part
  | .remoteResult op _ _ => (kget s.ops op).map fun o => o.part
  | .queryReply q _ => some (partOf q.launch)
  | _ => none

/-- An answer waits in the return buffer of its partition for a slot of its own (R88). -/
def crosses (s : State) (e : Event) : Bool :=
  match answerPart s e with
  | some p => ownSlot s p
  | none => true

/-- RIM_REQUEST_START (R88). -/
def execRimRequestStart (s : State) : Result :=
  .next (match s.ev with
    | some (.rimRequestStart i) =>
      (match s.rim[i]? with
       | some r => if rimFirst s i r && rimFits s r then startRim i r s else s
       | none => s)
    | _ => s)

/-! ### Bytes of boxes (R369, R375, R387, R470) -/

/-- The local pieces of a box: keys and lengths, in order; a CLDR's byte b lies at b mod S of its (b div S)-th slot (R387). -/
def localPieces (s : State) (o : COp) (off len : Nat) : List (Nat × Nat) :=
  if o.kind = .ring then
    match ((s.core o.core).bank o.bank).ring o.ring, kget s.ops o.id with
    | some r, some o =>
      (List.range (len / r.slotSize + 2)).filterMap fun j =>
        let lo := max off ((off / r.slotSize + j) * r.slotSize)
        let hi := min (off + len) ((off / r.slotSize + j + 1) * r.slotSize)
        if lo < hi then
          some ((Space.spad o.core).key (r.slotAddr (o.slots.getD (lo / r.slotSize) 0) + lo % r.slotSize), hi - lo)
        else none
    | _, _ => []
  else [(o.loc + off, len)]

/-- The words at `dst` that take bytes of the word `w` of the `n` bytes at `src` (R375, R470). -/
def carried (src n dst w : Nat) : List Nat :=
  wordKeys (dst + (max src w - src)) (min (src + n) (w + 4) - max src w)

/-- Write bytes into local pieces as engine writes, with the poison of their source words (R225, R375); the words of `late` do not become
full yet. -/
def putPieces (late : List Nat) : List (Nat × Nat) → Nat → State → State
  | [], _, s => s
  | (k, n) :: r, src, s =>
    let s := engineWriteBut late s k (readBytes s src n) false
    let bad := (wordKeys src n).filter fun w => s.poison.contains w
    let s := markPoison s (bad.flatMap (carried src n k))
    putPieces late r (src + n) s

/-- Write bytes of local pieces to memory, with their poison (R470). -/
def getPieces : List (Nat × Nat) → Nat → State → State
  | [], _, s => s
  | (k, n) :: r, dst, s =>
    let bad := (wordKeys k n).filter fun w => s.poison.contains w
    let s := storeBytes s dst (readBytes s k n)
    let s := markPoison s (bad.flatMap (carried k n dst))
    getPieces r (dst + n) s

/-- Write what has been read, by its offset in the copy, to local pieces or memory: `at'` gives the pieces of an offset and length. -/
def putGot (late : List Nat) (engine : Bool) (at' : Nat → Nat → List (Nat × Nat)) (s : State) (g : Nat × List Byte × Bool) : State :=
  let ps := at' g.1 g.2.1.length
  let s := (ps.foldl (fun (a : State × List Byte) p =>
    (if engine then engineWriteBut late a.1 p.1 (a.2.take p.2) false else storeBytes a.1 p.1 (a.2.take p.2), a.2.drop p.2)) (s, g.2.1)).1
  if g.2.2 then markPoison s (ps.flatMap fun p => wordKeys p.1 p.2) else s

/-- The key of a byte of a paging request's target (R422). -/
def pageTarget (o : COp) (off : Nat) : Nat := o.loc + off

/-- All boxes of an operation that will be performed have been. -/
def boxesOver (o : COp) : Bool := o.boxes.all fun b => b.done || (o.cancelled && b.tr.isNone)

/-- CLDR slots whose bytes are all there become FILLED, with event 0 (R387). -/
def fillDone (o : COp) (s : State) : State :=
  match ((s.core o.core).bank o.bank).ring o.ring with
  | none => s
  | some r =>
    (List.range o.slots.length).foldl (fun s j =>
      let whole := o.boxes.all fun b => b.done || (o.cancelled && b.tr.isNone) ||
        b.off + b.len ≤ j * r.slotSize || (j + 1) * r.slotSize ≤ b.off
      let idx := o.slots.getD j 0
      let pos := (idx + r.count - r.popPos % r.count) % r.count
      let mine := match r.taken[pos]? with | some t => t.filler = .engine o.id && !t.filled | none => false
      if whole && mine then
        raiseEvent (s.modBankAt o.core o.bank fun b => b.modRing o.ring fun r => r.fillAt idx) o.core o.bank 0
      else s) s

/-! ### Units of boxes (R225, R434) -/

/-- The span of a unit: its offset and length, of `n` bytes whose first lies at offset `a` of its unit of `w` bytes. -/
def unitSpan (w a n u : Nat) : Nat × Nat := (max (w * u) a - a, min (w * (u + 1)) (a + n) - max (w * u) a)

/-- The unit in which a box writes (R434): a word at a scratchpad port, 8 aligned bytes at an adit agent; and where in its unit the box's
first byte lies. A paging request and a BACKED fetch move in the units in which they read. -/
def boxUnit (o : COp) (b : Box) (t : Trans) : Nat × Nat :=
  if o.kind = .store || o.kind = .fetch || o.kind = .page then (8, t.pa % 8)
  else if o.kind = .ring then (4, b.off % 4) else (4, (o.loc + b.off) % 4)

/-- The spans of a box that have not moved. -/
def boxLeft (s : State) (o : COp) (i : Nat) (b : Box) : List (Nat × Nat) :=
  match b.tr with
  | some t => let u := boxUnit o b t; spansLeft u.1 u.2 b.len (movedUnits s (.boxPerformed o.id i))
  | none => [(0, b.len)]

/-- What the boxes of an operation have still to write, by offset in the copy and length, but for box `i`: neither what has been performed,
nor what CCANCEL has stopped. -/
def stillComes (s : State) (o : COp) (i : Nat) : List (Nat × Nat) :=
  (List.range o.boxes.length).flatMap fun j => match o.boxes[j]? with
    | some b => if j = i || b.done || (o.cancelled && b.tr.isNone) then [] else (boxLeft s o j b).map fun x => (b.off + x.1, x.2)
    | none => []

/-- A word holds a byte of some spans of a copy. -/
def inSpans (s : State) (o : COp) (xs : List (Nat × Nat)) (w : Nat) : Bool :=
  xs.any fun x => (localPieces s o x.1 x.2).any fun p => p.1 < w + 4 && w < p.1 + p.2

/-- The words at the ends of a span's local pieces. -/
def endWords (s : State) (o : COp) (off len : Nat) : List Nat :=
  ((localPieces s o off len).flatMap fun p => [wordKey p.1, wordKey (p.1 + p.2 - 1)]).dedup

/-- Where a box reads: the key of its first byte, and the unit of the reads (R434). -/
def boxSource (o : COp) (b : Box) (t : Trans) : Nat × Nat := if o.kind = .store then (o.loc + b.off, 4) else (memKey t, 8)

/-- A box reads a unit of its source as one, in pieces of one word each. -/
def takeUnit (o : COp) (b : Box) (t : Trans) (s : State) (u : Nat) : State :=
  let k := (boxSource o b t).1
  let w := (boxSource o b t).2
  let x := unitSpan w (k % w) b.len u
  let ps := (List.range 3).filterMap fun j =>
    let y := unitSpan 4 ((k + x.1) % 4) x.2 j
    if 4 * j < (k + x.1) % 4 + x.2 then some (x.1 + y.1, y.2) else none
  s.modOp o.id fun o =>
    { o with got := o.got ++ ps.map fun p => (b.off + p.1, readBytes s (k + p.1) p.2, poisoned s (k + p.1) p.2) }

/-- The units of its source that a span of a box needs and has not read are read now. -/
def takeUnits (o : COp) (b : Box) (t : Trans) (x : Nat × Nat) (s : State) : State :=
  let w := (boxSource o b t).2
  let a := (boxSource o b t).1 % w
  let have' := fun (off : Nat) => match kget s.ops o.id with | some o => o.got.any fun g => g.1 = off | none => false
  ((List.range ((a + x.1 + x.2 - 1) / w + 1 - (a + x.1) / w)).map (· + (a + x.1) / w)).foldl (fun s u =>
    if have' (b.off + (unitSpan w a b.len u).1) then s else takeUnit o b t s u) s

/-- What a box has read of a span, clipped to it. -/
def gotOf (s : State) (o : COp) (b : Box) (x : Nat × Nat) : List (Nat × List Byte × Bool) :=
  match kget s.ops o.id with
  | none => []
  | some o => o.got.filterMap fun g =>
      let lo := max g.1 (b.off + x.1)
      let hi := min (g.1 + g.2.1.length) (b.off + x.1 + x.2)
      if lo < hi then some (lo, (g.2.1.drop (lo - g.1)).take (hi - lo), g.2.2) else none

/-- A box has been performed: it keeps nothing of what it has read. -/
def dropGot (o : COp) (b : Box) (s : State) : State :=
  s.modOp o.id fun o => { o with got := o.got.filter fun g => !(b.off ≤ g.1 && g.1 < b.off + b.len) }

/-- A span of a box of a task's copy moves, by offset in the box and length (R369): whole where no unit of it has moved before, else by way of
the units that are read as one. `rest` are the spans of the box that come after it. -/
def moveBytes (o : COp) (i : Nat) (b : Box) (t : Trans) (rest : List (Nat × Nat)) (s : State) (x : Nat × Nat) : State :=
  let later := (rest.map fun y => (b.off + y.1, y.2)) ++ stillComes s o i
  let late := (endWords s o (b.off + x.1) x.2).filter (inSpans s o later)
  if x = (0, b.len) then
    (if o.kind = .store then getPieces (localPieces s o b.off b.len) (memKey t) s else putPieces late (localPieces s o b.off b.len) (memKey t) s)
  else
    let s := takeUnits o b t x s
    let at' := fun (off n : Nat) => if o.kind = .store then [(memKey t + (off - b.off), n)] else localPieces s o off n
    (gotOf s o b x).foldl (putGot late (o.kind ≠ .store) at') s

/-- The spans of a box that are left move, one after the other. -/
def moveAll (o : COp) (i : Nat) (b : Box) (t : Trans) : List (Nat × Nat) → State → State
  | [], s => s
  | x :: r, s => moveAll o i b t r (moveBytes o i b t r s x)

/-- A box has been performed: its bit is set (R369). -/
def markDone (o : COp) (i : Nat) (s : State) : State :=
  s.modOp o.id fun o => { o with boxes := o.boxes.modify i fun b => { b with done := true } }

/-- A span of a box of a paging request moves (R422, R434). -/
def pageSpan (o : COp) (b : Box) (t : Trans) (s : State) (x : Nat × Nat) : State :=
  writeBytes s (pageTarget o (b.off + x.1)) (readBytes s (memKey t + x.1) x.2)

/-- Why a box of a paging request is not performed (R236, R422, R423, R464): poison or host memory, a slot that is not LOADING, or the
access table of the field's slots. -/
def pageRefusal (s : State) (o : COp) (b : Box) (t : Trans) : Option (BitVec 8) :=
  if t.mtype = 2 || poisoned s (memKey t) b.len then some 0x2C
  else if s.slot (o.opnd / 48) (o.opnd % 48) ≠ .loading then some 0x25
  else if !admitted s 5 o.opnd 1 o.part true false then some 0x2C else none

/-- A box of a paging request is performed (R422). A refusal by the table of the slots is recorded (R505). -/
def performPage (o : COp) (i : Nat) (b : Box) (t : Trans) (checked : Bool) (s : State) : State :=
  match (if checked then none else pageRefusal s o b t) with
  | some c =>
    let table := c = 0x2C && t.mtype ≠ 2 && !poisoned s (memKey t) b.len
    failPage o c (if table then violate s 5 o.opnd 1 o.part true else s)
  | none =>
    let s := markDone o i ((boxLeft s o i b).foldl (pageSpan o b t) s)
    match kget s.ops o.id with
    | some o' => if boxesOver o' then endOp o' s else s
    | none => s

/-- The query that a BACKED fetch is for (R346). -/
def COp.query (o : COp) : Option Query :=
  o.send.findSome? fun e => match e with
    | .rimQuery q => some q
    | _ => none

/-- What has been read, in the order of the offsets. -/
def insertGot (g : Nat × List Byte × Bool) : List (Nat × List Byte × Bool) → List (Nat × List Byte × Bool)
  | [] => [g]
  | x :: r => if g.1 ≤ x.1 then g :: x :: r else x :: insertGot g r

/-- The bytes of a fetched tile, in order, and whether some word of it was poisoned. -/
def COp.fetched (o : COp) : List Byte × Bool :=
  ((o.got.foldr insertGot []).flatMap fun g => g.2.1, o.got.any fun g => g.2.2)

/-- The tile that a BACKED fetch brings (R346), with its place in the order of serving. -/
def fetchedTile (s : State) (o : COp) (q : Query) : Packet :=
  let t := tensorOf s (nsOf q.name) (tnumOf q.name)
  { Packet.zero with
    name := q.name, gen := q.gen, launch := q.launch, phase := q.phase, kind := 0, pclass := 2,
    retexp := match t with | some t => t.retexp | none => 0, psn := o.fetched.2, payload := o.fetched.1 }

/-- Some bytes of a box of a BACKED fetch are read, by offset in the box and length. -/
def readSpan (o : COp) (b : Box) (t : Trans) (s : State) (x : Nat × Nat) : State :=
  let mem := memKey t + x.1
  s.modOp o.id fun y => { y with got := y.got ++ [(b.off + x.1, readBytes s mem x.2, poisoned s mem x.2)] }

/-- A box of a BACKED fetch is performed (R346, R369); with the last one the home has its reply. -/
def performFetch (o : COp) (i : Nat) (b : Box) (t : Trans) (s : State) : State :=
  let s := markDone o i ((boxLeft s o i b).foldl (readSpan o b t) s)
  match kget s.ops o.id with
  | some o' =>
    if !boxesOver o' then s
    else
      let s := endOp o' s
      (match o'.query with
       | some q => post (.queryReply q (.tile (fetchedTile s o' q) o'.loc)) s
       | none => s)
  | none => s

/-- The box of a task's copy is performed (R369, R385, R387): the bytes that have not moved yet move. -/
def performCopy (o : COp) (i : Nat) (b : Box) (t : Trans) (checked : Bool) (s : State) : State :=
  if !checked && o.kind = .store && t.mtype = 2 && poisoned s (o.loc + b.off) b.len then abortCode o.launch 0x29 (sourceOf o.core o.bank) s
  else
    let s := markDone o i (dropGot o b (moveAll o i b t (boxLeft s o i b) s))
    match kget s.ops o.id with
    | some o' =>
      let s := if o'.kind = .ring then fillDone o' s else s
      if boxesOver o' then endOp o' s else s
    | none => s

/-- A box is performed (R369): its bytes move whole, its bit is set, and with the last one its request is whole. It is checked once, when it
reaches its agent (R505): not again where some of its units have moved. -/
def performBox (o : COp) (i : Nat) (b : Box) (t : Trans) (s : State) : State :=
  let checked := !(movedUnits s (.boxPerformed o.id i)).isEmpty
  match (if checked then none else accessFault s o t o.writes o.reads) with
  | some c => failBox o c (noteAccess o t s)
  | none =>
    if o.kind = .page then performPage o i b t checked s
    else if o.kind = .fetch then performFetch o i b t s
    else performCopy o i b t checked s

/-- BOX_PERFORMED (R369). -/
def execBoxPerformed (s : State) : Result :=
  .next (match s.ev with
    | some (.boxPerformed id i) =>
      (match kget s.ops id with
       | none => s
       | some o =>
         match o.boxes[i]? with
         | none => s
         | some b =>
           match b.tr with
           | some t => if b.done then s else performBox o i b t s
           | none => s)
    | _ => s)

/-- The new value of a CATOM (R388); none where CAS does not write. -/
def atomicNew (op w old opnd cmp : Nat) : Option Nat :=
  if op = 0 then some ((old + opnd) % 2 ^ w)
  else if op = 1 then some (if sext old w < sext opnd w then opnd else old)
  else if op = 2 then some (old ||| opnd)
  else if op = 3 then some opnd
  else if old = cmp then some opnd else none

/-- An atomic box at its agent (R376, R388): one read-modify-write; on host memory the memory-type fault with result 0. -/
def performAtomic (o : COp) (t : Trans) (s : State) : State :=
  let n := if o.wide then 8 else 4
  let done := fun (s : State) => s.modOp o.id fun o => { o with boxes := o.boxes.map fun b => { b with done := true } }
  if t.mtype = 2 then
    post (.remoteResult o.id 0 0) (done (s.modOp o.id fun o => { o with fault := some 0x21 }))
  else match accessFault s o t true true with
    | some c => abortCode o.launch c (sourceOf o.core o.bank) (noteAccess o t s)
    | none =>
      let key := memKey t
      if poisoned s key n then abortCode o.launch 0x29 (sourceOf o.core o.bank) s
      else
        let old := readNat s key n
        let s := match atomicNew o.aop (8 * n) old o.opnd o.cmp with
          | some v => writeNat s key n v
          | none => s
        post (.remoteResult o.id (old % 2 ^ 32) (old / 2 ^ 32)) (done s)

/-- ATOMIC_AT_AGENT (R388). -/
def execAtomicAtAgent (s : State) : Result :=
  .next (match s.ev with
    | some (.atomicAtAgent id) =>
      (match kget s.ops id with
       | none => s
       | some o =>
         match o.boxes with
         | b :: _ => (match b.tr with | some t => if b.done then s else performAtomic o t s | none => s)
         | [] => s)
    | _ => s)

/-- REMOTE_RESULT (R389): the reply is written into the issuing bank's registers, running or parked, and the operation is over. -/
def execRemoteResult (s : State) : Result :=
  .next (match s.ev with
    | some (.remoteResult id lo hi) =>
      (match kget s.ops id with
       | none => s
       | some o =>
         let s := s.modBankAt o.core o.bank fun b =>
           let b := b.wrS (BitVec.ofNat 5 o.dst) (BitVec.ofNat 32 lo)
           if o.wide then b.wrS (BitVec.ofNat 5 (o.dst + 1)) (BitVec.ofNat 32 hi) else b
         endOp o s)
    | _ => s)

/-! ### Fault answers and invalidation (R367, R372, R373) -/

/-- A record has gone 2^28 cycles without an answer (R372). -/
def faultLate (s : State) (o : COp) : Bool :=
  match o.place with
  | .faulted _ _ t => 2 ^ 28 ≤ s.now - t
  | _ => false

/-- The FAULTED request that a TAG names in a partition, its limit not passed. -/
def faultedOp (s : State) (part tag : Nat) : Option COp :=
  match kget s.ops tag with
  | some o => (match o.place with
    | .faulted t _ _ => if t = tag && o.part = part && !faultLate s o then some o else none
    | _ => none)
  | none => none

/-- FAULT_RESUME (R372): the request leaves FAULTED, event 7 is raised for its task, and the engine replays every box whose bit is
clear. -/
def execFaultResume (s : State) : Result :=
  .next (match s.ev with
    | some (.faultResume part tag) =>
      (match faultedOp s part tag with
       | none => s
       | some o =>
         let s := notePf o false (s.modOp o.id fun o => { o with place := .engine, ahead := [] })
         if o.ofTask then raiseEvent s o.core o.bank 7 else s)
    | _ => s)

/-- A fault answered with ABORT, or not at all (R372, R423): no later answer finds it. -/
def answerAbort (o : COp) (s : State) : State :=
  if o.kind = .page then failPage o 0x2C { s with ops := kdel s.ops o.id }
  else if o.kind = .fetch then abortCode o.launch 0x28 aditFault { s with ops := kdel s.ops o.id }
  else abortCode o.launch 0x28 (sourceOf o.core o.bank) (s.modOp o.id fun x => { x with place := .abandoned })

/-- FAULT_ABORT (R372). -/
def execFaultAbort (s : State) : Result :=
  .next (match s.ev with
    | some (.faultAbort part tag) =>
      (match faultedOp s part tag with
       | some o => answerAbort o s
       | none => s)
    | _ => s)

/-- FAULT_ANSWER_TIMEOUT (R372). -/
def execFaultAnswerTimeout (s : State) : Result :=
  .next (match s.ev with
    | some (.faultAnswerTimeout id) =>
      (match kget s.ops id with
       | some o =>
         if faultLate s o then answerAbort o s else s
       | none => s)
    | _ => s)

/-- A TLB entry is named by an invalidation (R367). -/
def named (p : Partition) (part : Nat) (t : TlbEntry) : Bool :=
  t.part = part && (p.invScope = 0 || t.vpage = p.invVpn * 4096 / 2 ^ t.log)

/-- The boxes whose pages an invalidation names, translated and not yet performed (R367). -/
def namedBoxes (s : State) (p : Partition) (part : Nat) : List (Nat × Nat) :=
  s.ops.flatMap fun o =>
    if o.2.part ≠ part then []
    else (List.range o.2.boxes.length).filterMap fun i =>
      match o.2.boxes[i]? with
      | some b =>
        (match b.tr with
         | some t =>
           if !b.done && (p.invScope = 0 || b.va / 2 ^ t.log = p.invVpn * 4096 / 2 ^ t.log) then some (o.2.id, i) else none
         | none => none)
      | none => none

/-- An invalidation starts (R367): every TLB drops the matching entries; BUSY stays until the affected boxes are performed. -/
def startInval (part : Nat) (s : State) : State :=
  let p := s.part part
  if p.invBusy then s
  else
    let w := namedBoxes s p part
    let s := { s with tlbs := s.tlbs.map fun (x : Nat × List TlbEntry) => (x.1, x.2.filter fun t => !named p part t) }
    s.modPart part fun p => { p with invBusy := true, invWait := w }

/-- The page of BAR2 that holds the registers of a partition (R360, R504). -/
def partPage (part : Nat) : Nat := (0x80000 + part * 0x100) / 4096

/-- VMINV_GO (R367), through the access table of the management registers. -/
def execVminvGo (s : State) : Result :=
  .next (match s.ev with
    | some (.vminvGo part m) => onBar (fun s => checked s 6 (partPage part) m.cls m.part true false (startInval part) id) s
    | _ => s)

/-- The boxes an invalidation waits for have been performed. -/
def invalidated (s : State) (part : Nat) : Bool :=
  (s.part part).invBusy && (s.part part).invWait.all fun w =>
    match kget s.ops w.1 with
    | none => true
    | some o => (match o.boxes[w.2]? with | some b => b.done || b.tr.isNone | none => true)

/-- INVALIDATION_DONE (R367): BUSY clears. -/
def execInvalidationDone (s : State) : Result :=
  .next (match s.ev with
    | some (.invalidationDone part) =>
      if invalidated s part then s.modPart part fun p => { p with invBusy := false, invWait := [] } else s
    | _ => s)

/-! ### GET responses (R353) -/

/-- A GET response (R353): 0 normal, 1 not-found, 2 retry. A response for a GET that is gone is dropped; a cancelled one only frees its
slots (R393). -/
def getReply (p : Packet) (how : Nat) (s : State) : State :=
  match kget s.ops p.op with
  | none => s
  | some o =>
    if o.cancelled then endOp o s
    else if how = 2 then s.modOp o.id fun o => { o with retryAt := some (s.now + 256) }
    else if how = 1 then raiseEvent (endOp { o with fault := some 0x20 } s) o.core o.bank 2
    else
      let bs := p.payload.take o.len
      let s := engineWriteLeft (movedNow s) s o.loc bs p.psn
      raiseEvent (endOp o s) o.core o.bank 2

/-- GET_RESPONSE (R353). -/
def execGetResponse (s : State) : Result :=
  .next (match s.ev with
    | some (.getResponse p how) => getReply p how s
    | _ => s)

/-- GET_RETRY_RESEND (R353): 512 network cycles after a retry the request is sent again. -/
def execGetRetryResend (s : State) : Result :=
  .next (match s.ev with
    | some (.getRetryResend id) =>
      (match kget s.ops id with
       | some o =>
         (match o.retryAt with
          | some t => if t ≤ s.now then postAll o.send (s.modOp id fun o => { o with retryAt := none }) else s
          | none => s)
       | none => s)
    | _ => s)

/-! ### Rim queries (R344 to R346) -/

/-- The pieces of a span within 4 KiB pages. -/
def pagePieces (va len : Nat) : List (Nat × Nat) :=
  (List.range (len / 4096 + 2)).filterMap fun j =>
    let lo := max va ((va / 4096 + j) * 4096)
    let hi := min (va + len) ((va / 4096 + j + 1) * 4096)
    if lo < hi then some (lo, hi - lo) else none

/-- The boxes of a row (R368): its pieces within 4 KiB pages. No check bounds the addresses of a page or a BACKED tile: they are taken modulo 2^57
(log 59). -/
def rowBoxes (va len off : Nat) : List Box := (pagePieces va len).map fun p => ⟨p.1 % 2 ^ 57, p.2, off + (p.1 - va), none, false⟩

/-- A BACKED fetch (R346): a request of one of the agent's eight adit engines (R356; which one is open, log 4) for the tile at
BASE + lin × TSTRIDE. Its request and a fault record of it carry OP 0, a load (DESIGN CHOICE, log 99). No check of a load bounds that
address: the model takes it modulo 2^57, as a walk reads it (log 59). -/
def fetchTile (q : Query) (t : Tensor) (l : Nat) (s : State) : State :=
  let o : COp := { id := s.opId, kind := .fetch, opc := 0, core := 0, bank := false, task := 0, launch := q.launch,
                   part := partOf q.launch, gid := nsOf q.name, grp := none, phase := q.phase, place := .queued, iface := 0,
                   engine := 336 + 8 * queryAgent s q.name q.launch + s.choose 3 8,
                   loc := l, ring := 0, len := Tensor.tileSize t, rows := 1, stride := 0, pitch := 0,
                   req := none, boxes := rowBoxes ((t.base + l * t.tstride) % 2 ^ 57) (Tensor.tileSize t) 0,
                   slots := [], dst := 0, wide := false, aop := 0, opnd := 0, cmp := 0, pkts := [], send := [.rimQuery q],
                   rel := false, after := [], before := [], fault := none, cancelled := false, gslots := [], retryAt := none, got := [], ahead := [] }
  touchPhase ({ s with ops := kset s.ops o.id o }).bump q.launch q.phase

/-- A tile of the tailings area that a query asks for (R339, R345): for an install, one of the pattern that was stored before the
install was ordered and was not served from the ore bin, from a place in the order of storing on. -/
def Query.wants (q : Query) (n : Nat) (p : Packet) : Bool :=
  p.launch = q.launch && tnumOf p.name = tnumOf q.name && nsOf p.name = nsOf q.name && match q.why with
    | .install m => Pattern.hits m.pat p.name p.gen p.launch && n < q.upTo && q.from' ≤ n && !q.served.contains (copyKey p)
    | .held _ _ key | .port _ key => copyKey p = key
    | _ => p.name = q.name

/-- The tile that a query of the tailings area brings: for an install the one stored first, else the one stored last. -/
def tailTile (q : Query) (l : List (Nat × Packet)) : Option (Nat × Packet) :=
  let first := match q.why with | .install _ => true | _ => false
  (l.filter fun x => Query.wants q x.1 x.2).foldl (fun a x => match a with
    | none => some x
    | some y => if decide (x.1 < y.1) = first then some x else some y) none

/-- RIM_QUERY (R345, R346): the tailings area answers a home, or an engine of the agent fetches the tile from backing memory. -/
def answerQuery (q : Query) (s : State) : State :=
  if !q.backed then
    match tailTile q (kgetD s.tail (partOf q.launch) []) with
    | some x =>
      if areaAdmits s (partOf q.launch) 0 x.1 false then post (.queryReply q (.tile x.2 x.1)) s
      else post (.queryReply q .miss) (areaAccess (partOf q.launch) 0 x.1 q.launch false id s)
    | none => post (.queryReply q .miss) s
  else match tensorOf s (nsOf q.name) (tnumOf q.name) with
    | none => post (.queryReply q .miss) s
    | some t =>
      match Tensor.lin t (coordOf q.name) with
      | none => post (.queryReply q .notFound) s
      | some l => fetchTile q t l s

/-- RIM_QUERY (R344). -/
def execRimQuery (s : State) : Result :=
  .next (match s.ev with
    | some (.rimQuery q) => if liveLaunch s q.launch then answerQuery q s else s
    | _ => s)

/-! ### Kills (R373, R411) -/

/-- The boxes of some operations that have moved in part are performed whole (R373). -/
def finishBoxes (mine : COp → Bool) (s : State) : State :=
  s.early.foldl (fun s x => match x.1 with
    | .boxPerformed id i =>
      (match kget s.ops id with
       | some o =>
         (match o.boxes[i]? with
          | some b => (match b.tr with | some t => if mine o && !b.done then performBox o i b t s else s | none => s)
          | none => s)
       | none => s)
    | _ => s) s

/-- The operation whose request or reply something is. -/
def Event.op (e : Event) : Option Nat :=
  match e with
  | .boxPerformed n _ | .atomicAtAgent n | .remoteResult n _ _ => some n
  | _ => none

/-- A reply on its way to an operation that ends counts until it has sunk (R455). -/
def sinkReply (mine : COp → Bool) (s : State) (e : Event) : State :=
  match e with
  | .remoteResult n _ _ =>
    (match kget s.ops n with
     | some o => if mine o then passOn o.launch o.phase (o.core / 4) s else s
     | none => s)
  | _ => s

/-- Operations end at once (R373, R411): what has begun of their boxes is performed whole, and nothing of them waits or travels any more. -/
def discardOps (mine : COp → Bool) (s : State) : State :=
  let s := finishBoxes mine s
  let s := (s.ops.filter fun o => mine o.2).foldl (fun s o => touchOp o.2 s) s
  let s := s.agenda.foldl (sinkReply mine) s
  let gone := fun (e : Event) => match Event.op e with
    | some n => (match kget s.ops n with | some o => mine o | none => false)
    | none => false
  { s with
    ops := s.ops.filter fun (o : Nat × COp) => !mine o.2
    agenda := s.agenda.filter fun e => !gone e
    rim := s.rim.filter fun r => match r.work with | .step e => !gone e | _ => true }

/-- The C-class work of a bank's task ends (R411): requests, pending results and groups. -/
def killCopies (c : Nat) (b : Bool) (s : State) : State := discardOps (fun o => o.core = c && o.bank = b && o.ofTask) s

/-- Some C-class operation of a bank's task has not ended (R211, R381). -/
def copiesBusy (s : State) (c : Nat) (b : Bool) : Bool := s.ops.any fun o => o.2.core = c && o.2.bank = b && o.2.ofTask

end Sys2Proof.Machine
end

