-- ==== Sys2Proof/Machine/Copy.lean ====
section
/-! DEFINITION. The C-class instructions (R379 to R413): copies, atomics, waits, publications, subscriptions, expert queries. -/

namespace Sys2Proof.Machine

open Sys2Proof

/-! ### Checks and requests (R381 to R383) -/

/-- The first cause whose check fails (R383). -/
def firstCause : List (Bool × BitVec 8) → Option (BitVec 8)
  | [] => none
  | (bad, c) :: r => if bad then some c else firstCause r

/-- The namespace of the task's graph (R19). -/
def taskNs (s : State) : Nat :=
  match kget s.launches s.bank.launch.toNat with
  | some l => l.ns
  | none => 0

/-- A request of the slot in execution, with nothing of its own filled in (R357). -/
def newOp (s : State) (kind : OpKind) (opc : Nat) (grp : Option Nat) : COp :=
  let b := s.bank
  { id := s.opId, kind := kind, opc := opc, core := s.ctx.core, bank := s.ctx.bank, task := b.task, launch := b.launch.toNat,
    part := partOf b.launch.toNat, gid := taskNs s, grp := grp, phase := b.phase.toNat, place := .queued, iface := s.ctx.slot - 4,
    engine := 4 * fieldOf s.ctx.core + s.ctx.core % 4, loc := 0, ring := 0, len := 0, rows := 1, stride := 0, pitch := 0, req := none, boxes := [], slots := [], dst := 0,
    wide := false, aop := 0, opnd := 0, cmp := 0, pkts := [], send := [], rel := false, after := [], before := [], fault := none,
    cancelled := false, gslots := [], retryAt := none, got := [], ahead := [] }

/-- A slot commits its request (R380, R382): it joins its group and enters the interface, from which all that nothing holds leaves. -/
def submit (o : COp) (s : State) : State :=
  let s := ({ s with ops := kset s.ops o.id o }).bump
  let s := match o.grp with
    | some g => modGroup o.core o.bank g (fun x => { x with out := x.out + 1 }) s
    | none => s
  flushBank o.core o.bank 128 (if o.counts then touchPhase s o.launch o.phase else s)

/-- A remote result's destination is pending until its reply (R389). -/
def pend (r : Nat) (s : State) : State :=
  if r = 0 then s else s.modBank fun b => { b with pending := b.pending ++ [⟨r, s.opId⟩] }

/-- A request with its checks (R383): a trap of the C slot, or the request. -/
def requested (cause : Option (BitVec 8)) (o : COp) (s : State) : State :=
  match cause with
  | some c => takeSlotTrap s c
  | none => submit o s

/-- A copy request: after its checks, page wait where its group has PF (R466). -/
def copyRequested (cause : Option (BitVec 8)) (f : CForm) (o : COp) (s : State) : State :=
  match cause with
  | some c => takeSlotTrap s c
  | none => if (s.bank.group f.grp.toNat).faulted ≠ 0 then takePageWait s f.grp.toNat else submit o s

/-! ### Copies (R385 to R388) -/

/-- Virtual addresses end here (R359). -/
def vaEnd : Nat := 2 ^ 57

/-- A row of a copy lies within the virtual addresses. -/
def rowIn (va : Int) (len : Nat) : Bool := 0 ≤ va && va + len ≤ vaEnd

/-- Step 1 of R383: a virtual address beyond 57 bits, or a row span that passes the last one. -/
def vaBad (va st : Int) (nr len : Nat) : Bool :=
  vaEnd ≤ va || (nr ≠ 0 && !(rowIn va len && rowIn (va + (nr - 1) * st) len))

/-- Where a row of a copy starts. -/
def rowVa (va : Nat) (st : Int) (i : Nat) : Nat := (va + i * st).toNat

/-- The number of boxes of a copy (R368), as far as 257 rows. -/
def boxCount (va : Nat) (st : Int) (nr len : Nat) : Nat :=
  ((List.range (min nr 257)).map fun i => (rowVa va st i % 4096 + len + 4095) / 4096).foldl (fun a b => a + b) 0

/-- The boxes of a copy (R368): row i lies at offset i · pitch of the local data. -/
def copyBoxes (va : Nat) (st : Int) (nr len pitch : Nat) : List Box :=
  (List.range nr).flatMap fun i => rowBoxes (rowVa va st i) len (i * pitch)

/-- The span of local bytes that a copy covers. DESIGN CHOICE (log 101): none where it has no rows, so that the local address alone is checked. -/
def localLen (nr len pitch : Nat) : Nat := if nr = 0 then 0 else (nr - 1) * pitch + len

/-- CLD, CST, CLD2D, CST2D (R385), with their rows. -/
def directCopy (f : CForm) (kind : OpKind) (opc : Nat) (st : Int) (nr pitch : Nat) (s : State) : State :=
  let b := s.bank
  let va := (b.rdPair f.ca).toNat
  let place := localSpan s s.ctx.core b (b.rdS f.cb).toNat (localLen nr f.len pitch)
  let cause := firstCause
    [(vaBad va st nr f.len, causeAddrRange),
     (place.isNone, causeAddrRange),
     (nr < 1 || 65535 < nr || 256 < boxCount va st nr f.len, causeCopyLength)]
  copyRequested cause f
    { newOp s kind opc (some f.grp.toNat) with
      loc := place.getD 0, len := f.len, rows := nr, stride := BitVec.ofInt 32 st, pitch := pitch / 128,
      boxes := if cause.isSome then [] else copyBoxes va st nr f.len pitch } s

/-- The rows of a 2D copy: the stride in s_CB+1, the count in s_CB+2 (R385). -/
def copy2d (f : CForm) (kind : OpKind) (opc : Nat) (s : State) : State :=
  directCopy f kind opc (s.bank.rdS (f.cb + 1)).toInt (s.bank.rdS (f.cb + 2)).toNat (f.pitch.toNat * 128) s

/-- CLD (R385). -/
def execCld (f : CForm) (s : State) : Result := guarded f.g s (directCopy f .load 0 0 1 0)
/-- CST (R385). -/
def execCst (f : CForm) (s : State) : Result := guarded f.g s (directCopy f .store 1 0 1 0)
/-- CLD2D (R385). -/
def execCld2d (f : CForm) (s : State) : Result := guarded f.g s (copy2d f .load 2)
/-- CST2D (R385). -/
def execCst2d (f : CForm) (s : State) : Result := guarded f.g s (copy2d f .store 3)

/-- CLDR (R387): ring K, which needs ceil(LEN / S) slots. -/
def execCldr (f : CForm) (s : State) : Result :=
  guarded f.g s fun s =>
    let b := s.bank
    let va := (b.rdPair f.cb).toNat
    let ring := b.ring f.ca.toNat
    let many := match ring with | some r => r.count < slotsFor r f.len | none => false
    let cause := firstCause
      [(vaBad va 0 1 f.len, causeAddrRange),
       (ring.isNone, causeRingRange),
       (many || 256 < boxCount va 0 1 f.len, causeCopyLength)]
    copyRequested cause f
      { newOp s .ring 4 (some f.grp.toNat) with
        ring := f.ca.toNat, len := f.len, boxes := if cause.isSome then [] else copyBoxes va 0 1 f.len 0 } s

/-- CATOM (R388): OPT[3:1] the operation, OPT[4] 64-bit. -/
def execCatom (f : CForm) (s : State) : Result :=
  guarded f.g s fun s =>
    let b := s.bank
    let va := (b.rdPair f.ca).toNat
    let wide := f.opt.getLsbD 3
    let n := if wide then 8 else 4
    let cause := firstCause [(vaEnd ≤ va, causeAddrRange), (va % n ≠ 0, causeMisaligned)]
    let o := { newOp s .atomic 5 (some f.grp.toNat) with
      len := n, boxes := [⟨va, n, 0, none, false⟩], dst := f.cb.toNat, wide := wide, aop := (f.opt.extractLsb' 0 3).toNat,
      opnd := if wide then (b.rdPair f.cb).toNat else (b.rdS f.cb).toNat,
      cmp := if wide then (b.rdPair (f.cb + 2)).toNat else (b.rdS (f.cb + 1)).toNat }
    match cause with
    | some c => takeSlotTrap s c
    | none =>
      if (b.group f.grp.toNat).faulted ≠ 0 then takePageWait s f.grp.toNat
      else
        let s' := pend f.cb.toNat s
        submit o (if wide then pend (f.cb.toNat + 1) s' else s')

/-! ### Waiting, fencing and cancelling (R390 to R393) -/

/-- CWAIT (R390): the bundle has waited until OUT is 0; a recorded fault is taken. -/
def execCwait (f : CForm) (s : State) : Result :=
  guarded f.g s fun s =>
    match (s.bank.group f.grp.toNat).fault with
    | some c => takeTrap (modGroup s.ctx.core s.ctx.bank f.grp.toNat (fun x => { x with reported := true }) s) c
    | none => s

/-- The word that CPOLL writes (R391). -/
def pollWord (g : CopyGroup) : Word :=
  BitVec.ofNat 32 ((if g.fault.isSome then 2 ^ 31 else 0) + (if g.faulted ≠ 0 then 2 ^ 30 else 0) +
    (g.fault.getD 0).toNat * 2 ^ 16 + g.out % 128)

/-- CPOLL (R391). -/
def execCpoll (f : CForm) (s : State) : Result :=
  guarded f.g s fun s => s.modBank fun b => b.wrS f.ca (pollWord (b.group f.grp.toNat))

/-- The operations of a group that have not ended. -/
def groupOps (s : State) (grp : Nat) : List COp :=
  (s.ops.filter fun o => o.2.core = s.ctx.core && o.2.bank = s.ctx.bank && o.2.grp = some grp).map fun o => o.2

/-- CFENCE (R392): it stands in the interface and holds all later requests until the group's operations so far are performed at its scope. With
nothing outstanding in its group it has no effect (R413). DESIGN CHOICE (log 113): it waits for the completion of every operation of its group
(R392, R437), those too whose effects lie outside its scope (R438). -/
def execCfence (f : CForm) (s : State) : Result :=
  guarded f.g s fun s =>
    let ids := (groupOps s f.grp.toNat).map fun o => o.id
    if ids.isEmpty then s
    else submit { newOp s .control 8 none with after := ids, opnd := f.opt.toNat, dst := f.grp.toNat } s

/-- The words of a cancelled copy that wait to become full only for boxes that have been stopped: they are whole now (R225, R226). -/
def openWords (s : State) (o : COp) : List Nat :=
  let stopped := o.boxes.flatMap fun b => if !b.done && b.tr.isNone then [(b.off, b.len)] else []
  let comes := stillComes s o o.boxes.length
  let moved := (List.range o.boxes.length).flatMap fun i => match o.boxes[i]? with
    | some b =>
      if b.done then endWords s o b.off b.len
      else match b.tr with
        | some t => (movedUnits s (.boxPerformed o.id i)).flatMap fun u =>
            let x := unitSpan (boxUnit o b t).1 (boxUnit o b t).2 b.len u
            endWords s o (b.off + x.1) x.2
        | none => []
    | none => []
  moved.dedup.filter fun w => inSpans s o stopped w && !inSpans s o comes w

/-- A cancelled operation (R393): one not sent is discarded; of a copy no further box starts; a GET's response will be dropped. -/
def cancelOp (o : COp) (s : State) : State :=
  match o.place with
  | .queued => endOp o s
  | .network =>
    if o.retryAt.isSome then endOp o s else s.modOp o.id fun x => { x with cancelled := true }
  | .ended => s
  | p =>
    let s := match p with | .faulted _ _ _ | .abandoned => notePf o false s | _ => s
    let o := { o with cancelled := true, place := .engine }
    let s := s.modOp o.id fun _ => o
    let s := if o.kind = .load || o.kind = .ring then engineFull s (openWords s o) else s
    let s := if o.kind = .ring then
        (fillDone o s).modBankAt o.core o.bank fun b => b.modRing o.ring fun r =>
          if o.slotsWanted r ≤ o.slots.length then r.answered (.engine o.id) else r
      else s
    if boxesOver o && o.boxes.all (fun b => b.tr.isNone || b.done) && (o.kind ≠ .atomic || o.boxes.all fun b => b.tr.isNone) then endOp o s
    else s

/-- CCANCEL (R393). -/
def execCcancel (f : CForm) (s : State) : Result :=
  guarded f.g s fun s =>
    let g := f.grp.toNat
    let os := groupOps s g
    let s := modGroup s.ctx.core s.ctx.bank g (fun x =>
      if x.out = 0 then { x with fault := none, faulted := 0, reported := false } else { x with clearing := true }) s
    flushBank s.ctx.core s.ctx.bank 128 (os.foldl (fun s o => cancelOp o s) s)

/-! ### Tiles by name (R394 to R401) -/

/-- The name in the pair at a register, with the task's namespace (R19). -/
def nameAt (s : State) (r : BitVec 5) : DWord := withNs (taskNs s) (s.bank.rdPair r)

/-- The tensor of a name in the task's graph. -/
def namedTensor (s : State) (n : DWord) : Option Tensor := tensorOf s (taskNs s) (tnumOf n)

/-- A packet of the task (R330), of a copy group where it has one. -/
def taskPacket (s : State) (n : DWord) (kind : Nat) (grp : Option Nat) : Packet :=
  let b := s.bank
  { Packet.zero with
    name := n, gen := b.gen.extractLsb' 0 16, launch := b.launch.toNat, phase := b.phase.toNat, kind := kind,
    srcCl := s.ctx.core / 4, srcCb := s.ctx.core % 4 * 2 + (if s.ctx.bank then 1 else 0), org := .task b.task grp }

/-- The first run of `n` consecutive free slots, wrapping from 7 to 0 (R352). -/
def freeRun (used : List Nat) (n : Nat) : Option (List Nat) :=
  (((List.range 8).map fun i => (List.range n).map fun j => (i + j) % 8).find? fun l => l.all fun k => !used.contains k)

/-- CGET (R394). The bundle has waited for its response slots: the first run that was free as it issued, and is not another slot's (R352). -/
def execCget (f : CForm) (s : State) : Result :=
  guarded f.g s fun s =>
    let b := s.bank
    let la := (b.rdS f.ca).toNat
    let n := nameAt s f.cb
    let place := localSpan s s.ctx.core b la f.len
    let t := namedTensor s n
    let cause := firstCause
      [(la % 4 ≠ 0, causeMisaligned), (place.isNone, causeAddrRange), (4096 < f.len, causeGetLength), (t.isNone, causeUnknownTensor)]
    let run := (freeRun (s.ctx.gets ++ slotsInUse s s.ctx.core s.ctx.bank) ((f.len + 511) / 512)).getD []
    let o := newOp s .get 0 (some f.grp.toNat)
    let p := { taskPacket s n 6 none with
      gen := 0, gslot := run.headD 0, op := o.id, ask := f.len, pclass := match t with | some t => t.pclass | none => 0 }
    requested cause { o with loc := place.getD 0, len := f.len, gslots := run, send := [.getRequest p] } s

/-- The generation of a publication (R395): GEN, or bits [15:0] of a register of the run with GREG. -/
def pubGen (f : CForm) (run : Nat) (s : State) : BitVec 16 :=
  if f.greg then (s.bank.rdS (f.ca + BitVec.ofNat 5 run)).extractLsb' 0 16 else s.bank.gen.extractLsb' 0 16

/-- The lowest scope to which the effects of an operation belong (R209, R438): a load writes at its core's port or a gang peer's, a
publication is injected at a router, a store or an atomic is performed at an adit agent. Other requests have no effect to wait for. -/
def COp.scope (o : COp) : Nat :=
  match o.kind with
  | .load => if o.loc / 2 ^ 64 = (Space.spad o.core).index then 0 else 1
  | .ring => 0
  | .publish => 2
  | .store => 3
  | .atomic => 3
  | _ => 5

/-- The lowest scope of the writes of an MDRAIN or MSTAT of a core (R438). -/
def drainScope (s : State) (c : Nat) (q : MOp) : Nat :=
  if !q.form.asrc then 0
  else match localPlace s c ((s.core c).bank q.bank) q.addr with
    | some (k, _) => if k = c then 0 else 1
    | none => 0

/-- The lowest scope of the list words of a VTOPK of a core (R438). -/
def selScope (c : Nat) (q : SelOp) : Nat := if q.writes.all fun w => w.1 / 2 ^ 64 ≠ (Space.spad c).index then 1 else 0

/-- The operations whose effects a FENCE or a release at a scope waits for (R210, R396, R438): the bank's copies and publications, and
the writes of its MDRAIN, MSTAT and VTOPK. -/
def effectsWithin (s : State) (scope : Nat) : List Nat :=
  let c := s.core s.ctx.core
  let drains := fun (q : MOp) =>
    q.bank = s.ctx.bank && (q.kind = .mdrain || q.kind = .mstat) && drainScope s s.ctx.core q ≤ scope
  ((s.ops.filter fun o => o.2.core = s.ctx.core && o.2.bank = s.ctx.bank && o.2.ofTask && o.2.scope ≤ scope).map fun o => o.1) ++
    ((c.queue.filter fun q => drains q).map fun q => q.id) ++ ((c.port.filter fun p => drains p.op).map fun p => p.op.id) ++
    ((c.sel.filter fun q => q.bank = s.ctx.bank && !q.writes.isEmpty && selScope s.ctx.core q ≤ scope).map fun q => q.id)

/-- A publication enters the interface (R395); one with REL is a release at WAFER scope, at SYSTEM scope for a cut edge (R396). -/
def publish (cause : Option (BitVec 8)) (f : CForm) (grp : Option Nat) (pkts : List (Packet × List (Nat × Nat))) (s : State) : State :=
  requested cause
    { newOp s .publish 0 grp with
      len := f.len, pkts := pkts, rel := f.rel, before := if f.rel then effectsWithin s 4 else [],
      opnd := if pkts.any (fun p => cutEdgeOf s p.1) then 4 else 3 } s

/-- PCLASS and RETEXP of a publication's tensor. -/
def Packet.ofTensor (t : Option Tensor) (p : Packet) : Packet :=
  match t with
  | some t => { p with pclass := t.pclass, retexp := t.retexp }
  | none => p

/-- The checks of a publication of one tile (R383, R395), with the reduction check of R349 last. -/
def tileCause (f : CForm) (la : Nat) (place : Option Nat) (t : Option Tensor) (badRed : Bool) : Option (BitVec 8) :=
  firstCause
    [(la % 4 ≠ 0, causeMisaligned), (place.isNone, causeAddrRange), (t.isNone, causeUnknownTensor),
     ((match t with | some t => t.tileSize ≠ f.len | none => false), causeTileSize), (badRed, causeReduction)]

/-- PUB (R397). -/
def execPub (f : CForm) (s : State) : Result :=
  guarded f.g s fun s =>
    let la := (s.bank.rdS f.ca).toNat
    let n := nameAt s f.cb
    let place := localSpan s s.ctx.core s.bank la f.len
    let t := namedTensor s n
    publish (tileCause f la place t false) f (some f.grp.toNat)
      [(Packet.ofTensor t { taskPacket s n 0 (some f.grp.toNat) with gen := pubGen f 1 s, rel := f.rel }, [(place.getD 0, f.len)])] s

/-- PUBR (R398): n rows, each a packet of its tag and its bytes. -/
def execPubr (f : CForm) (s : State) : Result :=
  guarded f.g s fun s =>
    let la := (s.bank.rdS f.ca).toNat
    let rows := (s.bank.rdS (f.ca + 1)).toNat
    let ta := (s.bank.rdS (f.ca + 2)).toNat
    let n := nameAt s f.cb
    let t := namedTensor s n
    let skip := rows < 1 || 4096 < rows
    let place := if skip then none else localSpan s s.ctx.core s.bank la (rows * f.len)
    let tags := if skip then none else localSpan s s.ctx.core s.bank ta (4 * rows)
    let cause := firstCause
      [(!skip && (la % 4 ≠ 0 || ta % 4 ≠ 0), causeMisaligned),
       (!skip && (place.isNone || tags.isNone), causeAddrRange),
       (skip, causeCopyLength), (t.isNone, causeUnknownTensor),
       ((match t with | some t => t.tileSize < f.len + 4 | none => false), causeTileSize)]
    let p := Packet.ofTensor t { taskPacket s n 4 (some f.grp.toNat) with gen := pubGen f 3 s, rel := f.rel }
    publish cause f (some f.grp.toNat)
      (if cause.isSome then [] else (List.range rows).map fun i =>
        (p, [(tags.getD 0 + 4 * i, 4), (place.getD 0 + i * f.len, f.len)])) s

/-- The reduction of a contribution: RED, or REDOP (R399). -/
def redOf (f : CForm) (t : Option Tensor) : Nat :=
  if f.red ≠ 0 then f.red.toNat else match t with | some t => t.redop | none => 0

/-- CCNT of a contribution: the register's, or REDCNT (R349). -/
def ccntOf (w : Word) (t : Option Tensor) : Nat :=
  if w.toNat / 2 ^ 16 ≠ 0 then w.toNat / 2 ^ 16 else match t with | some t => t.redcnt | none => 0

/-- The checks of R349. -/
def badContribution (f : CForm) (t : Tensor) (w : Word) : Bool :=
  let red := redOf f (some t)
  red = 0 || (1 ≤ red && red ≤ 3 && t.fmt ≠ 1) || (red = 4 && (t.fmt ≠ 8 || 256 < t.tileSize)) ||
    ccntOf w (some t) = 0 || ccntOf w (some t) ≤ w.toNat % 2 ^ 16

/-- A contribution (R399), of PUBRED or of PUBC with `coll` and its step; `run` is the register that GREG names. -/
def contribute (f : CForm) (coll : Bool) (step run : Nat) (s : State) : State :=
  let la := (s.bank.rdS f.ca).toNat
  let w := s.bank.rdS (f.ca + 1)
  let n := nameAt s f.cb
  let place := localSpan s s.ctx.core s.bank la f.len
  let t := namedTensor s n
  let plain := coll && redOf f t = 0
  let bad := match t with | some t => !plain && badContribution f t w | none => false
  let p := Packet.ofTensor t { taskPacket s n (if plain then 0 else 2) (some f.grp.toNat) with
    gen := pubGen f run s, rel := f.rel, coll := coll, step := step,
    red := if plain then 0 else redOf f t, cidx := if plain then 0 else w.toNat % 2 ^ 16, ccnt := if plain then 0 else ccntOf w t }
  publish (tileCause f la place t bad) f (some f.grp.toNat) [(p, [(place.getD 0, f.len)])] s

/-- PUBRED (R399). -/
def execPubred (f : CForm) (s : State) : Result := guarded f.g s fun s => contribute f false 0 2 s

/-- PUBC (R400). -/
def execPubc (f : CForm) (s : State) : Result :=
  guarded f.g s fun s => contribute f true ((s.bank.rdS (f.ca + 2)).toNat % 2 ^ 16) 3 s

/-- PIP (R401). -/
def execPip (f : CForm) (s : State) : Result :=
  guarded f.g s fun s =>
    let n := nameAt s f.cb
    let t := namedTensor s n
    publish (firstCause [(t.isNone, causeUnknownTensor)]) f none
      [(Packet.ofTensor t { taskPacket s n 1 none with gen := pubGen f 0 s, rel := f.rel }, [])] s

/-! ### Subscriptions, prefetch and phases (R402 to R407) -/

/-- The task instance of the bundle in execution. -/
def curTask (s : State) : Option TaskInst := kget s.tasks s.bank.task

/-- VALUE and MASK break R39 or R40, or the named tensor does not fit the ring's slots: `slot` is the slot size of the ring, where the
subscription fills one. -/
def subBad (ts : List Tensor) (value mask : DWord) (nodata devns : Bool) (slot : Option Nat) : Bool :=
  let mt := mask.extractLsb' 32 20
  mask.extractLsb' 52 12 ≠ 0xFFF || nsOf value ≠ 0 || (value &&& ~~~mask) ≠ 0 || (!nodata && mt ≠ 0xFFFFF) ||
    (if devns then
      !(tnumOf value = 1 || tnumOf value = 2 || tnumOf value = 3) || mt ≠ 0xFFFFF || !nodata ||
        (tnumOf value ≠ 2 && (coordOf value ≠ 0 || mask.extractLsb' 0 32 ≠ 0xFFFFFFFF))
    else
      !(ts.any fun t => ((BitVec.ofNat 20 t.tnum ^^^ value.extractLsb' 32 20) &&& mt) = 0 &&
          (match slot with | some n => t.tileSize ≤ n | none => true)))

/-- What arming or SUB writes into a pattern (R39, R40): the namespace, or for a device tensor the launch identity. -/
def subPattern (value mask : DWord) (devns : Bool) (genrule : Nat) (genval gen : BitVec 16) (ns launch : Nat) : Pattern :=
  let v := if devns then (if tnumOf value = 2 then value else mkName 0 (tnumOf value) launch) else withNs ns value
  ⟨v, mask, genrule, if genrule = 1 then genval else if genrule = 2 then gen else 0, launch⟩

/-- The match rule of R404: bits that the interface wrote are ignored. -/
def Sub.isFor (x : Sub) (value mask : DWord) : Bool :=
  let free : DWord :=
    if nsOf x.pat.value = 0 && tnumOf x.pat.value ≠ 2 then 0xFFF00000FFFFFFFF else 0xFFF0000000000000
  mask = x.pat.mask && ((value ^^^ x.pat.value) &&& ~~~free) = 0

/-- The lowest index among subscriptions. -/
def lowest (l : List Sub) : Option Sub :=
  l.foldl (fun a x => match a with
    | none => some x
    | some y => if x.index < y.index then some x else some y) none

/-- The subscription cause of SUB (R402, R403). -/
def subCause (s : State) (t : TaskInst) (p : Word) (value mask : DWord) : Bool :=
  let idx := (p.extractLsb' 0 4).toNat
  let ring := (p.extractLsb' 4 4).toNat
  let nodata := p.getLsbD 8
  let slot := (s.bank.ring ring).map fun r => r.slotSize
  let ts := match kget s.graphs (taskNs s) with | some g => g.tensors | none => []
  p.extractLsb' 12 4 ≠ 0 || p.extractLsb' 10 2 = 3 || t.subs.any (fun x => x.index = idx) ||
    (if nodata then ring ≠ 0 else slot.isNone) || subBad ts value mask nodata (p.getLsbD 9) (if nodata then none else slot)

/-- SUB (R402, R403): the install leaves on CTL; the subscription stays INSTALLING until its homes acknowledge. -/
def execSubscribe (f : CForm) (s : State) : Result :=
  guarded f.g s fun s =>
    let p := s.bank.rdS f.ca
    let value := s.bank.rdPair f.cb
    let mask := s.bank.rdPair (f.cb + 2)
    match curTask s with
    | none => s
    | some t =>
      if subCause s t p value mask then takeSlotTrap s causeSubscription
      else
        let pat := subPattern value mask (p.getLsbD 9) (p.extractLsb' 10 2).toNat (p.extractLsb' 16 16)
          (s.bank.gen.extractLsb' 0 16) (taskNs s) s.bank.launch.toNat
        let x : Sub := ⟨(p.extractLsb' 0 4).toNat, s.opId, pat, 0, (p.extractLsb' 4 4).toNat, p.getLsbD 8, true, .installing, 0, 0, false,
          patternHomes s pat, 0⟩
        let ms := installsOf s (s.ctx.core / 4) s.bank.task x s.bank.phase.toNat
        let s := (s.modTask s.bank.task fun t => { t with subs := t.subs ++ [x] }).bump
        submit { newOp s .control 0 none with send := ms.map fun m => .install m } s

/-- The removals of a subscription from a router. -/
def removalsOf (r task : Nat) (x : Sub) : List Event :=
  x.homes.map fun h => .removal ⟨x.pat, ⟨task, x.index, x.uid⟩, x.nodata, 0, installPath r h, [], h⟩

/-- The copy of a held delivery is pinned no more (R347): a pin request that is still on its way goes no further. -/
def unhold (r : Nat) (h : HeldDelivery) (s : State) : State :=
  if !h.dropped then s
  else match s.agenda.find? (isPin r h.home (copyKey h.pkt)) with
    | some e => takeOff e s
    | none => unpin h.home h.pkt s

/-- Held deliveries of a target are discarded (R404), and ask for no slot. -/
def dropHeld (r : Nat) (tgt : Target) (s : State) : State :=
  let gone := (s.router r).held.filter fun h => h.tgt = tgt
  gone.foldl (fun s h => touchPhase (unhold r h s) h.pkt.launch h.pkt.phase)
    (s.modRouter r fun x => { x with held := x.held.filter fun h => h.tgt ≠ tgt })

/-- A delivery of a target that has begun to write its ring's slot is completed (R205). -/
def finishDelivery (tgt : Target) (s : State) : State :=
  s.early.foldl (fun s x => match x.1 with
    | .delivery p r t home =>
      if t = tgt then
        { notePath s x.1 (drainTransit p (deliver p r t home (takeOff x.1 { s with ev := some x.1 }))) with ev := s.ev }
      else s
    | .heldDeliveryRelease r t => if t = tgt then { releaseAt r t { s with ev := some x.1 } with ev := s.ev } else s
    | _ => s) s

/-- The deliveries of a subscription that ask for a slot of its ring ask no more. -/
def unask (task : Nat) (x : Sub) (s : State) : State :=
  modTaskRing task x.ring (fun r => { r with asks := r.asks.filter fun a => a ≠ .delivery x.uid }) s

/-- UNSUB (R404). -/
def execUnsub (f : CForm) (s : State) : Result :=
  guarded f.g s fun s =>
    match curTask s with
    | none => s
    | some t =>
      match lowest (t.subs.filter fun x => x.dynamic && x.isFor (s.bank.rdPair f.cb) (s.bank.rdPair (f.cb + 2))) with
      | none => s
      | some x =>
        let tgt : Target := ⟨s.bank.task, x.index, x.uid⟩
        let s := unask s.bank.task x (finishDelivery tgt s)
        let s := s.modTask s.bank.task fun t => { t with subs := t.subs.filter fun y => y.index ≠ x.index }
        let s := dropHeld (s.ctx.core / 4) tgt s
        submit { newOp s .control 0 none with send := removalsOf (s.ctx.core / 4) s.bank.task x } s

/-- The word that SUBQ writes (R405). -/
def subqWord (x : Sub) : Word :=
  let st := if x.dynamic then (match x.st with | .installing => 1 | .active => 2 | .refused => 3) else 2
  BitVec.ofNat 32 (st * 2 ^ 30 + (if x.psn then 2 ^ 29 else 0) + x.flg.toNat * 2 ^ 24 + x.index * 2 ^ 16 + min x.arrivals 65535)

/-- SUBQ (R405). -/
def execSubq (f : CForm) (s : State) : Result :=
  guarded f.g s fun s =>
    let found := match curTask s with
      | some t => lowest (t.subs.filter fun x => x.isFor (s.bank.rdPair f.cb) (s.bank.rdPair (f.cb + 2)))
      | none => none
    s.modBank fun b => b.wrS f.ca (match found with | some x => subqWord x | none => 0)

/-- CPREF (R406). Its request carries KIND 8 (log 76). -/
def execCpref (f : CForm) (s : State) : Result :=
  guarded f.g s fun s =>
    let n := nameAt s f.cb
    let t := namedTensor s n
    requested (firstCause [(t.isNone, causeUnknownTensor)])
      { newOp s .control 0 none with send := [.prefetchAtHome (Packet.ofTensor t (taskPacket s n 8 none))] } s

/-- PHASE (R407): the register becomes n, unless n is below it; the task leaves the phases below n as a source (R455, R456). -/
def execPhase (f : CForm) (s : State) : Result :=
  guarded f.g s fun s =>
    let n := f.opt.extractLsb' 0 4
    if n.toNat < s.bank.phase.toNat then takeSlotTrap s causePhaseOrder
    else touchSpan (s.modBank fun b => { b with phase := n }) s.bank.launch.toNat
      (max s.bank.phase.toNat (frontier s s.bank.launch.toNat)) n.toNat

/-! ### Experts and sumps (R408 to R410) -/

/-- A query that a remote result answers. -/
def remoteQuery (f : CForm) (kind : OpKind) (bad : Bool) (cause : BitVec 8) (s : State) : State :=
  let v := (s.bank.rdS f.cb).toNat
  if bad then takeSlotTrap s cause
  else submit { newOp s kind 0 none with dst := f.ca.toNat, opnd := v, send := [.remoteResult s.opId 0 0] } (pend f.ca.toNat s)

/-- ERTQ (R408). -/
def execErtq (f : CForm) (s : State) : Result :=
  guarded f.g s fun s => remoteQuery f .ertq (2 ^ 16 ≤ (s.bank.rdS f.cb).toNat) causeExpertIndex s

/-- ERTH (R409): the hint leaves for the table's agent. -/
def execErth (f : CForm) (s : State) : Result :=
  guarded f.g s fun s =>
    let v := (s.bank.rdS f.cb).toNat
    if 2 ^ 16 ≤ v then takeSlotTrap s causeExpertIndex
    else submit { newOp s .control 0 none with
      send := [.hintAtErtAgent (partOf s.bank.launch.toNat) v (f.opt.extractLsb' 0 3).toNat s.bank.launch.toNat s.bank.phase.toNat] } s

/-- SUMPQ (R410). -/
def execSumpq (f : CForm) (s : State) : Result :=
  guarded f.g s fun s => remoteQuery f .sumpq (1024 ≤ (s.bank.rdS f.cb).toNat) causeSumpIndex s

end Sys2Proof.Machine
end

