-- ==== Sys2Proof/Machine/Load.lean ====
section
/-! DEFINITION. Graph objects and the load checks (R13, R21 to R44). -/

namespace Sys2Proof.Machine

open Sys2Proof

/-- A graph object as the launch processor reads it: the value of `n` bytes at an offset. -/
abbrev ObjRead := Nat → Nat → Nat

/-- The header of a graph object (R28). -/
structure ObjHeader where
  total : Nat
  taskOff : Nat
  codeOff : Nat
  tensOff : Nat
  ntask : Nat
  ncode : Nat
  ntens : Nat
  deriving DecidableEq, Repr

/-- Read the header (R28). -/
def readHeader (g : ObjRead) : ObjHeader :=
  ⟨g 28 4, g 24 4, g 20 4, g 16 4, g 14 2, g 12 2, g 8 4⟩

/-- The first index from `i` on at which a check fails, of `n` structures. -/
def firstBad (n : Nat) (bad : Nat → Bool) : Option Nat := (List.range n).find? bad

/-- Two spans overlap; an empty one overlaps nothing (R29). -/
def overlaps (a b : Nat × Nat) : Bool := a.1 < a.2 && b.1 < b.2 && a.1 < b.2 && b.1 < a.2

/-- A span lies within the object. -/
def spanIn (total : Nat) (a : Nat × Nat) : Bool := a.1 = a.2 || a.2 ≤ total

/-- Where tensor descriptor, code object header and task template `i` begin (R29). -/
def ObjHeader.tensAt (h : ObjHeader) (i : Nat) : Nat := h.tensOff + 64 * i
def ObjHeader.codeAt (h : ObjHeader) (i : Nat) : Nat := h.codeOff + 64 * i
def ObjHeader.taskAt (h : ObjHeader) (i : Nat) : Nat := h.taskOff + 512 * i

/-- The spans of the header and the arrays, by the index that check 0x02 reports (R44). -/
def ObjHeader.spans (h : ObjHeader) : List (Nat × Nat) :=
  [(0, 64), (h.tensOff, h.tensAt h.ntens), (h.codeOff, h.codeAt h.ncode), (h.taskOff, h.taskAt h.ntask)]

/-- The images of code object `i`: instructions and table. -/
def imagesOf (g : ObjRead) (h : ObjHeader) (i : Nat) : List (Nat × Nat) :=
  let a := h.codeAt i
  [(g (a + 4) 4, g (a + 4) 4 + g a 4), (g (a + 12) 4, g (a + 12) 4 + g (a + 8) 4)]

/-- Check 0x01 (R28). -/
def check01 (g : ObjRead) : Option Nat :=
  if g 0 4 ≠ 0x50484731 || g 4 1 ≠ 1 || g 5 3 ≠ 0 || g 32 32 ≠ 0 then some 0 else none

/-- Check 0x02 for the three arrays: offset, extent, and overlap with the header or an earlier array. -/
def badArray (h : ObjHeader) (i : Nat) : Bool :=
  match h.spans[i]? with
  | some a => a.1 % 64 ≠ 0 || !spanIn h.total a || (h.spans.take i).any (overlaps a)
  | none => false

/-- Check 0x02 for the images of code object `i`. -/
def badImages (g : ObjRead) (h : ObjHeader) (i : Nat) : Bool :=
  let mine := imagesOf g h i
  let old := h.spans ++ (List.range i).flatMap (imagesOf g h)
  mine.any (fun a => !spanIn h.total a || old.any (overlaps a)) ||
    (match mine with | [a, b] => overlaps a b | _ => false)

/-- Check 0x02 (R28 to R30). TOTAL = 0 fails as a header field, with index 0 (log 72). -/
def check02 (g : ObjRead) (h : ObjHeader) : Option Nat :=
  if h.total % 64 ≠ 0 || h.total < 64 || 2 ^ 20 < h.ntens || h.ncode = 0 || h.ntask = 0 then some 0
  else match ([1, 2, 3].find? (badArray h)) with
    | some i => some i
    | none => (firstBad h.ncode (badImages g h)).map fun i => 0x10000 + i

/-- Tensor descriptor `i` as a number (R21). -/
def tensWord (g : ObjRead) (h : ObjHeader) (i : Nat) : Nat := g (h.tensAt i) 64

/-- The tensor that a descriptor describes (R21). -/
def tensorAt (d : Nat) : Tensor where
  tnum := bitsNat d 19 0
  fmt := bitsNat d 27 20
  rank := bitsNat d 30 28
  pclass := bitsNat d 33 32
  redop := bitsNat d 36 34
  retexp := bitsNat d 41 37
  redcnt := bitsNat d 63 48
  shape := [bitsNat d 79 64, bitsNat d 95 80, bitsNat d 111 96, bitsNat d 127 112]
  ext := [bitsNat d 159 128, bitsNat d 191 160, bitsNat d 223 192, bitsNat d 255 224]
  cw := [bitsNat d 261 256, bitsNat d 267 262, bitsNat d 273 268, bitsNat d 279 274]
  tstride := bitsNat d 319 288
  base := bitsNat d 376 320

/-- Check 0x03 (R21, R22). -/
def badTensor (d : Nat) : Bool :=
  let t := tensorAt d
  bitsNat d 511 392 ≠ 0 || bitsNat d 391 384 ≠ 1 || bitsNat d 383 377 ≠ 0 || bitsNat d 287 280 ≠ 0 || bitsNat d 47 42 ≠ 0 ||
    bitsNat d 31 31 ≠ 0 || t.cw.any (fun c => 32 < c) || t.ext.any (fun e => e = 0) || t.shape.any (fun e => e = 0) ||
    20 < t.retexp || 4 < t.redop || t.pclass = 3 || t.rank = 0 || 4 < t.rank || fmtSize t.fmt = 0

/-- Check 0x05 (R23). -/
def badPacking (t : Tensor) : Bool :=
  ((t.counts.zip t.cw).take t.rank).any (fun e => 2 ^ e.2 < e.1) ||
    ((t.ext.zip (t.shape.zip t.cw)).drop t.rank).any (fun e => e.1 ≠ 1 || e.2.1 ≠ 1 || e.2.2 ≠ 0) ||
    32 < t.cw.foldl (fun a b => a + b) 0 || t.tileSize = 0 || 65536 < t.tileSize || (t.fmt = 8 && 256 < t.tileSize)

/-- Check 0x06 (R21, R27). -/
def badBase (t : Tensor) : Bool :=
  if t.pclass = 2 then t.base % 128 ≠ 0 || t.tstride % 128 ≠ 0 || t.tstride < t.tileSize else t.base ≠ 0 || t.tstride ≠ 0

/-- Check 0x07 (R25). -/
def badReduction (t : Tensor) : Bool :=
  (1 ≤ t.redop && t.redop ≤ 3 && t.fmt ≠ 1) || (t.redop = 4 && t.fmt ≠ 8) || (t.redop = 0 && t.redcnt ≠ 0)

/-- Code object header `i` as a number (R30). -/
def codeWord (g : ObjRead) (h : ObjHeader) (i : Nat) : Nat := g (h.codeAt i) 64

/-- The code object that a header describes (R30). -/
def codeAtWord (d : Nat) : CodeObj := ⟨bitsNat d 31 0, bitsNat d 63 32, bitsNat d 95 64, bitsNat d 127 96⟩

/-- Check 0x08 (R30). -/
def badCode (d : Nat) : Bool :=
  let c := codeAtWord d
  bitsNat d 511 128 ≠ 0 || c.imLen < 64 || 131072 < c.imLen || c.imLen % 64 ≠ 0 || c.imOff % 64 ≠ 0 || 16384 < c.tbLen ||
    c.tbLen % 128 ≠ 0 || c.tbOff % 4 ≠ 0

/-- The subscription that 24 bytes describe (R38). -/
def subAt (d : Nat) : SubDesc where
  value := BitVec.ofNat 64 (bitsNat d 63 0)
  mask := BitVec.ofNat 64 (bitsNat d 127 64)
  count := bitsNat d 143 128
  ring := bitsNat d 147 144
  genrule := bitsNat d 149 148
  nodata := bitsNat d 150 150 = 1
  devns := bitsNat d 151 151 = 1
  genval := BitVec.ofNat 16 (bitsNat d 175 160)

/-- The number of subscriptions in use (R34). -/
def subsUsed (hd : Nat) : Nat := if bitsNat hd 47 47 = 1 then bitsNat hd 35 32 + 1 else 0

/-- Ring table entry `k` of a template at an offset (R36). -/
def ringEntry (g : ObjRead) (a k : Nat) : Nat := g (a + 96 + 2 * k) 2

/-- The rings of a template: LSIZE and LSLOTS (R36). -/
def ringsOf (g : ObjRead) (a : Nat) : List (Nat × Nat) :=
  (List.range (bitsNat (g a 32) 40 36)).map fun k => (bitsNat (ringEntry g a k) 7 4, bitsNat (ringEntry g a k) 3 0)

/-- The template at an offset (R32 to R36). -/
def taskAtOff (g : ObjRead) (a : Nat) : TaskDesc :=
  let hd := g a 32
  { code := bitsNat hd 15 0
    entry := bitsNat hd 30 16
    nring := bitsNat hd 40 36
    gang := 2 ^ bitsNat hd 42 41
    restart := bitsNat hd 43 43 = 1
    prio := bitsNat hd 46 44
    subs := (List.range (subsUsed hd)).map fun k => subAt (g (a + 128 + 24 * k) 24)
    budget := bitsNat hd 95 64
    affkey := bitsNat hd 127 96
    argmask := bitsNat hd 143 128
    mbx := (List.range 16).map fun k => g (a + 32 + 4 * k) 4
    rings := ringsOf g a }

/-- A word of an instruction image in the object. -/
def imageLine (g : ObjRead) (off line : Nat) : List Word :=
  (List.range lineWords).map fun i => BitVec.ofNat 32 (g (off + 4 * (line * lineWords + i)) 4)

/-- ENTRY addresses a header word of the image (R33, R127). -/
def entryOk (g : ObjRead) (c : CodeObj) (e : Nat) : Bool :=
  4 * e < c.imLen && isBundlePosition (imageLine g c.imOff (e / lineWords)) (e % lineWords) &&
    isHeader ((imageLine g c.imOff (e / lineWords)).getD (e % lineWords) padWord)

/-- Check 0x09 (R33, R34, R36, R37). -/
def badTask (g : ObjRead) (h : ObjHeader) (i : Nat) : Bool :=
  let a := h.taskAt i
  let hd := g a 32
  let n := bitsNat hd 40 36
  bitsNat hd 255 144 ≠ 0 || bitsNat hd 63 48 ≠ 0 || bitsNat hd 31 31 ≠ 0 || bitsNat hd 95 64 = 0 || bitsNat hd 42 41 = 3 || 16 < n ||
    (bitsNat hd 47 47 = 0 && (bitsNat hd 35 32 ≠ 0 || g (a + 128) 384 ≠ 0)) || h.ncode ≤ bitsNat hd 15 0 ||
    !entryOk g (codeAtWord (codeWord g h (bitsNat hd 15 0))) (bitsNat hd 30 16) ||
    (List.range 16).any (fun k =>
      let e := ringEntry g a k
      if k < n then bitsNat e 15 8 ≠ 0 || 9 < bitsNat e 7 4 || 8 < bitsNat e 3 0 else e ≠ 0) ||
    spadBytes < (ringsOf g a).foldl (fun m r => m + 2 ^ r.2 * 2 ^ (7 + r.1)) 0

/-- Check 0x0A for subscription entry `k` of template `i` (R38 to R40). -/
def badSub (g : ObjRead) (h : ObjHeader) (ts : List Tensor) (i k : Nat) : Bool :=
  let a := h.taskAt i
  let d := g (a + 128 + 24 * k) 24
  if subsUsed (g a 32) ≤ k then d ≠ 0
  else
    let x := subAt d
    let slot := (ringsOf g a)[x.ring]?.map fun r => 2 ^ (7 + r.1)
    bitsNat d 191 176 ≠ 0 || bitsNat d 159 152 ≠ 0 || x.genrule = 3 || x.count = 0 ||
      (if x.nodata then x.ring ≠ 0 else slot.isNone) || subBad ts x.value x.mask x.nodata x.devns (if x.nodata then none else slot)

/-- The tensors of an object. -/
def objTensors (g : ObjRead) (h : ObjHeader) : List Tensor := (List.range h.ntens).map fun i => tensorAt (tensWord g h i)

/-- The first failure of a list of checks: the code and the index. -/
def firstFailure : List (Nat × Option Nat) → Option (Nat × Nat)
  | [] => none
  | (c, some i) :: _ => some (c, i)
  | (_, none) :: r => firstFailure r

/-- The load checks of R44, in order, 0x0C apart: the code and the index of the first failure. -/
def loadChecks (g : ObjRead) : Option (Nat × Nat) :=
  let h := readHeader g
  match firstFailure [(1, check01 g), (2, check02 g h)] with
  | some f => some f
  | none =>
    let ts := objTensors g h
    let each := fun (bad : Tensor → Bool) => firstBad h.ntens fun i => bad (tensorAt (tensWord g h i))
    firstFailure
      [(3, firstBad h.ntens fun i => badTensor (tensWord g h i)),
       (4, firstBad h.ntens fun i => (ts.take i).any fun t => t.tnum = (tensorAt (tensWord g h i)).tnum),
       (5, each badPacking), (6, each badBase), (7, each badReduction),
       (8, firstBad h.ncode fun i => badCode (codeWord g h i)),
       (9, firstBad h.ntask (badTask g h)),
       (10, firstBad (h.ntask * 16) fun j => badSub g h ts (j / 16) (j % 16))]

/-- The graph of an object that passes the checks. -/
def graphFrom (g : ObjRead) (part : Nat) : Graph :=
  let h := readHeader g
  { part := part, total := h.total, tensors := objTensors g h,
    codes := (List.range h.ncode).map fun i => codeAtWord (codeWord g h i),
    tasks := (List.range h.ntask).map fun i => taskAtOff g (h.taskAt i), unloading := false }

end Sys2Proof.Machine
end

