-- ==== Sys2Proof/Machine/Sha2.lean ====
section
/-! DEFINITION. SHA-384 and SHA-512 (R12, R500, R502), of the standard that the spec names (FIPS 180-4; PRESUMED, log 6). -/

namespace Sys2Proof.Machine

open Sys2Proof

/-- The integer cube root, by binary digits: `fuel` digits. -/
def icbrtFrom : Nat → Nat → Nat → Nat
  | 0, _, r => r
  | f + 1, n, r =>
    let c := r + 2 ^ f
    icbrtFrom f n (if c * c * c ≤ n then c else r)

/-- The big-endian value of bytes. -/
def beNat (bs : List Byte) : Nat := leNat bs.reverse

/-- The `n` big-endian bytes of a value. -/
def beBytes (n v : Nat) : List Byte := (leBytes n v).reverse

/-- The first eighty primes. -/
def sha2Primes : List Nat :=
  [2, 3, 5, 7, 11, 13, 17, 19, 23, 29, 31, 37, 41, 43, 47, 53, 59, 61, 67, 71, 73, 79, 83, 89, 97, 101, 103, 107, 109, 113,
    127, 131, 137, 139, 149, 151, 157, 163, 167, 173] ++
    [179, 181, 191, 193, 197, 199, 211, 223, 227, 229, 233, 239, 241, 251, 257, 263, 269, 271, 277, 281, 283, 293, 307, 311, 313, 317, 331, 337,
      347, 349, 353, 359, 367, 373, 379, 383, 389, 397, 401, 409]

/-- The round constants: the first 64 bits of the fractional parts of the cube roots of the first eighty primes. -/
def sha2Rounds : List DWord := sha2Primes.map fun p => BitVec.ofNat 64 (icbrtFrom 68 (p * 2 ^ 192) 0)

/-- An initial state: the first 64 bits of the fractional parts of the square roots of eight primes. -/
def sha2Initial (ps : List Nat) : List DWord := ps.map fun p => BitVec.ofNat 64 (isqrt 70 (p * 2 ^ 128))

/-- One round: the state, with the next word of the schedule at the head of the window of the last sixteen. -/
def sha2Round (x : List DWord × List DWord) (k : DWord) : List DWord × List DWord :=
  let h := fun i => x.1.getD i 0
  let w := fun i => x.2.getD i 0
  let s0 := fun (v : DWord) => v.rotateRight 1 ^^^ v.rotateRight 8 ^^^ v >>> 7
  let s1 := fun (v : DWord) => v.rotateRight 19 ^^^ v.rotateRight 61 ^^^ v >>> 6
  let b0 := (h 0).rotateRight 28 ^^^ (h 0).rotateRight 34 ^^^ (h 0).rotateRight 39
  let b1 := (h 4).rotateRight 14 ^^^ (h 4).rotateRight 18 ^^^ (h 4).rotateRight 41
  let t1 := h 7 + b1 + ((h 4 &&& h 5) ^^^ (~~~ h 4 &&& h 6)) + k + w 0
  let t2 := b0 + ((h 0 &&& h 1) ^^^ (h 0 &&& h 2) ^^^ (h 1 &&& h 2))
  ([t1 + t2, h 0, h 1, h 2, h 3 + t1, h 4, h 5, h 6], x.2.drop 1 ++ [s1 (w 14) + w 9 + s0 (w 1) + w 0])

/-- The big-endian 64-bit words of a block of `n` words. -/
def beWords : Nat → List Byte → List DWord
  | 0, _ => []
  | n + 1, bs => BitVec.ofNat 64 (beNat (bs.take 8)) :: beWords n (bs.drop 8)

/-- The state after a block of 128 bytes. -/
def sha2Block (h : List DWord) (block : List Byte) : List DWord :=
  List.zipWith (· + ·) h (sha2Rounds.foldl sha2Round (h, beWords 16 block)).1

/-- A message with its padding: a one bit, zeros, and its length in bits as 128 bits, in whole blocks of 128 bytes. -/
def sha2Pad (m : List Byte) : List Byte :=
  m ++ [0x80] ++ List.replicate ((239 - m.length % 128) % 128) 0 ++ beBytes 16 (8 * m.length)

/-- The state after `n` blocks of a padded message. -/
def sha2Blocks : Nat → List DWord → List Byte → List DWord
  | 0, h, _ => h
  | n + 1, h, bs => sha2Blocks n (sha2Block h (bs.take 128)) (bs.drop 128)

/-- The 64 bytes of the last state, from an initial one. -/
def sha2From (h : List DWord) (m : List Byte) : List Byte :=
  (sha2Blocks ((sha2Pad m).length / 128) h (sha2Pad m)).flatMap fun w => beBytes 8 w.toNat

/-- SHA-512. -/
def sha512 (m : List Byte) : List Byte := sha2From (sha2Initial (sha2Primes.take 8)) m

/-- SHA-384 (R500, R502): 48 bytes. -/
def sha384 (m : List Byte) : List Byte := (sha2From (sha2Initial ((sha2Primes.drop 8).take 8)) m).take 48

end Sys2Proof.Machine
end

