-- ==== Sys2Proof/Machine/Sha3.lean ====
section
/-! DEFINITION. SHAKE128 and SHAKE256, which ML-DSA-65 uses (R12, R500), of the standard (FIPS 202; PRESUMED, log 6). -/

namespace Sys2Proof.Machine

open Sys2Proof

/-- Lane (x, y) of a Keccak state: 25 lanes of 64 bits, x first. -/
def keccakLane (a : List DWord) (x y : Nat) : DWord := a.getD (x % 5 + 5 * (y % 5)) 0

/-- The lanes that rho visits, from lane (1, 0) on: (x, y) is followed by (y, 2x + 3y). Lane (0, 0) is not among them. -/
def rhoWalk : Nat → Nat → Nat → List (Nat × Nat)
  | 0, _, _ => []
  | n + 1, x, y => (x, y) :: rhoWalk n y ((2 * x + 3 * y) % 5)

/-- The rotation of a lane (rho): the one visited after `t` others rotates by the triangular number of t + 1. -/
def rhoShift (x y : Nat) : Nat :=
  let t := (rhoWalk 24 1 0).findIdx fun p => p = (x, y)
  if t = 24 then 0 else (t + 1) * (t + 2) / 2 % 64

/-- The register that gives the bits of the round constants, after `t` shifts. -/
def iotaState (t : Nat) : BitVec 9 :=
  (List.range t).foldl (fun v _ => let w := v <<< 1; if w.msb then w ^^^ 0x171 else w) 1

/-- The constant of a round (iota): its bit 2^j − 1 is the low bit of the register after 7 × round + j shifts, for j up to 6. -/
def iotaOf (round : Nat) : DWord :=
  (List.range 7).foldl (fun w j => if (iotaState (7 * round + j)).getLsbD 0 then w ||| BitVec.twoPow 64 (2 ^ j - 1) else w) 0

/-- The rotations of the lanes, x first, and the constants of the 24 rounds. -/
def rhoShifts : List Nat := (List.range 25).map fun i => rhoShift (i % 5) (i / 5)
def iotaAll : List DWord := (List.range 24).map iotaOf

/-- One round of Keccak: theta, rho and pi, chi, iota. -/
def keccakRound (a : List DWord) (rc : DWord) : List DWord :=
  let lanes := fun (f : Nat → Nat → DWord) => (List.range 25).map fun i => f (i % 5) (i / 5)
  let parity := (List.range 5).map fun x => ((List.range 5).map fun y => keccakLane a x y).foldl (· ^^^ ·) 0
  let theta := lanes fun x y => keccakLane a x y ^^^ parity.getD ((x + 4) % 5) 0 ^^^ (parity.getD ((x + 1) % 5) 0).rotateLeft 1
  let rho := List.zipWith (fun w n => w.rotateLeft n) theta rhoShifts
  -- pi takes lane (x, y) to (y, 2x + 3y), so that lane (x, y) comes from (x + 3y, x)
  let pi := lanes fun x y => keccakLane rho (x + 3 * y) x
  let chi := lanes fun x y => keccakLane pi x y ^^^ (keccakLane pi (x + 2) y &&& ~~~ keccakLane pi (x + 1) y)
  match chi with
  | w :: r => (w ^^^ rc) :: r
  | [] => []

/-- Keccak-f[1600]. -/
def keccakF (a : List DWord) : List DWord := iotaAll.foldl keccakRound a

/-- The bytes of `n` lanes. -/
def keccakBytes (n : Nat) (a : List DWord) : List Byte := (a.take n).flatMap fun w => leBytes 8 w.toNat

/-- Bytes as lanes, `n` of them. -/
def keccakLanes : Nat → List Byte → List DWord
  | 0, _ => []
  | n + 1, bs => BitVec.ofNat 64 (leNat (bs.take 8)) :: keccakLanes n (bs.drop 8)

/-- Absorb `n` blocks of `r` lanes. -/
def keccakAbsorb (r : Nat) : Nat → List DWord → List Byte → List DWord
  | 0, a, _ => a
  | n + 1, a, bs => keccakAbsorb r n (keccakF (List.zipWith (· ^^^ ·) a (keccakLanes 25 (bs.take (8 * r))))) (bs.drop (8 * r))

/-- Squeeze `n` blocks of `r` lanes. -/
def keccakSqueeze (r : Nat) : Nat → List DWord → List Byte
  | 0, _ => []
  | n + 1, a => keccakBytes r a ++ keccakSqueeze r n (keccakF a)

/-- A message with the padding of SHAKE, in whole blocks of `r` lanes. -/
def shakePad (r : Nat) (m : List Byte) : List Byte :=
  let z := 8 * r - 1 - m.length % (8 * r)
  if z = 0 then m ++ [0x9F] else m ++ [0x1F] ++ List.replicate (z - 1) 0 ++ [0x80]

/-- The first `n` bytes of SHAKE over blocks of `r` lanes. -/
def shake (r n : Nat) (m : List Byte) : List Byte :=
  let p := shakePad r m
  (keccakSqueeze r (n / (8 * r) + 1) (keccakAbsorb r (p.length / (8 * r)) (List.replicate 25 0) p)).take n

/-- SHAKE128, `n` bytes. -/
def shake128 (n : Nat) (m : List Byte) : List Byte := shake 21 n m
/-- SHAKE256, `n` bytes. -/
def shake256 (n : Nat) (m : List Byte) : List Byte := shake 17 n m

end Sys2Proof.Machine
end

