-- ==== Sys2Proof/Machine/Signatures.lean ====
section
/-! DEFINITION. The verification of Ed25519 and of ML-DSA-65 signatures (R12, R500), of the standards that the spec names (RFC 8032, FIPS 204;
PRESUMED, log 6). -/

namespace Sys2Proof.Machine

open Sys2Proof

/-- x^e mod m, for e below 2^fuel. -/
def powMod : Nat → Nat → Nat → Nat → Nat
  | 0, _, _, m => 1 % m
  | f + 1, x, e, m => powMod f (x * x % m) (e / 2) m * (if e % 2 = 1 then x else 1) % m

/-! ### Ed25519 (RFC 8032, 5.1) -/

namespace Ed25519

/-- The field prime and the order of the base point. -/
def prime : Nat := 2 ^ 255 - 19
def order : Nat := 2 ^ 252 + 27742317777372353535851937790883648493

/-- The inverse in the field. -/
def inv (x : Nat) : Nat := powMod 255 x (prime - 2) prime

/-- The constant d of the curve −x² + y² = 1 + d x² y². -/
def d : Nat := (prime - 121665) * inv 121666 % prime

/-- The sum of two points. -/
def add (a b : Nat × Nat) : Nat × Nat :=
  let k := d * (a.1 * b.1 % prime) % prime * (a.2 * b.2 % prime) % prime
  ((a.1 * b.2 + a.2 * b.1) % prime * inv (1 + k) % prime, (a.2 * b.2 + a.1 * b.1) % prime * inv (1 + prime - k) % prime)

/-- n times a point, for n below 2^fuel. -/
def times : Nat → Nat → Nat × Nat → Nat × Nat
  | 0, _, _ => (0, 1)
  | f + 1, n, a =>
    let r := times f (n / 2) (add a a)
    if n % 2 = 1 then add r a else r

/-- The x of a point with a y and a sign, where there is one. -/
def xOf (y sign : Nat) : Option Nat :=
  let u := (y * y + prime - 1) % prime
  let w := u * inv (d * (y * y % prime) + 1) % prime
  let c := powMod 255 w ((prime + 3) / 8) prime
  let x := if c * c % prime = w then c else c * powMod 255 2 ((prime - 1) / 4) prime % prime
  if x * x % prime ≠ w || (x = 0 && sign = 1) then none else some (if x % 2 = sign then x else prime - x)

/-- Decode 32 bytes as a point. -/
def point (bs : List Byte) : Option (Nat × Nat) :=
  let v := leNat bs
  let y := v % 2 ^ 255
  if bs.length ≠ 32 || prime ≤ y then none else (xOf y (v / 2 ^ 255)).map fun x => (x, y)

/-- The base point. -/
def base : Nat × Nat := let y := 4 * inv 5 % prime; ((xOf y 0).getD 0, y)

/-- A signature of a message verifies under a public key: 8·S·B = 8·R + 8·k·A. -/
def verify (pk m sig : List Byte) : Bool :=
  let s := leNat (sig.drop 32)
  match point pk, point (sig.take 32) with
  | some a, some r =>
    let k := leNat (sha512 (sig.take 32 ++ pk ++ m)) % order
    sig.length = 64 && s < order && times 4 8 (times 253 s base) = times 4 8 (add r (times 253 k a))
  | _, _ => false

end Ed25519

/-! ### ML-DSA-65 (FIPS 204) -/

namespace MlDsa65

/-- The modulus, and the parameters of the set: k, l, tau, beta, gamma1, gamma2, omega. -/
def q : Nat := 8380417
def k : Nat := 6
def l : Nat := 5
def tau : Nat := 49
def beta : Nat := 196
def gamma1 : Nat := 2 ^ 19
def gamma2 : Nat := (q - 1) / 32
def omega : Nat := 55

/-- Coefficients of `w` bits each, `n` of them, from a little-endian number. -/
def unpack (w : Nat) : Nat → Nat → List Nat
  | 0, _ => []
  | n + 1, v => v % 2 ^ w :: unpack w n (v / 2 ^ w)

/-- The 8 bits of a number, reversed. -/
def bitRev (i : Nat) : Nat := (List.range 8).foldl (fun a j => a + i / 2 ^ j % 2 * 2 ^ (7 - j)) 0

/-- The power of 1753 at which value `i` of a transform stands. -/
def root (i : Nat) : Nat := powMod 9 1753 (2 * bitRev i + 1) q

/-- A polynomial at a point of the field. -/
def eval (x : Nat) : List Nat → Nat
  | [] => 0
  | c :: r => (c + x * eval x r) % q

/-- The number-theoretic transform: the values of a polynomial at the 256 roots. -/
def ntt (w : List Nat) : List Nat := (List.range 256).map fun i => eval (root i) w

/-- The inverse transform: coefficient j is the sum of the values over the roots to the j, divided by 256. -/
def nttInv (v : List Nat) : List Nat :=
  let rs := (List.range 256).map fun i => powMod 23 (root i) (q - 2) q
  let step := fun (x : List Nat × List Nat) (_ : Nat) =>
    (x.1 ++ [x.2.foldl (fun a b => (a + b) % q) 0 * powMod 23 256 (q - 2) q % q], List.zipWith (fun a b => a * b % q) x.2 rs)
  ((List.range 256).foldl step ([], v)).1

/-- Values below q from triples of bytes, up to 256. -/
def rejTriples : List Byte → List Nat
  | a :: b :: c :: r =>
    let z := c.toNat % 128 * 2 ^ 16 + b.toNat * 2 ^ 8 + a.toNat
    if z < q then z :: rejTriples r else rejTriples r
  | _ => []

/-- Entry (r, s) of the matrix, already transformed: from eight blocks of SHAKE128, which is above the bound that the standard allows a
verifier to set. -/
def entry (rho : List Byte) (r s : Nat) : List Nat :=
  (rejTriples (shake128 1344 (rho ++ leBytes 1 s ++ leBytes 1 r))).take 256

/-- The places of the non-zero coefficients of a challenge: at step i the next byte that is at most i. -/
def ball (signs : Nat) : List Nat → List Byte → List Nat → List Nat
  | [], _, c => c
  | i :: is, bs, c =>
    let r := bs.dropWhile fun b => i < b.toNat
    let j := (r.headD 0).toNat
    ball (signs / 2) is (r.drop 1) ((c.set i (c.getD j 0)).set j (if signs % 2 = 1 then q - 1 else 1))

/-- The challenge polynomial of a seed. -/
def challenge (seed : List Byte) : List Nat :=
  let bs := shake256 272 seed
  ball (leNat (bs.take 8)) ((List.range tau).map (· + (256 - tau))) (bs.drop 8) (List.replicate 256 0)

/-- The hint of row `i`: its places from `lo` up to `hi` of the list, which must rise. -/
def hintRow (y : List Nat) (lo hi : Nat) : Option (List Nat) :=
  let ps := (y.take hi).drop lo
  if hi < lo || omega < hi || !((ps.zip (ps.drop 1)).all fun x => x.1 < x.2) then none else some ps

/-- The hints of the rows, from where the list stands; what is left of it must be zero. -/
def hints (y : List Nat) : Nat → List Nat → Option (List (List Nat))
  | lo, [] => if ((y.take omega).drop lo).all fun v => v = 0 then some [] else none
  | lo, hi :: r =>
    match hintRow y lo hi, hints y hi r with
    | some h, some hs => some (h :: hs)
    | _, _ => none

/-- The high part of a coefficient, adjusted by its hint. -/
def useHint (h : Bool) (r : Nat) : Nat :=
  let m := r % (2 * gamma2)
  let neg := gamma2 < m
  let hi := if neg then r + 2 * gamma2 - m else r - m
  let top := hi = q - 1
  let r1 := if top then 0 else hi / (2 * gamma2)
  let pos := !top && !neg && m ≠ 0
  if !h then r1 else if pos then (r1 + 1) % 16 else (r1 + 15) % 16

/-- A signature of a message verifies under a public key, with an empty context. -/
def verify (pk m sig : List Byte) : Bool :=
  let seed := sig.take 48
  let z := (List.range l).map fun i =>
    (unpack 20 256 (leNat (((sig.drop 48).drop (640 * i)).take 640))).map fun v => (q + gamma1 - v) % q
  let y := (sig.drop 3248).map fun b => b.toNat
  let t1 := (List.range k).map fun i => unpack 10 256 (leNat (((pk.drop 32).drop (320 * i)).take 320))
  let mu := shake256 64 (shake256 64 pk ++ [0, 0] ++ m)
  let c := ntt (challenge seed)
  let zh := z.map ntt
  let small := z.all fun p => p.all fun v => v < gamma1 - beta || q - (gamma1 - beta) < v
  match hints y 0 (y.drop omega) with
  | none => false
  | some hs =>
    let w1 := (List.range k).map fun r =>
      let az := (List.range l).foldl (fun a s =>
        List.zipWith (fun x p => (x + p) % q) a (List.zipWith (fun e v => e * v % q) (entry (pk.take 32) r s) (zh.getD s [])))
        (List.replicate 256 0)
      let ct := List.zipWith (fun a b => a * b % q) c (ntt ((t1.getD r []).map fun v => v * 2 ^ 13 % q))
      let w := nttInv (List.zipWith (fun a b => (a + q - b) % q) az ct)
      (List.range 256).map fun j => useHint ((hs.getD r []).contains j) (w.getD j 0)
    let code := w1.flatMap fun r => leBytes 128 (r.foldr (fun v a => v + 16 * a) 0)
    pk.length = 1952 && sig.length = 3309 && small && shake256 48 (mu ++ code) = seed

end MlDsa65

end Sys2Proof.Machine
end

