-- ==== Sys2Proof/Machine/Experts.lean ====
section
/-! DEFINITION. Expert residency and parked tokens (R414 to R433): the residency table, paging, sumps and draining, and what a
publication meets at its home. -/

namespace Sys2Proof.Machine

open Sys2Proof

/-- Bytes of the park area in use (R419). -/
def parkedBytes (s : State) (part : Nat) : Nat :=
  (s.sumps.filter fun u => u.2.part = part).foldl
    (fun n u => u.2.rows.foldl (fun n r => n + r.pkt.payload.length) n) 0

/-- The source of adit work (R465). -/
def aditSource : BitVec 16 := BitVec.ofNat 16 (126 * 512)

/-- A row enters a sump that holds its launch and entry (R419). -/
def parkIn (i : Nat) (r : ParkedRow) (s : State) : State :=
  touchPhase (modSump i (fun u => { u with rows := u.rows ++ [r] }) s) r.pkt.launch r.pkt.phase

/-- The agent takes a free sump of the partition: the lowest-numbered one. -/
def freeSumpOf (s : State) (part : Nat) : Option Nat :=
  (s.sumps.find? fun u => u.2.part = part && u.2.order = 0).map fun u => u.1

/-- A row is written into its sump; where it is full, or there is none, into a further one (R419, R420). -/
def parkRow (part : Nat) (r : ParkedRow) (s : State) : State :=
  let l := r.pkt.launch
  let full := (s.part part).parkRoom < parkedBytes s part + r.pkt.payload.length
  let last := (sumpsFor s part r.entry (some l)).getLast?
  match last with
  | some u =>
    if full then abortCode l 0x2B aditSource s
    else if u.2.rows.length < 4096 then refreshSump part r.entry (parkIn u.1 r s)
    else match freeSumpOf s part with
      | some i => refreshSump part r.entry (take i (sumpPip u.1 2 s))
      | none => abortCode l 0x2B aditSource s
  | none =>
    if full then abortCode l 0x2B aditSource s
    else match freeSumpOf s part with
      | some i => refreshSump part r.entry (take i s)
      | none => abortCode l 0x2B aditSource s
where
  /-- Take a sump and park its first row. -/
  take (i : Nat) (s : State) : State :=
    sumpPip i 1 (parkIn i r (modSump i (fun u =>
      { u with launch := r.pkt.launch, entry := r.entry, order := s.opId, draining := false }) s).bump)

/-- ROW_PARKING (R419, R420). -/
def execRowParking (s : State) : Result :=
  .next (match s.ev with
    | some (.rowParking part r) =>
      if liveLaunch s r.pkt.launch then areaAccess part 2 r.pkt.header r.pkt.launch true (parkRow part r) s else s
    | _ => s)

/-! ### Paging (R422, R423, R428) -/

/-- A weight-store slot that a partition owns (R422): the ownership table admits its paging. -/
def ownsSlot (s : State) (part f k : Nat) : Bool := admitted s 5 (f * 48 + k) 1 part true false

/-- The FREE slots of a field that a partition owns. -/
def freeSlots (s : State) (part f : Nat) : List Nat :=
  (List.range 48).filter fun k => s.slot f k = .free && ownsSlot s part f k

/-- The fields of a partition that take part in paging (R422, R432). -/
def pagingFields (s : State) (part : Nat) : List Nat := (s.part part).fields.filter fun f => !(s.field f).lost

/-- The field with the most free slots, ties to the lowest number (R422). -/
def bestField (s : State) (part : Nat) : Option Nat :=
  ((pagingFields s part).foldl (fun a f =>
    let n := (freeSlots s part f).length
    if n = 0 then a
    else match a with
      | none => some (f, n)
      | some (g, m) => if m < n || (m = n && f < g) then some (f, n) else some (g, m)) none).map fun x => x.1

/-- A slot becomes FREE (R236, R450): the keys of the banks that name it are cleared. -/
def freeSlot (f k : Nat) (s : State) : State :=
  let clear := fun (b : WBank) => match b.key with
    | some w => if w.slot = k && w.staged.isNone then { b with key := none } else b
    | none => b
  let s := s.setSlot f k .free
  let stale := fun (j : LoadJob) => if j.granted && j.key.slot = k && j.key.staged.isNone then { j with stale := true } else j
  (clustersOf f).foldl (fun s c =>
    if (kget s.clusters c).isSome then
      s.modCluster c fun x => { x with stat := clear x.stat, shad := clear x.shad, job := x.job.map stale } else s) s

/-- A tile load from a slot is in progress or pending (R428). -/
def slotLoading (s : State) (f k : Nat) : Bool :=
  (clustersOf f).any fun c =>
    (match (s.cluster c).job with
     | some j => j.key.slot = k && j.key.staged.isNone
     | none => false) ||
    (s.cluster c).entries.any fun e => e.selected && e.kind = .product && e.tile.isNone && e.key.slot = k && e.key.staged.isNone

/-- An entry is evictable (R428). -/
def evictable (s : State) (part e : Nat) : Bool :=
  let x := s.ertEntry part e
  x.st = 2 && ((sumpsFor s part e none).all fun u => u.2.rows.isEmpty) &&
    !(x.bind ≠ 0 && dataSub s (bindHome s part x) (bindName x) none) && !slotLoading s x.field x.slot

/-- The entries of a partition, by index. -/
def entriesOf (s : State) (part : Nat) : List (Nat × ErtEntry) :=
  (s.ert.filter fun x => x.1 / 65536 = part).map fun x => (x.1 % 65536, x.2)

/-- The evictable entry with the oldest LASTUSE, ties to the lowest index, in a field that takes part in paging (R428). -/
def oldest (s : State) (part : Nat) : Option Nat :=
  (((entriesOf s part).filter fun x => evictable s part x.1 && (pagingFields s part).contains x.2.field).foldl (fun a x => match a with
    | none => some x
    | some y => if x.2.lastuse < y.2.lastuse then some x else some y) none).map fun x => x.1

/-- An entry is evicted or released (R428, R429): ABSENT, its slot FREE. -/
def evict (part e : Nat) (s : State) : State :=
  let x := s.ertEntry part e
  freeSlot x.field x.slot (setEntry part e 0 (fun x => { x with field := 0, slot := 0, pinned := false }) s)

/-- The paging requests of an entry (R422): 32 tiles each, read from HOME and written to the slot. They belong to no launch: theirs is no 32-bit
identity. A place beyond 57 bits is taken modulo 2^57 (DESIGN CHOICE, log 59). DESIGN CHOICE (log 110): request i is one of engine i mod 8 of the
agent. -/
def pageOps (s : State) (part e f k : Nat) : List COp :=
  let x := s.ertEntry part e
  (List.range ((x.tiles + 31) / 32)).map fun i =>
    let n := min 32 (x.tiles - 32 * i) * 32768
    { id := s.opId + i, kind := .page, opc := 6, core := 0, bank := false, task := 0, launch := 2 ^ 32 + part * 2 ^ 28, part := part,
      gid := x.bind / 2 ^ 20, grp := none, phase := 0, place := .queued, iface := 0,
      engine := 336 + 8 * (s.part part).ertAgent + i % 8, loc := (Space.wstore f).key (k * 2 ^ 25 + i * 2 ^ 20), ring := 0, len := n, rows := 1, stride := 0, pitch := 0, req := none,
      boxes := rowBoxes (x.home + i * 2 ^ 20) n 0, slots := [], dst := e, wide := false, aop := 0, opnd := f * 48 + k, cmp := 0,
      pkts := [], send := [], rel := false, after := [], before := [], fault := none, cancelled := false, gslots := [],
      retryAt := none, got := [], ahead := [] }

/-- A page takes a slot (R422 steps 2 and 3): slot and entry LOADING, and the adit engines' requests. TILES out of range fails (R423). -/
def pageInto (part e f k : Nat) (s : State) : State :=
  let s := s.setSlot f k .loading
  let s := setEntry part e 1 (fun x => { x with field := f, slot := k, wanting := false }) s
  let t := (s.ertEntry part e).tiles
  if t = 0 || 1024 < t then post (.pageFailure part e 0x2C) s
  else
    let os := pageOps s part e f k
    { s with ops := os.foldl (fun m o => kset m o.id o) s.ops, opId := s.opId + os.length }

/-- Ask launch firmware (R428), with a fresh handle. -/
def askPolicy (part e : Nat) (ev : Bool) (s : State) : State :=
  let r : PolicyReq := ⟨part, s.opId % 2 ^ 32, e, ev, s.now⟩
  let s : State := { s with policy := s.policy ++ [r] }
  (s.note 5 (r.handle * 2 ^ 32 + part * 2 ^ 20 + (if ev then 2 ^ 16 else 0) + e)).bump

/-- The hardware choice of a field and slot (R422); any FREE slot of the field may be taken. Without one, the page waits. -/
def pageHardware (part e : Nat) (s : State) : State :=
  match bestField s part with
  | some f =>
    let l := freeSlots s part f
    pageInto part e f (l.getD (s.choose 1 l.length) 0) s
  | none => s.modErt part e fun x => { x with wanting := true }

/-- The hardware choice of an eviction (R428): the page takes the slot so freed, or waits. -/
def evictHardware (part e : Nat) (s : State) : State :=
  match oldest s part with
  | some v =>
    let x := s.ertEntry part v
    pageInto part e x.field x.slot (evict part v s)
  | none => s.modErt part e fun x => { x with wanting := true }

/-- Some request of a page is before launch firmware. -/
def asked (s : State) (part e : Nat) : Bool := s.policy.any fun r => r.part = part && r.e = e

/-- A page for which no field has a slot (R428): launch firmware names the entry to evict, where one is evictable and it has been given the
choice; else the hardware does, and with none the page waits. -/
def evictFor (part e : Nat) (s : State) : State :=
  if (s.part part).evsel && (oldest s part).isSome then askPolicy part e true (s.modErt part e fun x => { x with wanting := true })
  else evictHardware part e s

/-- A request for an eviction is before launch firmware, and no entry is evictable any more (R428). -/
def askedInVain (s : State) (part e : Nat) : Bool :=
  (oldest s part).isNone && s.policy.any fun r => r.part = part && r.e = e && r.evict

/-- A page starts (R422) where the entry is ABSENT and its page is not before launch firmware. DESIGN CHOICE (log 103): a page that is waits as
any page does while no entry is evictable, and its request is withdrawn when a slot has become free. -/
def pageStart (part e : Nat) (s : State) : State :=
  let p := s.part part
  if (s.ertEntry part e).st ≠ 0 then s
  else if asked s part e then
    if askedInVain s part e && (bestField s part).isSome then
      let u : State := { s with policy := s.policy.filter fun r => !(r.part = part && r.e = e) }
      if p.fsel then askPolicy part e false u else pageHardware part e u
    else s
  else if (bestField s part).isSome then (if p.fsel then askPolicy part e false s else pageHardware part e s)
  else evictFor part e s

/-- Waiting pages are tried again at a residency change of the partition (R428). -/
def retryPages (part : Nat) (s : State) : State :=
  ((entriesOf s part).filter fun x => x.2.wanting && x.2.st = 0).foldl (fun s x => pageStart part x.1 s) s

/-- A page is asked for (R422); where it starts, that is a residency change, perhaps with an eviction (R428). -/
def startPage (part e : Nat) (s : State) : State :=
  let t := pageStart part e s
  if (s.ertEntry part e).st = 0 && (t.ertEntry part e).st = 1 then retryPages part t else t

/-- The paging requests of an entry that have not ended. -/
def pagingOut (s : State) (part e : Nat) : Bool := s.ops.any fun o => o.2.kind = .page && o.2.part = part && o.2.dst = e

/-- A page is whole (R422): every write has been performed. -/
def sealable (s : State) (part e : Nat) : Bool :=
  (s.ertEntry part e).st = 1 && !pagingOut s part e &&
    !(s.agenda.any fun x => match x with | .pageFailure p k _ => p = part && k = e | _ => false)

/-- A residency change reaches the distributors, where the entry has become RESIDENT or PINNED (R422, R424). -/
def noticeDistributors (part e : Nat) (s : State) : State := post (.residencyNotice part e (s.ertEntry part e).field) s

/-- PAGE_SEAL (R422, R430). -/
def execPageSeal (s : State) : Result :=
  .next (match s.ev with
    | some (.pageSeal part e) =>
      if !sealable s part e then s
      else
        let x := s.ertEntry part e
        let s := s.setSlot x.field x.slot .sealed
        let s := setEntry part e (if x.pinned then 3 else 2) (fun x => { x with pinned := false, lastuse := taiNs s }) s
        retryPages part (noticeDistributors part e s)
    | _ => s)

/-- A page fails with a cause (R423): the slot becomes FREE and the entry ABSENT; with the weight-slot write cause the slot, which is not
LOADING, is unchanged (R236). -/
def dropPage (part e : Nat) (code : BitVec 8) (s : State) : State :=
  if code = 0x25 then setEntry part e 0 (fun x => { x with field := 0, slot := 0, pinned := false }) s else evict part e s

/-- PAGE_FAILURE (R423): the page is dropped; the launches with parked rows are aborted, and their rows discarded. -/
def execPageFailure (s : State) : Result :=
  .next (match s.ev with
    | some (.pageFailure part e code) =>
      let x := s.ertEntry part e
      if x.st ≠ 1 then s
      else
        let us := sumpsFor s part e none
        let s := discardOps (fun o => o.kind = .page && o.part = part && o.dst = e) s
        let s := { s with
          agenda := s.agenda.filter (fun x => match x with | .pageFailure p k _ => !(p = part && k = e) | _ => true) }
        let s := us.foldl (fun s u => abortCode u.2.launch code aditSource s) s
        let s := us.foldl (freeSump 5) s
        retryPages part (dropPage part e code s)
    | _ => s)

/-- A pending request of a handle. -/
def policyOf (s : State) (part handle : Nat) : Option PolicyReq := s.policy.find? fun r => r.part = part && r.handle = handle

/-- No answer has come within 2^20 cycles (R428). -/
def policyLate (s : State) (r : PolicyReq) : Bool := r.since + 2 ^ 20 ≤ s.now

/-- The hardware choice for a request (R428); nothing where the entry has left ABSENT. Where a field and slot were asked for and none is
free any more, the page evicts as R428 states. -/
def policyDefault (r : PolicyReq) (s : State) : State :=
  if (s.ertEntry r.part r.e).st ≠ 0 then s
  else if (bestField s r.part).isSome then pageHardware r.part r.e s
  else if r.evict then evictHardware r.part r.e s
  else evictFor r.part r.e s

/-- The answer to a request has been used: where the page has started, that is a residency change (R428). -/
def answered (part e : Nat) (s : State) : State := if (s.ertEntry part e).st = 1 then retryPages part s else s

/-- POLICY_ANSWER (R428): a field and slot, or an entry to evict; an inadmissible one, or one that comes too late, is replaced by the hardware
choice. -/
def execPolicyAnswer (s : State) : Result :=
  .next (match s.ev with
    | some (.policyAnswer part handle a b) =>
      (match policyOf s part handle with
       | none => s
       | some r =>
         let s := { s with policy := s.policy.erase r }
         if (s.ertEntry part r.e).st ≠ 0 then s
         else answered part r.e
           (if policyLate s r then policyDefault r s
            else if r.evict then
              (if evictable s part a && (pagingFields s part).contains (s.ertEntry part a).field then
                let x := s.ertEntry part a
                pageInto part r.e x.field x.slot (evict part a s)
              else policyDefault r s)
            else if (pagingFields s part).contains a && (freeSlots s part a).contains b then pageInto part r.e a b s
            else policyDefault r s))
    | _ => s)

/-- POLICY_TIMEOUT (R428). -/
def execPolicyTimeout (s : State) : Result :=
  .next (match s.ev with
    | some (.policyTimeout part handle) =>
      (match policyOf s part handle with
       | none => s
       | some r => if policyLate s r then answered r.part r.e (policyDefault r { s with policy := s.policy.erase r }) else s)
    | _ => s)

/-! ### Hints and commands (R427, R429) -/

/-- A hint at an entry (R427): 0 prefetch, 1 pin, 2 unpin. -/
def hintAt (part e hint : Nat) (s : State) : State :=
  let st := (s.ertEntry part e).st
  if hint = 0 then
    if st = 0 then startPage part e s
    else if st = 2 || st = 3 then s.modErt part e fun x => { x with lastuse := taiNs s }
    else s
  else if hint = 1 then
    if st = 0 then startPage part e (s.modErt part e fun x => { x with pinned := true })
    else if st = 1 then s.modErt part e fun x => { x with pinned := true }
    else if st = 2 then retryPages part (setEntry part e 3 id s)
    else s
  else if hint = 2 then
    if st = 1 then s.modErt part e fun x => { x with pinned := false }
    else if st = 3 then retryPages part (setEntry part e 2 id s)
    else s
  else s

/-- A state change of an entry by a master, through the ERT's access table (R503 to R505). -/
def atErt (part e : Nat) (m : Master) (f : State → State) (s : State) : State :=
  checked s 2 (part * 65536 + e) m.cls m.part true false f fun s => s.note 3 (part * 65536 + e)

/-- HINT_AT_ERT_AGENT (R409, R427): a refused hint is dropped and logged. -/
def execHintAtErtAgent (s : State) : Result :=
  .next (match s.ev with
    | some (.hintAtErtAgent part e hint _ _) => atErt part e ⟨0, part, 0⟩ (hintAt part e hint) s
    | _ => s)

/-- ERTCMD_PREFETCH (R429). -/
def execErtcmdPrefetch (s : State) : Result :=
  .next (match s.ev with
    | some (.ertcmdPrefetch part e m) => onBar (atErt part e m (hintAt part e 0)) s
    | _ => s)

/-- ERTCMD_PIN (R429). -/
def execErtcmdPin (s : State) : Result :=
  .next (match s.ev with
    | some (.ertcmdPin part e m) => onBar (atErt part e m (hintAt part e 1)) s
    | _ => s)

/-- ERTCMD_UNPIN (R429). -/
def execErtcmdUnpin (s : State) : Result :=
  .next (match s.ev with
    | some (.ertcmdUnpin part e m) => onBar (atErt part e m (hintAt part e 2)) s
    | _ => s)

/-- A release of an entry that is RESIDENT and evictable (R429). -/
def releaseEntry (part e : Nat) (s : State) : State := if evictable s part e then retryPages part (evict part e s) else s

/-- ERTCMD_RELEASE (R429). -/
def execErtcmdRelease (s : State) : Result :=
  .next (match s.ev with
    | some (.ertcmdRelease part e m) => onBar (atErt part e m (releaseEntry part e)) s
    | _ => s)

/-! ### Writes of the table (R416) -/

/-- The bytes of an entry as software writes them: BIND, HOME, TILES and STATE (R415). -/
def ertImage (x : ErtEntry) : Nat := x.bind * 2 ^ 192 + x.home * 2 ^ 64 + x.tiles * 2 ^ 17 + x.st

/-- A number with `n` bytes from byte `o` replaced. -/
def overlay (old o n v : Nat) : Nat :=
  old / 2 ^ (8 * (o + n)) * 2 ^ (8 * (o + n)) + v % 2 ^ (8 * n) * 2 ^ (8 * o) + old % 2 ^ (8 * o)

/-- A home learns of a new binding: its copy of the entry's STATE. -/
def bindView (part e : Nat) (s : State) : State :=
  let x := s.ertEntry part e
  let s := { s with routers := s.routers.map fun (r : Nat × Router) =>
    (r.1, { r.2 with experts := r.2.experts.filter fun v => !(v.part = part && v.e = e) }) }
  if x.bind = 0 then s else modView (bindHome s part x) part e (fun v => { v with st := x.st, field := x.field }) s

/-- A write that R416 ignores whole is logged as a refused access (R416, R505). -/
def refuseErt (part e : Nat) (m : Master) (s : State) : State :=
  (violate s 2 (part * 65536 + e) m.cls m.part true).note 3 (part * 65536 + e)

/-- A write of `n` bytes from byte `o` of an entry (R416), by a master. -/
def writeErt (part e o n v : Nat) (m : Master) (s : State) : State :=
  let x := s.ertEntry part e
  let w := overlay (ertImage x) o n v
  let bind := bitsNat w 223 192
  if 1 ≤ x.st && x.st ≤ 3 then refuseErt part e m s
  else if bind ≠ 0 && (entriesOf s part).any (fun y => y.1 ≠ e && y.2.bind = bind) then refuseErt part e m s
  else
    let free := x.st = 4 && o = 0 && w % 8 = 0
    let s := s.modErt part e fun x => { x with bind := bind, home := bitsNat w 120 64, tiles := bitsNat w 27 17 }
    let s := if bind ≠ x.bind then bindView part e s else s
    if free then retryPages part (setEntry part e 0 (fun x => { x with field := 0, slot := 0 }) s) else s

/-- A write into the table (R416). An access that is no aligned run of 4 to 32 bytes of one entry is ignored. -/
def ertAccess (a : RegAccess) (s : State) : State :=
  let k := a.off - 0x1000000
  let part := k / 0x200000
  let e := k % 0x200000 / 32
  let o := k % 32
  if a.off < 0x1000000 || 16 ≤ part || a.width % 4 ≠ 0 || a.width = 0 || o % 4 ≠ 0 || 32 < o + a.width then s
  else checked s 2 (part * 65536 + e) a.by'.cls a.by'.part true false (writeErt part e o a.width a.value a.by') id

/-- ERT_WRITE (R416). -/
def execErtWrite (s : State) : Result :=
  .next (match s.ev with
    | some (.ertWrite a) => onBar (ertAccess a) s
    | _ => s)

/-! ### Rows at their home (R418, R425, R430) -/

/-- The adit agent that hosts the launch's sump for an entry (R419): that of the sump in use, or of the one that the agent takes next. Rows
that wait already go first, at one agent (R425). -/
def sumpAgent (s : State) (part e l : Nat) : Nat :=
  match s.rim.find? fun r => r.work.parks part e l with
  | some r => r.agent
  | none =>
    match (sumpsFor s part e (some l)).getLast? with
    | some u => u.1 % 24
    | none => match freeSumpOf s part with
      | some i => i % 24
      | none => (s.part part).ertAgent

/-- The home parks a row (R418): it goes to the agent of the launch's sump, in its partition's rim slots. -/
def sendToSump (h part e : Nat) (p : Packet) (s : State) : State :=
  let a := sumpAgent s part e p.launch
  rimWait a part (.rowParking part ⟨p, e⟩) (noteWay p.launch (some p.phase) (way h (aditRouter a).1)
    (modView h part e (fun v => { v with parked := sadd v.parked p.launch }) s))

/-- The home forwards a row directly (R418): the entry is RESIDENT or PINNED, no sump holds rows of the launch for it, and a data subscription
of the launch is installed. -/
def rowForwards (s : State) (part e : Nat) (p : Packet) : Bool :=
  let h := homeOf s p.name p.launch
  let v := viewOf s h part e
  (v.st = 2 || v.st = 3) && !v.parked.contains p.launch && dataSub s h p.name (some p.launch)

/-- A row can be dealt with at its home: where it is copied, its tree has transit granules (R338). -/
def rowGoes (s : State) (p : Packet) : Bool :=
  match boundEntry s (partOf p.launch) p.name with
  | some e => !rowForwards s (partOf p.launch) e p || treeRoom s (homeOf s p.name p.launch) p
  | none => treeRoom s (homeOf s p.name p.launch) p

/-- A row for a bound tensor at its home (R418). -/
def rowAtHome (h part e : Nat) (p : Packet) (s : State) : State :=
  let v := viewOf s h part e
  if v.st = 4 then postAbort s p.launch 0x04 (BitVec.ofNat 32 v.field)
  else if rowForwards s part e p then forwardRow h part e p s
  else
    let s := sendToSump h part e p s
    if v.st = 0 then startPage part e s else s

/-- ROW_AT_HOME (R418). A row of a tensor that nothing binds is forwarded. -/
def execRowAtHome (s : State) : Result :=
  .next (match s.ev with
    | some (.rowAtHome p) =>
      if !liveLaunch s p.launch then s
      else
        let h := homeOf s p.name p.launch
        match boundEntry s (partOf p.launch) p.name with
        | none => crossOut p (forward h p s)
        | some e => rowAtHome h (partOf p.launch) e p s
    | _ => s)

/-- The launches with rows of an entry in sumps. -/
def launchesParked (s : State) (part e : Nat) : List Nat := ((sumpsFor s part e none).map fun u => u.2.launch).dedup

/-- STATE_NOTICE (R418): the home's copy follows. ABSENT with parked rows starts a page; LOST aborts the launches with parked rows, those on
their way to a sump among them. -/
def execStateNotice (s : State) : Result :=
  .next (match s.ev with
    | some (.stateNotice part e st f) =>
      let x := s.ertEntry part e
      if x.bind = 0 then s
      else
        let h := bindHome s part x
        let s := modView h part e (fun v => { v with st := st, field := f }) s
        let v := viewOf s h part e
        if st = 0 && (!(launchesParked s part e).isEmpty || v.parked.any (parkingOut s part e)) then startPage part e s
        else if st = 4 then
          ((launchesParked s part e ++ v.parked.filter (parkingOut s part e)).dedup).foldl
            (fun s l => postAbort s l 0x04 (BitVec.ofNat 32 f)) s
        else s
    | _ => s)

/-- The home can ask for a drain (R425): the first and third conditions of R418 hold and a sump of the launch is in use. One row is read back
at a time; with rows on their way to an empty sump it waits for them. -/
def drainReady (s : State) (part e l : Nat) : Bool :=
  !unparking s part e l && mayForward s part e l && !(sumpsFor s part e (some l)).isEmpty &&
    ((oldestRow s part e l).isSome || !parkingOut s part e l)

/-- SUMP_DRAIN (R425): the agent reads the oldest row back in a slot of the partition (R88), and a sump that begins to drain leaves a pip. Where
none is left and none is on its way any more, the sumps become free and new rows are forwarded directly. -/
def execSumpDrain (s : State) : Result :=
  .next (match s.ev with
    | some (.sumpDrain part e l) =>
      if !drainReady s part e l then s
      else match oldestRow s part e l with
        | some (u, _) =>
          let s := if u.2.draining then s else modSump u.1 (fun u => { u with draining := true }) (sumpPip u.1 3 s)
          rimQueue (u.1 % 24) part (.unpark part e l) s
        | none => freeEmptied part e l s
    | _ => s)

/-! ### Expert tasks (R424) -/

/-- The entry that makes a task an expert task (R424). -/
def expertEntry (s : State) (t : TaskInst) : Option Nat :=
  t.subs.findSome? fun x =>
    if x.nodata || x.dynamic || x.pat.mask.extractLsb' 32 20 ≠ 0xFFFFF then none
    else boundEntry s (partOf t.launch) x.pat.value

/-- RESIDENCY_NOTICE (R424): the expert tasks of the entry that are PENDING in other fields pass to the distributor of FIELD. DESIGN CHOICE (log
105): the pool of FIELD takes them even where it holds 1,024 entries. -/
def execResidencyNotice (s : State) : Result :=
  .next (match s.ev with
    | some (.residencyNotice part e f) =>
      { s with tasks := s.tasks.map fun (x : Nat × TaskInst) =>
          (x.1, if x.2.st = .pending && partOf x.2.launch = part && expertEntry s x.2 = some e then { x.2 with field := f } else x.2) }
    | _ => s)

/-! ### Publications (R339, R418, R400) -/

/-- PUBLICATION_AT_HOME (R339): retained, forwarded, and the answer to parked GETs; a pip to a bound tensor whose entry is ABSENT starts a
page; a collective publication leaves its step records (R400). -/
def execPublicationAtHome (s : State) : Result :=
  .next (match s.ev with
    | some (.publicationAtHome p) =>
      if !liveLaunch s p.launch then s
      else
        let h := homeOf s p.name p.launch
        let s := if p.coll && p.kind = 0 then stepRecord h 0x31 p (stepRecord h 0x30 p s) else s
        let s := publishHome h p s
        match boundEntry s (partOf p.launch) p.name with
        | some e => if p.kind = 1 && (viewOf s h (partOf p.launch) e).st = 0 then startPage (partOf p.launch) e s else s
        | none => s
    | _ => s)

/-! ### A lost field's experts (R432) -/

/-- The entries of all partitions whose FIELD is a field and that are LOADING, RESIDENT or PINNED. -/
def entriesIn (s : State) (f : Nat) : List (Nat × Nat) :=
  (s.ert.filter fun x => x.2.field = f && 1 ≤ x.2.st && x.2.st ≤ 3).map fun x => (x.1 / 65536, x.1 % 65536)

/-- Step 1 of R432: the entries become LOST, and paging requests to their slots are discarded, with the failures that they have met;
waiting pages are tried again (R428). -/
def loseEntries (f : Nat) (s : State) : State :=
  let es := entriesIn s f
  let s := discardOps (fun o => o.kind = .page && es.contains (o.part, o.dst)) s
  let s := { s with
    agenda := s.agenda.filter (fun x => match x with | .pageFailure p k _ => !es.contains (p, k) | _ => true) }
  let s := es.foldl (fun s x => setEntry x.1 x.2 4 (fun y => { y with pinned := false }) s) s
  ((es.map fun x => x.1).dedup).foldl (fun s p => retryPages p s) s

/-- The homes of a partition have moved (R333): what they keep of bound tensors moves with them (R418). -/
def moveViews (part : Nat) (s : State) : State :=
  let vs := s.routers.flatMap fun r => r.2.experts.filter fun v => v.part = part
  let s := { s with routers := s.routers.map fun (r : Nat × Router) =>
    (r.1, { r.2 with experts := r.2.experts.filter fun v => v.part ≠ part }) }
  vs.foldl (fun s v => modView (bindHome s part (s.ertEntry part v.e)) part v.e (fun _ => v) s) s

end Sys2Proof.Machine
end

