-- ==== Sys2Proof/Machine/Matrix.lean ====
section
/-! DEFINITION. The M-class instructions as they commit (R306 to R309): operand checks, and entry into the core's staging queue
(R296). What they do when they leave the queue is in MatrixArray.lean. -/

namespace Sys2Proof.Machine

open Sys2Proof

/-- The row count: ROWS, with 128 written as 0 (R306). -/
def MForm.n (f : MForm) : Nat := if f.rows = 0 then 128 else f.rows.toNat

/-- ZF, ST, and the option bit of MDRAIN's SAT, MWAIT's ALL and MFLAGS's clear (R163, R306). -/
def MForm.zf (f : MForm) : Bool := f.opt.getLsbD 0
def MForm.st (f : MForm) : Bool := f.opt.getLsbD 1

/-- The element size of an AFMT (R308). -/
def afmtBytes (t : BitVec 6) : Nat := if t = 1 then 4 else if t = 2 || t = 3 then 2 else 1

/-- The unit size of an instruction's scratchpad operand (R308). -/
def unitSize (k : MKind) (f : MForm) : Nat :=
  match k with
  | .mwlds => 32768
  | .mresc => 8
  | .mstat => 8
  | .mdrain => 128 * afmtBytes f.afmt
  | _ => 256

/-- The units of the operand (R308). -/
def unitCount (k : MKind) (f : MForm) : Nat := if k = .mwlds then 1 else MForm.n f

/-- The ring slots that a ring operand takes (R308): m = ceil(units ÷ q). -/
def slotsNeeded (r : Ring) (u n : Nat) : Nat := (n + r.slotSize / u - 1) / (r.slotSize / u)

/-- The address register AS[16:14] of an address operand (R306). -/
def MForm.ar (f : MForm) : BitVec 3 := f.as.extractLsb' 0 3

/-- Checks 1 to 4 of R309 for a ring or address operand: a cause, or none. -/
def operandFault (k : MKind) (f : MForm) (s : State) : Option (BitVec 8) :=
  let u := unitSize k f
  if f.asrc then
    let a := (s.bank.rdA (MForm.ar f)).base.toNat
    if a % 128 ≠ 0 then some causeMisaligned
    else if (localSpan s s.ctx.core s.bank a (unitCount k f * u)).isNone then some causeAddrRange else none
  else match s.bank.ring f.as.toNat with
    | none => some causeRingRange
    | some r =>
      if r.slotSize < u then some causeMatrixOperand
      else if r.count < slotsNeeded r u (unitCount k f) then some causeMatrixOperand else none

/-- The checks of MSCA's aX and aY (R309). -/
def scaleFault (f : MForm) (s : State) : Option (BitVec 8) :=
  let x := (s.bank.rdA f.rs).base.toNat
  let y := (s.bank.rdA f.cs).base.toNat
  if x % 128 ≠ 0 || y % 128 ≠ 0 then some causeMisaligned
  else if (localSpan s s.ctx.core s.bank x (4 * MForm.n f)).isNone || (localSpan s s.ctx.core s.bank y 512).isNone then
    some causeAddrRange
  else none

/-- An instruction enters its core's staging queue (R296), with the operands it read at issue. -/
def stage (k : MKind) (f : MForm) (addr addr2 : Nat) (s : State) : State :=
  let b := s.bank
  let prio := match kget s.tasks b.task with | some t => t.prio | none => 0
  (s.modCore s.ctx.core fun c =>
    { c with queue := c.queue ++ [⟨s.opId, k, s.ctx.bank, b.task, b.launch.toNat, prio, f, addr, addr2⟩] }).bump

/-- An instruction with a scratchpad operand: checked (R309), then staged. -/
def stageOperand (k : MKind) (f : MForm) (s : State) : State :=
  match operandFault k f s with
  | some c => takeSlotTrap s c
  | none => stage k f (s.bank.rdA (MForm.ar f)).base.toNat 0 s

/-- A product: checks 1 to 5 of R309, then staged. -/
def stageProduct (k : MKind) (f : MForm) (s : State) : State :=
  match operandFault k f s with
  | some c => takeSlotTrap s c
  | none =>
    if f.slot = 63 && s.bank.staged.isNone then takeSlotTrap s causeMatrixOperand
    else stage k f (s.bank.rdA (MForm.ar f)).base.toNat 0 s

/-- MWLD (R312). -/
def execMwld (f : MForm) (s : State) : Result := guarded f.g s (stage .mwld f 0 0)
/-- MWLDS (R313). -/
def execMwlds (f : MForm) (s : State) : Result := guarded f.g s (stageOperand .mwlds f)
/-- MWPRE (R312). -/
def execMwpre (f : MForm) (s : State) : Result := guarded f.g s (stage .mwpre f 0 0)
/-- MMA (R314). -/
def execMma (f : MForm) (s : State) : Result := guarded f.g s (stageProduct .mma f)
/-- MMAO (R314, R315). -/
def execMmao (f : MForm) (s : State) : Result := guarded f.g s (stageProduct .mmao f)
/-- MZERO (R316). -/
def execMzero (f : MForm) (s : State) : Result := guarded f.g s (stage .mzero f 0 0)
/-- MDRAIN (R317). -/
def execMdrain (f : MForm) (s : State) : Result := guarded f.g s (stageOperand .mdrain f)

/-- MSCA (R319). -/
def execMsca (f : MForm) (s : State) : Result :=
  guarded f.g s fun s =>
    match scaleFault f s with
    | some c => takeSlotTrap s c
    | none => stage .msca f (s.bank.rdA f.rs).base.toNat (s.bank.rdA f.cs).base.toNat s

/-- MSTAT (R318). -/
def execMstat (f : MForm) (s : State) : Result := guarded f.g s (stageOperand .mstat f)
/-- MRESC (R320). -/
def execMresc (f : MForm) (s : State) : Result := guarded f.g s (stageOperand .mresc f)
/-- MTRN (R321). -/
def execMtrn (f : MForm) (s : State) : Result := guarded f.g s (stageOperand .mtrn f)

/-- Fault `x` is recorded for the task of bank `b` against one of the tiles, or against the task where `own` (R322). -/
def faultMatches (b : Bool) (task : Nat) (tiles : List Nat) (own : Bool) (x : TileFault) : Bool :=
  x.bank = b && x.task = task && (match x.tile with | some t => tiles.contains t | none => own)

/-- The order in which R322 reports recorded faults: tiles z0 to z3, then the task's own. -/
def faultRank (x : TileFault) : Nat := match x.tile with | some t => t | none => 4

/-- The first recorded fault in that order. -/
def firstFault (l : List TileFault) : Option TileFault :=
  l.foldl (fun a x => match a with | none => some x | some y => if faultRank x < faultRank y then some x else some y) none

/-- The tiles that an MWAIT names (R322). -/
def waitTiles (f : MForm) : List Nat := if MForm.zf f then [0, 1, 2, 3] else [f.z.toNat]

/-- MWAIT (R322): the bundle has waited; a recorded fault of its tiles, under ALL also of the task, is reported. -/
def execMwait (f : MForm) (s : State) : Result :=
  guarded f.g s fun s =>
    let c := s.core s.ctx.core
    match firstFault (c.tileFaults.filter (faultMatches s.ctx.bank s.bank.task (waitTiles f) (MForm.zf f))) with
    | some x => takeTrap (s.modCore s.ctx.core fun c => { c with tileFaults := c.tileFaults.erase x }) x.code
    | none => stage .mwait f 0 0 s

/-- An instruction that samples into s_D when it leaves the queue (R323): until then s_D counts as being written. -/
def stageSample (k : MKind) (f : MForm) (s : State) : State :=
  stage k f 0 0 (s.modBank fun b => { b with pending := b.pending ++ [⟨f.dst.toNat, s.opId⟩] })

/-- MPROG (R323). -/
def execMprog (f : MForm) (s : State) : Result := guarded f.g s (stageSample .mprog f)
/-- MFLAGS (R323). -/
def execMflags (f : MForm) (s : State) : Result := guarded f.g s (stageSample .mflags f)
/-- MHOLD (R324). -/
def execMhold (f : MForm) (s : State) : Result := guarded f.g s (stage .mhold f 0 0)
/-- MFLUSH (R324). -/
def execMflush (f : MForm) (s : State) : Result := guarded f.g s (stage .mflush f 0 0)

end Sys2Proof.Machine
end

