-- ==== Sys2Proof/Machine/MatrixArray.lean ====
section
/-! DEFINITION. The staging queues, the merge buffer, the array and the accumulator ports (R287 to R305, R310 to R325). -/

namespace Sys2Proof.Machine

open Sys2Proof

/-! ### Operands in scratchpad (R308, R310) -/

/-- The bank that issued an operation. -/
def opBank (s : State) (c : Nat) (q : MOp) : Bank := (s.core c).bank q.bank

/-- The ring of a ring operand. -/
def opRing (s : State) (c : Nat) (q : MOp) : Option Ring := (opBank s c q).ring q.form.as.toNat

/-- The keys of the units of an operand that starts at slot position `pos` of its ring, or at its address (R308). A unit of a gang
peer that has ended has no key: key 0 stands for it (R309). -/
def unitKeys (s : State) (c : Nat) (q : MOp) (pos : Nat) : List Nat :=
  let u := unitSize q.kind q.form
  (List.range (unitCount q.kind q.form)).map fun i =>
    if q.form.asrc then (localSpan s c (opBank s c q) (q.addr + i * u) u).getD 0
    else match opRing s c q with
      | none => 0
      | some r =>
        let k := r.slotSize / u
        (Space.spad c).key (r.slotAddr ((pos + i / k) % r.count) + i % k * u)

/-- The key of a unit as it is accessed, 0 where the peer that holds it has ended since (R309). -/
def unitKey (s : State) (c : Nat) (q : MOp) (units : List Nat) (i : Nat) : Nat :=
  if q.form.asrc then (localSpan s c (opBank s c q) (q.addr + i * unitSize q.kind q.form) (unitSize q.kind q.form)).getD 0
  else units.getD i 0

/-- A ring source's slots at the pop position are all FILLED (R297, R310), and no reader has asked for them before (R205). -/
def sourceReady (s : State) (c : Nat) (q : MOp) : Bool :=
  q.form.asrc ||
    match opRing s c q with
    | none => true
    | some r =>
      let m := slotsNeeded r (unitSize q.kind q.form) (unitCount q.kind q.form)
      m ≤ r.taken.length && (r.taken.take m).all (fun t => t.filled) && (r.readers.isEmpty || r.readers.head? = some (.engine q.id))

/-- Do something `n` times. -/
def times {α : Type} : Nat → (α → α) → α → α
  | 0, _, a => a
  | n + 1, f, a => times n f (f a)

/-- The array pops the slots of a ring source (R310). -/
def popSource (c : Nat) (q : MOp) (s : State) : State :=
  if q.form.asrc then s
  else match opRing s c q with
    | none => s
    | some r =>
      s.modBankAt c q.bank fun b => b.modRing q.form.as.toNat fun x =>
        times (slotsNeeded r (unitSize q.kind q.form) (unitCount q.kind q.form)) (fun x => x.pop (.array q.id)) (x.readDone (.engine q.id))

/-- The array releases one slot of a ring source: a ring-slot return (R310, R455). -/
def releaseSlot (c : Nat) (q : MOp) (s : State) : State :=
  passOn q.launch (opBank s c q).phase.toNat (c / 4)
    (s.modBankAt c q.bank fun b => b.modRing q.form.as.toNat fun r => r.release (.array q.id))

/-- After reading unit `i`, a slot whose units have all been read is released (R310). -/
def readUnit (c : Nat) (q : MOp) (i : Nat) (s : State) : State :=
  if q.form.asrc then s
  else match opRing s c q with
    | none => s
    | some r =>
      let k := r.slotSize / unitSize q.kind q.form
      if (i + 1) % k = 0 || i + 1 = unitCount q.kind q.form then releaseSlot c q s else s

/-- The array still holds a ring slot for an operation. -/
def holdsSlots (s : State) (c : Nat) (q : MOp) : Bool :=
  (opBank s c q).rings.any fun r => r.held.any fun h => h.holder = .array q.id && !h.released

/-- Release every slot that the array still holds for an operation: consumed, for phase accounting (R297, R325). -/
def releaseAll (c : Nat) (q : MOp) (s : State) : State :=
  let t := s.modBankAt c q.bank fun b =>
    { b with rings := b.rings.map fun r => times r.count (fun r => r.release (.array q.id)) r }
  if holdsSlots s c q then passOn q.launch (opBank s c q).phase.toNat (c / 4) t else t

/-! ### Tiles, flag words, progress (R294, R304) -/

/-- The key of an accumulator element. -/
def tileKey (c z row col : Nat) : Nat := (Space.tiles c).key (z * 65536 + row * 512 + col * 4)

/-- The key under which a side element's poison is marked: RMAX, or RSUM with `sum`. -/
def sideKey (c z row : Nat) (sum : Bool) : Nat := (Space.tiles c).key (0x40000 + z * 1024 + row * 8 + (if sum then 4 else 0))

/-- The index of a side element. -/
def sideIdx (c z row : Nat) : Nat := c * 512 + z * 128 + row

/-- RMAX of a row (R234). -/
def rmaxOf (s : State) (c z row : Nat) : Word := kgetD s.rmax (sideIdx c z row) 0xFF800000
/-- RSUM of a row (R234). -/
def rsumOf (s : State) (c z row : Nat) : Word := kgetD s.rsum (sideIdx c z row) 0

/-- OR bits into a tile's flag word (R304). -/
def orFlags (c z : Nat) (bits : BitVec 8) (s : State) : State :=
  s.modCore c fun k => { k with tflags := k.tflags.set (Fin.ofNat 4 z) (k.tflags.get (Fin.ofNat 4 z) ||| bits) }

/-- Change a tile's row-progress register where it describes operation `id` (R294). -/
def progress (c z id : Nat) (f : RowProg → RowProg) (s : State) : State :=
  s.modCore c fun k =>
    if (k.rowProg.get (Fin.ofNat 4 z)).op = id then
      { k with rowProg := k.rowProg.set (Fin.ofNat 4 z) (f (k.rowProg.get (Fin.ofNat 4 z))) }
    else k

/-- Record a fault against a tile, or against the task (R303, R309, R312). -/
def recordFault (c : Nat) (q : MOp) (tile : Option Nat) (code : BitVec 8) (s : State) : State :=
  s.modCore c fun k => { k with tileFaults := k.tileFaults ++ [⟨tile, q.bank, q.task, code⟩] }

/-- Record a fault of a port operation, once for the instruction (R309). DESIGN CHOICE (log 87): of MSCA's two tiles, the rule's "the tile named"
is z_D. -/
def recordOnce (c : Nat) (p : PortOp) (code : BitVec 8) (s : State) : State :=
  if (s.core c).port.any fun o => o.op.id = p.op.id && o.bad then s
  else (recordFault c p.op (some p.op.form.z.toNat) code s).modCore c fun k =>
    { k with port := k.port.map fun o => if o.op.id = p.op.id then { o with bad := true } else o }

/-- Write an accumulator row, its poison marks as `psn` says by column. -/
def writeRow (c z row : Nat) (vals : List Nat) (psn : Nat → Bool) (s : State) : State :=
  let s := writeBytes s (tileKey c z row 0) (vals.flatMap fun v => leBytes 4 v)
  let bad := (List.range 128).filter psn
  markPoison (clearPoison s ((List.range 128).map fun j => tileKey c z row j)) (bad.map fun j => tileKey c z row j)

/-- Read an accumulator element's bits. -/
def readElem (s : State) (c z row col : Nat) : Nat := readNat s (tileKey c z row col) 4

/-- An accumulator element is poisoned. -/
def elemPoison (s : State) (c z row col : Nat) : Bool := s.poison.contains (tileKey c z row col)

/-- Poison, if any, sets PSN (R304). -/
def notePsn (c z : Nat) (any : Bool) (s : State) : State := if any then orFlags c z 0x20 s else s

/-- The flags of a row's steps as bits of a flag word (R304). -/
def flagBits (f : Fl) : BitVec 8 := f.bits.setWidth 8

/-! ### Elements (R64, R287) -/

/-- The value of an element in a matrix format. -/
def matVal (t : BitVec 6) (v : Nat) : FVal := if isB8 t then (b8Of t).decode v else (fmtOf t).decode v

/-- Element `k` of an A row (R287). -/
def aElem (t : BitVec 6) (row : List Byte) (k : Nat) : FVal :=
  if isB8 t then matVal t (row.getD k 0).toNat else matVal t (leNat ((row.drop (2 * k)).take 2))

/-- Element (k, n) of a weight tile at a key (R287). -/
def bElem (s : State) (key : Nat) (t : BitVec 6) (k n : Nat) : FVal :=
  if isB8 t then matVal t (readNat s (key + 128 * k + n) 1) else matVal t (readNat s (key + (128 * k + n) * 2) 2)

/-- The steps of a cell along K (R64): `left` steps remain, each of `w` products. -/
def cellSteps (a b : Nat → FVal) (w : Nat) : Nat → Nat → Nat × Fl → Nat × Fl
  | 0, _, acc => acc
  | n + 1, k, acc =>
    let r := FFmt.f32.roundTerms .rne
      ([FFmt.f32.decode acc.1] :: (List.range w).map fun t => [a (k + t), b (k + t)])
    cellSteps a b w n (k + w) (r.1, acc.2.or r.2)

/-- One column of a row result (R64, R292). -/
def cellResult (s : State) (q : MOp) (row : List Byte) (load n acc : Nat) : Nat × Fl :=
  let w := if isB8 q.form.bfmt then 2 else 1
  cellSteps (aElem q.form.afmt row) (fun k => bElem s ((Space.wload load).key 0) q.form.bfmt k n) w 128 0 (acc, Fl.none)

/-! ### Entries -/

/-- Change a merge-buffer entry. -/
def modEntry (k num : Nat) (f : MEntry → MEntry) (s : State) : State :=
  s.modCluster k fun x => { x with entries := x.entries.map fun e => if e.num = num then f e else e }

/-- An entry by number. -/
def Cluster.entry (x : Cluster) (num : Nat) : Option MEntry := x.entries.find? fun e => e.num = num

/-- Real rows of an entry. -/
def MEntry.rows (e : MEntry) : Nat := e.segs.foldl (fun n g => n + g.n) 0

/-- Row positions: 32 · ceil(rows ÷ 32) (R290); a load entry has none. -/
def MEntry.positions (e : MEntry) : Nat := (MEntry.rows e + 31) / 32 * 32

/-- The effective priority (R301). -/
def MEntry.prio (e : MEntry) : Nat := e.segs.foldl (fun n g => max n g.op.prio) 0

/-- The core of a segment. Only MSCA has a second operand address and it never becomes a segment, so a segment's operation keeps
its core there (`mkSeg`). -/
def segCore (g : Seg) : Nat := g.op.addr2

/-- Row `r` of a segment has not been written or discarded (R293, R315). -/
def rowPending (s : State) (g : Seg) (r : Nat) : Bool :=
  !g.aborted && r < g.n &&
    (g.fired ≤ r || (s.core (segCore g)).flights.any fun x => x.op.id = g.op.id && x.row = r)

/-- A segment has real rows not yet written or discarded. -/
def segBusy (s : State) (g : Seg) : Bool := (List.range g.n).any (rowPending s g)

/-- Stack positions from the row counts (R298). -/
def restack : Nat → List Seg → List Seg
  | _, [] => []
  | n, g :: r => { g with first := n } :: restack (n + g.n) r

/-- The ready conditions 1, 2 and 4 of R299, and h = 0. -/
def MEntry.readyNow (e : MEntry) : Bool :=
  e.solo || 128 ≤ MEntry.rows e || 8 ≤ e.segs.length || e.segs.any fun g => 6 ≤ g.op.prio || g.h = 0

/-- An entry is freed (R301); a load made for it goes on into the shadow bank (R303). -/
def Cluster.drop (x : Cluster) (num : Nat) : Cluster :=
  { x with entries := x.entries.filter fun e => e.num ≠ num,
           current := if x.current = some num then none else x.current,
           next := if x.next = some num then none else x.next,
           job := x.job.map fun j => if j.entry = num then { j with entry := 16 } else j }

/-- Free an entry all of whose real rows have been written or discarded (R301). A selected entry that has fired something keeps its
place until its positions have fired. -/
def settleEntry (k num : Nat) (s : State) : State :=
  let x := s.cluster k
  match x.entry num with
  | none => s
  | some e =>
    if e.segs.any (segBusy s) || (e.selected && e.fired ≠ 0 && e.fired < MEntry.positions e) then s
    else s.modCluster k fun x => x.drop num

/-- Change the segment of an operation. -/
def modSeg (k num id : Nat) (f : Seg → Seg) (s : State) : State :=
  modEntry k num (fun e => { e with segs := e.segs.map fun h => if h.op.id = id then f h else h }) s

/-- Abort a segment (R303): it leaves an unselected entry, or keeps its positions as padding; ABORT is set in its tile's flag word, a fault is
recorded where it has one, and WFLT where the weight load failed. Of an MTRN the tile rows still to be written are written no more. DESIGN CHOICE
(log 86): the row slots of its rows in the pipeline are free at once. DESIGN CHOICE (log 98): so are the ring slots that it has popped and not read.
DESIGN CHOICE (log 107): rows that are discarded raise no event 3. -/
def abortSeg (k num : Nat) (g : Seg) (code : Option (BitVec 8)) (wflt : Bool) (s : State) : State :=
  let c := segCore g
  let z := g.op.form.z.toNat
  let s := orFlags c z (if wflt then 0xC0 else 0x80) s
  let s := match code with
    | some x => recordFault c g.op (some z) x s
    | none => s
  let s := progress c z g.op.id (fun p => { p with busy := false }) s
  let s := s.modCore c fun x =>
    { x with flights := x.flights.filter (fun f => f.op.id ≠ g.op.id), port := x.port.filter fun p => p.op.id ≠ g.op.id }
  let s := releaseAll c g.op s
  let s := modEntry k num (fun e =>
    if e.selected then
      { e with segs := e.segs.map fun h => if h.op.id = g.op.id then { h with aborted := true, fault := code } else h }
    else { e with segs := restack 0 (e.segs.filter fun h => h.op.id ≠ g.op.id) }) s
  settleEntry k num s

/-- A load entry rather than an operation of the array. -/
def MEntry.isLoad (e : MEntry) : Bool := e.kind = .load || e.kind = .prefetch || e.kind = .staged

/-- A load entry is over, with the fault or poison that it met: a fault of the task, or discarded for a prefetch (R312, R313). -/
def endLoadEntry (k : Nat) (e : MEntry) (bad : Option (BitVec 8)) (s : State) : State :=
  let s := s.modCluster k fun x => x.drop e.num
  match bad, e.segs with
  | some code, g :: _ => if e.kind = .prefetch then s else recordFault (segCore g) g.op none code s
  | _, _ => s

/-- Abort every segment of an entry (R303, R471), with WFLT where its weight load has failed; a load entry has no rows and targets no
tile. -/
def abortEntry (k num : Nat) (code : BitVec 8) (wflt : Bool) (s : State) : State :=
  match (s.cluster k).entry num with
  | none => s
  | some e =>
    if e.isLoad then endLoadEntry k e (some code) s
    else e.segs.foldl (fun s g => if g.aborted then s else abortSeg k num g (some code) wflt s) s

/-- An operation of a task has finished its rows: event 3 (R214). -/
def finishRows (c : Nat) (q : MOp) (s : State) : State := raiseEvent s c q.bank 3

/-! ### Leaving the staging queue (R296, R297) -/

/-- The head leaves its queue. -/
def unqueue (c : Nat) (s : State) : State := s.modCore c fun k => { k with queue := k.queue.drop 1 }

/-- The weight key that a product or load names (R288, R313), with the staged source of its bank in force. -/
def keyOf (s : State) (c : Nat) (q : MOp) : WKey :=
  if q.kind = .mwlds || q.form.slot = 63 then ⟨63, 0, q.form.bfmt, some (c, q.bank, (opBank s c q).stageCount)⟩
  else ⟨q.form.slot.toNat, q.form.tile.toNat, q.form.bfmt, none⟩

/-- The access and slot-state checks of R297: a cause, or none. -/
def slotFault (s : State) (c : Nat) (q : MOp) : Option (BitVec 8) :=
  let f := fieldOf c
  if !admitted s 5 (f * 48 + q.form.slot.toNat) 0 (partOf q.launch) false true then some 0x24
  else match s.slot f q.form.slot.toNat with
    | .free => some 0x22
    | .loading => some 0x23
    | .sealed => none

/-- A violation of the slot's ownership is recorded (R505). -/
def noteSlotViolation (c : Nat) (q : MOp) (code : BitVec 8) (s : State) : State :=
  if code = 0x24 then violate s 5 (fieldOf c * 48 + q.form.slot.toNat) 0 (partOf q.launch) false else s

/-- Why a product faults at admission (R297, R313). -/
def admissionFault (s : State) (c : Nat) (q : MOp) : Option (BitVec 8) :=
  if q.kind = .mtrn then none
  else if q.form.slot.toNat ≤ 47 then slotFault s c q
  else match (opBank s c q).staged with
    | some x => if x.bfmt = q.form.bfmt then none else some causeMatrixOperand
    | none => some causeMatrixOperand

/-- A free entry number, of the 16 (R298). DESIGN CHOICE (log 88): the lowest. -/
def freeEntry (x : Cluster) : Option Nat := (List.range 16).find? fun n => (x.entry n).isNone

/-- The segment of an operation. -/
def mkSeg (s : State) (c : Nat) (q : MOp) (units : List Nat) : Seg :=
  let b := opBank s c q
  ⟨{ q with addr2 := c }, 0, MForm.n q.form, s.clk c,
    if b.hold = 0 then (s.cluster (c / 4)).mholdc.toNat else b.hold.toNat, units, 0, false, 0, false, none⟩

/-- A segment has waited its hold limit (R299). -/
def holdReached (s : State) (k : Nat) (e : MEntry) : Bool := !e.ready && e.segs.any fun g => g.h ≤ s.clk (4 * k) - g.since

/-- An entry is ready (R299), also by a hold limit reached in this very cycle (R302). -/
def isReady (s : State) (k : Nat) (e : MEntry) : Bool := e.ready || holdReached s k e

/-- The entry that a mergeable segment may join (R297): the oldest that fits. Entries stand oldest first. -/
def joinable (s : State) (k : Nat) (key : WKey) (q : MOp) : Option MEntry :=
  (s.cluster k).entries.find? fun e => e.kind = .product && !isReady s k e && !e.solo && !e.selected && e.key = key && e.afmt = q.form.afmt &&
    MEntry.rows e + MForm.n q.form ≤ 128 && e.segs.length < 8

/-- The row-progress register describes the operation just admitted (R294). -/
def startProgress (c : Nat) (q : MOp) (s : State) : State :=
  s.modCore c fun k => { k with rowProg := k.rowProg.set (Fin.ofNat 4 q.form.z.toNat) ⟨true, 0, 0, q.id⟩ }

/-- Admission of a head whose rows are present (R297). -/
def admitHead (c : Nat) (q : MOp) (s : State) : State :=
  let k := c / 4
  let pos := match opRing s c q with | some r => r.popPos | none => 0
  match admissionFault s c q with
  | some code =>
    let s := (noteSlotViolation c q code s).modCluster k fun x => { x with served := c % 4 }
    recordFault c q (some q.form.z.toNat) code (unqueue c (releaseAll c q (popSource c q s)))
  | none =>
    let g := mkSeg s c q (unitKeys s c q pos)
    let key := if q.kind = .mtrn then ⟨0, 0, 0, none⟩ else keyOf s c q
    let enter := fun (s : State) => startProgress c q (unqueue c (popSource c q (s.modCluster k fun x => { x with served := c % 4 })))
    match (if q.form.mrg && q.kind ≠ .mtrn then joinable s k key q else none) with
    | some e =>
      modEntry k e.num (fun e =>
        let e := { e with segs := e.segs ++ [{ g with first := MEntry.rows e }] }
        { e with ready := MEntry.readyNow e }) (enter s)
    | none =>
      match freeEntry (s.cluster k) with
      | none => s
      | some num =>
        let e : MEntry := ⟨num, if q.kind = .mtrn then .transpose else .product, key, q.form.afmt,
          !q.form.mrg || q.kind = .mtrn, s.clk c, false, false, [g], 0, [],
          if q.form.slot = 63 then (match (opBank s c q).staged with | some x => x.addr | none => 0) else 0, none, 0⟩
        (enter s).modCluster k fun x => { x with entries := x.entries ++ [{ e with ready := MEntry.readyNow e }] }

/-- A list word of an earlier VTOPK of the task has not been written (R272, R437): a read or write of scratchpad by `q` waits for it. -/
def selBefore (s : State) (c : Nat) (q : MOp) : Bool := (s.core c).sel.any fun x => x.bank = q.bank && x.id < q.id && !x.writes.isEmpty

/-- The head of a core's queue is a product or transpose whose rows are present, and the merge buffer can take it (R297). -/
def headReady (s : State) (c : Nat) : Bool :=
  match (s.core c).queue with
  | q :: _ => (q.kind = .mma || q.kind = .mmao || q.kind = .mtrn) && sourceReady s c q && !selBefore s c q &&
      ((admissionFault s c q).isSome || (freeEntry (s.cluster (c / 4))).isSome ||
        (q.form.mrg && (joinable s (c / 4) (keyOf s c q) q).isSome))
  | [] => false

/-- The merge buffer serves this core's head now: queue heads are served in ascending core number, from the core after the one served
last (R297). -/
def admissible (s : State) (c : Nat) : Bool :=
  let k := c / 4
  let turn := fun i => 4 * k + ((s.cluster k).served + 1 + i) % 4
  headReady s c && (((List.range 4).map turn).find? (headReady s)) = some c

/-- SEGMENT_ADMISSION (R297). -/
def execSegmentAdmission (s : State) : Result :=
  .next (match s.ev with
    | some (.segmentAdmission c) =>
      (match (s.core c).queue with
       | q :: _ => if admissible s c then admitHead c q s else s
       | [] => s)
    | _ => s)

/-- Open a load entry (R312, R313): solo, ready at once, without row positions. Nothing happens where no entry is free. -/
def openLoad (c : Nat) (q : MOp) (kind : EntryKind) (key : WKey) (units : List Nat) (s : State) : State :=
  match freeEntry (s.cluster (c / 4)) with
  | none => s
  | some num =>
    let g : Seg := { mkSeg s c q units with n := 0 }
    (unqueue c s).modCluster (c / 4) fun x =>
      { x with entries := x.entries ++ [⟨num, kind, key, 0, true, s.clk c, true, false, [g], 0, [], units.headD 0, none, 0⟩] }

/-- MWLDS leaves the queue (R313): its source becomes the bank's staged source, the replaced ring slot is released, and a load
entry is opened. -/
def stageSource (c : Nat) (q : MOp) (s : State) : State :=
  let pos := match opRing s c q with | some r => r.popPos | none => 0
  let units := unitKeys s c q pos
  if (freeEntry (s.cluster (c / 4))).isNone then s
  else
    let s := match (opBank s c q).staged with
      | some x => (match x.ring with
        | some k => passOn q.launch (opBank s c q).phase.toNat (c / 4)
            (s.modBankAt c q.bank fun b => b.modRing k fun r => r.release (.array x.op))
        | none => s)
      | none => s
    let s := popSource c q s
    let s := s.modBankAt c q.bank fun b =>
      { b with stageCount := b.stageCount + 1,
               staged := some ⟨units.headD 0, q.form.bfmt, b.stageCount + 1, q.id, if q.form.asrc then none else some q.form.as.toNat⟩ }
    openLoad c q .staged (keyOf s c q) units s

/-- The ring destination of MDRAIN or MSTAT (R310): slots in progress that it has claimed. -/
def claimed (s : State) (c : Nat) (q : MOp) : Nat :=
  match opRing s c q with
  | some r => (r.taken.filter fun t => t.filler = .engine q.id && !t.filled).length
  | none => 0

/-- A draining instruction takes the slot at the fill position; it stays the first to ask until it has its last (R205, R310). -/
def Ring.claim (r : Ring) (id : Nat) (last : Bool) : Ring :=
  let r := r.answered (.engine id)
  ((if last then r else { r with asks := .engine id :: r.asks })).take (.engine id)

/-- MDRAIN or MSTAT at the head waits for a slot of its ring and has not asked for one yet (R205, R310). -/
def drainAsks (s : State) (c : Nat) (q : MOp) : Bool :=
  (q.kind = .mdrain || q.kind = .mstat) && !q.form.asrc &&
    match opRing s c q with
    | some r => claimed s c q < slotsNeeded r (unitSize q.kind q.form) (unitCount q.kind q.form) && !r.canTake (.engine q.id) &&
        !r.asks.contains (.engine q.id)
    | none => false

/-- A matrix instruction at the head of its queue reads from a ring: it asks for the slots at the pop position (R205, R310). -/
def sourceAsks (q : MOp) : Bool :=
  !q.form.asrc && (q.kind = .mma || q.kind = .mmao || q.kind = .mtrn || q.kind = .mwlds || q.kind = .mresc)

/-- MDRAIN or MSTAT at the head can claim a slot, or has all its slots (R310). -/
def drainGoes (s : State) (c : Nat) (q : MOp) : Bool :=
  q.form.asrc || match opRing s c q with
    | some r => r.canTake (.engine q.id) || slotsNeeded r (unitSize q.kind q.form) (unitCount q.kind q.form) ≤ claimed s c q
    | none => true

/-- MDRAIN or MSTAT at the head: it claims the slots it needs, one by one, and then leaves (R310). -/
def drainHead (c : Nat) (q : MOp) (s : State) : State :=
  let go := fun (pos : Nat) (s : State) =>
    (unqueue c s).modCore c fun k => { k with port := k.port ++ [⟨q, unitKeys s c q pos, [], 0, MForm.n q.form, false, []⟩] }
  if q.form.asrc then go 0 s
  else match opRing s c q with
    | none => go 0 s
    | some r =>
      let m := slotsNeeded r (unitSize q.kind q.form) (unitCount q.kind q.form)
      let n := claimed s c q
      if n < m then
        if !r.canTake (.engine q.id) then s
        else s.modBankAt c q.bank fun b => b.modRing q.form.as.toNat fun r => r.claim q.id (n + 1 = m)
      else go ((r.slotsOf (.engine q.id)).headD 0) s

/-- MPROG or MFLAGS leaves the queue (R323): the sampled value goes to s_D. -/
def sampleTo (c : Nat) (q : MOp) (v : Word) (s : State) : State :=
  s.modBankAt c q.bank fun b =>
    { b.wrS q.form.dst v with pending := b.pending.filter fun p => p.op ≠ q.id }

/-- The row-progress register as MPROG reads it (R294). -/
def RowProg.word (p : RowProg) : Word :=
  BitVec.ofNat 32 ((if p.busy then 2 ^ 31 else 0) + p.done % 512 * 2 ^ 16 + p.fired % 512)

/-- MFLUSH (R324): every entry not yet ready that holds a segment of the core becomes ready. -/
def flushCore (c : Nat) (s : State) : State :=
  s.modCluster (c / 4) fun x =>
    { x with entries := x.entries.map fun e => if e.segs.any (fun g => segCore g = c) then { e with ready := true } else e }

/-- An operation of the accumulator ports leaves the queue. -/
def toPort (c : Nat) (q : MOp) (s : State) : State :=
  let pos := match opRing s c q with | some r => r.popPos | none => 0
  let units := if q.kind = .mresc then unitKeys s c q pos else []
  let s := if q.kind = .mresc then popSource c q s else s
  (unqueue c s).modCore c fun k => { k with port := k.port ++ [⟨q, units, [], 0, MForm.n q.form, false, []⟩] }

/-- The head of a core's queue leaves it and acts (R296). -/
def dequeue (c : Nat) (q : MOp) (s : State) : State :=
  match q.kind with
  | .mma => s
  | .mmao => s
  | .mtrn => s
  | .mwld =>
    (match slotFault s c q with
     | some code => recordFault c q none code (unqueue c (noteSlotViolation c q code s))
     | none => openLoad c q .load (keyOf s c q) [] s)
  | .mwpre => openLoad c q .prefetch (keyOf s c q) [] s
  | .mwlds => if sourceReady s c q then stageSource c q s else s
  | .mzero => toPort c q s
  | .msca => toPort c q s
  | .mresc => if sourceReady s c q then toPort c q s else s
  | .mdrain => drainHead c q s
  | .mstat => drainHead c q s
  | .mwait => unqueue c s
  | .mprog => sampleTo c q (((s.core c).rowProg.get (Fin.ofNat 4 q.form.z.toNat)).word) (unqueue c s)
  | .mflags =>
    let v := (s.core c).tflags.get (Fin.ofNat 4 q.form.z.toNat)
    let s := sampleTo c q (v.setWidth 32) (unqueue c s)
    if MForm.zf q.form then
      s.modCore c fun k => { k with tflags := k.tflags.set (Fin.ofNat 4 q.form.z.toNat) 0 }
    else s
  | .mhold => (unqueue c s).modBankAt c q.bank fun b => { b with hold := q.form.rows }
  | .mflush => flushCore c (unqueue c s)

/-- The head of a core's queue can leave it, or claim a slot. -/
def dequeuable (s : State) (c : Nat) : Bool :=
  match (s.core c).queue with
  | [] => false
  | q :: _ =>
    let entry := (freeEntry (s.cluster (c / 4))).isSome
    match q.kind with
    | .mma => false
    | .mmao => false
    | .mtrn => false
    | .mwld => entry || (slotFault s c q).isSome
    | .mwpre => entry
    | .mwlds => entry && sourceReady s c q && !selBefore s c q
    | .mresc => sourceReady s c q && !selBefore s c q
    | .msca => !selBefore s c q
    | .mdrain => drainGoes s c q && !selBefore s c q
    | .mstat => drainGoes s c q && !selBefore s c q
    | _ => true

/-- STAGING_DEQUEUE (R296). -/
def execStagingDequeue (s : State) : Result :=
  .next (match s.ev with
    | some (.stagingDequeue c) =>
      (match (s.core c).queue with
       | q :: _ => if dequeuable s c then dequeue c q s else s
       | [] => s)
    | _ => s)

/-! ### Selection and weight loads (R288, R289, R299, R301, R312) -/

/-- HOLD_LIMIT_REACHED (R299). -/
def execHoldLimitReached (s : State) : Result :=
  .next (match s.ev with
    | some (.holdLimitReached k num) => modEntry k num (fun e => if holdReached s k e then { e with ready := true } else e) s
    | _ => s)

/-- A key is in a bank with a usable tile. -/
def WBank.has (b : WBank) (k : WKey) : Bool := b.key = some k && b.load.isSome

/-- The load whose tile a bank holds under a key: the stationary bank, else the shadow bank (R301). -/
def tileFor (x : Cluster) (key : WKey) : Option Nat :=
  if x.stat.has key then x.stat.load else if x.shad.has key then x.shad.load else none

/-- The array may select an entry now (R301, R312): it is idle or nearly done with its operation, and none is selected behind that; a load entry
waits, too, until no selected entry's load is under way. DESIGN CHOICE (log 108): an operation may be selected while the load of another entry still
fills the shadow bank. -/
def selectable (s : State) (k : Nat) (e : MEntry) : Bool :=
  let x := s.cluster k
  isReady s k e && !e.selected && x.next.isNone && (!e.isLoad || x.job.isNone) &&
    match x.current with
    | none => true
    | some n => (match x.entry n with | some y => MEntry.positions y - y.fired ≤ 64 | none => true)

/-- The entry that R301 selects: highest effective priority, then oldest, then lowest number. -/
def bestEntry (s : State) (k : Nat) : Option MEntry :=
  ((s.cluster k).entries.filter (selectable s k)).foldl (fun a e => match a with
    | none => some e
    | some y =>
      if MEntry.prio y < MEntry.prio e ||
        (MEntry.prio y = MEntry.prio e && (e.since < y.since || (e.since = y.since && e.num < y.num))) then some e else some y) none

/-- A weight load begins to fill the shadow bank (R288, R301, R312). -/
def beginLoad (k : Nat) (e : MEntry) (s : State) : State :=
  (s.modCluster k fun x =>
    { x with job := some ⟨e.num, e.key, e.src, false, none, s.opId, false⟩, shad := WBank.empty }).bump

/-- The selected operation gets the tile that a bank holds; where none does, its load begins, once the shadow bank is free for it (R301). DESIGN
CHOICE (log 108): a load that finds another entry's load under way begins when that has ended. -/
def bindTile (k : Nat) (e : MEntry) (s : State) : State :=
  match tileFor (s.cluster k) e.key with
  | some i => modEntry k e.num (fun e => { e with tile := some i }) s
  | none => if (s.cluster k).job.isNone then beginLoad k e s else s

/-- Select an entry (R301, R312). -/
def selectEntry (k : Nat) (e : MEntry) (s : State) : State :=
  let x := s.cluster k
  if e.isLoad then
    if x.stat.has e.key || x.shad.has e.key then
      s.modCluster k fun x => x.drop e.num
    else beginLoad k e (modEntry k e.num (fun e => { e with selected := true }) s)
  else
    let s := (modEntry k e.num (fun e => { e with selected := true }) s).modCluster k fun x => { x with next := some e.num }
    if e.kind = .product then bindTile k e s else s

/-- The selected operation that has no tile yet and no load under way. -/
def tileDue (x : Cluster) : Option MEntry :=
  match x.next, x.job with
  | some n, none => (match x.entry n with
      | some e => if e.kind = .product && e.tile.isNone then some e else none
      | none => none)
  | _, _ => none

/-- ARRAY_SELECTION (R301): an entry is selected, or the selected operation that waited for another load gets its tile. -/
def execArraySelection (s : State) : Result :=
  .next (match s.ev with
    | some (.arraySelection k) =>
      (match bestEntry s k with
       | some e => selectEntry k e s
       | none =>
         (match tileDue (s.cluster k) with
          | some e => bindTile k e s
          | none => s))
    | _ => s)

/-- Tile loads of a field that a bank group serves now (R235). -/
def groupLoads (s : State) (f grp : Nat) : Nat :=
  (s.clusters.filter fun x => fieldOfCluster x.1 = f &&
    (match x.2.job with | some j => j.granted && j.key.slot / 3 = grp && j.key.slot ≤ 47 | none => false)).length

/-- The key of a weight tile in its field's store (R235). -/
def wtileKey (f slot tile : Nat) : Nat := (Space.wstore f).key (slot * 2 ^ 25 + tile * 2 ^ 15)

/-- The scratchpad that holds a staged source is still reached by the bank that staged it: its own core's, or a live gang peer's
(R309, R313). -/
def stagedHeld (s : State) (key : WKey) (src : Nat) : Bool :=
  match key.staged with
  | none => false
  | some (c, b, _) =>
    let x := (s.core c).bank b
    let home := fun (p : Nat) => src / 2 ^ 64 = (Space.spad p).index
    src ≠ 0 && (home c || (List.range x.gangSize.toNat).any fun r => gangLive s x.gangId r && home (gangCore s x.gangId r c))

/-- A bank group grants a load, judging the slot's state (R289); the tile is the one that stands there then (R236, R450). A staged
tile is read at the owning port (R313). -/
def grantLoad (k : Nat) (j : LoadJob) (s : State) : State :=
  let f := fieldOfCluster k
  let bad : Option (BitVec 8) := if j.key.slot = 63 then (if stagedHeld s j.key j.src then none else some causeAddrRange) else
    match s.slot f j.key.slot with
    | .free => some 0x22
    | .loading => some 0x23
    | .sealed => none
  let src := if j.key.slot = 63 then j.src else wtileKey f j.key.slot j.key.tile
  let bad := match bad with
    | some c => some c
    | none => if poisoned s src 32768 then some 0x29 else none
  let s := if bad.isSome then s else writeBytes s ((Space.wload j.id).key 0) (readBytes s src 32768)
  s.modCluster k fun x => { x with job := some { j with granted := true, bad := bad } }

/-- The bank group of a weight-store slot is in its refresh window (R237). -/
def refreshes (s : State) (f slot : Nat) : Bool := (s.field f).refAct && (s.field f).refCur % 16 = slot / 3

/-- The bank group of a load can grant it (R235, R237). -/
def grantable (s : State) (k : Nat) (j : LoadJob) : Bool :=
  let f := fieldOfCluster k
  !j.granted && (j.key.slot = 63 || (groupLoads s f (j.key.slot / 3) < 8 && !refreshes s f j.key.slot))

/-- A granted load can end: it transfers nothing in a window of its bank group (R237). -/
def loadEnds (s : State) (k : Nat) (j : LoadJob) : Bool :=
  j.granted && (j.key.slot = 63 || !refreshes s (fieldOfCluster k) j.key.slot)

/-- WEIGHT_LOAD_GRANT (R289). -/
def execWeightLoadGrant (s : State) : Result :=
  .next (match s.ev with
    | some (.weightLoadGrant k) =>
      (match (s.cluster k).job with
       | some j => if grantable s k j then grantLoad k j s else s
       | none => s)
    | _ => s)

/-- A load ends (R289, R303, R312): the shadow bank holds the tile, under its key unless the slot has become FREE since (R450), or
nothing usable. The operation that it was made for has its tile. -/
def endLoad (k : Nat) (j : LoadJob) (s : State) : State :=
  let e := (s.cluster k).entry j.entry
  let s := s.modCluster k fun x =>
    { x with job := none,
             shad := if j.bad.isSome then WBank.empty else ⟨if j.stale then none else some j.key, some j.id⟩ }
  match e with
  | none => s
  | some e =>
    if e.isLoad then endLoadEntry k e j.bad s
    else match j.bad with
      | some code => abortEntry k e.num code true s
      | none => modEntry k e.num (fun e => { e with tile := some j.id }) s

/-- WEIGHT_LOAD_END (R289). -/
def execWeightLoadEnd (s : State) : Result :=
  .next (match s.ev with
    | some (.weightLoadEnd k) =>
      (match (s.cluster k).job with
       | some j => if loadEnds s k j then endLoad k j s else s
       | none => s)
    | _ => s)

/-! ### Firing and results (R290 to R295) -/

/-- The selected entry can start: its tile is in a bank, or it needs none. -/
def canStart (e : MEntry) : Bool := e.kind = .transpose || e.tile.isSome

/-- The array starts the selected entry, swapping the banks where its tile is the shadow one (R288). -/
def startNext (k : Nat) (s : State) : State :=
  s.modCluster k fun x =>
    match x.current, x.next with
    | none, some n =>
      (match x.entry n with
       | some e =>
         if canStart e then
           let x := { x with current := some n, next := none }
           if e.kind = .transpose || x.stat.load = e.tile then x else { x with stat := x.shad, shad := x.stat }
         else x
       | none => { x with next := none })
    | _, _ => x

/-- The row slots that a core's rows hold (R291): its product rows between firing and result, and the rows of its MTRNs, which are free
when the last tile row that they go into has been written (R321, DEDUCED, log 62). -/
def rowSlots (s : State) (c : Nat) : Nat :=
  (s.core c).flights.length +
    ((s.core c).port.filter fun p => p.op.kind = .mtrn).foldl (fun n p => n + p.data.length) 0 +
    ((s.cluster (c / 4)).entries.filter fun e => e.kind = .transpose && e.segs.any fun g => segCore g = c).foldl
      (fun n e => n + e.data.length) 0

/-- A row slot of the core is free (R291). -/
def rowSlotFree (s : State) (c : Nat) : Bool := rowSlots s c < 152

/-- Real positions that have not fired. -/
def MEntry.realLeft (e : MEntry) : Nat := e.segs.foldl (fun n g => n + (g.n - g.fired)) 0

/-- The lowest-numbered unfired position that is ready (R291): the next row of a segment, which fires as padding once the segment is
aborted (R303), or a padded row behind the last segment. -/
def nextPosition (s : State) (e : MEntry) : Option (Option Seg) :=
  match e.segs.find? fun g => g.fired < g.n && (g.aborted || rowSlotFree s (segCore g)) with
  | some g => some (some g)
  | none => if e.fired + MEntry.realLeft e < MEntry.positions e then some none else none

/-- A real row fires (R291): its A row is read, its ring slot released when read through, its row slot taken. A unit that can no longer
be read is a fault of the segment (R309). -/
def fireRow (k : Nat) (e : MEntry) (g : Seg) (s : State) : State :=
  let c := segCore g
  let r := g.fired
  let key := unitKey s c g.op g.units r
  if key = 0 then
    abortSeg k e.num g (some causeAddrRange) false s
  else
    let row := readBytes s key 256
    let psn := poisoned s key 256
    let s := modEntry k e.num (fun e => { e with data := if e.kind = .transpose then e.data ++ [(row, psn)] else e.data }) s
    let s := if psn then modSeg k e.num g.op.id (fun h => { h with psn := true }) s else s
    let s := progress c g.op.form.z.toNat g.op.id (fun x => { x with fired := x.fired + 1 }) s
    let s := readUnit c g.op r s
    if e.kind = .transpose then s
    else s.modCore c fun x => { x with flights := x.flights ++ [⟨g.op, r, row, psn, e.tile.getD 0⟩] }

/-- The last position of a transpose has fired: its 128 tile rows are written through the accumulator port (R321); its entry stays until they
are (R301). -/
def endTranspose (k : Nat) (e : MEntry) (s : State) : State :=
  let s := s.modCluster k fun x => { x with current := none }
  match e.segs with
  | g :: _ =>
    if g.aborted then s.modCluster k fun x => x.drop e.num
    else (modEntry k e.num (fun e => { e with data := [] }) s).modCore (segCore g) fun c =>
      { c with port := c.port ++ [⟨g.op, [], e.data, 0, 128, false, []⟩] }
  | [] => s.modCluster k fun x => x.drop e.num

/-- The next position of the current entry fires. -/
def firePosition (k : Nat) (e : MEntry) (s : State) : State :=
  let w := nextPosition s e
  let s := modEntry k e.num (fun e =>
    { e with fired := e.fired + 1, began := if e.fired = 0 then s.clk (4 * k) else e.began,
             segs := e.segs.map fun h => if w = some (some h) then { h with fired := h.fired + 1 } else h }) s
  let s := match w with
    | some (some g) => if g.aborted then s else fireRow k e g s
    | _ => s
  if e.fired + 1 < MEntry.positions e then s
  else match (s.cluster k).entry e.num with
    | none => s.modCluster k fun x => { x with current := none }
    | some e' =>
      if e'.kind = .transpose then endTranspose k e' s
      else settleEntry k e.num (s.modCluster k fun x => { x with current := none })

/-- The last position of an operation fires no earlier than 64 cycles after its first (R291). -/
def lastSpaced (s : State) (k : Nat) (e : MEntry) : Bool := e.fired + 1 < MEntry.positions e || e.began + 64 ≤ s.clk (4 * k)

/-- The entry whose position can fire: the current one, or the next one as it starts. -/
def firing (s : State) (k : Nat) : Option MEntry :=
  let x := (startNext k s).cluster k
  match x.current with
  | some n => (match x.entry n with | some e => if (nextPosition s e).isSome && lastSpaced s k e then some e else none | none => none)
  | none => none

/-- POSITION_FIRE (R291). -/
def execPositionFire (s : State) : Result :=
  .next (match s.ev with
    | some (.positionFire k) =>
      (match firing s k with
       | some e => firePosition k e (startNext k s)
       | none => s)
    | _ => s)

/-- The old accumulator of a column: +0 under ZF (R292). -/
def oldAcc (s : State) (c : Nat) (q : MOp) (row j : Nat) : Nat :=
  if MForm.zf q.form then 0 else readElem s c q.form.z.toNat row j

/-- RMAX after a row under ST (R295). -/
def newRmax (s : State) (c : Nat) (q : MOp) (row : Nat) (vals : List Nat) : Nat :=
  vals.foldl (fun a v => (FFmt.f32.minMax true a v).1)
    (if MForm.zf q.form then 0xFF800000 else (rmaxOf s c q.form.z.toNat row).toNat)

/-- A row result is written to its target tile row (R292, R295), with its flags, poison and side element. RMAX carries the poison of
the values that it takes (R470; DEDUCED, log 32). -/
def writeResult (c : Nat) (x : Flight) (s : State) : State :=
  let q := x.op
  let z := q.form.z.toNat
  let cells := (List.range 128).map fun j => cellResult s q x.a x.load j (oldAcc s c q x.row j)
  let vals := cells.map fun p => p.1
  let psn := fun j => x.psn || (!MForm.zf q.form && elemPoison s c z x.row j)
  let any := (List.range 128).any psn
  let rm := newRmax s c q x.row vals
  let side := any || (!MForm.zf q.form && s.poison.contains (sideKey c z x.row false))
  let s := writeRow c z x.row vals psn s
  let fl := flagBits (Fl.all (cells.map fun p => p.2))
  let s := orFlags c z fl s
  let s := match (s.cluster (c / 4)).entries.find? fun e => e.segs.any fun g => g.op.id = q.id with
    | some e => modSeg (c / 4) e.num q.id (fun h => { h with flags := h.flags ||| fl, psn := h.psn || any }) s
    | none => s
  let s := notePsn c z any s
  let s := if MForm.st q.form then
      let s := clearPoison { s with rmax := kset s.rmax (sideIdx c z x.row) (BitVec.ofNat 32 rm) } [sideKey c z x.row false]
      if side then markPoison s [sideKey c z x.row false] else s
    else s
  progress c z q.id (fun p => { p with done := p.done + 1, busy := p.done + 1 < MForm.n q.form }) s

/-- The entry that holds an operation's segment. -/
def entryOf (x : Cluster) (id : Nat) : Option MEntry := x.entries.find? fun e => e.segs.any fun g => g.op.id = id

/-- The tiles that a port operation works on. -/
def PortOp.tiles (p : PortOp) : List Nat :=
  if p.op.kind = .msca then [p.op.form.z.toNat, p.op.form.zs.toNat] else [p.op.form.z.toNat]

/-- An earlier port operation has still to read or write a tile row that a result is written to (R293). -/
def rowHeld (s : State) (c : Nat) (x : Flight) : Bool :=
  (s.core c).port.any fun p =>
    p.op.id < x.op.id && (PortOp.tiles p).contains x.op.form.z.toNat && p.row ≤ x.row && x.row < p.rows

/-- The oldest result of a list that can be written, with its position; the results of a tile are written in order. -/
def firstResult (s : State) (c : Nat) : List Flight → Nat → List Nat → Option (Nat × Flight)
  | [], _, _ => none
  | x :: r, i, zs =>
    if zs.contains x.op.form.z.toNat || rowHeld s c x then firstResult s c r (i + 1) (x.op.form.z.toNat :: zs) else some (i, x)

/-- The result that a core writes next. -/
def nextResult (s : State) (c : Nat) : Option (Nat × Flight) := firstResult s c (s.core c).flights 0 []

/-- ROW_RESULT_WRITE (R292): the oldest row of the core's results that waits for nothing. With its last row written the operation
finishes, and the entry is freed when all its rows are. -/
def execRowResultWrite (s : State) : Result :=
  .next (match s.ev with
    | some (.rowResultWrite c) =>
      (match nextResult s c with
       | none => s
       | some (i, x) =>
         let s := writeResult c x s
         let s := s.modCore c fun k => { k with flights := k.flights.eraseIdx i }
         let s := if x.row + 1 = MForm.n x.op.form then finishRows c x.op s else s
         match entryOf (s.cluster (c / 4)) x.op.id with
         | some e => settleEntry (c / 4) e.num s
         | none => s)
    | _ => s)

/-! ### The accumulator ports (R316 to R321) -/

/-- MZERO of a row (R316). -/
def zeroRow (c z row : Nat) (s : State) : State :=
  let s := writeRow c z row (List.replicate 128 0) (fun _ => false) s
  let s := clearPoison s [sideKey c z row false, sideKey c z row true]
  { s with rmax := kset s.rmax (sideIdx c z row) 0xFF800000, rsum := kset s.rsum (sideIdx c z row) 0 }

/-- MDRAIN's conversion of an element (R317): its bits and flags. -/
def drainElem (t : BitVec 6) (sat : Bool) (v : Nat) : Nat × Fl :=
  if t = 1 then (v, Fl.none)
  else
    let x := FFmt.f32.decode v
    let nv := if x.isSnan then Fl.inv else Fl.none
    let r := if isB8 t then (b8Of t).encode .rne sat x else (fmtOf t).encode .rne sat x
    (r.1, nv.or r.2)

/-- An engine's write of some words of a unit to a key of a scratchpad (R225, R434): `ws` are their offsets in the unit. A unit without a key is
lost with its peer: a fault of the instruction (R309). -/
def writeUnit (c : Nat) (p : PortOp) (key : Nat) (bs : List Byte) (bad : List Nat) (ws : List Nat) (s : State) : State :=
  if key = 0 then recordOnce c p causeAddrRange s
  else ws.foldl (fun s w =>
    markPoison (engineWrite s (key + w) ((bs.drop w).take 4) false) (bad.filter fun b => b = key + w)) s

/-- Bytes of a unit that a drain writes at its row (R317, R318). -/
def drainSize (q : MOp) : Nat := if q.kind = .mstat then 8 else 128 * afmtBytes q.form.afmt

/-- The words of unit `d` of a port operation's step that have not been written, by their offset in the unit. -/
def PortOp.wordsLeft (p : PortOp) (d : Nat) : List Nat :=
  ((List.range (drainSize p.op / 4)).filter fun w => !p.moved.contains (d * (drainSize p.op / 4) + w)).map (4 * ·)

/-- The words of a drained unit that are poisoned: those with a byte of a poisoned element. -/
def drainPoison (s : State) (c z row key size : Nat) : List Nat :=
  ((List.range 128).filter fun j => elemPoison s c z row j).map fun j => wordKey (key + j * size)

/-- MDRAIN of a row (R317), of its words `ws`. -/
def drainRow (c : Nat) (p : PortOp) (ws : List Nat) (s : State) : State :=
  let q := p.op
  let z := q.form.z.toNat
  let r := p.row
  let es := (List.range 128).map fun j => drainElem q.form.afmt (MForm.zf q.form) (readElem s c z r j)
  let size := afmtBytes q.form.afmt
  let key := unitKey s c q p.units r
  let bad := drainPoison s c z r key size
  let s := writeUnit c p key (es.flatMap fun e => leBytes size e.1) bad ws s
  orFlags c z (flagBits (Fl.all (es.map fun e => e.2))) s

/-- MSTAT of a row (R318), of its words `ws`. -/
def statRow (c : Nat) (p : PortOp) (row : Nat) (ws : List Nat) (s : State) : State :=
  let q := p.op
  let z := q.form.z.toNat
  let key := unitKey s c q p.units row
  let bad := (if s.poison.contains (sideKey c z row false) then [key] else []) ++
    (if s.poison.contains (sideKey c z row true) then [key + 4] else [])
  notePsn c z (!bad.isEmpty)
    (writeUnit c p key (leBytes 4 (rmaxOf s c z row).toNat ++ leBytes 4 (rsumOf s c z row).toNat) bad ws s)

/-- A scale word of MSCA: its bytes and whether it is poisoned; no bytes where the peer that held it has ended. -/
def scaleWord (s : State) (c : Nat) (q : MOp) (addr i : Nat) : List Byte × Bool :=
  match localSpan s c (opBank s c q) (addr + 4 * i) 4 with
  | some k => (readBytes s k 4, poisoned s k 4)
  | none => ([], false)

/-- MSCA reads cs and rs before its first row (R319). -/
def readScales (s : State) (c : Nat) (p : PortOp) : PortOp :=
  if p.op.kind = .msca && p.row = 0 then
    { p with data := (List.range 128).map (scaleWord s c p.op p.op.addr2) ++ (List.range p.rows).map (scaleWord s c p.op p.op.addr) }
  else p

/-- MSCA of a row (R63, R319). -/
def scaleRow (c : Nat) (p : PortOp) (s : State) : State :=
  let q := p.op
  let zd := q.form.z.toNat
  let zs := q.form.zs.toNat
  let r := p.row
  let w := fun i => p.data.getD i ([], false)
  if (w (128 + r)).1.isEmpty || (p.data.take 128).any (fun x => x.1.isEmpty) then recordOnce c p causeAddrRange s
  else
    let v := fun i => FFmt.f32.decode (leNat (w i).1)
    let cells := (List.range 128).map fun j => FFmt.f32.roundTerms .rne
      [[FFmt.f32.decode (readElem s c zd r j)], [FFmt.f32.decode (readElem s c zs r j), v (128 + r), v j]]
    let psn := fun j => elemPoison s c zs r j || elemPoison s c zd r j || (w (128 + r)).2 || (w j).2
    let s' := writeRow c zd r (cells.map fun p => p.1) psn s
    notePsn c zd ((List.range 128).any psn) (orFlags c zd (flagBits (Fl.all (cells.map fun p => p.2))) s')

/-- MRESC of a row (R320). -/
def rescaleRow (c : Nat) (p : PortOp) (s : State) : State :=
  let q := p.op
  let z := q.form.z.toNat
  let r := p.row
  let key := unitKey s c q p.units r
  if key = 0 then recordOnce c p causeAddrRange s
  else
    let f := FFmt.f32.decode (readNat s key 4)
    let g := FFmt.f32.decode (readNat s (key + 4) 4)
    let fp := poisoned s key 4
    let gp := poisoned s (key + 4) 4
    let cells := (List.range 128).map fun j => FFmt.f32.roundTerms .rne [[FFmt.f32.decode (readElem s c z r j), f]]
    let psn := fun j => elemPoison s c z r j || fp
    let sp := s.poison.contains (sideKey c z r true) || fp || gp
    let sum := FFmt.f32.roundTerms .rne [[FFmt.f32.decode (rsumOf s c z r).toNat, f], [g]]
    let s := writeRow c z r (cells.map fun p => p.1) psn s
    let s := { s with rsum := kset s.rsum (sideIdx c z r) (BitVec.ofNat 32 sum.1) }
    let s := if sp then markPoison s [sideKey c z r true] else s
    let s := orFlags c z (flagBits ((Fl.all (cells.map fun p => p.2)).or sum.2)) s
    readUnit c q r (notePsn c z (sp || (List.range 128).any psn) s)

/-- MTRN of a tile row (R321): columns at or beyond n keep their value. -/
def transposeRow (c : Nat) (p : PortOp) (s : State) : State :=
  let q := p.op
  let z := q.form.z.toNat
  let j := p.row
  let n := p.data.length
  let src := fun r => (aElem q.form.afmt (p.data.getD r ([], false)).1 j)
  let cells := (List.range 128).map fun r =>
    if r < n then
      let x := src r
      ((FFmt.f32.encode .rne false x).1, if x.isSnan then Fl.inv else Fl.none)
    else (readElem s c z j r, Fl.none)
  let psn := fun r => if r < n then (p.data.getD r ([], false)).2 else elemPoison s c z j r
  let any := (List.range n).any psn
  let s := writeRow c z j (cells.map fun p => p.1) psn s
  let s := orFlags c z (flagBits (Fl.all (cells.map fun p => p.2))) s
  progress c z q.id (fun x => { x with done := x.done + 1, busy := x.done + 1 < 128 }) (notePsn c z any s)

/-- Rows that one step of the port handles: MSTAT 16 pairs, the others one row (R316 to R321). -/
def PortOp.stepRows (p : PortOp) : Nat := if p.op.kind = .mstat then min 16 (p.rows - p.row) else 1

/-- The next rows of a port operation wait for no earlier product's row, and no earlier port operation works on its tiles
(R292, R293, R315). -/
def portReady (s : State) (c i : Nat) (p : PortOp) : Bool :=
  p.row < p.rows &&
  ((s.core c).port.take i).all (fun o => !(PortOp.tiles o).any fun z => (PortOp.tiles p).contains z) &&
  !((s.cluster (c / 4)).entries.any fun e => e.segs.any fun g =>
      segCore g = c && g.op.id < p.op.id && (PortOp.tiles p).contains g.op.form.z.toNat && !e.isLoad &&
      (List.range (PortOp.stepRows p)).any fun d => rowPending s g (p.row + d))

/-- The step of a port operation at its row. -/
def portRow (c : Nat) (p : PortOp) (s : State) : State :=
  match p.op.kind with
  | .mzero => zeroRow c p.op.form.z.toNat p.row s
  | .mdrain => drainRow c p (PortOp.wordsLeft p 0) s
  | .mstat => (List.range (PortOp.stepRows p)).foldl (fun s d => statRow c p (p.row + d) (PortOp.wordsLeft p d) s) s
  | .msca => scaleRow c p s
  | .mresc => rescaleRow c p s
  | .mtrn => transposeRow c p s
  | _ => s

/-- Slots of a ring destination that have all their units become FILLED, with event 0 (R214, R310). -/
def fillSlots (c : Nat) (p : PortOp) (from' to' : Nat) (s : State) : State :=
  if p.op.form.asrc || !(p.op.kind = .mdrain || p.op.kind = .mstat) then s
  else match opRing s c p.op with
    | none => s
    | some r =>
      let k := r.slotSize / unitSize p.op.kind p.op.form
      let n := ((List.range to').filter fun i => from' ≤ i && ((i + 1) % k = 0 || i + 1 = p.rows)).length
      if n = 0 then s
      else raiseEvent (s.modBankAt c p.op.bank fun b => b.modRing p.op.form.as.toNat
        (times n fun r => r.fill (.engine p.op.id))) c p.op.bank 0

/-- The words that the next step of a draining port operation has still to write, numbered through its units (R434). -/
def PortOp.left (p : PortOp) : List Nat :=
  if p.op.kind = .mdrain || p.op.kind = .mstat then
    (List.range (PortOp.stepRows p * (drainSize p.op / 4))).filter fun w => !p.moved.contains w
  else []

/-- One word of a drained row is written before the rest (R434). -/
def portWord (c i w : Nat) (p : PortOp) (s : State) : State :=
  let n := drainSize p.op / 4
  let t := if p.op.kind = .mdrain then drainRow c p [4 * w] s else statRow c p (p.row + w / n) [4 * (w % n)] s
  t.modCore c fun k => { k with port := k.port.modify i fun o => { o with moved := sadd o.moved w } }

/-- The tile rows of an MTRN have been written: its entry is freed (R301). -/
def freeTransposed (c : Nat) (q : MOp) (s : State) : State :=
  match entryOf (s.cluster (c / 4)) q.id with
  | some e => if q.kind = .mtrn then s.modCluster (c / 4) fun x => x.drop e.num else s
  | none => s

/-- One step of port operation `i`; with its last row it completes, event 3 (R214). -/
def portStep (c i : Nat) (p : PortOp) (s : State) : State :=
  let r := p.row + PortOp.stepRows p
  let p := readScales s c p
  let s := fillSlots c p p.row r (portRow c p s)
  if r < p.rows then s.modCore c fun k => { k with port := k.port.modify i fun o => { o with row := r, data := p.data, moved := [] } }
  else freeTransposed c p.op (finishRows c p.op (s.modCore c fun k => { k with port := k.port.eraseIdx i }))

/-- ACCUMULATOR_PORT_ROW (R316 to R321). -/
def execAccumulatorPortRow (s : State) : Result :=
  .next (match s.ev with
    | some (.accumulatorPortRow c i) =>
      (match (s.core c).port[i]? with
       | some p => if portReady s c i p then portStep c i p s else s
       | none => s)
    | _ => s)

/-- An operation of the select unit finishes (R272): its list words enter the port's order, and vD takes its result. -/
def landSel (c : Nat) (s : State) (x : SelOp) : State :=
  (x.writes.foldl (fun s w => storeBytes s w.1 w.2) s).modBankAt c x.bank fun b => b.wrV x.dst x.result

/-- Every select-unit operation of a bank finishes: a later access of the task, in a slot to the right of the same bundle, comes behind its list
words (R272; log 63). -/
def landBank (c : Nat) (b : Bool) (s : State) : State :=
  (((s.core c).sel.filter fun x => x.bank = b).foldl (landSel c) s).modCore c fun k =>
    { k with sel := k.sel.filter fun x => x.bank ≠ b }

/-- SELECT_WRITES (R272): the oldest operation of the select unit finishes. -/
def execSelectWrites (s : State) : Result :=
  .next (match s.ev with
    | some (.selectWrites c) =>
      (match (s.core c).sel with
       | [] => s
       | x :: r => (landSel c s x).modCore c fun k => { k with sel := r })
    | _ => s)

/-! ### Kills (R303, R325) -/

/-- Words of a span, each with its bytes. -/
def listWords (w : Nat × List Byte) : List (Nat × List Byte) :=
  (List.range ((w.2.length + 3) / 4)).map fun i => (w.1 + 4 * i, (w.2.drop (4 * i)).take 4)

/-- Any subset of the list words of a killed task's VTOPK may have been written (R272): which ones is open (log 4). -/
def landSome (c : Nat) (b : Bool) (s : State) : State :=
  let ws := ((s.core c).sel.filter fun x => x.bank = b).flatMap fun x => x.writes.flatMap listWords
  (ws.zip (List.range ws.length)).foldl (fun t w => if s.choose (2 ^ 19 + (2048 * c + w.2) % 2 ^ 19) 2 = 1 then storeBytes t w.1.1 w.1.2 else t) s

/-- A port operation that a kill stops has written some words of a row: it writes the rest of that row first (R325). -/
def lastRow (c : Nat) (s : State) (p : PortOp) : State := if p.moved.isEmpty then s else portRow c p s

/-- The matrix work of a bank's task ends (R303, R325): queued instructions, segments, port operations, load entries and recorded faults. What its
VTOPK or VMERGEK would have written to vD is discarded (R272). -/
def killMatrix (c : Nat) (b : Bool) (s : State) : State :=
  let k := c / 4
  let s := ((s.core c).port.filter fun p => p.op.bank = b).foldl (lastRow c) (landSome c b s)
  let s := ((s.core c).port.filter fun p => p.op.bank = b && p.op.kind = .mtrn).foldl (fun s p =>
    progress c p.op.form.z.toNat p.op.id (fun x => { x with busy := false }) (orFlags c p.op.form.z.toNat 0x80 s)) s
  let s := s.modCore c fun x =>
    { x with queue := x.queue.filter fun q => q.bank ≠ b, port := x.port.filter fun p => p.op.bank ≠ b,
             sel := x.sel.filter fun q => q.bank ≠ b, tileFaults := x.tileFaults.filter fun f => f.bank ≠ b }
  let mine := fun (e : MEntry) => e.isLoad && e.segs.any fun g => segCore g = c && g.op.bank = b
  let s := s.modCluster k fun x => (x.entries.filter mine).foldl (fun x e => x.drop e.num) x
  (s.cluster k).entries.foldl (fun s e => e.segs.foldl (fun s g =>
    if segCore g = c && g.op.bank = b && !g.aborted && (segBusy s g || e.kind = .transpose) then
      abortSeg k e.num g none false s else s) s) s

/-- Some matrix work of a bank's task has not ended (R211, R322); `named` restricts it to operations that satisfy a test. -/
def matrixBusy (s : State) (c : Nat) (b : Bool) (named : MOp → Bool) : Bool :=
  let x := s.core c
  x.queue.any (fun q => q.bank = b && named q) || x.port.any (fun p => p.op.bank = b && named p.op) ||
    (s.cluster (c / 4)).entries.any fun e => e.segs.any fun g =>
      segCore g = c && g.op.bank = b && named g.op && (e.isLoad || segBusy s g || (e.kind = .transpose && !g.aborted))

end Sys2Proof.Machine
end

