-- ==== Sys2Proof/Machine/Tasks.lean ====
section
/-! DEFINITION. Arming, placing, firing, ending and killing tasks (R95 to R116, R211, R473, R474). -/

namespace Sys2Proof.Machine

open Sys2Proof

/-! ### Instances and their descriptors -/

/-- The graph of a launch (R18). -/
def graphOf (s : State) (l : Nat) : Option Graph :=
  match kget s.launches l with
  | some x => kget s.graphs x.ns
  | none => none

/-- The descriptor of a task instance (R32). -/
def descOf (s : State) (t : TaskInst) : Option TaskDesc := (graphOf s t.launch).bind fun g => g.tasks[t.tmpl]?

/-- The code object of a task instance (R30). -/
def codeOf (s : State) (t : TaskInst) : Option CodeObj :=
  match graphOf s t.launch, descOf s t with
  | some g, some d => g.codes[d.code]?
  | _, _ => none

/-- The namespace of a task instance's launch. -/
def nsOfTask (s : State) (t : TaskInst) : Nat :=
  match kget s.launches t.launch with
  | some x => x.ns
  | none => 0

/-- Bound to a core (R97). DESIGN CHOICE (log 106): an entry whose installs are on their way counts as armed for R101 and R102. -/
def PoolState.bound : PoolState → Bool
  | .pending => false
  | _ => true

/-- The task instances bound to a core. -/
def boundTo (s : State) (c : Nat) : List (Nat × TaskInst) := s.tasks.filter fun t => t.2.st.bound && t.2.core = c

/-- The members of the gang that an instance belongs to, by rank; the instance alone where it has no gang (R95, R109). -/
def membersOf (s : State) (n : Nat) : List (Nat × TaskInst) :=
  match kget s.tasks n with
  | none => []
  | some t => (List.range 4).filterMap fun r => s.tasks.find? fun x => x.2.launch = t.launch && x.2.gang = t.gang && x.2.rank = r

/-- A launch whose tasks may be selected, armed or fired: live and not about to be discarded (R481). -/
def launchGoes (s : State) (l : Nat) : Bool :=
  match kget s.launches l with
  | some x => !x.discarded && x.abort.isNone
  | none => false

/-- The steps of R432 after a loss of a field are over for a partition: no launch of it has still to be aborted for the loss (R484). -/
def lossOver (s : State) (part : Nat) : Bool :=
  !(s.aborts.any fun a => a.cause = 0x04 && partOf a.launch = part) &&
    !(s.launches.any fun l => l.2.part = part && match l.2.abort with | some a => a.cause = 0x04 | none => false)

/-! ### Handing over (R96, R424) -/

/-- Free pool entries of a field (R95). -/
def poolFree (s : State) (f : Nat) : Nat := 1024 - (s.tasks.filter fun t => t.2.field = f).length

/-- The fields of a partition that are not lost (R432, R484). -/
def liveFields (s : State) (part : Nat) : List Nat := (s.part part).fields.filter fun f => !(s.field f).lost

/-- The field with the largest value of a count among fields with at least `n`, ties to the lowest number. -/
def mostField (fs : List Nat) (n : Nat) (count : Nat → Nat) : Option Nat :=
  (fs.foldl (fun a f =>
    if count f < n then a
    else match a with
      | none => some f
      | some g => if count g < count f || (count f = count g && f < g) then some f else some g) none)

/-- The subscriptions of a descriptor, as an instance of a launch keeps them (R39, R40). -/
def instSubs (ns launch : Nat) (gen : BitVec 16) (d : TaskDesc) : List Sub :=
  (List.range d.subs.length).filterMap fun i => (d.subs[i]?).map fun x =>
    ⟨i, 0, subPattern x.value x.mask x.devns x.genrule x.genval gen ns launch, x.count, x.ring, x.nodata, false, .installing, 0, 0, false,
      [], 0⟩

/-- A fresh task instance. -/
def newInst (s : State) (l : Nat) (x : Launch) (tmpl rank gang field : Nat) (d : TaskDesc) : TaskInst where
  launch := l
  tmpl := tmpl
  rank := rank
  gang := gang
  field := field
  st := .pending
  queuePrio := d.prio
  prio := d.prio
  keepPrio := false
  joined := s.now
  queued := s.now
  passUntil := none
  noElig := none
  core := 0
  bank := false
  subs := instSubs x.ns l x.gen d
  rings := []
  imBase := 0
  tbBase := 0
  mbx := []
  readySeq := 0
  restarted := false
  resub := false
  overruns := 0

/-- Where the next template of a launch goes: the field of a resident expert, whatever its free entries (R424), else the field with the most free
entries. DESIGN CHOICE (log 105): the pool of an expert's field takes the task even where it holds 1,024 entries. -/
def handoffField (s : State) (l : Nat) (x : Launch) (d : TaskDesc) : Option Nat :=
  let t := newInst s l x 0 0 0 0 d
  let home := match expertEntry s t with
    | some e => let y := s.ertEntry x.part e; if y.st = 2 || y.st = 3 then some y.field else none
    | none => none
  match home with
  | some f => some f
  | none => mostField (liveFields s x.part) d.gang (poolFree s)

/-- The next template of a launch and its field. -/
def handoff (s : State) (l : Nat) : Option (Launch × TaskDesc × Nat) :=
  match kget s.launches l, graphOf s l with
  | some x, some g =>
    if !launchGoes s l || !lossOver s x.part then none
    else match g.tasks[x.todo]? with
      | some d => (handoffField s l x d).map fun f => (x, d, f)
      | none => none
  | _, _ => none

/-- A launch without PENDING entries gets one: the window of R116 begins again. -/
def notePending (l : Nat) (s : State) : State :=
  if s.tasks.any fun t => t.2.launch = l && t.2.st = .pending then s else s.modLaunch l fun x => { x with moved := s.now }

/-- TASK_HANDOFF (R96): the next template's instances enter the pool of a field. -/
def execTaskHandoff (s : State) : Result :=
  .next (match s.ev with
    | some (.taskHandoff l) =>
      (match handoff s l with
       | some (x, d, f) =>
         let gang := s.opId
         let s := notePending l s
         let s := (List.range d.gang).foldl (fun s r =>
           ({ s with tasks := kset s.tasks s.opId (newInst s l x x.todo r gang f d) }).bump) s
         let s := s.modLaunch l fun x => { x with todo := x.todo + 1 }
         if d.subs.isEmpty then touchSource s l 0 else s
       | none => s)
    | _ => s)

/-! ### Placement (R101, R102) -/

/-- The bytes of a ring of a descriptor: its slots by their size (R37). -/
def ringBytes (r : Nat × Nat) : Nat := 2 ^ r.2 * 2 ^ (7 + r.1)

/-- What a ring's base is a multiple of: the slot size, or 4,096 (R226). -/
def ringAlign (r : Nat × Nat) : Nat := min (2 ^ (7 + r.1)) 4096

/-- A run is clear of the spans in use. -/
def clearRun (used : List (Nat × Nat)) (lo hi : Nat) : Bool := lo = hi || used.all fun u => hi ≤ u.1 || u.2 ≤ lo

/-- Where a run of `len` bytes may start: at 0 or at the end of a span in use. -/
def runStarts (used : List (Nat × Nat)) (limit len : Nat) : List Nat :=
  ((0 :: used.map fun u => u.2).dedup).filter fun b => b + len ≤ limit && clearRun used b (b + len)

/-- The scratchpad that the armed tasks of a core have reserved. -/
def ringSpans (s : State) (c : Nat) : List (Nat × Nat) :=
  (boundTo s c).flatMap fun t => t.2.rings.map fun r => (r.base, r.base + r.count * r.slotSize)

/-- Insert a ring, with its index, by falling size. -/
def insertRing (x : Nat × Nat × Nat) : List (Nat × Nat × Nat) → List (Nat × Nat × Nat)
  | [] => [x]
  | y :: r => if ringBytes y.2 ≤ ringBytes x.2 then x :: y :: r else y :: insertRing x r

/-- The rings of a descriptor with their indices, the largest first. -/
def ringOrder (d : TaskDesc) : List (Nat × Nat × Nat) := ((d.rings.zipIdx).map fun r => (r.2, r.1)).foldr insertRing []

/-- Where a ring may stand beside the spans in use: at 0, or at the first base behind a span that R226 admits. -/
def ringBases (used : List (Nat × Nat)) (r : Nat × Nat) : List Nat :=
  ((0 :: used.map fun u => roundUp u.2 (ringAlign r)).dedup).filter fun b => b + ringBytes r ≤ spadBytes && clearRun used b (b + ringBytes r)

/-- Place rings one after the other, each at one of its bases; what place a ring index takes in their list is the caller's. -/
def placeRings (which : Nat → Nat → Nat) : List (Nat × Nat) → List (Nat × Nat × Nat) → Option (List (Nat × Nat))
  | _, [] => some []
  | used, (i, r) :: l =>
    let bs := ringBases used r
    match bs[which i bs.length]? with
    | none => none
    | some b => (placeRings which ((b, b + ringBytes r) :: used) l).map fun m => (i, b) :: m

/-- The rings of a descriptor fit on a core (R37, R101). Each takes the first base that is clear, the largest ring first, so that a legal sum
always fits an idle scratchpad (DESIGN CHOICE, log 81). -/
def ringsFit (s : State) (c : Nat) (d : TaskDesc) : Option (List (Nat × Nat)) := placeRings (fun _ _ => 0) (ringSpans s c) (ringOrder d)

/-- Where the rings of a descriptor are placed on a core: each at any base that is clear, a free choice; where that leaves a later ring no
room, where they fit (log 81). -/
def ringPlaces (s : State) (c : Nat) (d : TaskDesc) : List (Nat × Nat) :=
  match placeRings (fun i n => s.choose (2 ^ 18 + 16 * c + i) n) (ringSpans s c) (ringOrder d) with
  | some m => m
  | none => (ringsFit s c d).getD []

/-- The rings of a descriptor at their places, by index, all FREE (R226). -/
def layRings (d : TaskDesc) (m : List (Nat × Nat)) : List Ring :=
  (d.rings.zipIdx).map fun r => ⟨((m.find? fun p => p.1 = r.2).map fun p => p.2).getD 0, r.1.1, r.1.2, 0, [], [], [], []⟩

/-- Where the instruction image of a code object, or its table image, still stands in a core (R105). -/
def loaded (s : State) (c : Nat) (table : Bool) (ns code : Nat) : Option Nat :=
  ((s.core c).images.find? fun i => i.table = table && i.ns = ns && i.code = code).map fun i => i.base

/-- The instruction-memory spans in use on a core, or those of table RAM. -/
def imageSpans (s : State) (c : Nat) (table : Bool) : List (Nat × Nat) :=
  ((boundTo s c).filterMap fun t => (codeOf s t.2).map fun k =>
    if table then (t.2.tbBase, t.2.tbBase + k.tbLen) else (t.2.imBase, t.2.imBase + k.imLen)).filter fun u => u.1 < u.2

/-- Where an image may be loaded (R31, R105): clear of those in use, at 0 or behind an image that stands there. -/
def imageStarts (s : State) (c : Nat) (table : Bool) (len : Nat) : List Nat :=
  let used := imageSpans s c table
  let ends := ((s.core c).images.filter fun i => i.table = table).map fun i => i.base + i.len
  let limit := if table then 16384 else 131072
  ((runStarts used limit len ++ ends).dedup).filter fun b => b + len ≤ limit && clearRun used b (b + len)

/-- The images fit beside those already loaded (R31). -/
def imagesFit (s : State) (c ns code : Nat) (k : CodeObj) : Bool :=
  ((loaded s c false ns code).isSome || !(imageStarts s c false k.imLen).isEmpty) &&
    ((loaded s c true ns code).isSome || !(imageStarts s c true k.tbLen).isEmpty)

/-- Every router on the path to each subscription's home has a free entry, and one that is the subscriber's and the home has two (R101,
R336). -/
def pathsFree (s : State) (c : Nat) (t : TaskInst) : Bool :=
  t.subs.all fun x => (patternHomes s x.pat).all fun h =>
    (installPath (c / 4) h).all fun r => (s.router r.1).entries.length + (if c / 4 = h then 2 else 1) ≤ 2048

/-- A core is eligible for an entry (R101, R424). -/
def eligible (s : State) (t : TaskInst) (c : Nat) : Bool :=
  let k := s.cluster (c / 4)
  match descOf s t, codeOf s t with
  | some d, some o =>
    k.enabled && !k.mapped && !k.stopped && k.tstate = 0 && (liveFields s (partOf t.launch)).contains (fieldOf c) &&
      (boundTo s c).length < 8 && (ringsFit s c d).isSome && imagesFit s c (nsOfTask s t) d.code o && pathsFree s c t &&
      (match expertEntry s t with
       | some e => let y := s.ertEntry (partOf t.launch) e; (y.st = 2 || y.st = 3) && y.field = fieldOf c
       | none => true)
  | _, _ => false

/-- Cool, the cluster's thermal headroom (R518). -/
def headroom (s : State) (k : Nat) : Nat := min ((s.mgmt.hotth - (s.cluster k).temp) / 4) 7

/-- Aff (R102): tasks of the partition with an equal non-zero key in the cluster, at most 15. -/
def affinity (s : State) (t : TaskInst) (key k : Nat) : Nat :=
  if key = 0 then 0
  else min 15 (s.tasks.filter fun x => x.2.st.bound && x.2.core / 4 = k && partOf x.2.launch = partOf t.launch &&
    (match descOf s x.2 with | some d => d.affkey = key | none => false)).length

/-- The score of a core for an entry (R102). -/
def score (s : State) (t : TaskInst) (c : Nat) : Nat :=
  let w := s.field (fieldOf c)
  match descOf s t with
  | none => 0
  | some d =>
    w.waff * affinity s t d.affkey (c / 4) + w.wcode * (if (loaded s c false (nsOfTask s t) d.code).isSome then 1 else 0) +
      w.wload * (8 - (boundTo s c).length) + w.wcool * headroom s (c / 4)

/-- Insert a core by falling score, ties by rising number. -/
def insertScore (x : Nat × Nat) : List (Nat × Nat) → List (Nat × Nat)
  | [] => [x]
  | y :: r => if y.2 < x.2 || (x.2 = y.2 && x.1 < y.1) then x :: y :: r else y :: insertScore x r

/-- The eligible cores of a cluster with their scores, best first. -/
def ranked (s : State) (t : TaskInst) (k : Nat) : List (Nat × Nat) :=
  (((coresOf k).filter (eligible s t)).map fun c => (c, score s t c)).foldr insertScore []

/-- The cores on which an entry of `n` members is armed in a field (R102): the best score, ties to the lowest cluster. -/
def placement (s : State) (f n : Nat) (t : TaskInst) : Option (List Nat) :=
  ((clustersOf f).foldl (fun (a : Option (List Nat × Nat)) k =>
    let l := (ranked s t k).take n
    if l.length < n then a
    else
      let v := l.foldl (fun m x => m + x.2) 0
      match a with
      | none => some (l.map fun x => x.1, v)
      | some (m, w) => if w < v then some (l.map fun x => x.1, v) else some (m, w)) none).map fun x => x.1.foldl sadd []

/-! ### Arming (R104) -/

/-- The mailboxes of an instance (R35). -/
def mailboxes (x : Launch) (d : TaskDesc) : List Word :=
  (List.range 16).map fun i =>
    if d.argmask / 2 ^ i % 2 = 1 then x.args.getD i 0 else BitVec.ofNat 32 (d.mbx.getD i 0)

/-- Load an image into a core (R31): its bytes, with no poison left. -/
def loadImage (dst src len : Nat) (s : State) : State := storeBytes s dst (readBytes s src len)

/-- Two images share space. -/
def CodeImage.meets (i j : CodeImage) : Bool := i.table = j.table && i.base < j.base + j.len && j.base < i.base + i.len

/-- An image stands in a core, and those whose space it takes no longer do (R105). -/
def noteImage (c : Nat) (i : CodeImage) (s : State) : State :=
  s.modCore c fun k => { k with images := (k.images.filter fun j => !CodeImage.meets i j) ++ [i] }

/-- The base of an image of an entry on a core, loading it where it is not there (R104 step 2, R105). -/
def placeImage (c ns code : Nat) (table : Bool) (off len : Nat) (s : State) : Nat × State :=
  match loaded s c table ns code with
  | some b => (b, s)
  | none =>
    let l := imageStarts s c table len
    let b := l.getD (s.choose ((if table then 17 else 16) + 4 * c) l.length) 0
    (b, noteImage c ⟨table, ns, code, b, len⟩
      (loadImage ((if table then Space.tram c else Space.imem c).key b) ((Space.gobj ns).key off) len s))

/-- The bases of an entry's images on a core (R104 step 2). -/
def placeImages (c ns code : Nat) (k : CodeObj) (s : State) : (Nat × Nat) × State :=
  let i := placeImage c ns code false k.imOff k.imLen s
  let t := placeImage c ns code true k.tbOff k.tbLen i.2
  ((i.1, t.1), t.2)

/-- The images of a namespace that has become free are no code object's (R18, R105). -/
def dropImages (ns : Nat) (s : State) : State :=
  { s with cores := s.cores.map fun (x : Nat × Core) => (x.1, { x.2 with images := x.2.images.filter fun i => i.ns ≠ ns }) }

/-- Every word of a ring's space becomes empty as the ring is reserved (R224). -/
def emptyRing (c : Nat) (s : State) (r : Ring) : State :=
  let k := (Space.spad c).key r.base
  { s with full := s.full.filter fun w => !(k ≤ w && w < k + r.count * r.slotSize) }

/-- A task instance has become ARMED: where that ends a resubscription, its distributor emits a record with the new source (R112, R492). -/
def noteArmed (n : Nat) (s : State) : State :=
  match kget s.tasks n with
  | some t =>
    if t.st = .armed && t.resub then
      (emit s (fieldOf t.core) (unitDistributor (fieldOf t.core)) (unitRec s 0x14 (BitVec.ofNat 16 (fieldOf t.core * 512)) t.launch
        (BitVec.ofNat 32 (taskidOf t)) (leBytes 2 (sourceOf t.core false).toNat))).modTask n fun t => { t with resub := false }
    else s
  | none => s

/-- Arm an instance on a core (R104): rings, images, mailboxes, installs. Without subscriptions it is ARMED at once. -/
def arm (n c : Nat) (s : State) : State :=
  match kget s.tasks n with
  | none => s
  | some t =>
    match descOf s t, codeOf s t, kget s.launches t.launch with
    | some d, some k, some x =>
      let rings := layRings d (ringPlaces s c d)
      let im := placeImages c x.ns d.code k s
      let s := im.2
      let subs := t.subs.map fun y => { y with homes := patternHomes s y.pat, acks := 0, st := .installing }
      let s := s.modTask n fun t => { t with
        st := if subs.isEmpty then .armed else .arming, prio := t.queuePrio, keepPrio := false, passUntil := none, noElig := none, core := c,
        subs := subs, rings := rings, imBase := im.1.1, tbBase := im.1.2, mbx := mailboxes x d, readySeq := 0 }
      let s := rings.foldl (emptyRing c) s
      checkReady n (noteArmed n (postAll ((subs.flatMap fun y => installsOf s (c / 4) n y 0).map fun m => .install m) s))
    | _, _, _ => s

/-- An entry joined earlier than another. -/
def older (a b : Nat × TaskInst) : Bool := a.2.joined < b.2.joined || (a.2.joined = b.2.joined && a.1 < b.1)

/-- An entry stands before another in the queue of their priority (R98, R99). -/
def earlier (a b : Nat × TaskInst) : Bool := a.2.queued < b.2.queued || (a.2.queued = b.2.queued && older a b)

/-- An entry has been PENDING beyond the ageing threshold (R98). -/
def aged (s : State) (f : Nat) (t : TaskInst) : Bool :=
  (s.field f).agexp ≠ 15 && t.joined + 2 ^ ((s.field f).agexp + 10) < s.now

/-- Entry `a` is selected before entry `b` (R98). -/
def before (s : State) (f : Nat) (a b : Nat × TaskInst) : Bool :=
  if aged s f a.2 || aged s f b.2 then aged s f a.2 && (!aged s f b.2 || older a b)
  else if a.2.queuePrio ≠ b.2.queuePrio then b.2.queuePrio < a.2.queuePrio
  else earlier a b

/-- The pass-over of an entry has ended (R100). -/
def passedOver (s : State) (t : TaskInst) : Bool := match t.passUntil with | some u => u ≤ s.now | none => false

/-- An entry that a distributor may select: the first of its unit, all of whose members are PENDING and not passed over, or no longer
(R100). -/
def selectable? (s : State) (f : Nat) (x : Nat × TaskInst) : Bool :=
  x.2.st = .pending && x.2.field = f && launchGoes s x.2.launch && lossOver s (partOf x.2.launch) && !(s.part (partOf x.2.launch)).noArm.contains f && !(s.field f).lost &&
    (match membersOf s x.1 with
     | m :: ms => m.1 = x.1 && (m :: ms).all fun y => y.2.st = .pending && (y.2.passUntil.isNone || passedOver s y.2)
     | [] => false)

/-- The entry that a distributor selects next. -/
def selection (s : State) (f : Nat) : Option (Nat × TaskInst) :=
  (s.tasks.filter (selectable? s f)).foldl (fun a x => match a with
    | none => some x
    | some y => if before s f x y then some x else some y) none

/-- A distributor can select in this cycle: at most every 2 cycles (R98). It waits while a cluster of its field is frozen, since nothing that
it would arm there changes in a freeze (R240, DEDUCED, log 73). -/
def selecting (s : State) (f : Nat) : Bool :=
  s.now % 2 = 0 && (clustersOf f).all (fun k => (s.cluster k).freeze.isNone) && (selection s f).isSome

/-- DISTRIBUTOR_SELECTION (R98, R100, R102, R104). An entry that finds no eligible core keeps no priority: it is sampled again (R99). -/
def execDistributorSelection (s : State) : Result :=
  .next (match s.ev with
    | some (.distributorSelection f) =>
      if !selecting s f then s
      else match selection s f with
        | none => s
        | some x =>
          let ms := membersOf s x.1
          match placement s f ms.length x.2 with
          | some cs => (ms.zip cs).foldl (fun s m => arm m.1.1 m.2 s) s
          | none => ms.foldl (fun s m => s.modTask m.1 fun t =>
              { t with passUntil := some (s.now + 256), noElig := some (t.noElig.getD s.now), keepPrio := false }) s
    | _ => s)

/-- PASS_OVER_END (R100). -/
def execPassOverEnd (s : State) : Result :=
  .next (match s.ev with
    | some (.passOverEnd n) =>
      (match kget s.tasks n with
       | some t => if passedOver s t then s.modTask n fun t => { t with passUntil := none } else s
       | none => s)
    | _ => s)

/-- An entry has found no eligible core for 65,536 cycles (R100). -/
def stranded (s : State) (t : TaskInst) : Bool :=
  t.st = .pending && (match t.noElig with | some u => u + 65536 ≤ s.now | none => false)

/-- ENTRY_HANDOVER (R100): the unit goes to the field with the most eligible cores; where no field has one, the wait starts anew. DESIGN CHOICE
(log 82): a field whose pool has too few free entries for the unit counts as having none. -/
def execEntryHandover (s : State) : Result :=
  .next (match s.ev with
    | some (.entryHandover n) =>
      (match kget s.tasks n with
       | none => s
       | some t =>
         if !stranded s t then s
         else
           let ms := membersOf s n
           let count := fun f => if f = t.field || poolFree s f < ms.length then 0
             else (((clustersOf f).flatMap coresOf).filter (eligible s t)).length
           let to' := mostField (liveFields s (partOf t.launch)) 1 count
           ms.foldl (fun s m => s.modTask m.1 fun t => match to' with
             | some f => { t with field := f, noElig := none, passUntil := none }
             | none => { t with noElig := some s.now }) s)
    | _ => s)

/-! ### Leaving a core (R100, R112, R473) -/

/-- The subscriptions of an instance are removed and its held deliveries discarded (R112 steps 2 and 3). -/
def removeSubs (n : Nat) (t : TaskInst) (s : State) : State :=
  if !t.st.bound then s
  else t.subs.foldl (fun s x => dropHeld (t.core / 4) ⟨n, x.index, x.uid⟩ (postAll (removalsOf (t.core / 4) n x) s)) s

/-- An instance returns to PENDING (R97) under a new pool entry, so that nothing still on its way to the old one reaches it. -/
def requeue (n : Nat) (f : TaskInst → TaskInst) (s : State) : State :=
  match kget s.tasks n with
  | none => s
  | some t =>
    let s := notePending t.launch (removeSubs n t s)
    let subs := (t.subs.filter fun x => !x.dynamic).map fun x =>
      { x with st := .installing, arrivals := 0, flg := 0, psn := false, homes := [], acks := 0 }
    let u := f { t with st := .pending, core := 0, bank := false, subs := subs, rings := [], imBase := 0, tbBase := 0, mbx := [],
                        readySeq := 0, passUntil := none, noElig := none }
    let s := ({ s with tasks := kset (kdel s.tasks n) s.opId u }).bump
    if t.source || u.source then touchSource s t.launch 0 else s

/-- A failed arming (R104, R100): every step is undone for the whole unit, which is passed over for 256 cycles. -/
def undoArming (n : Nat) (s : State) : State :=
  (membersOf s n).foldl (fun s m => requeue m.1 (fun t =>
    { t with passUntil := some (s.now + 256), noElig := some (m.2.noElig.getD s.now), keepPrio := false }) s) s

/-- A ring as its task leaves it: no slot is held, claimed or asked for. -/
def Ring.empty (r : Ring) : Ring := { r with rel := r.popPos, held := [], taken := [], asks := [], readers := [] }

/-- A bank without a task (R211): its loops are inactive, its rings returned, and nothing waits or is staged. Its other registers keep their
values until a task fires in it (R110). -/
def Bank.vacate (k : Bank) (now : Nat) : Bank :=
  { k.stopClock now with
    status := .empty, task := 0, loops := k.loops.map fun l => { l with active := false }, rings := k.rings.map Ring.empty, pending := [],
    staged := none, blockedSince := none, waitOver := false, taken := none, link := none, tended := false, pauseUntil := 0, grpOpen := false,
    wset := [], sr := 0 }

/-- The ring slots that a task leaves behind (R206, R325): those it or the array popped and has not released, and those claimed and not
marked. -/
def Bank.slotsLeft (k : Bank) : Nat :=
  (k.rings.map fun r => (r.held.filter fun h => !h.released).length +
    (r.taken.filter fun t => !t.filled && t.filler ≠ .engine 0).length).sum

/-- Each ring slot that a bank's task leaves behind is a ring-slot return (R206, R325, R455). -/
def returnSlots (c : Nat) (b : Bool) (s : State) : State :=
  let k := (s.core c).bank b
  times k.slotsLeft (passOn k.launch.toNat k.phase.toNat (c / 4)) s

/-- A bank becomes empty (R473, R211): seniority passes, and the other bank runs where it holds a task. -/
def emptyBank (c : Nat) (b : Bool) (s : State) : State :=
  s.modCore c fun k =>
    let other := if (k.bank (!b)).status = .empty then none else some (!b)
    let gone : Bool := (match k.drain with | some d => d.fromBank = b | none => false)
    let k := { k.modBank b (fun x => x.vacate (s.clk c)) with
      senior := if k.senior = some b then other else k.senior,
      drain := if gone then none else k.drain,
      running := if k.running = some b then other else k.running }
    if k.running = some (!b) && !k.dbg.halted then k.modBank (!b) (fun x => x.startClock (s.clk c)) else k

/-- A member of a gang is no longer live (R219). -/
def leaveGang (t : TaskInst) (s : State) : State :=
  match kget s.gangs t.gang with
  | some g => { s with gangs := kset s.gangs t.gang { g with live := g.live.set t.rank false } }
  | none => s

/-- No core waits any longer for a task that has left (R474). -/
def doneWaiting (n : Nat) (s : State) : State :=
  { s with cores := s.cores.map fun (x : Nat × Core) => (x.1, { x.2 with noFire := sdel x.2.noFire n }) }

/-- The copy groups and the phase register of a killed task are cleared (R411). -/
def clearGroups (k : Bank) : Bank := { k with groups := Vector.replicate 16 CopyGroup.empty, phase := 0 }

/-- A kill of a bank's task (R473): engine work ends, the bank becomes empty, a record says why (0 pre-emption, 1 budget, 2 abort).
What becomes of the instance is the caller's. A task past its TEND is not killed (R211). -/
def killBank (c : Nat) (b : Bool) (why : Nat) (s : State) : State :=
  let k := (s.core c).bank b
  let n := k.task
  let s := emitCore s c b 0x0012 (leBytes 1 why)
  let s := (returnSlots c b (killCopies c b (killMatrix c b s))).modBankAt c b clearGroups
  let s := match kget s.tasks n with | some t => leaveGang t s | none => s
  doneWaiting n (emptyBank c b s)

/-- A running instance whose TEND has executed (R211). -/
def isEnding (s : State) (t : TaskInst) : Bool :=
  let k := (s.core t.core).bank t.bank
  t.st = .running && (k.status = .ending || k.tended)

/-- Kill a restartable unit (R473, R474, R114): all its members that run, which return to PENDING at their descriptor's priority with
their age. -/
def killUnit (n why : Nat) (f : TaskInst → TaskInst) (s : State) : State :=
  ((membersOf s n).filter fun m => m.2.st = .running && !isEnding s m.2).foldl (fun s m =>
    let prio := match descOf s m.2 with | some d => d.prio | none => 0
    requeue m.1 (fun t => f { t with queuePrio := prio, keepPrio := false, queued := t.joined, restarted := true }) (killBank m.2.core m.2.bank why s)) s

/-- The end of a task by TEND (R211): its rings and subscriptions returned, its bank and pool entry freed; `counted` toward its launch, unless
the launch is being discarded (R485). -/
def finishTask (c : Nat) (b : Bool) (counted : Nat) (s : State) : State :=
  let k := (s.core c).bank b
  let n := k.task
  let s := emitCore s c b 0x0011 (leBytes 4 0 ++ leBytes 4 (k.cyc (s.clk c)))
  let s := match kget s.tasks n with
    | some t =>
      let s := returnSlots c b (removeSubs n t s)
      let s := (leaveGang t { s with tasks := kdel s.tasks n }).modLaunch t.launch fun x => { x with tasks := x.tasks + counted, moved := s.now }
      touchSource s t.launch k.phase.toNat
    | none => s
  doneWaiting n (emptyBank c b s)

/-- A task past its TEND whose launch is aborted, or whose cluster has failed, is not killed but ends, uncounted: its engine and C-class work ends
with it, and its copy groups and its phase register are cleared (R211, R411, R485). -/
def cutShort (c : Nat) (b : Bool) (s : State) : State :=
  (finishTask c b 0 (killCopies c b (killMatrix c b s))).modBankAt c b clearGroups

/-! ### Installs answered (R336) -/

/-- Every descriptor subscription is acknowledged (R104). -/
def allActive (t : TaskInst) : Bool := t.subs.all fun x => x.dynamic || x.st = .active

/-- INSTALL_ACKNOWLEDGEMENT (R336, R104, R403). -/
def execInstallAcknowledgement (s : State) : Result :=
  .next (match s.ev with
    | some (.installAcknowledgement m) =>
      let s := modSub m.tgt (fun x =>
        { x with acks := x.acks + 1, st := if x.st = .installing && x.homes.length ≤ x.acks + 1 then .active else x.st }) s
      (match kget s.tasks m.tgt.task with
       | some t =>
         if t.st = .arming && allActive t then checkReady m.tgt.task (noteArmed m.tgt.task (s.modTask m.tgt.task fun t => { t with st := .armed })) else s
       | none => s)
    | _ => s)

/-- INSTALL_REFUSAL (R336, R104, R403): a dynamic subscription is REFUSED; an arming is undone. -/
def execInstallRefusal (s : State) : Result :=
  .next (match s.ev with
    | some (.installRefusal m) =>
      (match subOf s m.tgt with
       | some x =>
         if x.dynamic then modSub m.tgt (fun x => { x with st := .refused }) s
         else (match kget s.tasks m.tgt.task with
           | some t => if t.st = .arming then undoArming m.tgt.task s else s
           | none => s)
       | none => s)
    | _ => s)

/-! ### Firing (R108 to R110) -/

/-- The gate of a launch is open (R90). -/
def gateOpen (s : State) (l : Nat) : Bool :=
  match kget s.launches l with
  | some x => x.nwaf ≤ 1 || (x.edgesIn && x.nwaf ≤ x.acks.length + 1)
  | none => false

/-- A READY task of a core whose launch may fire. -/
def fireable (s : State) (c : Nat) (t : TaskInst) : Bool := t.st = .ready && t.core = c && launchGoes s t.launch

/-- Every member of a gang is READY (R109). -/
def gangReady (s : State) (n : Nat) : Bool := (membersOf s n).all fun m => m.2.st = .ready

/-- When the last member of a gang became READY (R109). -/
def readySince (s : State) (n : Nat) : Nat := (membersOf s n).foldl (fun v m => max v m.2.readySeq) 0

/-- Gang member `a` fires before gang member `b`: the gang that was complete first reserves its cores first (R109). -/
def gangBefore (s : State) (a b : Nat × TaskInst) : Bool :=
  readySince s a.1 < readySince s b.1 || (readySince s a.1 = readySince s b.1 && a.2.gang < b.2.gang)

/-- Task `a` fires before task `b` (R109). -/
def firesBefore (a b : Nat × TaskInst) : Bool :=
  if a.2.prio ≠ b.2.prio then b.2.prio < a.2.prio
  else if a.2.readySeq ≠ b.2.readySeq then a.2.readySeq < b.2.readySeq else a.1 < b.1

/-- The task that a core fires next (R109); one of a gang whose members are all READY keeps others back. -/
def nextToFire (s : State) (c : Nat) : Option (Nat × TaskInst) :=
  let all := s.tasks.filter fun t => fireable s c t.2 && gangReady s t.1
  let held := all.filter fun t => 1 < (membersOf s t.1).length
  ((if held.isEmpty then all else held).foldl (fun a x => match a with
    | none => some x
    | some y => if (if held.isEmpty then firesBefore x y else gangBefore s x y) then some x else some y) none).filter fun x => gateOpen s x.2.launch

/-- A core may fire at all (R106, R107, R240, R474, R478). -/
def coreFires (s : State) (c : Nat) : Bool :=
  let k := s.core c
  let x := s.cluster (c / 4)
  x.enabled && !x.mapped && !x.stopped && x.freeze.isNone && !k.dbg.halted && k.noFire.isEmpty

/-- The bank into which a core can fire without a switch: neither bank holds a task (R108). -/
def idleBank (s : State) (c : Nat) : Option Bool :=
  let k := s.core c
  if coreFires s c && k.drain.isNone && k.running.isNone && k.b0.status = .empty && k.b1.status = .empty then
    some (s.choose (19 + 4 * c) 2 = 1)
  else none

/-- A drain is over: its 8 cycles, and every select-unit operation of the bank it leaves (R272, R469). -/
def Drain.over (s : State) (c : Nat) (d : Drain) : Bool := d.ends ≤ s.clk c && !((s.core c).sel.any fun q => q.bank = d.fromBank)

/-- The empty bank of a core whose switch drain has ended (R469). -/
def drainedBank (s : State) (c : Nat) : Option Bool :=
  let k := s.core c
  match k.drain with
  | some d => if coreFires s c && Drain.over s c d && (k.bank (!d.fromBank)).status = .empty then some (!d.fromBank) else none
  | none => none

/-- The state of a bank in which a task fires (R110). -/
def firedBank (s : State) (n : Nat) (t : TaskInst) (d : TaskDesc) (k : CodeObj) (x : Launch) : Bank :=
  { Bank.reset with
    status := .live, task := n, pc := BitVec.ofNat 32 d.entry, taskid := BitVec.ofNat 32 (taskidOf t),
    gangRank := BitVec.ofNat 32 t.rank, gangSize := BitVec.ofNat 32 d.gang, gangId := t.gang, launch := BitVec.ofNat 32 t.launch,
    gen := x.gen.setWidth 32, since := some (s.clk t.core), budget := d.budget,
    mbx := Vector.ofFn fun i : Fin 16 => t.mbx.getD i.val 0,
    rings := t.rings, imBase := t.imBase, imLen := k.imLen, tblBase := t.tbBase, tblLen := k.tbLen }

/-- A core leaves its blocked bank at the end of a drain (R469). -/
def leaveBank (c : Nat) (s : State) : State :=
  match (s.core c).drain with
  | none => s
  | some d =>
    let b := d.fromBank
    let s := emitCore s c b 0x0013 (leBytes 1 (if b then 1 else 0) ++ leBytes 3 0 ++ leBytes 4 (issueAddr s c ((s.core c).bank b)))
    s.modCore c fun k => { k.modBank b (fun x => { x.stopClock (s.clk c) with iaddr := BitVec.ofNat 32 (issueAddr s c x) }) with drain := none, running := none }

/-- A task fires into a bank of its core (R110); the first bank to hold a task is senior (R120). -/
def fireInto (n : Nat) (b : Bool) (s : State) : State :=
  match kget s.tasks n with
  | none => s
  | some t =>
    match descOf s t, codeOf s t, kget s.launches t.launch with
    | some d, some k, some x =>
      let c := t.core
      let s := s.modCore c fun y =>
        { y.modBank b (fun z => { firedBank s n t d k x with stageCount := z.stageCount }) with running := some b, senior := match y.senior with | some o => some o | none => some b }
      let s := s.modTask n fun t => { t with st := .running, bank := b, restarted := false }
      let s := emitCore s c b 0x0010 (leBytes 1 t.prio ++ leBytes 1 (if b then 1 else 0))
      s.modLaunch t.launch fun x => { x with moved := s.now }
    | _, _, _ => s

/-- A task alone can fire on its idle core. -/
def fireReady (s : State) (n : Nat) : Option Bool :=
  match kget s.tasks n with
  | none => none
  | some t =>
    match nextToFire s t.core with
    | some x => if x.1 = n && (membersOf s n).length = 1 then idleBank s t.core else none
    | none => none

/-- TASK_FIRE (R108, R110). -/
def execTaskFire (s : State) : Result :=
  .next (match s.ev with
    | some (.taskFire n) =>
      (match fireReady s n with
       | some b => fireInto n b s
       | none => s)
    | _ => s)

/-- The bank into which a member of a gang can fire now: on an idle core, or after the drain of a switch (R109). -/
def memberBank (s : State) (m : Nat × TaskInst) : Option Bool :=
  match nextToFire s m.2.core with
  | some x => if x.1 ≠ m.1 then none else (match idleBank s m.2.core with
      | some b => some b
      | none => drainedBank s m.2.core)
  | none => none

/-- The members of a gang of two or four, where all can fire (R109). -/
def gangFires (s : State) (g : Nat) : Option (List (Nat × TaskInst)) :=
  match s.tasks.find? fun t => t.2.gang = g with
  | none => none
  | some t =>
    let ms := membersOf s t.1
    if 1 < ms.length && ms.all (fun m => (memberBank s m).isSome) then some ms else none

/-- GANG_FIRE (R109): all members fire in one cycle. -/
def execGangFire (s : State) : Result :=
  .next (match s.ev with
    | some (.gangFire g) =>
      (match gangFires s g with
       | none => s
       | some ms =>
         let x : Gang := ⟨ms.map fun m => m.2.core, ms.map fun _ => 0, ms.map fun _ => true⟩
         let s' : State := { s with gangs := kset s.gangs g x }
         ms.foldl (fun s' m => match memberBank s m with
           | some b => fireInto m.1 b (leaveBank m.2.core s')
           | none => s') s')
    | _ => s)

/-! ### Budgets and pre-emption (R114, R474) -/

/-- A bank's BUDGET would pass below zero (R114). -/
def overrun (s : State) (c : Nat) (b : Bool) : Bool :=
  let k := s.core c
  let x := k.bank b
  k.running = some b && x.since.isSome && x.budget < x.cyc (s.clk c) && (match x.status with
    | .live => !x.tended
    | .pageWait _ => !x.tended
    | _ => false)

/-- A task stops where it stands, as its launch is aborted. -/
def stopBank (c : Nat) (b : Bool) (s : State) : State :=
  s.modBankAt c b fun k => { k with status := .trapped, iaddr := BitVec.ofNat 32 (issueAddr s c k) }

/-- The overrun rule (R114): a task that is not restartable aborts its launch with cause 0x03; another is killed and restarted, or at its
fourth overrun aborts its launch with the budget cause. -/
def overrunKill (c : Nat) (b : Bool) (s : State) : State :=
  let n := ((s.core c).bank b).task
  match kget s.tasks n with
  | none => s
  | some t =>
    let again := match descOf s t with | some d => d.restart | none => false
    if !again then postAbort (stopBank c b s) t.launch 0x03 (BitVec.setWidth 32 (sourceOf c b))
    else if 3 ≤ t.overruns then abortCode t.launch 0x2D (sourceOf c b) (stopBank c b s)
    else killUnit n 1 id (s.modTask n fun t => { t with overruns := t.overruns + 1 })

/-- BUDGET_EXHAUSTED (R114). -/
def execBudgetExhausted (s : State) : Result :=
  .next (match s.ev with
    | some (.budgetExhausted c b) => if overrun s c b then overrunKill c b s else s
    | _ => s)

/-- The running tasks that a pre-emption request names (R474). -/
def preempted (s : State) (part : Nat) (whole : Bool) (n : Nat) : List (Nat × TaskInst) :=
  s.tasks.filter fun t => t.2.st = .running && partOf t.2.launch = part && (if whole then fieldOf t.2.core = n else t.1 = n)

/-- A pre-empted task runs on to its end (R474): its RESTART bit is 0, or its TEND has issued (R211). -/
def runsOn (s : State) (t : TaskInst) : Bool := !(match descOf s t with | some d => d.restart | none => false) || isEnding s t

/-- The overrun rule takes a task that a request reaches together with its budget overrun (R474). -/
def overrunFirst (m : Nat × TaskInst) (s : State) : State :=
  match kget s.tasks m.1 with
  | none => s
  | some t => if t.st = .running && overrun s t.core t.bank then overrunKill t.core t.bank s else s

/-- The kill of a pre-empted task whose RESTART bit is 1 (R474). -/
def preemptKill (m : Nat × TaskInst) (s : State) : State :=
  match kget s.tasks m.1 with
  | none => s
  | some t => if t.st = .running && !runsOn s t then killUnit m.1 0 id s else s

/-- The pre-emption of the tasks that one request names (R474): the restartable ones are killed; until every other one has ended, no core
of a named task fires a task. -/
def preemptAll (ms : List (Nat × TaskInst)) (s : State) : State :=
  let s := ms.foldl (fun s m => overrunFirst m s) s
  let wait := (ms.filter fun m => runsOn s m.2).map fun m => m.1
  let s := ms.foldl (fun s m => preemptKill m s) s
  if wait.isEmpty then s
  else ms.foldl (fun s m => s.modCore m.2.core fun k => { k with noFire := wait.foldl sadd k.noFire }) s

/-- PREEMPTION_REQUEST (R474). -/
def execPreemptionRequest (s : State) : Result :=
  .next (match s.ev with
    | some (.preemptionRequest part whole n) => preemptAll (preempted s part whole n) s
    | _ => s)

/-- FIRMWARE_PRIORITY_CHANGE (R99): the PENDING entries of a launch of the partition change queue, but for those that keep the priority
they were selected at (R111). An entry joins its new queue at the back, at the time of the change (log 61: neither R98 nor R99 says). -/
def execFirmwarePriorityChange (s : State) : Result :=
  .next (match s.ev with
    | some (.firmwarePriorityChange part l prio) =>
      { s with tasks := s.tasks.map fun (x : Nat × TaskInst) =>
          (x.1, if x.2.launch = l && partOf l = part && x.2.st = .pending && !x.2.keepPrio && x.2.queuePrio ≠ prio % 8 then
              { x.2 with queuePrio := prio % 8, queued := s.now }
            else x.2) }
    | _ => s)

/-! ### Resubscription (R111, R112) -/

/-- The armed, unfired tasks of a cluster, whole gangs with them, return to PENDING with their priority and age (R111, R112). DESIGN CHOICE
(log 83): so does an entry that is still being armed, which R111 does not name. -/
def resubscribe (k : Nat) (s : State) : State :=
  let here := s.tasks.filter fun t => t.2.core / 4 = k && (t.2.st = .arming || t.2.st = .armed || t.2.st = .ready)
  here.foldl (fun s t => (membersOf s t.1).foldl (fun s m =>
    if m.2.st = .arming || m.2.st = .armed || m.2.st = .ready then
      requeue m.1 (fun x => { x with queuePrio := m.2.prio, keepPrio := true, resub := m.2.resub || m.2.st ≠ .arming }) s
    else s) s) s

end Sys2Proof.Machine
end

