-- ==== Sys2Proof/Machine/Launch.lean ====
section
/-! DEFINITION. Work queues, commands, launches, sweeps, phases, retirement and abort (R18, R72 to R94, R116, R453 to R463, R481 to
R486). -/

namespace Sys2Proof.Machine

open Sys2Proof

/-! ### Work queues (R72 to R76) -/

/-- The host port of a queue (R512). -/
def queuePort (q : Nat) : Nat := q / 4096

/-- A change of EN (R75): from 0 to 1, QHEAD and QTAIL become 0. -/
def WorkQueue.setEn (x : WorkQueue) (en : Bool) : WorkQueue :=
  if x.en = en then x
  else if en then { x with en := true, head := 0, tail := 0, epoch := x.epoch + 1 } else { x with en := false, epoch := x.epoch + 1 }

/-- The doorbell (R74). -/
def writeTail (q v : Nat) (s : State) : State :=
  s.modQueue q fun x => if 2 ^ x.log2 ≤ v then { x.setEn false with err := true } else { x with tail := v }

/-- QTAIL_WRITE (R74), through the access table of the work queues (R504). -/
def execQtailWrite (s : State) : Result :=
  .next (match s.ev with
    | some (.qtailWrite q v part _) => onBar (fun s => if 16384 ≤ q then s else checked s 3 q 4 part true false (writeTail q v) id) s
    | _ => s)

/-- A write of QCTL (R73, R75). -/
def writeCtlReg (q v : Nat) (s : State) : State :=
  s.modQueue q fun x =>
    let n := bitsNat v 15 12
    let log2 := if !x.en && 4 ≤ n && n ≤ 12 then n else x.log2
    ({ x with prio := bitsNat v 18 16, log2 := log2 }).setEn (bitsNat v 0 0 = 1 && x.asg)

/-- QCTL_WRITE (R75). -/
def execQctlWrite (s : State) : Result :=
  .next (match s.ev with
    | some (.qctlWrite q v part _) => onBar (fun s => if 16384 ≤ q then s else checked s 3 q 4 part true false (writeCtlReg q v) id) s
    | _ => s)

/-- The live launches of a partition. -/
def liveIn (s : State) (part : Nat) : List (Nat × Launch) := s.launches.filter fun x => x.2.part = part

/-- A queue is ready (R76); a firmware fault holds every queue of its partition until the reload (R85). -/
def queueReady (s : State) (x : WorkQueue) : Bool :=
  x.en && x.asg && !x.hold && !(s.part x.part).fwFault && x.head ≠ x.tail && !x.busy && (liveIn s x.part).length < 1024 && s.launches.length < 4096

/-- The ready queues. -/
def readyQueues (s : State) : List (Nat × WorkQueue) := s.queues.filter fun x => queueReady s x.2

/-- The queue that the arbiter takes (R77): the highest priority, from that level's pointer on. -/
def arbiterPick (s : State) : Option (Nat × WorkQueue) :=
  let all := readyQueues s
  let top := all.foldl (fun m x => max m x.2.prio) 0
  let level := all.filter fun x => x.2.prio = top
  let ptr := s.ptrs.get (Fin.ofNat 8 top)
  let dist := fun (x : Nat × WorkQueue) => (x.1 + 16384 - ptr) % 16384
  level.foldl (fun a x => match a with
    | none => some x
    | some y => if dist x < dist y then some x else some y) none

/-- The arbiter can select in this cycle: at most every 4 cycles (R77). -/
def arbiterSelects (s : State) : Bool := s.mgmt.boot = .running && s.now % 4 = 0 && (arbiterPick s).isSome

/-- The host bus completes every access to a span of bus addresses of a port. -/
def hostOk (s : State) (port bus n : Nat) : Bool :=
  n = 0 || !s.hostBad.any fun g => hostKey port bus / 4096 ≤ g && g ≤ hostKey port (bus + n - 1) / 4096

/-- What the device reads of a command (R79). The spec states no value where the host bus does not complete the read (log 5). -/
def readCommand (s : State) (q : Nat) (x : WorkQueue) : Nat :=
  let a := (x.base + 64 * x.head) % 2 ^ 64
  if hostOk s (queuePort q) a 64 then readNat s (hostKey (queuePort q) a) 64 else s.free 3 % 2 ^ 512

/-- QUEUE_SELECTION (R77, R78): the head command is read and the queue is BUSY. -/
def execQueueSelection (s : State) : Result :=
  .next (match s.ev with
    | some .queueSelection =>
      if !arbiterSelects s then s
      else match arbiterPick s with
        | none => s
        | some (q, x) =>
          let w := readCommand s q x
          let c : Cmd := ⟨q, w, s.opId, x.epoch, bitsNat w 9 9 = 1, none, [], none, 0⟩
          let s := s.modQueue q fun x => { x with busy := true }
          ({ s with ptrs := s.ptrs.set (Fin.ofNat 8 x.prio) ((q + 1) % 16384), cmds := s.cmds ++ [c] }).bump
    | _ => s)

/-! ### Commands (R79 to R83) -/

/-- Fields of a command (R79). -/
def Cmd.opc (c : Cmd) : Nat := bitsNat c.w 7 0
def Cmd.irq (c : Cmd) : Bool := bitsNat c.w 8 8 = 1
def Cmd.ident (c : Cmd) : Nat := bitsNat c.w 127 96
def Cmd.ns (c : Cmd) : Nat := bitsNat c.w 139 128
def Cmd.gen (c : Cmd) : Nat := bitsNat c.w 159 144
def Cmd.group (c : Cmd) : Nat := bitsNat c.w 223 192
def Cmd.argLen (c : Cmd) : Nat := bitsNat c.w 231 224
def Cmd.ncut (c : Cmd) : Nat := bitsNat c.w 239 232
def Cmd.wafIdx (c : Cmd) : Nat := bitsNat c.w 247 240
def Cmd.nwaf (c : Cmd) : Nat := bitsNat c.w 255 248
def Cmd.addr (c : Cmd) : Nat := bitsNat c.w 383 320
def Cmd.cplAddr (c : Cmd) : Nat := bitsNat c.w 447 384
def Cmd.cutAddr (c : Cmd) : Nat := bitsNat c.w 511 448

/-- The fields of a command that are out of range or not zero where they must be (R79, R82, R83), by the number of their lowest bit,
lowest field first. -/
def Cmd.badFields (c : Cmd) : List (Nat × Bool) :=
  let w := c.w
  let launch : Bool := c.opc = 3
  [(0, 4 < c.opc), (10, bitsNat w 95 10 ≠ 0),
   (96, !launch && c.opc ≠ 4 && c.ident ≠ 0),
   (128, if launch || c.opc = 2 then c.ns = 0 else c.ns ≠ 0),
   (140, bitsNat w 143 140 ≠ 0),
   (144, !launch && c.gen ≠ 0),
   (160, bitsNat w 191 160 ≠ 0),
   (192, (!launch || c.nwaf ≤ 1) && c.group ≠ 0),
   (224, if launch then 64 < c.argLen || c.argLen % 4 ≠ 0 else c.argLen ≠ 0),
   (232, !launch && c.ncut ≠ 0),
   (240, if launch && 1 < c.nwaf then c.nwaf ≤ c.wafIdx else c.wafIdx ≠ 0),
   (248, if launch then 64 < c.nwaf else c.nwaf ≠ 0),
   (256, bitsNat w 319 256 ≠ 0),
   (320, if launch then c.argLen ≠ 0 && c.addr % 4 ≠ 0 else if c.opc = 1 then c.addr % 64 ≠ 0 else c.addr ≠ 0),
   (384, c.cplAddr % 32 ≠ 0),
   (448, if launch && 1 < c.nwaf then c.cutAddr % 8 ≠ 0 else c.cutAddr ≠ 0)]

/-- The lowest bit of the offending field that lies lowest (R93). -/
def Cmd.badField (c : Cmd) : Option Nat := (c.badFields.find? fun x => x.2).map fun x => x.1

/-- The selected command of a queue. -/
def cmdOf (s : State) (q : Nat) : Option Cmd := s.cmds.find? fun c => c.q = q

/-- Change the selected command of a queue. -/
def modCmd (q : Nat) (f : Cmd → Cmd) (s : State) : State :=
  { s with cmds := s.cmds.map fun (c : Cmd) => if c.q = q then f c else c }

/-- A selected command of an operation code that may be checked now. -/
def pendingCmd (s : State) (q opc : Nat) : Option Cmd :=
  (cmdOf s q).filter fun c => !c.held && c.args.isNone && c.waitFor.isNone && (c.opc = opc || (opc = 0 && 4 < c.opc))

/-- QHEAD advances when a command is accepted or rejected, where EN has stayed 1 since its selection (R75). -/
def advance (c : Cmd) (s : State) : State :=
  s.modQueue c.q fun x => if x.en && x.epoch = c.epoch then { x with head := (x.head + 1) % 2 ^ x.log2 } else x

/-- BUSY ends (R74). -/
def release (c : Cmd) (s : State) : State :=
  { (s.modQueue c.q fun x => { x with busy := false }) with cmds := s.cmds.filter fun (x : Cmd) => x.q ≠ c.q }

/-- A completion record (R92). -/
structure Completion where
  q : Nat
  cpl : Nat
  irq : Bool
  ident : Nat
  status : Nat
  cause : Nat
  detail : Nat
  tasks : Nat
  tstart : Nat
  deriving DecidableEq, Repr

/-- The 32 bytes of a completion record. -/
def Completion.bytes (r : Completion) (tend : Nat) : List Byte :=
  leBytes 4 r.ident ++ leBytes 1 r.status ++ leBytes 1 r.cause ++ leBytes 2 r.q ++ leBytes 8 r.tstart ++ leBytes 8 tend ++
    leBytes 4 r.tasks ++ leBytes 4 r.detail

/-- The MSI-X vector of a queue (R512), its port above bit 11. -/
def vectorOf (q : Nat) : Nat := queuePort q * 2048 + q % 2048

/-- Write a completion record, and raise the vector (R92, R94, R486). A misaligned address takes no record, and a failed write is not
retried; either is logged, and no interrupt follows. -/
def writeRecord (r : Completion) (s : State) : State :=
  if r.cpl % 32 ≠ 0 then s.note 1 r.q
  else if !hostOk s (queuePort r.q) r.cpl 32 then s.note 2 r.q
  else
    let s := writeBytes s (hostKey (queuePort r.q) r.cpl) (r.bytes (taiNs s))
    if r.irq then { s with msix := s.msix ++ [vectorOf r.q] } else s

/-- The record of a command that is no launch. -/
def Cmd.record (c : Cmd) (ident status cause detail tstart : Nat) : Completion :=
  ⟨c.q, c.cplAddr, c.irq, ident, status, cause, detail, 0, tstart⟩

/-- The ID field of a rejected command's record (R92). -/
def Cmd.recordId (c : Cmd) : Nat := if c.opc = 1 then 0 else if c.opc = 2 then c.ns else c.ident

/-- A command is over: its record, its head and its BUSY. -/
def finishCmd (c : Cmd) (ident status cause detail : Nat) (s : State) : State :=
  release c (advance c (writeRecord (c.record ident status cause detail (taiNs s)) s))

/-- COMMAND_REJECTION (R83). -/
def reject (c : Cmd) (cause detail : Nat) (s : State) : State := finishCmd c c.recordId 3 cause (detail % 2 ^ 32) s

/-- The first check of R82 and R83, then the others. -/
def fieldsThen (c : Cmd) (f : State → State) (s : State) : State :=
  match c.badField with
  | some n => reject c 0x20 n s
  | none => f s

/-- NOP (R80); a command with an unassigned OPC is rejected here. -/
def execNop (s : State) : Result :=
  .next (match s.ev with
    | some (.nop q) =>
      (match pendingCmd s q 0 with
       | some c => fieldsThen c (finishCmd c c.ident 1 0 0) s
       | none => s)
    | _ => s)

/-! ### LOAD and UNLOAD (R18, R44, R80) -/

/-- A graph object in host memory. -/
def hostObject (s : State) (port addr : Nat) : ObjRead := fun off n => readNat s (hostKey port (addr + off)) n

/-- The lowest free namespace (R18). -/
def freeNs (s : State) : Option Nat := (List.range 4096).find? fun n => n ≠ 0 && (kget s.graphs n).isNone

/-- Device memory of a partition that loaded graphs take. -/
def deviceUsed (s : State) (part : Nat) : Nat :=
  (s.graphs.filter fun g => g.2.part = part).foldl (fun n g => n + g.2.total) 0

/-- The graph is copied and has its namespace (R80, R18). -/
def installGraph (c : Cmd) (part ns : Nat) (s : State) : State :=
  let g := hostObject s (queuePort c.q) c.addr
  let n := (readHeader g).total
  let s := writeBytes s ((Space.gobj ns).key 0) (readBytes s (hostKey (queuePort c.q) c.addr) n)
  finishCmd c ns 1 0 0 { s with graphs := kset s.graphs ns (graphFrom g part) }

/-- The checks of a LOAD after its fields (R83 step 3). -/
def loadGraph (c : Cmd) (s : State) : State :=
  let g := hostObject s (queuePort c.q) c.addr
  let part := (s.queue c.q).part
  if !hostOk s (queuePort c.q) c.addr 64 || !hostOk s (queuePort c.q) c.addr (readHeader g).total then reject c 0x23 2 s
  else match loadChecks g with
    | some (code, i) => reject c code i s
    | none => match freeNs s with
      | none => reject c 0x0C 0 s
      | some ns =>
        let need := deviceUsed s part + (readHeader g).total
        if (s.part part).devRoom < need then reject c 0x25 (min (need - (s.part part).devRoom) (2 ^ 32 - 1)) s
        else installGraph c part ns s

/-- LOAD (R80). -/
def execLoad (s : State) : Result :=
  .next (match s.ev with
    | some (.load q) =>
      (match pendingCmd s q 1 with
       | some c => fieldsThen c (loadGraph c) s
       | none => s)
    | _ => s)

/-- A namespace that a queue's partition has loaded and that is not unloading (R82, R83). -/
def nsLoaded (s : State) (q ns : Nat) : Bool :=
  match kget s.graphs ns with
  | some g => g.part = (s.queue q).part && !g.unloading
  | none => false

/-- Some launch of a graph is live, or has been checked and awaits acceptance. -/
def nsInUse (s : State) (ns : Nat) : Bool :=
  s.launches.any (fun x => x.2.ns = ns) || s.cmds.any fun c => c.opc = 3 && c.args.isSome && c.ns = ns

/-- NAMESPACE_FREE (R18): a namespace that is unloading and that nothing uses becomes free, its copy is gone, and the UNLOAD's record is
written. -/
def freeNamespace (c : Cmd) (s : State) : State :=
  if nsInUse s c.ns then s
  else
    let k := (Space.gobj c.ns).key 0
    let s := dropImages c.ns { s with graphs := kdel s.graphs c.ns, mem := s.mem.filter fun (e : Host.Cell) => !(k ≤ e.1 && e.1 < k + 2 ^ 64) }
    release c (writeRecord (c.record c.ns 1 0 0 c.tstart) s)

/-- The accepted UNLOADs whose namespaces have become free. -/
def settleUnloads (s : State) : State :=
  (s.cmds.filter fun c => c.opc = 2 && c.waitFor.isSome).foldl (fun s c => freeNamespace c s) s

/-- UNLOAD accepted: the namespace is unloading. -/
def startUnload (c : Cmd) (s : State) : State :=
  if !nsLoaded s c.q c.ns then reject c 0x21 c.ns s
  else
    let s := match kget s.graphs c.ns with
      | some g => { s with graphs := kset s.graphs c.ns { g with unloading := true } }
      | none => s
    settleUnloads (advance c (modCmd c.q (fun x => { x with waitFor := some c.ns, tstart := taiNs s }) s))

/-- UNLOAD (R80). -/
def execUnload (s : State) : Result :=
  .next (match s.ev with
    | some (.unload q) =>
      (match pendingCmd s q 2 with
       | some c => fieldsThen c (startUnload c) s
       | none => s)
    | _ => s)

/-! ### LAUNCH (R82, R84) -/

/-- A cut-edge entry (R89). -/
def cutAt (w : Nat) : CutEdge := ⟨bitsNat w 29 24, bitsNat w 20 20 = 1, bitsNat w 19 0⟩

/-- The argument words of a LAUNCH in host memory (R35). -/
def argWords (s : State) (c : Cmd) : List Word :=
  (List.range (c.argLen / 4)).map fun i => BitVec.ofNat 32 (readNat s (hostKey (queuePort c.q) (c.addr + 4 * i)) 4)

/-- The cut edges of a LAUNCH in host memory (R89). -/
def cutEdges (s : State) (c : Cmd) : List CutEdge :=
  if c.nwaf ≤ 1 then []
  else (List.range c.ncut).map fun i => cutAt (readNat s (hostKey (queuePort c.q) (c.cutAddr + 8 * i)) 8)

/-- Another LAUNCH with the same ID has been checked and awaits acceptance. -/
def sameIdChecked (s : State) (c : Cmd) : Bool :=
  s.cmds.any fun x => x.q ≠ c.q && x.opc = 3 && x.args.isSome && x.ident = c.ident

/-- The checks of a LAUNCH after its fields (R82), and the reading of its arguments and cut edges. -/
def checkLaunch (c : Cmd) (s : State) : State :=
  let port := queuePort c.q
  if !nsLoaded s c.q c.ns then reject c 0x21 c.ns s
  else if partOf c.ident ≠ (s.queue c.q).part || (kget s.launches c.ident).isSome then reject c 0x22 c.ident s
  else if !hostOk s port c.addr c.argLen then reject c 0x23 0 s
  else if 1 < c.nwaf && !hostOk s port c.cutAddr (8 * c.ncut) then reject c 0x23 1 s
  else
    let code := Config.admission s.nonce
    if code ≠ 0 then reject c 0x24 code.toNat s
    else modCmd c.q (fun x => { x with args := some (argWords s c), edges := cutEdges s c }) s

/-- The LAUNCH of a queue that can be checked now. One whose ID equals that of a LAUNCH that has been checked on another queue and is not yet
accepted waits, and is then rejected (log 71: R82 names only live launches). -/
def launchCmd (s : State) (q : Nat) : Option Cmd := (pendingCmd s q 3).filter fun c => !sameIdChecked s c

/-- LAUNCH (R82). -/
def execLaunch (s : State) : Result :=
  .next (match s.ev with
    | some (.launch q) =>
      (match launchCmd s q with
       | some c => fieldsThen c (checkLaunch c) s
       | none => s)
    | _ => s)

/-- The source of the launch processor and the management controller (R490). -/
def launchSource : BitVec 16 := BitVec.ofNat 16 (125 * 512)

/-- A record of the launch processor about a launch. -/
def launchRec (l : Nat) (code : BitVec 16) (payload : List Byte) (s : State) : State :=
  emit s (launchField s l) unitLaunch (unitRec s code launchSource l 0xFFFFFFFF payload)

/-- A sweep interval of a partition (R457, R458). -/
def sweepInterval (s : State) (part : Nat) : Nat := 2 ^ ((s.part part).swexp + 8)

/-- A launch as it is accepted (R84, R453, R457). -/
def newLaunch (s : State) (c : Cmd) (args : List Word) : Launch where
  part := partOf c.ident
  ns := c.ns
  gen := BitVec.ofNat 16 c.gen
  queue := c.q
  seq := c.seq
  cpl := c.cplAddr
  irq := c.irq
  args := args
  tstart := taiNs s
  accepted := s.now
  tasks := 0
  todo := 0
  frontier := 0
  closed := []
  sweeping := none
  last := none
  closedLast := false
  nextSweep := s.now + sweepInterval s (partOf c.ident)
  moved := s.now
  nwaf := c.nwaf
  wafidx := c.wafIdx
  group := c.group
  acks := []
  edges := c.edges
  edgesIn := false
  peerViews := []
  retiring := false
  abort := none
  discarded := false
  discardClean := 0
  told := false

/-- A checked LAUNCH of a queue, with its argument words. -/
def checkedCmd (s : State) (q : Nat) : Option (Cmd × List Word) :=
  match cmdOf s q with
  | some c => c.args.map fun a => (c, a)
  | none => none

/-- LAUNCH_ACCEPTANCE (R84, R96). The phase counters rise where a template to be handed over will be a source (R454, R456). -/
def execLaunchAcceptance (s : State) : Result :=
  .next (match s.ev with
    | some (.launchAcceptance q) =>
      (match checkedCmd s q with
       | some (c, args) =>
         let s := { s with launches := kset s.launches c.ident (newLaunch s c args) }
         let s := launchRec c.ident 0x0001 (leBytes 2 c.q ++ leBytes 2 c.ns ++ leBytes 2 c.gen) s
         release c (advance c (if sourceToCome s c.ident then touchSource s c.ident 0 else s))
       | none => s)
    | _ => s)

/-- The fence of a held command is over (R79): every earlier launch of its queue has retired. -/
def fenceOver (s : State) (q : Nat) : Bool :=
  match cmdOf s q with
  | some c => c.held && !s.launches.any fun x => x.2.queue = q && x.2.seq < c.seq
  | none => false

/-- COMMAND_FENCE_RELEASE (R79). -/
def execCommandFenceRelease (s : State) : Result :=
  .next (match s.ev with
    | some (.commandFenceRelease q) => if fenceOver s q then modCmd q (fun c => { c with held := false }) s else s
    | _ => s)

/-! ### ABORT -/

/-- A live launch that a cause of abort can still reach (R481). -/
def abortable (s : State) (l : Nat) : Bool :=
  match kget s.launches l with
  | some x => !x.retiring
  | none => false

/-- ABORT accepted (R80, R83): cause 0x05 for a live launch; without one the record follows at once. -/
def startAbort (c : Cmd) (s : State) : State :=
  if partOf c.ident ≠ (s.queue c.q).part then reject c 0x22 c.ident s
  else if abortable s c.ident then
    advance c (modCmd c.q (fun x => { x with waitFor := some c.ident, tstart := taiNs s })
      (postAbort s c.ident 0x05 (BitVec.ofNat 32 c.q)))
  else finishCmd c c.ident 1 0 0 s

/-- ABORT (R80). -/
def execAbort (s : State) : Result :=
  .next (match s.ev with
    | some (.abort q) =>
      (match pendingCmd s q 4 with
       | some c => fieldsThen c (startAbort c) s
       | none => s)
    | _ => s)

/-! ### Other wafers (R89 to R91) -/

/-- This wafer's part of a group over several wafers, until its end. -/
def groupPart (s : State) (group : Nat) : Option (Nat × Launch) := s.launches.find? fun x => 1 < x.2.nwaf && x.2.group = group

/-- The live launch of a group over several wafers. -/
def groupLaunch (s : State) (group : Nat) : Option (Nat × Launch) :=
  s.launches.find? fun x => 1 < x.2.nwaf && x.2.group = group && !x.2.discarded && !x.2.retiring

/-- The cut edges of a launch are still to be installed. -/
def edgesToInstall (s : State) (l : Nat) : Bool :=
  match kget s.launches l with
  | some x => 1 < x.nwaf && !x.edgesIn && !x.discarded
  | none => false

/-- CUT_EDGE_INSTALLED (R90): the acknowledgement goes to each of the other wafers. -/
def execCutEdgeInstalled (s : State) : Result :=
  .next (match s.ev with
    | some (.cutEdgeInstalled l) =>
      (match kget s.launches l with
       | some x =>
         if !edgesToInstall s l then s
         else { (s.modLaunch l fun x => { x with edgesIn := true }) with outbox := s.outbox ++ [.ack x.group x.nwaf x.wafidx] }
       | none => s)
    | _ => s)

/-- WAFER_ACKNOWLEDGEMENT (R90): it counts toward the gate; a mismatch aborts with cause 0x08. -/
def execWaferAcknowledgement (s : State) : Result :=
  .next (match s.ev with
    | some (.waferAcknowledgement g n w) =>
      (match groupLaunch s g with
       | some (l, x) =>
         if x.nwaf ≠ n || x.wafidx = w || x.acks.contains w then postAbort s l 0x08 (BitVec.ofNat 32 w)
         else s.modLaunch l fun x => { x with acks := sadd x.acks w }
       | none => s)
    | _ => s)

/-- The mask of the wafers `lo` to `lo + 31` whose acknowledgements are missing (R93). -/
def missingMask (x : Launch) (lo : Nat) : Nat :=
  (List.range 32).foldl (fun m i =>
    if lo + i < x.nwaf && lo + i ≠ x.wafidx && !x.acks.contains (lo + i) then m + 2 ^ i else m) 0

/-- A cause of abort of a launch is on its way to the launch processor. -/
def abortComing (s : State) (l : Nat) : Bool := s.aborts.any fun a => a.launch = l

/-- The gate of a launch has not opened in time (R90). -/
def gateLate (s : State) (l : Nat) : Bool :=
  match kget s.launches l with
  | some x => 1 < x.nwaf && x.accepted + 2 ^ 28 ≤ s.now && !gateOpen s l && !x.discarded && !abortComing s l
  | none => false

/-- GATE_TIMEOUT (R90). -/
def execGateTimeout (s : State) : Result :=
  .next (match s.ev with
    | some (.gateTimeout l) =>
      (match kget s.launches l with
       | some x => if gateLate s l then postAbort s l 0x07 (BitVec.ofNat 32 (missingMask x 0)) else s
       | none => s)
    | _ => s)

/-- PEER_ABORT (R91). It is ignored by a part that is already discarded, or whose retirement has been decided (R481). -/
def execPeerAbort (s : State) : Result :=
  .next (match s.ev with
    | some (.peerAbort g w) =>
      (match groupPart s g with
       | some (l, x) => if x.discarded || x.retiring then s
         else postAbort (s.modLaunch l fun x => { x with told := true }) l 0x06 (BitVec.ofNat 32 w)
       | none => s)
    | _ => s)

/-! ### Launch firmware (R85, R86) -/

/-- FIRMWARE_ABORT (R85): a live launch of the firmware's partition. -/
def execFirmwareAbort (s : State) : Result :=
  .next (match s.ev with
    | some (.firmwareAbort part l code) =>
      if partOf l = part && abortable s l then postAbort s l 0x09 (BitVec.ofNat 32 code) else s
    | _ => s)

/-- CONTROL_PIP (R86): dropped where the launch is not live. -/
def execControlPip (s : State) : Result :=
  .next (match s.ev with
    | some (.controlPip part l code) =>
      if partOf l = part && (kget s.launches l).isSome then devicePip 3 l (BitVec.ofNat 16 code) l (frontier s l) false s else s
    | _ => s)

/-- HOLD of every queue of a partition (R85, R475). -/
def holdQueues (part : Nat) (hold : Bool) (s : State) : State :=
  { s with queues := s.queues.map fun (x : Nat × WorkQueue) =>
      (x.1, if x.2.asg && x.2.part = part then { x.2 with hold := hold } else x.2) }

/-- Every live launch of a partition is aborted with cause 0x09. The spec states no DETAIL where no firmware code is given (log 5). -/
def abortPartition (part : Nat) (s : State) : State :=
  (liveIn s part).foldl (fun s x => if x.2.discarded || x.2.retiring then s
    else postAbort s x.1 0x09 (BitVec.ofNat 32 (s.free 4))) s

/-- FIRMWARE_FAULT (R85). -/
def execFirmwareFault (s : State) : Result :=
  .next (match s.ev with
    | some (.firmwareFault part) =>
      holdQueues part true (abortPartition part (s.modPart part fun p => { p with fwFault := true }))
    | _ => s)

/-- Extend a measurement register (R502). -/
def extendMeas (k : Nat) (d : List Byte) (s : State) : State :=
  { s with mgmt := { s.mgmt with
      meas := lmod s.mgmt.meas k fun m => sha384 (m ++ d) } }

/-- LAUNCH_FIRMWARE_RELOAD (R85, R502): the running image measures the launch firmware before it loads it, and the queues that a firmware fault
held are released. -/
def execLaunchFirmwareReload (s : State) : Result :=
  .next (match s.ev with
    | some (.launchFirmwareReload part d) =>
      if s.mgmt.boot ≠ .running then s
      else
      let s := extendMeas 2 d s
      if (s.part part).fwFault then holdQueues part false (s.modPart part fun p => { p with fwFault := false }) else s
    | _ => s)

/-! ### Sweeps (R457 to R459, R462) -/

/-- The change bit of a counter is set. -/
def changedBit (s : State) (l k : Nat) : Bool := s.changed.contains (counterKey l k)

/-- The task instances of a launch. -/
def tasksOf (s : State) (l : Nat) : List (Nat × TaskInst) := s.tasks.filter fun t => t.2.launch = l

/-- Every template of a launch has been handed over (R96). -/
def handedOver (s : State) (l : Nat) : Bool :=
  match kget s.launches l, graphOf s l with
  | some x, some g => g.tasks.length ≤ x.todo
  | _, _ => true

/-- Every task of the launch's part on this wafer has ended (R459). -/
def allEnded (s : State) (l : Nat) : Bool := handedOver s l && (tasksOf s l).isEmpty

/-- Every task has ended or is ARMED and unsatisfied (R116). -/
def allStill (s : State) (l : Nat) : Bool := handedOver s l && (tasksOf s l).all fun t => t.2.st = .armed

/-- What a sweep finds of a launch (R457, R459, R462). -/
def sweepView (s : State) (l : Nat) : SweepView :=
  let ctl := !busyCounter s l 16 && !changedBit s l 16
  ⟨(List.range 16).map fun p => ctl && !busyCounter s l p && !sourceIn s l p && !changedBit s l p,
   (List.range 16).map fun p => ctl && !busyCounter s l p && !changedBit s l p, allEnded s l, allStill s l⟩

/-- What a wafer tells its peers of a sweep (R459, log 17): clean phases, whether its tasks have ended, quiescent phases, and whether its
tasks stand still. -/
def peerReport (v : SweepView) : List Bool := v.clean ++ [v.ended] ++ v.quiet ++ [v.still]

/-- A sweep is due (R457). -/
def sweepDue (s : State) (l : Nat) : Bool :=
  match kget s.launches l with
  | some x => x.sweeping.isNone && !x.retiring && x.nextSweep ≤ s.now
  | none => false

/-- A launch shares its phases with other wafers. -/
def Launch.joint (x : Launch) : Bool := 1 < x.nwaf && !x.discarded

/-- SWEEP_START (R457): every reporter answers, its change bits are clear, and its entries that read zero are free (R454). -/
def execSweepStart (s : State) : Result :=
  .next (match s.ev with
    | some (.sweepStart l) =>
      (match kget s.launches l with
       | some x =>
         if !sweepDue s l then s
         else
           let v := sweepView s l
           let s := if x.joint then { s with outbox := s.outbox ++ [.sweep x.group x.wafidx (peerReport v)] } else s
           freeCounters l { (s.modLaunch l fun x => { x with sweeping := some v, nextSweep := s.now + sweepInterval s x.part }) with
             changed := s.changed.filter fun k => k / 64 ≠ l }
       | none => s)
    | _ => s)

/-- PEER_SWEEP_RESULT (R459). -/
def execPeerSweepResult (s : State) : Result :=
  .next (match s.ev with
    | some (.peerSweepResult g w v) =>
      (match groupLaunch s g with
       | some (l, _) => s.modLaunch l fun x => { x with peerViews := x.peerViews ++ [(w, v)] }
       | none => s)
    | _ => s)

/-- The first report of each peer, where every peer has sent one. -/
def peerReports (x : Launch) : Option (List (List Bool)) :=
  if !x.joint then some []
  else
    let ws := (List.range x.nwaf).filter fun w => w ≠ x.wafidx
    let l := ws.filterMap fun w => (x.peerViews.find? fun v => v.1 = w).map fun v => v.2
    if l.length = ws.length then some l else none

/-- The reports left once a sweep has used each peer's first. -/
def dropReports (x : Launch) : List (Nat × List Bool) :=
  ((List.range x.nwaf).filter fun w => w ≠ x.wafidx).foldl (fun l w => l.eraseP fun v => v.1 = w) x.peerViews

/-- A sweep can end: its answers, and those of every peer wafer, are in. -/
def sweepEnds (s : State) (l : Nat) : Bool :=
  match kget s.launches l with
  | some x => x.sweeping.isSome && (peerReports x).isSome
  | none => false

/-- Position `i` holds on this wafer and in every report. -/
def jointly (own : Bool) (rs : List (List Bool)) (i : Nat) : Bool := own && rs.all fun r => r.getD i false

/-- The lowest phase that is not closed, 16 with none (R453). -/
def lowestOpen (closed : List Nat) : Nat := ((List.range 16).find? fun p => !closed.contains p).getD 16

/-- PHASE_CLOSE (R461): F rises, then the pip and the notices leave. -/
def closePhase (l : Nat) (s : State) (q : Nat) : State :=
  let s := s.modLaunch l fun x => { x with closed := sadd x.closed q, frontier := lowestOpen (sadd x.closed q) }
  let s := launchRec l 0x0020 (leBytes 1 q) s
  let s := devicePip 1 l (BitVec.ofNat 16 q) l (q + 1) true s
  let rs := (s.part (partOf l)).fields.flatMap clustersOf
  postAll (rs.map fun r => .phaseCloseNotice l r q) s

/-- The phases that a sweep closes (R459): both sweeps were clean; at most the frontier while tasks remain. -/
def closing (x : Launch) (clean : List Bool) (ended : Bool) : List Nat :=
  let both := fun q => clean.getD q false && (match x.last with | some v => v.clean.getD q false | none => false)
  if ended then (List.range 16).filter fun q => x.frontier ≤ q && !x.closed.contains q && both q
  else if x.frontier < 16 && both x.frontier then [x.frontier] else []

/-- PHASE_CLOSE_NOTICE (R461): event 5 at each core of the router that holds a task of the launch. -/
def execPhaseCloseNotice (s : State) : Result :=
  .next (match s.ev with
    | some (.phaseCloseNotice l r _) =>
      (coresOf r).foldl (fun s c => [false, true].foldl (fun s b =>
        let k := (s.core c).bank b
        if k.status ≠ .empty && k.launch.toNat = l then raiseEvent s c b 5 else s) s) s
    | _ => s)

/-- ARMED and unsatisfied tasks of a launch. -/
def armedCount (s : State) (l : Nat) : Nat := ((tasksOf s l).filter fun t => t.2.st = .armed).length
/-- PENDING entries of a launch. -/
def pendingCount (s : State) (l : Nat) : Nat := ((tasksOf s l).filter fun t => t.2.st = .pending).length

/-- DEADLOCK_ABORT (R116, R462), at the end of a sweep: `quiet` where quiescence applies. The window of the second test begins again where a
sweep ends without quiescence or without PENDING entries. -/
def deadlock (l : Nat) (quiet still : Bool) (s : State) : State :=
  match kget s.launches l with
  | none => s
  | some x =>
    if quiet && still && armedCount s l ≠ 0 then postAbort s l 0x01 (BitVec.ofNat 32 (armedCount s l))
    else if !quiet || pendingCount s l = 0 then s.modLaunch l fun x => { x with moved := s.now }
    else if x.moved + 2 ^ 24 ≤ s.now then postAbort s l 0x01 (BitVec.ofNat 32 (armedCount s l + pendingCount s l))
    else s

/-! ### The end of a launch (R92, R94, R486) -/

/-- Work of a launch that travels is consumed (R355). -/
def Event.ofLaunch (l : Nat) (e : Event) : Bool :=
  match e with
  | .getRetryResend _ => false
  | e => match Event.traffic e with | some t => t.1 = l | none => false

/-- Nothing of a launch is kept for a later one (R482). -/
def purge (l : Nat) (s : State) : State :=
  let s := dropCounters l (dropNetwork l s)
  { s with passing := s.passing.filter (fun (x : Passing) => x.launch ≠ l), agenda := s.agenda.filter (fun (e : Event) => !Event.ofLaunch l e), changed := s.changed.filter (fun k => k / 64 ≠ l),
           aborts := s.aborts.filter (fun (a : AbortCause) => a.launch ≠ l) }

/-- What other wafers have sent to a part that has ended is dropped (R91). -/
def dropPeers (x : Launch) (s : State) : State :=
  if x.nwaf ≤ 1 then s
  else { s with agenda := s.agenda.filter fun e => match e with
    | .waferAcknowledgement g _ _ => g ≠ x.group
    | .peerAbort g _ => g ≠ x.group
    | .peerSweepResult g _ _ => g ≠ x.group
    | _ => true }

/-- The ABORTs that have waited for a launch are over (R80). -/
def settleAborts (l detail : Nat) (s : State) : State :=
  (s.cmds.filter fun c => c.opc = 4 && c.waitFor = some l).foldl (fun s c =>
    release c (writeRecord (c.record c.ident 1 0 detail c.tstart) s)) s

/-- Steps 3 to 6 of R486: record, trace record, interrupt, and the launch is no longer live. -/
def endLaunch (l status cause detail : Nat) (s : State) : State :=
  match kget s.launches l with
  | none => s
  | some x =>
    let s := writeRecord ⟨x.queue, x.cpl, x.irq, l, status, cause, detail, x.tasks, x.tstart⟩ s
    let s := launchRec l (if status = 1 then 0x0002 else 0x0003)
      (leBytes 1 status ++ leBytes 1 cause ++ leBytes 2 0 ++ leBytes 4 x.tasks ++ leBytes 4 detail) s
    let s := { s with launches := kdel s.launches l }
    settleUnloads (settleAborts l (if status = 1 then 0 else 1) (dropPeers x (purge l s)))

/-- Operations of a launch that have not ended; paging is not the launch's (R431). -/
def launchOps (s : State) (l : Nat) : Bool := s.ops.any fun o => o.2.launch = l && o.2.kind ≠ .page

/-- A retiring launch has nothing outstanding (R486 step 1). -/
def retirable (s : State) (l : Nat) : Bool :=
  match kget s.launches l with
  | some x => x.retiring && !launchOps s l
  | none => false

/-- LAUNCH_RETIREMENT (R486). -/
def execLaunchRetirement (s : State) : Result :=
  .next (match s.ev with
    | some (.launchRetirement l) => if retirable s l then endLaunch l 1 0 0 (dropSumps l s) else s
    | _ => s)

/-- ABORT_DISCARD_END (R481 steps 4 and 5): two quiescent sweeps after the discard the record is written. -/
def discardSweep (l : Nat) (quiet : Bool) (s : State) : State :=
  match kget s.launches l with
  | none => s
  | some x =>
    if !quiet then s.modLaunch l fun x => { x with discardClean := 0 }
    else if x.discardClean = 0 then s.modLaunch l fun x => { x with discardClean := 1 }
    else match x.abort with
      | some a => endLaunch l 2 a.cause.toNat a.detail.toNat s
      | none => s

/-- SWEEP_END of a launch that is not aborted (R459, R462, R463). -/
def liveSweep (l : Nat) (x : Launch) (v : SweepView) (rs : List (List Bool)) (s : State) : State :=
  let clean := (List.range 16).map fun p => jointly (v.clean.getD p false) rs p
  let quiet := (List.range 16).map fun p => jointly (v.quiet.getD p false) rs (17 + p)
  let ended := jointly (if x.joint then v.ended else allEnded s l) rs 16
  let still := jointly (if x.joint then v.still else allStill s l) rs 33
  let qs := closing x clean ended
  let calm := qs.isEmpty && !x.closedLast && quiet.all id && (match x.last with | some u => u.quiet.all id | none => false)
  let s := s.modLaunch l fun y =>
    { y with sweeping := none, last := some ⟨clean, quiet, ended, still⟩, closedLast := !qs.isEmpty, peerViews := dropReports x }
  let s := qs.foldl (closePhase l) s
  if ended && (frontier s l) = 16 then s.modLaunch l fun y => { y with retiring := true }
  else deadlock l calm still s

/-- SWEEP_END (R459). -/
def execSweepEnd (s : State) : Result :=
  .next (match s.ev with
    | some (.sweepEnd l) =>
      (match kget s.launches l with
       | some x =>
         (match x.sweeping, peerReports x with
          | some v, some rs =>
            if x.discarded then discardSweep l (v.quiet.all id) (s.modLaunch l fun y => { y with sweeping := none })
            else liveSweep l x v rs s
          | _, _ => s)
       | none => s)
    | _ => s)

/-! ### Abort (R481) -/

/-- Cause `a` is taken before cause `b` (R481). -/
def causeBefore (a b : AbortCause) : Bool :=
  if a.cycle ≠ b.cycle then a.cycle < b.cycle
  else if a.cause ≠ b.cause then a.cause = 0x04 || (b.cause ≠ 0x04 && a.cause < b.cause)
  else a.detail < b.detail

/-- The cause with which a launch is aborted. -/
def firstAbort (s : State) (l : Nat) : Option AbortCause :=
  (s.aborts.filter fun a => a.launch = l).foldl (fun o a => match o with
    | none => some a
    | some b => if causeBefore a b then some a else some b) none

/-- A task of an aborted launch is killed (R473) and its pool entry freed. One past its TEND is not killed: it ends, nothing of its engine
work being left (R211, R481), and is not counted, since the abort was decided first (R485). -/
def killTask (s : State) (t : Nat × TaskInst) : State :=
  if isEnding s t.2 then cutShort t.2.core t.2.bank s
  else if t.2.st = .running then killBank t.2.core t.2.bank 2 s else removeSubs t.1 t.2 s

/-- Every counter of a launch changes. -/
def touchAll (l : Nat) (s : State) : State := (List.range 17).foldl (fun s k => touch s l k) s

/-- The discard of a launch (R481 steps 1 to 3). Whatever the cause, the other wafers are told (R91), unless one of them has told them all. -/
def discardLaunch (l : Nat) (a : AbortCause) (s : State) : State :=
  match kget s.launches l with
  | none => s
  | some x =>
    let s := s.modLaunch l fun y =>
      { y with abort := some a, discarded := true, sweeping := none, last := none, discardClean := 0, peerViews := [],
               tasks := if a.cause = 0x07 then missingMask x 32 else y.tasks }
    let s := (tasksOf s l).foldl killTask s
    let s := { s with tasks := s.tasks.filter fun (t : Nat × TaskInst) => t.2.launch ≠ l }
    let s := discardOps (fun o => o.launch = l && o.kind ≠ .page) s
    let s := dropSumps l (dropNetwork l s)
    let s := if 1 < x.nwaf && !x.told then { s with outbox := s.outbox ++ [.abort x.group x.wafidx] } else s
    touchAll l s

/-- LAUNCH_ABORT (R481): the first cause discards the launch; later ones are ignored, and so is one that finds no live launch or one whose
retirement has been decided. -/
def execLaunchAbort (s : State) : Result :=
  .next (match s.ev with
    | some (.launchAbort l) =>
      let s' := { s with aborts := s.aborts.filter fun (a : AbortCause) => a.launch ≠ l }
      (match firstAbort s l, kget s.launches l with
       | some a, some x => if x.retiring || x.discarded then s' else discardLaunch l a s'
       | _, _ => s')
    | _ => s)

end Sys2Proof.Machine
end

