-- ==== Sys2Proof/Machine/Rings.lean ====
section
/-! DEFINITION. Ring instructions and address registers (R205 to R207). -/

namespace Sys2Proof.Machine

open Sys2Proof

/-- An action on ring IMM10[3:0] of the bank: a ring at or beyond NRING takes the ring-range cause (R206). -/
def onRing (f : SYForm) (s : State) (act : Nat → Ring → State) : State :=
  match s.bank.ring f.imm.toNat with
  | none => takeTrap s causeRingRange
  | some r => act f.imm.toNat r

/-- A ring-slot return of the task: counted at the core's router in the phase of its phase register until it is applied (R455, R541). -/
def noteReturn (s : State) : State := passOn s.bank.launch.toNat s.bank.phase.toNat (s.ctx.core / 4) s

/-- Pop the slot at the pop position, which is FILLED and the task's to read (R205, R206). -/
def popSlot (f : SYForm) (k : Nat) (r : Ring) (s : State) : State :=
  s.modBank fun b => (b.modRing k fun r => (r.readDone .task).pop .task).wrS f.d (BitVec.ofNat 32 (r.slotAddr r.popPos))

/-- RPOP (R206). The bundle has waited until the slot is FILLED and no earlier reader asks for it (R205). -/
def execRpop (f : SYForm) (s : State) : Result :=
  guarded f.g s fun s => onRing f s fun k r => if r.canRead .task then popSlot f k r s else s

/-- RTRY (R206): all ones where the slot is not FILLED. DEDUCED (log 36): so also where the matrix array has asked for the slot before, since the
slot is then the array's (R205) and RTRY does not block. -/
def execRtry (f : SYForm) (s : State) : Result :=
  guarded f.g s fun s => onRing f s fun k r =>
    if r.canRead .task then popSlot f k r s else s.modBank fun b => b.wrS f.d 0xFFFFFFFF

/-- RREL (R206): the oldest slot that the task popped and has not released; without one the ring-underflow cause. -/
def execRrel (f : SYForm) (s : State) : Result :=
  guarded f.g s fun s => onRing f s fun k r =>
    if r.holds .task then noteReturn (s.modBank fun b => b.modRing k fun r => r.release .task)
    else takeTrap s causeRingUnderflow

/-- RCLAIM (R206). The bundle has waited until the slot at the fill position is FREE and no earlier filler
asks for it (R205). -/
def execRclaim (f : SYForm) (s : State) : Result :=
  guarded f.g s fun s => onRing f s fun k r =>
    if !r.canTake .task then s
    else s.modBank fun b => (b.modRing k fun r => (r.answered .task).take .task).wrS f.d (BitVec.ofNat 32 (r.slotAddr r.fillPos))

/-- RFILL (R206): the oldest slot that the task claimed and has not marked becomes FILLED; event 0 occurs (R214). -/
def execRfill (f : SYForm) (s : State) : Result :=
  guarded f.g s fun s => onRing f s fun k r =>
    if r.fills .task then raiseEvent (s.modBank fun b => b.modRing k fun r => r.fill .task) s.ctx.core s.ctx.bank 0
    else takeTrap s causeRingUnderflow

/-- RSTAT (R206). -/
def execRstat (f : SYForm) (s : State) : Result :=
  guarded f.g s fun s => onRing f s fun _ r => s.modBank fun b => b.wrS f.d r.counts

/-- ASET (R207). -/
def execAset (f : SYForm) (s : State) : Result :=
  guarded f.g s fun s => s.modBank fun b =>
    let a := b.rdA (lo3 f.d)
    let v := b.rdS f.a
    b.wrA (lo3 f.d)
      (match f.imm.toNat with
       | 0 => { a with base := v, org := v }
       | 1 => { a with stride := v }
       | 2 => { a with modulo := v }
       | _ => { a with swizzle := v.getLsbD 0 })

/-- AINC (R207): A = 0 steps by STRIDE. -/
def execAinc (f : SYForm) (s : State) : Result :=
  guarded f.g s fun s => s.modBank fun b =>
    let a := b.rdA (lo3 f.d)
    b.wrA (lo3 f.d) (a.step (if f.a = 0 then a.stride.toInt else (b.rdS f.a).toInt))

end Sys2Proof.Machine
end

