-- ==== Sys2Proof/Machine/System.lean ====
section
/-! DEFINITION. Control registers, fences, task ends, traps, events, barriers, trace records and pauses
(R121, R122, R208 to R218). -/

namespace Sys2Proof.Machine

open Sys2Proof

/-- TSW (R142). BANK of a bank that holds no task reads 0, as at reset. -/
def tsw (c : Core) (b : Bool) : Word :=
  let k := c.bank b
  let lact := fun (l : BitVec 2) => if (k.loop l).active then 2 ^ l.toNat else 0
  BitVec.ofNat 32 (k.cause.toNat * 2 ^ 24 + (if b && k.status ≠ .empty then 2 ^ 19 else 0) + (if c.senior = some b then 2 ^ 18 else 0) +
    (if k.grpOpen then 2 ^ 17 else 0) + (lact 0 + lact 1 + lact 2 + lact 3) * 2 ^ 12 + k.sr)

/-- REFWIN (R238): TONEXT counts from this cycle to the start of the next window. -/
def refwin (s : State) (f : Nat) : Word :=
  let x := s.field f
  BitVec.ofNat 32 (x.refCur % 16 * 2 ^ 28 + (x.refCur + 1) % 16 * 2 ^ 24 + (if x.refAct then 2 ^ 23 else 0) +
    (1024 - s.now % 1024) % 1024)

/-- An operation of a bank reads its A rows from ring `k`. -/
def MOp.reads (q : MOp) (b : Bool) (k : Nat) : Bool :=
  q.bank = b && !q.form.asrc && q.form.as.toNat = k && (q.kind = .mma || q.kind = .mmao || q.kind = .mtrn)

/-- Some M-class operation of a core's bank names ring `k` as its A source and has rows still to consume (MSRC, R228), in the queue or in
the merge buffer. -/
def msrc (s : State) (c : Nat) (b : Bool) (k : Nat) : Bool :=
  (s.core c).queue.any (fun q => MOp.reads q b k) ||
    (s.cluster (c / 4)).entries.any fun e => e.segs.any fun g =>
      g.op.addr2 = c && MOp.reads g.op b k && !g.aborted && g.fired < g.n

/-- The four registers of ring `k` (R227 to R229); 0 for a ring at or beyond NRING. -/
def ringReg (s : State) (i : Nat) : Word :=
  let k := i / 4
  match s.bank.ring k with
  | none => 0
  | some r =>
    if i % 4 = 0 then BitVec.ofNat 32 r.base
    else if i % 4 = 1 then
      BitVec.ofNat 32 ((if msrc s s.ctx.core s.ctx.bank k then 256 else 0) + r.lsize * 16 + r.lslots)
    else if i % 4 = 2 then BitVec.ofNat 32 (r.rel * 2 ^ 16 + r.fillPos * 2 ^ 8 + r.popPos)
    else r.counts

/-- The value that MFC reads at an index (R121). -/
def readCtl (s : State) (i : Nat) : Word :=
  let b := s.bank
  if i = 0x000 then tsw (s.core s.ctx.core) s.ctx.bank
  else if i = 0x001 then b.taskid
  else if i = 0x002 then b.gangRank
  else if i = 0x003 then b.gangSize
  else if i = 0x004 then b.launch
  else if i = 0x005 then b.gen
  else if i = 0x006 then b.rnd.setWidth 32
  else if i = 0x007 then b.flags.setWidth 32
  else if i = 0x008 then BitVec.ofNat 32 (b.cyc (s.clk s.ctx.core))
  else if i = 0x009 then BitVec.ofNat 32 (b.budgetLeft (s.clk s.ctx.core))
  else if i = 0x00A then BitVec.ofNat 32 (taiNs s)
  else if i = 0x00B then b.timeh.getD (BitVec.ofNat 32 (taiNs s / 2 ^ 32))
  else if i = 0x00C then refwin s (fieldOf s.ctx.core)
  else if i = 0x00D then (s.cluster (s.ctx.core / 4)).mholdc.setWidth 32
  else if i = 0x00E then b.iaddr
  else if 0x010 ≤ i && i ≤ 0x01F then b.mbx.toList.getD (i - 0x010) 0
  else if 0x020 ≤ i && i ≤ 0x023 then (b.loop (BitVec.ofNat 2 i)).lc
  else if 0x024 ≤ i && i ≤ 0x027 then (b.loop (BitVec.ofNat 2 i)).lstart
  else if 0x028 ≤ i && i ≤ 0x02B then (b.loop (BitVec.ofNat 2 i)).lend
  else if 0x040 ≤ i && i ≤ 0x07F then ringReg s (i - 0x040)
  else 0

/-- What reading an index does beside giving its value (R122): TIMEL latches bits [63:32] of the same time; a read of TIMEH uses
the latch up. -/
def readCtlEffect (s : State) (i : Nat) : State :=
  if i = 0x00A then s.modBank fun b => { b with timeh := some (BitVec.ofNat 32 (taiNs s / 2 ^ 32)) }
  else if i = 0x00B then s.modBank fun b => { b with timeh := none }
  else s

/-- The bank after a write of a control register, which then holds no poison (DEDUCED from R241, log 31). -/
def Bank.cleanCtl (b : Bank) (i : Nat) : Bank := { b with psn := sdel b.psn i }

/-- What MTC writes at an index (R121, R208): RO registers ignore it; RND keeps its MODE for 5 to 7, MHOLDC its value above
1,023; FLAGS is replaced. -/
def writeCtl (s : State) (i : Nat) (v : Word) : State :=
  if i = 0x006 then
    if (v.extractLsb' 0 3).toNat ≤ 4 then s.modBank fun b => { b.cleanCtl i with rnd := v.extractLsb' 0 3 } else s
  else if i = 0x007 then s.modBank fun b => { b.cleanCtl i with flags := v.extractLsb' 0 5 }
  else if i = 0x00D then
    if v.toNat ≤ 1023 then
      (s.modCluster (s.ctx.core / 4) fun k => { k with mholdc := v.extractLsb' 0 10 }).modBank fun b => b.cleanCtl i
    else s
  else if 0x010 ≤ i && i ≤ 0x01F then
    s.modBank fun b => { b.cleanCtl i with mbx := b.mbx.set (BitVec.ofNat 4 i).toFin v }
  else s

/-- MFC (R208); of a poisoned control register it takes the poison-consumed cause (R470). -/
def execMfc (f : SYForm) (s : State) : Result :=
  guarded f.g s fun s =>
    if s.bank.psn.contains f.imm.toNat then takeTrap s causePoison
    else (readCtlEffect s f.imm.toNat).modBank fun b => b.wrS f.d (readCtl s f.imm.toNat)

/-- MTC (R208). -/
def execMtc (f : SYForm) (s : State) : Result :=
  guarded f.g s fun s => writeCtl s f.imm.toNat (s.bank.rdS f.a)

/-- FENCE (R210): the bundle has waited until every earlier memory effect of the task is performed at the scope; it writes
nothing. -/
def execFence (f : SYForm) (s : State) : Result := guarded f.g s id

/-- TRAP (R212): the software-trap cause, with the code in the trace record. -/
def execTrap (f : SYForm) (s : State) : Result :=
  guarded f.g s fun s => takeTrapWith s causeSoftware (stopSlot s) (f.imm.setWidth 16)

/-- TEND (R211) takes effect after every slot of its bundle has committed: the bank ends, and the task is over when the work
that it started has completed. -/
def execTend (f : SYForm) (s : State) : Result :=
  guarded f.g s fun s => s.modBank fun b => { b with status := .ending, tended := true }

/-- The halt of BKPT when slots follow it (R213): before the next slot, which SR names. -/
def haltAtBkpt (tag : BitVec 10) (s : State) : State :=
  match s.ctx.later with
  | k :: _ =>
    let s := s.modCore s.ctx.core fun c =>
      { c.modBank s.ctx.bank (fun b => { b.stopClock (s.clk s.ctx.core) with
          iaddr := BitVec.ofNat 32 s.ctx.addr, sr := k, pc := BitVec.ofNat 32 s.ctx.addr }) with
        dbg := { c.dbg with halted := true, stepping := false, retired := false, stepOps := [], reason := .bkpt, tcause := 0, tag := tag, hbank := s.ctx.bank } }
    { s with ctx := { s.ctx with stopped := true } }
  | [] =>
    let s := s.modCore s.ctx.core fun c => { c with dbg := { c.dbg with tag := tag } }
    { s with ctx := { s.ctx with bkpt := true } }

/-- BKPT (R213, R478): under debug control with BRKEN the core halts after it commits; otherwise it does nothing. -/
def execBkpt (f : SYForm) (s : State) : Result :=
  guarded f.g s fun s =>
    if (s.core s.ctx.core).dbg.den && (s.core s.ctx.core).dbg.brken then haltAtBkpt f.imm s else s

/-- Clear an event bit. -/
def clearEvent (b : Bank) (e : Nat) : Bank := { b with events := b.events &&& ~~~((1#16) <<< e) }

/-- WAITE (R215): the pending bit is cleared; after an expired cycle limit the bit is unchanged. -/
def execWaite (f : SYForm) (s : State) : Result :=
  guarded f.g s fun s => s.modBank fun b =>
    { (if b.waitOver then b else clearEvent b f.imm.toNat) with waitOver := false }

/-- GBARs that gang member `k` has reached. -/
def Gang.reach (g : Gang) (k : Nat) : Nat := g.reached.getD k 0

/-- Some member of the gang has ended before its `n`-th GBAR (R216). -/
def Gang.broken (g : Gang) (n : Nat) : Bool :=
  (List.range g.cores.length).any fun k => !(g.live.getD k false) && g.reach k < n

/-- GBAR (R216): the n-th of the task. Every member has reached its n-th, or, where one ended without reaching it, the gang-barrier
cause is taken. -/
def execGbar (f : SYForm) (s : State) : Result :=
  guarded f.g s fun s =>
    let n := s.bank.gbars + 1
    let brk := match kget s.gangs s.bank.gangId with
      | some g => g.broken n
      | none => false
    if 1 < s.bank.gangSize.toNat && brk then takeTrap s causeGangBarrier
    else s.modBank fun b => { b with gbars := n }

/-- TRACE (R217): the record enters the core's queue of 4. The bundle has waited while the queue was full. -/
def execTrace (f : SYForm) (s : State) : Result :=
  guarded f.g s fun s =>
    let b := s.bank
    let r := coreRec s s.ctx.core s.ctx.bank (0x8000 + f.imm.setWidth 16)
      (leBytes 4 (b.rdS f.a).toNat ++ leBytes 4 (b.rdS (f.a + 1)).toNat ++ leBytes 4 (b.rdS (f.a + 2)).toNat)
    if (s.field (fieldOf s.ctx.core)).trace.clen.getLsbD 0 then
      s.modCore s.ctx.core fun c => if c.traceQ.length < 4 then { c with traceQ := c.traceQ ++ [r] } else c
    else s

/-- SPAUSE (R218): the next bundle issues no earlier than n + 1 cycles after this one. -/
def execSpause (f : SYForm) (s : State) : Result :=
  guarded f.g s fun s => s.modBank fun b => { b with pauseUntil := s.clk s.ctx.core + f.imm.toNat + 1 }

end Sys2Proof.Machine
end

