-- ==== Sys2Proof/Machine/Issue.lean ====
section
/-! DEFINITION. What a bundle reads and writes, the dependence check, and what holds a bundle at issue (R120, R129, R131, R140, R186,
R249, R272, R293, R296, R315, R322, R323, R352, R382, R389, R390). -/

namespace Sys2Proof.Machine

open Sys2Proof

/-! ### Reads and writes (R129) -/

/-- The checked resources that an instruction reads, and those that it writes. -/
structure Uses where
  reads : List Res
  writes : List Res
  deriving DecidableEq, Repr

/-- s1 to s31 are checked. -/
def sR (r : BitVec 5) : List Res := if r = 0 then [] else [.s r.toNat]
/-- A run of `n` scalar registers. -/
def sRun (r : BitVec 5) (n : Nat) : List Res := (List.range n).flatMap fun i => sR (r + BitVec.ofNat 5 i)
/-- p1 to p7 are checked. -/
def pR (r : BitVec 3) : List Res := if r = 0 then [] else [.p r.toNat]
/-- m1 to m7 are checked. -/
def mR (r : BitVec 3) : List Res := if r = 0 then [] else [.m r.toNat]
/-- An address register as a whole. -/
def aR (r : BitVec 3) : List Res := [.a r.toNat]
/-- A guard reads its predicate. -/
def gR (g : Guard) : List Res := pR g.p
/-- A control register; those of the loop levels are the levels (R121). -/
def ctlR (i : Nat) : List Res := if 0x020 ≤ i && i ≤ 0x02B then [.ctl i, .lc (i % 4)] else [.ctl i]
/-- A register of a V-map column (R159). -/
def vR (k : VKind) (r : BitVec 5) : List Res :=
  match k with
  | .vec => [.v r.toNat]
  | .mask => mR (lo3 r)
  | .sca => sR r
  | .addr => aR (lo3 r)
  | .none => []
/-- The registers of an SR word: D written, A and, without an extension, B read. -/
def srUse (d a b : Bool) (f : SRForm) : Uses :=
  ⟨gR f.g ++ (if a then sR f.a else []) ++ (if b && f.x.isNone then sR f.b else []), if d then sR f.d else []⟩
/-- SEL also reads its selecting predicate. -/
def selUse (f : SRForm) : Uses := ⟨(srUse true true true f).reads ++ pR (f.fn.extractLsb' 0 3), sR f.d⟩
/-- CMP writes a predicate. -/
def cmpUse (f : SRForm) : Uses := ⟨(srUse true true true f).reads, pR (lo3 f.d)⟩
/-- PLOG reads and writes predicates. -/
def plogUse (f : SRForm) : Uses := ⟨gR f.g ++ pR (lo3 f.a) ++ pR (lo3 f.b), pR (lo3 f.d)⟩
/-- The registers of a VR word. -/
def vrUse (d a b : VKind) (f : VRForm) : Uses := ⟨gR f.g ++ mR f.msk ++ vR a f.a ++ vR b f.b, vR d f.d⟩
/-- A run of VHAD (R274). -/
def vRun (r : BitVec 5) (f : VRForm) : List Res :=
  (List.range (if f.imm.toNat ≤ 5 then 1 else 2 ^ (f.imm.toNat - 5))).map fun i => .v (r.toNat + i)
/-- The registers of a VM word. -/
def vmUse (load vi : Bool) (f : VMForm) : Uses :=
  ⟨gR f.g ++ mR f.msk ++ aR f.ar ++ (if load then [] else [.v f.d.toNat]) ++ (if vi then [.v f.vi.toNat] else []),
   (if load then [.v f.d.toNat] else []) ++ (if f.pi then aR f.ar else [])⟩
/-- The address register of an M operand (R307). -/
def srcR (f : MForm) : List Res := if f.asrc then aR (MForm.ar f) else []
/-- A run of CA, one longer with GREG (R165). -/
def gregLen (f : CForm) (n : Nat) : Nat := if f.greg then n + 1 else n

/-- What an instruction reads and writes (R129, R307). An MTC counts as a write of its register, also of one that is read-only (log 69). -/
def Instr.uses (i : Instr) : Uses :=
  match i with
  | .add f | .sub f | .mul f | .mulh f | .mulhu f | .div f | .divu f | .rem f | .remu f | .and f | .or f | .xor f | .andn f
  | .shl f | .shr f | .sra f | .min f | .max f | .minu f | .maxu f | .bfx f | .bfi f => srUse true true true f
  | .clz f | .popc f => srUse true true false f
  | .li f | .rpop f | .rtry f | .rclaim f | .rstat f => ⟨gR f.g, sR f.d⟩
  | .sel f => selUse f
  | .cmp f => cmpUse f
  | .plog f => plogUse f
  | .br f | .rrel f | .rfill f | .fence f | .trap f | .tend f | .bkpt f | .gbar f | .spause f | .mwld f | .mwpre f | .mhold f
  | .mflush f | .cwait f | .cfence f | .ccancel f | .phase f => ⟨gR f.g, []⟩
  | .bri f | .waite f => ⟨gR f.g ++ sR f.a, []⟩
  | .call f => ⟨gR f.g, sR 31⟩
  | .calli f => ⟨gR f.g ++ sR f.a, sR 31⟩
  | .ret f => ⟨gR f.g ++ sR 31, []⟩
  | .loop f | .loopi f | .lexit f => ⟨gR f.g ++ sR f.cnt, [.lc f.lvl.toNat]⟩
  | .ldw f | .ldh f | .ldhu f | .ldb f | .ldbu f | .lds f => ⟨gR f.g ++ sR f.base, sR f.d⟩
  | .ldd f => ⟨gR f.g ++ sR f.base, sRun f.d 2⟩
  | .stw f | .sth f | .stb f | .stf f => ⟨gR f.g ++ sR f.base ++ sR f.d, []⟩
  | .std f => ⟨gR f.g ++ sR f.base ++ sRun f.d 2, []⟩
  | .feclr f => ⟨gR f.g ++ sR f.base, []⟩
  | .aadd f | .amax f | .aor f | .axch f => ⟨gR f.g ++ sR f.base ++ sR f.d, sR f.d⟩
  | .acas f => ⟨gR f.g ++ sR f.base ++ sRun f.d 2, sR f.d⟩
  | .aset f | .ainc f => ⟨gR f.g ++ sR f.a ++ aR (lo3 f.d), aR (lo3 f.d)⟩
  | .mfc f => ⟨gR f.g ++ ctlR f.imm.toNat, sR f.d⟩
  | .mtc f => ⟨gR f.g ++ sR f.a, ctlR f.imm.toNat⟩
  | .trace f => ⟨gR f.g ++ sRun f.a 3, []⟩
  | .vfaddF32 f | .vfaddBf16 f | .vfaddF16 f | .vfsubF32 f | .vfsubBf16 f | .vfsubF16 f | .vfmulF32 f | .vfmulBf16 f
  | .vfmulF16 f | .vfmaF32 f | .vfmaBf16 f | .vfmaF16 f | .vfmsF32 f | .vfmsBf16 f | .vfmsF16 f | .vfnmaF32 f | .vfnmaBf16 f
  | .vfnmaF16 f | .vfminF32 f | .vfminBf16 f | .vfminF16 f | .vfmaxF32 f | .vfmaxBf16 f | .vfmaxF16 f | .vfclampF32 f
  | .vfclampBf16 f | .vfclampF16 f | .vaddI32 f | .vaddI16 f | .vaddI8 f | .vsubI32 f | .vsubI16 f | .vsubI8 f | .vmulI32 f
  | .vmulI16 f | .vmulI8 f | .vminI32 f | .vminI16 f | .vminI8 f | .vmaxI32 f | .vmaxI16 f | .vmaxI8 f | .vshlI32 f
  | .vshlI16 f | .vshlI8 f | .vshrI32 f | .vshrI16 f | .vshrI8 f | .vsraI32 f | .vsraI16 f | .vsraI8 f | .vmulh f
  | .vsaddI16 f | .vsaddI8 f | .vssubI16 f | .vssubI8 f | .vand f | .vor f | .vxor f | .vandn f | .vsel f | .vcvtb8 f
  | .vpack f | .vdotBf16 f | .vdotI8 f | .vperm f | .vzip f | .vunzip f | .vslide f | .vmergek f | .vlerpF32 f | .vlerpBf16 f
  | .vfsgn f | .vfscale f => vrUse .vec .vec .vec f
  | .vfcmpF32 f | .vfcmpBf16 f | .vfcmpF16 f | .vcmpI32 f | .vcmpI16 f | .vcmpI8 f => vrUse .mask .vec .vec f
  | .vexp2 f | .vlog2 f | .vrcp f | .vrsq f | .vsqrt f | .vfrnd f | .vfclass f | .vabsI32 f | .vabsI16 f | .vabsI8 f
  | .vshlI32Imm f | .vshlI16Imm f | .vshlI8Imm f | .vshrI32Imm f | .vshrI16Imm f | .vshrI8Imm f | .vsraI32Imm f
  | .vsraI16Imm f | .vsraI8Imm f | .vcvt f | .vcvti f | .vwideb8 f | .vunpack f | .vmov f | .vradd f | .vrmax f | .vrmin f
  | .vraddi f | .vpsum f => vrUse .vec .vec .none f
  | .vhad f => ⟨gR f.g ++ vRun f.a f, vRun f.d f⟩
  | .vbcst f | .vins f | .vtld f => vrUse .vec .sca .none f
  | .vext f => vrUse .sca .vec .none f
  | .vtopk f => vrUse .vec .addr .sca f
  | .vcntm f | .vmfirst f => vrUse .sca .mask .none f
  | .vtli f | .vtlu f => vrUse .vec .vec .sca f
  | .vld f | .vldt f | .vlds f | .vldb f => vmUse true false f
  | .vst f | .vstt f => vmUse false false f
  | .vgath f => vmUse true true f
  | .vscat f => vmUse false true f
  | .vmlog f => vrUse .mask .mask .mask f
  | .vmset f => vrUse .mask .sca .none f
  | .mwlds f => ⟨gR f.g ++ srcR f, []⟩
  | .mma f | .mmao f | .mzero f | .mresc f | .mtrn f => ⟨gR f.g ++ srcR f ++ [.z f.z.toNat], [.z f.z.toNat]⟩
  | .mdrain f | .mstat f => ⟨gR f.g ++ srcR f ++ [.z f.z.toNat], []⟩
  | .msca f => ⟨gR f.g ++ aR f.rs ++ aR f.cs ++ [.z f.zs.toNat], [.z f.z.toNat]⟩
  | .mwait f => ⟨gR f.g ++ (waitTiles f).map .z, []⟩
  | .mprog f | .mflags f => ⟨gR f.g ++ [.z f.z.toNat], sR f.dst⟩
  | .cld f | .cst f => ⟨gR f.g ++ sRun f.ca 2 ++ sR f.cb, []⟩
  | .cld2d f | .cst2d f => ⟨gR f.g ++ sRun f.ca 2 ++ sRun f.cb 3, []⟩
  | .cldr f | .cpref f => ⟨gR f.g ++ sRun f.cb 2, []⟩
  | .catom f =>
    ⟨gR f.g ++ sRun f.ca 2 ++ sRun f.cb (if f.opt.getLsbD 3 then 4 else 2), sRun f.cb (if f.opt.getLsbD 3 then 2 else 1)⟩
  | .cpoll f => ⟨gR f.g, sR f.ca⟩
  | .cget f => ⟨gR f.g ++ sR f.ca ++ sRun f.cb 2, []⟩
  | .pub f => ⟨gR f.g ++ sRun f.ca (gregLen f 1) ++ sRun f.cb 2, []⟩
  | .pubr f | .pubc f => ⟨gR f.g ++ sRun f.ca (gregLen f 3) ++ sRun f.cb 2, []⟩
  | .pubred f => ⟨gR f.g ++ sRun f.ca (gregLen f 2) ++ sRun f.cb 2, []⟩
  | .pip f => ⟨gR f.g ++ sRun f.ca (gregLen f 0) ++ sRun f.cb 2, []⟩
  | .subscribe f => ⟨gR f.g ++ sR f.ca ++ sRun f.cb 4, []⟩
  | .unsub f => ⟨gR f.g ++ sRun f.cb 4, []⟩
  | .subq f => ⟨gR f.g ++ sRun f.cb 4, sR f.ca⟩
  | .ertq f | .sumpq f => ⟨gR f.g ++ sR f.cb, sR f.ca⟩
  | .erth f => ⟨gR f.g ++ sR f.cb, []⟩
  | .powerOnReset | .recoveryGo | .measurementExtend | .registerWrite | .qtailWrite | .qctlWrite | .queueSelection | .nop
  | .load | .unload | .launch | .abort | .commandFenceRelease | .launchAcceptance | .waferAcknowledgement | .gateTimeout
  | .peerAbort | .firmwareAbort | .controlPip | .firmwarePriorityChange | .firmwareFault | .preemptionRequest | .tenantSwitch
  | .homeTableRebuild | .rimRequestStart | .taskHandoff | .distributorSelection | .passOverEnd | .entryHandover | .taskFire
  | .gangFire | .budgetExhausted | .thermalSample | .powerCheck | .coolantFault | .coolantTrip | .clusterRetirement
  | .clusterFailure | .fieldLoss | .bankSwitch | .switchDrainEnd | .correctableError | .freezeEnd | .uncorrectableError
  | .refreshWindow | .refreshWindowEnd | .stagingDequeue | .segmentAdmission | .holdLimitReached | .arraySelection
  | .weightLoadGrant | .weightLoadEnd | .positionFire | .rowResultWrite | .selectWrites | .install | .installAcknowledgement
  | .installRefusal | .removal | .publicationAtHome | .delivery | .heldDeliveryRelease | .pinRequest | .copyExpiry
  | .contribution | .partnerTimeout | .getRequest | .getResponse | .getRetryResend | .rimQuery | .queryReply
  | .prefetchAtHome | .copyRequest | .pageWalk | .boxPerformed | .atomicAtAgent | .remoteResult | .faultResume | .faultAbort
  | .faultAnswerTimeout | .vminvGo | .invalidationDone | .cfenceRelease | .releaseInjection | .ertWrite | .ertcmdPrefetch
  | .ertcmdPin | .ertcmdUnpin | .ertcmdRelease | .hintAtErtAgent | .rowAtHome | .pageSeal | .pageFailure | .policyAnswer
  | .policyTimeout | .stateNotice | .rowParking | .residencyNotice | .sumpDrain | .sweepStart | .sweepEnd | .phaseCloseNotice
  | .launchRetirement | .launchAbort | .traceWrite | .tbstepWrite | .tbnslRead | .timeLockChange | .ptpEventMessage
  | .ppsEdge | .linkPortFailure | .debugHalt | .debugStep | .stepEnd | .debugRun | .dbgdataAccess | .waiteTimeout
  | .linkPortFails | .linkPortRetrained | .linkCrcReplay | .routerFailure | .cutEdgeInstalled | .peerSweepResult
  | .launchFirmwareReload | .emptyBundle | .malformedHeader | .unassignedOpcode | .accumulatorPortRow | .cutEdgeCrossing => ⟨[], []⟩

/-- An instruction is a CALL: its write of s31 is not seen by slots to its right (R196). -/
def Instr.calls (i : Instr) : Bool :=
  match i with
  | .call _ | .calli _ => true
  | _ => false

/-- The dependence check of R129 over the slots of a bundle: `w` what earlier writes are checked against, `r` those that reads are. -/
def dependsFrom : List Instr → List Res → List Res → Bool
  | [], _, _ => false
  | i :: is, w, r =>
    let u := Instr.uses i
    u.writes.any w.contains || u.reads.any r.contains ||
      dependsFrom is (w ++ u.writes) (if Instr.calls i then r else r ++ u.writes)

/-- A bundle conflicts with its group (R129). -/
def depends (b : Bank) (is : List Instr) : Bool := dependsFrom is b.wset b.wset

/-- A bundle with a control transfer or loop instruction ends its group (R128). -/
def Instr.ctl (i : Instr) : Bool :=
  match i with
  | .br _ | .bri _ | .call _ | .calli _ | .ret _ | .loop _ | .loopi _ | .lexit _ => true
  | _ => false

/-- The guard of an encoded instruction; the device's own steps have none. -/
def Instr.guardOf (i : Instr) : Option Guard :=
  match i with
  | .add f | .sub f | .mul f | .mulh f | .mulhu f | .div f | .divu f | .rem f | .remu f | .and f | .or f | .xor f | .andn f
  | .shl f | .shr f | .sra f | .min f | .max f | .minu f | .maxu f | .clz f | .popc f | .bfx f | .bfi f | .li f | .sel f
  | .cmp f | .plog f | .br f | .bri f | .call f | .calli f | .ret f | .loop f | .loopi f | .lexit f | .ldw f | .ldh f
  | .ldhu f | .ldb f | .ldbu f | .ldd f | .stw f | .sth f | .stb f | .std f | .lds f | .stf f | .feclr f | .aadd f | .amax f
  | .aor f | .axch f | .acas f | .rpop f | .rtry f | .rrel f | .rclaim f | .rfill f | .rstat f | .aset f | .ainc f | .mfc f
  | .mtc f | .fence f | .trap f | .tend f | .waite f | .bkpt f | .gbar f | .trace f | .spause f | .vfaddF32 f | .vfaddBf16 f
  | .vfaddF16 f | .vfsubF32 f | .vfsubBf16 f | .vfsubF16 f | .vfmulF32 f | .vfmulBf16 f | .vfmulF16 f | .vfmaF32 f
  | .vfmaBf16 f | .vfmaF16 f | .vfmsF32 f | .vfmsBf16 f | .vfmsF16 f | .vfnmaF32 f | .vfnmaBf16 f | .vfnmaF16 f | .vfminF32 f
  | .vfminBf16 f | .vfminF16 f | .vfmaxF32 f | .vfmaxBf16 f | .vfmaxF16 f | .vfcmpF32 f | .vfcmpBf16 f | .vfcmpF16 f
  | .vfclampF32 f | .vfclampBf16 f | .vfclampF16 f | .vexp2 f | .vlog2 f | .vrcp f | .vrsq f | .vsqrt f | .vfrnd f
  | .vfclass f | .vaddI32 f | .vaddI16 f | .vaddI8 f | .vsubI32 f | .vsubI16 f | .vsubI8 f | .vmulI32 f | .vmulI16 f
  | .vmulI8 f | .vminI32 f | .vminI16 f | .vminI8 f | .vmaxI32 f | .vmaxI16 f | .vmaxI8 f | .vcmpI32 f | .vcmpI16 f
  | .vcmpI8 f | .vabsI32 f | .vabsI16 f | .vabsI8 f | .vshlI32 f | .vshlI32Imm f | .vshlI16 f | .vshlI16Imm f | .vshlI8 f
  | .vshlI8Imm f | .vshrI32 f | .vshrI32Imm f | .vshrI16 f | .vshrI16Imm f | .vshrI8 f | .vshrI8Imm f | .vsraI32 f
  | .vsraI32Imm f | .vsraI16 f | .vsraI16Imm f | .vsraI8 f | .vsraI8Imm f | .vmulh f | .vsaddI16 f | .vsaddI8 f | .vssubI16 f
  | .vssubI8 f | .vand f | .vor f | .vxor f | .vandn f | .vsel f | .vcvt f | .vcvti f | .vcvtb8 f | .vwideb8 f | .vhad f
  | .vpack f | .vunpack f | .vdotBf16 f | .vdotI8 f | .vmov f | .vbcst f | .vins f | .vext f | .vperm f | .vzip f | .vunzip f
  | .vslide f | .vradd f | .vrmax f | .vrmin f | .vraddi f | .vpsum f | .vtopk f | .vmergek f | .vcntm f | .vtld f | .vtli f
  | .vtlu f | .vld f | .vst f | .vldt f | .vstt f | .vgath f | .vscat f | .vlds f | .vldb f | .vmlog f | .vmset f
  | .vmfirst f | .vlerpF32 f | .vlerpBf16 f | .vfsgn f | .vfscale f | .mwld f | .mwlds f | .mwpre f | .mma f | .mmao f
  | .mzero f | .mdrain f | .msca f | .mstat f | .mresc f | .mtrn f | .mwait f | .mprog f | .mflags f | .mhold f | .mflush f
  | .cld f | .cst f | .cld2d f | .cst2d f | .cldr f | .catom f | .cwait f | .cpoll f | .cfence f | .ccancel f | .cget f
  | .pub f | .pubr f | .pubred f | .pip f | .subscribe f | .unsub f | .cpref f | .phase f | .pubc f | .subq f | .ertq f
  | .erth f | .sumpq f => some f.g
  | .powerOnReset | .recoveryGo | .measurementExtend | .registerWrite | .qtailWrite | .qctlWrite | .queueSelection | .nop
  | .load | .unload | .launch | .abort | .commandFenceRelease | .launchAcceptance | .waferAcknowledgement | .gateTimeout
  | .peerAbort | .firmwareAbort | .controlPip | .firmwarePriorityChange | .firmwareFault | .preemptionRequest | .tenantSwitch
  | .homeTableRebuild | .rimRequestStart | .taskHandoff | .distributorSelection | .passOverEnd | .entryHandover | .taskFire
  | .gangFire | .budgetExhausted | .thermalSample | .powerCheck | .coolantFault | .coolantTrip | .clusterRetirement
  | .clusterFailure | .fieldLoss | .bankSwitch | .switchDrainEnd | .correctableError | .freezeEnd | .uncorrectableError
  | .refreshWindow | .refreshWindowEnd | .stagingDequeue | .segmentAdmission | .holdLimitReached | .arraySelection
  | .weightLoadGrant | .weightLoadEnd | .positionFire | .rowResultWrite | .selectWrites | .install | .installAcknowledgement
  | .installRefusal | .removal | .publicationAtHome | .delivery | .heldDeliveryRelease | .pinRequest | .copyExpiry
  | .contribution | .partnerTimeout | .getRequest | .getResponse | .getRetryResend | .rimQuery | .queryReply
  | .prefetchAtHome | .copyRequest | .pageWalk | .boxPerformed | .atomicAtAgent | .remoteResult | .faultResume | .faultAbort
  | .faultAnswerTimeout | .vminvGo | .invalidationDone | .cfenceRelease | .releaseInjection | .ertWrite | .ertcmdPrefetch
  | .ertcmdPin | .ertcmdUnpin | .ertcmdRelease | .hintAtErtAgent | .rowAtHome | .pageSeal | .pageFailure | .policyAnswer
  | .policyTimeout | .stateNotice | .rowParking | .residencyNotice | .sumpDrain | .sweepStart | .sweepEnd | .phaseCloseNotice
  | .launchRetirement | .launchAbort | .traceWrite | .tbstepWrite | .tbnslRead | .timeLockChange | .ptpEventMessage
  | .ppsEdge | .linkPortFailure | .debugHalt | .debugStep | .stepEnd | .debugRun | .dbgdataAccess | .waiteTimeout
  | .linkPortFails | .linkPortRetrained | .linkCrcReplay | .routerFailure | .cutEdgeInstalled | .peerSweepResult
  | .launchFirmwareReload | .emptyBundle | .malformedHeader | .unassignedOpcode | .accumulatorPortRow | .cutEdgeCrossing => none

/-! ### Holds -/

/-- What holds a bundle at issue: nothing, a stall that is no block, a block (R186), or the seniority stall (R120). -/
inductive Hold where
  | go | stall | block | senior
  deriving DecidableEq, Repr

/-- The stronger of two holds. -/
def Hold.or (a b : Hold) : Hold :=
  match a, b with
  | .senior, _ => .senior
  | _, .senior => .senior
  | .block, _ => .block
  | _, .block => .block
  | .stall, _ => .stall
  | _, b => b

/-- A hold where a condition holds. -/
def Hold.when (c : Bool) (h : Hold) : Hold := if c then h else .go

/-- The state with a bundle position of a core and bank as the one in hand. -/
def atBank (c : Nat) (b : Bool) (s : State) : State :=
  { s with ctx := ⟨c, b, 0, ((s.core c).bank b).pc.toNat, 0, [], [], false, false, 0 < ((s.core c).bank b).sr⟩ }

/-- FENCE waits (R210, R438): some earlier memory effect of the task within the scope is not performed. The read that a SYSTEM fence
issues on each CXL and host port adds only delay (log 10). -/
def fenceWaits (scope : Nat) (s : State) : Bool :=
  outstanding s (effectsWithin s scope) || drainsOut s s.ctx.core (effectsWithin s scope) ||
    (scope = 4 && crossingOut s s.bank.task none)

/-- Every member of the task's gang has reached its next GBAR, or one never will (R216). -/
def gbarOpen (s : State) : Bool :=
  match kget s.gangs s.bank.gangId with
  | some g => (Gang.broken g (s.bank.gbars + 1)) ||
      (List.range g.cores.length).all fun k => s.bank.gbars + 1 ≤ Gang.reach g k
  | none => true

/-- The word that an LDS waits for (R203). -/
def ldsWords (f : LDSForm) (s : State) : List Nat :=
  match checkAddr s s.bank (ldsAddr f s.bank) 4 with
  | .ok k => [k]
  | .error _ => []

/-- The words that a VLDS watches (R249). -/
def vldsWords (f : VMForm) (s : State) : List Nat :=
  match elemKeys s (s.bank.rdA f.ar).swizzle 128 (vmLa f s.bank) true (rowElems f s.bank) with
  | .ok ks => (ks.map fun k => wordKey k.2).dedup
  | .error _ => []

/-- The requests with E = 1 that reached the ports before one of the bank in hand (R203). -/
def waitsBefore (s : State) : List (Nat × Bool × List Nat) := s.waits.takeWhile fun x => !(x.1 = s.ctx.core && x.2.1 = s.ctx.bank)

/-- A synchronising load waits for its words to be full, and one with E = 1 for those that reached the port before it (R203, R249). -/
def wordsWait (ws : List Nat) (e : Bool) (s : State) : Bool :=
  ws.any fun k => !isFull s k || (e && (waitsBefore s).any fun x => x.2.2.contains k)

/-- A blocking ring instruction waits (R206). -/
def ringWaits (f : SYForm) (goes : Ring → Bool) (s : State) : Bool :=
  match s.bank.ring f.imm.toNat with
  | some r => !goes r
  | none => false

/-- The tiles among resources. -/
def tilesIn (l : List Res) : List Nat := l.filterMap fun r => match r with | .z n => some n | _ => none

/-- The tiles that an M-class instruction names (R307). -/
def Instr.tiles (i : Instr) : List Nat := tilesIn (Instr.uses i).reads ++ tilesIn (Instr.uses i).writes

/-- The tile that an operation writes. -/
def MOp.writes (q : MOp) : Option Nat :=
  match q.kind with
  | .mma | .mmao | .mzero | .msca | .mresc | .mtrn => some q.form.z.toNat
  | _ => none

/-- The tiles that an operation names (R307). -/
def MOp.names (q : MOp) : List Nat :=
  match q.kind with
  | .mma | .mmao | .mzero | .mdrain | .mstat | .mresc | .mtrn | .mprog | .mflags => [q.form.z.toNat]
  | .msca => [q.form.z.toNat, q.form.zs.toNat]
  | .mwait => waitTiles q.form
  | .mwld | .mwlds | .mwpre | .mhold | .mflush => []

/-- An operation loads weights (R312, R313). -/
def MOp.loads (q : MOp) : Bool := q.kind = .mwld || q.kind = .mwlds || q.kind = .mwpre

/-- MWAIT waits (R322). -/
def mwaitWaits (f : MForm) (s : State) : Bool :=
  matrixBusy s s.ctx.core s.ctx.bank fun q => (MOp.names q).any (waitTiles f).contains || (MForm.zf f && MOp.loads q)

/-- Towards these, an earlier product on their tile is complete when its last position has fired (R293). -/
def Instr.firesNext (i : Instr) : Bool :=
  match i with
  | .mma _ | .mmao _ | .mzero _ => true
  | _ => false

/-- These an earlier MMAO on their tile never holds (R315). -/
def Instr.follows (i : Instr) : Bool :=
  match i with
  | .mdrain _ | .mstat _ | .mwait _ => true
  | _ => false

/-- A segment of the bank that writes tile `t` is not complete towards an instruction (R293, R315). -/
def segHolds (s : State) (i : Instr) (t : Nat) (g : Seg) : Bool :=
  segCore g = s.ctx.core && g.op.bank = s.ctx.bank && MOp.writes g.op = some t && !g.aborted &&
    (match g.op.kind with
     | .mma => if Instr.firesNext i then g.fired < g.n else segBusy s g
     | .mmao => if Instr.firesNext i then g.fired < g.n else !Instr.follows i && segBusy s g
     | _ => true)

/-- An operation of the bank that has not left the queue or the ports, and writes tile `t`. -/
def opHolds (s : State) (i : Instr) (t : Nat) (q : MOp) : Bool :=
  q.bank = s.ctx.bank && MOp.writes q = some t && !(q.kind = .mmao && Instr.follows i)

/-- The interlock of R140 on the z tiles. -/
def tileWaits (i : Instr) (s : State) : Bool :=
  let c := s.core s.ctx.core
  (Instr.tiles i).any fun t => c.queue.any (opHolds s i t) || c.port.any (fun p => opHolds s i t p.op) ||
    (s.cluster (s.ctx.core / 4)).entries.any fun e => e.segs.any (segHolds s i t)

/-- An instruction accesses scratchpad from its S, V or C slot, a ring action among them (R272, R437). -/
def Instr.touches (i : Instr) : Bool :=
  match i with
  | .ldw _ | .ldh _ | .ldhu _ | .ldb _ | .ldbu _ | .ldd _ | .stw _ | .sth _ | .stb _ | .std _ | .lds _ | .stf _ | .feclr _
  | .aadd _ | .amax _ | .aor _ | .axch _ | .acas _ | .vld _ | .vst _ | .vldt _ | .vstt _ | .vgath _ | .vscat _ | .vlds _
  | .vldb _ | .vtopk _ | .rpop _ | .rtry _ | .rrel _ | .rclaim _ | .rfill _ | .rstat _ | .cld _ | .cst _ | .cld2d _ | .cst2d _ | .cldr _ | .cget _ | .pub _ | .pubr _ | .pubred _ | .pubc _ => true
  | _ => false

/-- An instruction joins a copy group (R380). -/
def Instr.grouped (i : Instr) : Bool :=
  match i with
  | .cld _ | .cst _ | .cld2d _ | .cst2d _ | .cldr _ | .catom _ | .cget _ | .pub _ | .pubr _ | .pubred _ | .pubc _ => true
  | _ => false

/-- An instruction puts a request into its copy interface (R382). -/
def Instr.requests (i : Instr) : Bool :=
  Instr.grouped i || match i with
  | .pip _ | .subscribe _ | .unsub _ | .cpref _ | .ertq _ | .erth _ | .sumpq _ => true
  | _ => false

/-- Requests in the queue of a core's interface (R382); a CFENCE is none. -/
def ifaceCount (s : State) (c iface : Nat) : Nat :=
  (s.ops.filter fun o => o.2.core = c && o.2.iface = iface && o.2.place = .queued && o.2.ofTask &&
    !o.2.isFence).length

/-- Grouped operations of a bank outstanding (R382). -/
def groupedCount (s : State) (c : Nat) (b : Bool) : Nat :=
  (s.ops.filter fun o => o.2.core = c && o.2.bank = b && o.2.grp.isSome && o.2.ofTask).length

/-- GET slots that a slot's CGET needs (R352); one beyond 4,096 bytes traps instead. -/
def Instr.getSlots (i : Instr) : Nat :=
  match i with
  | .cget f => if f.len ≤ 4096 then (f.len + 511) / 512 else 0
  | _ => 0

/-- The C slots of a bundle find room, C0 before C1 (R352, R382): `g` grouped operations and the GET slots `u` are taken already. DESIGN CHOICE (log
111): a CGET of more than 4,096 bytes, which is not held for response slots, is held by the limits of R382 all the same. -/
def copyRoom (s : State) : List (Nat × Instr) → Nat → List Nat → Bool
  | [], _, _ => true
  | (k, i) :: r, g, u =>
    if k < 4 then copyRoom s r g u
    else
      (!Instr.requests i || ifaceCount s s.ctx.core (k - 4) < 16) && (!Instr.grouped i || g < 64) &&
        (if Instr.getSlots i = 0 then copyRoom s r (if Instr.grouped i then g + 1 else g) u
         else match freeRun u (Instr.getSlots i) with
           | some l => copyRoom s r (g + 1) (u ++ l)
           | none => false)

/-- What holds a slot by its own condition. -/
def ownHold (i : Instr) (s : State) : Hold :=
  let b := s.bank
  match i with
  | .lds f => .when (wordsWait (ldsWords f s) f.e s) .block
  | .vlds f => .when (wordsWait (vldsWords f s) f.e s) .block
  | .rpop f => .when (ringWaits f (fun r => r.canRead .task) s) .block
  | .rclaim f => .when (ringWaits f (fun r => r.canTake .task) s) .block
  | .fence f => .when (fenceWaits f.imm.toNat s) .block
  | .gbar _ => .when (fenceWaits 1 s || (1 < b.gangSize.toNat && !gbarOpen s)) .block
  | .waite f => .when (!b.events.getLsbD f.imm.toNat && !b.waitOver) .block
  | .trace _ => .when (4 ≤ (s.core s.ctx.core).traceQ.length) .stall
  | .cwait f => .when ((b.group f.grp.toNat).out ≠ 0) .block
  | .mwait f => .when (mwaitWaits f s) .block
  | _ => .go

/-- What holds a slot whose guard is true. -/
def slotHold (i : Instr) (s : State) : Hold :=
  (ownHold i s).or ((Hold.when (Instr.touches i && (s.core s.ctx.core).sel.any fun q => q.bank = s.ctx.bank && !q.writes.isEmpty) .stall).or
    (.when (!(Instr.tiles i).isEmpty && tileWaits i s) .stall))

/-- Some register of an instruction waits for a reply or for a sample (R389, R323). -/
def pendingHit (b : Bank) (i : Instr) : Bool :=
  let u := Instr.uses i
  b.pending.any fun p => u.reads.contains (.s p.reg) || u.writes.contains (.s p.reg)

/-- Some vector register of an instruction waits for the select unit (R140, R272). -/
def selectHit (s : State) (i : Instr) : Bool :=
  let u := Instr.uses i
  (s.core s.ctx.core).sel.any fun q => q.bank = s.ctx.bank && (u.reads.contains (.v q.dst.toNat) || u.writes.contains (.v q.dst.toNat))

/-- A slot's guard holds; an event has none. -/
def slotLive (b : Bank) (i : Instr) : Bool :=
  match Instr.guardOf i with
  | some g => guardTrue g b
  | none => true

/-- What holds the slots of a bundle at issue (R131): those not yet committed. An M slot that names a tile takes the seniority stall
whatever its guard (R120; log 68). -/
def bundleHold (is : List (Nat × Instr)) (s : State) : Hold :=
  let b := s.bank
  let c := s.core s.ctx.core
  let live := is.filter fun k => slotLive b k.2
  let senior := is.any (fun k => !(Instr.tiles k.2).isEmpty) && c.senior ≠ some s.ctx.bank
  let full := live.any (fun k => k.1 = 3) && 4 ≤ c.queue.length
  let room := copyRoom s live (groupedCount s s.ctx.core s.ctx.bank) (slotsInUse s s.ctx.core s.ctx.bank)
  live.foldl (fun h k => h.or (slotHold k.2 s))
    ((Hold.when senior .senior).or ((Hold.when (is.any fun k => pendingHit b k.2) .block).or
      ((Hold.when (full || is.any fun k => selectHit s k.2) .stall).or (.when (!room) .block))))

end Sys2Proof.Machine
end

