-- ==== Sys2Proof/Machine/Bundle.lean ====
section
/-! DEFINITION. Fetching, issuing and completing a bundle, and the end of a task (R123 to R138, R143, R147, R211, R470, R478). -/

namespace Sys2Proof.Machine

open Sys2Proof

/-- What a fetch at a header address finds (R123, R126, R127, R147, R470). -/
inductive Fetched where
  | outside
  | poison
  | malformed
  | unassigned
  | bundle (x : Bundle)
  deriving DecidableEq, Repr

/-- The words that the bundle at the head of a list takes: 1 where no header stands there. -/
def headWords : List Word → Nat
  | [] => 1
  | h :: r => if isHeader h then min (bundleLength h r) (r.length + 1) else 1

/-- Some word of the image from `a` on is poisoned (R470). -/
def imPoison (s : State) (c : Nat) (b : Bank) (a n : Nat) : Bool := poisoned s ((Space.imem c).key (b.imBase + 4 * a)) (4 * n)

/-- The fetch at a header address. -/
def fetchAt (s : State) (c : Nat) (b : Bank) (a : Nat) : Fetched :=
  if b.imWords ≤ a then .outside
  else
    let line := lineOf s c b a
    let ws := line.drop (a % lineWords)
    if imPoison s c b a (headWords ws) then .poison
    else if !(startPositions line).contains (a % lineWords) then .malformed
    else match decodeBundle ws with
      | .ok x => .bundle x
      | .error .illegalOpcode => .unassigned
      | .error .illegalEncoding => .malformed

/-- The slots of a bundle that have still to commit (R143). -/
def pendingSlots (b : Bank) (x : Bundle) : List (Nat × Instr) := x.slots.filter fun k => b.sr ≤ k.1

/-- The dependence check of a bundle; a bundle that is resumed has passed it (R129, R143). -/
def conflicts (b : Bank) (x : Bundle) : Bool := b.sr = 0 && depends b (x.slots.map fun k => k.2)

/-- What holds the next bundle of a bank of a core; one that traps at decode is not held (R131, R132). -/
def issueHold (c : Nat) (b : Bool) (s : State) : Hold :=
  let k := (s.core c).bank b
  let s := atBank c b s
  match fetchAt s c k (issueAddr s c k) with
  | .bundle x => if conflicts k x then .go else bundleHold (pendingSlots k x) s
  | _ => .go

/-- A bank holds a task that issues bundles, or will when PF of its group is 0 (R466). -/
def bankIssues (b : Bank) : Bool :=
  match b.status with
  | .live => true
  | .pageWait g => (b.group g).faulted = 0
  | _ => false

/-- The cluster of a core executes (R240, R476, R500, R508, R519). -/
def clusterRuns (s : State) (c : Nat) : Bool :=
  let k := s.cluster (c / 4)
  k.enabled && !k.stopped && k.freeze.isNone && !(s.field (fieldOf c)).lost

/-- The debugger keeps a core from issuing: halted, asked to halt, or past its step (R478, R480). -/
def Debug.stops (d : Debug) : Bool := d.halted || (d.den && d.halt) || (d.stepping && d.retired)

/-- The bank of a core that can issue a bundle now. One whose BUDGET would pass below zero issues nothing (R114). -/
def issuing (s : State) (c : Nat) : Option Bool :=
  let x := s.core c
  match x.running with
  | some b =>
    if clusterRuns s c && !x.dbg.stops && x.drain.isNone && bankIssues (x.bank b) && (x.bank b).pauseUntil ≤ s.clk c && !overrun s c b &&
        issueHold c b s = .go then some b else none
  | none => none

/-! ### Completion -/

/-- A slot that leaves its bundle: a branch, call, return, LOOP or TEND whose guard holds. -/
def leaves (b : Bank) (i : Instr) : Bool :=
  slotLive b i && match i with
    | .br _ | .bri _ | .call _ | .calli _ | .ret _ | .loop _ | .loopi _ | .tend _ => true
    | _ => false

/-- The level that a slot makes inactive. -/
def exits (b : Bank) (i : Instr) : Option (BitVec 2) :=
  match i with
  | .lexit f => if slotLive b i then some f.lvl else none
  | _ => none

/-- Control falls off the end of the image after a bundle (R123): the fall-through address lies beyond it, and neither a transfer, nor a
TEND, nor a back-edge takes control elsewhere. -/
def fallsOff (b : Bank) (addr fall : Nat) (is : List Instr) : Bool :=
  b.imWords ≤ fall && !(is.any (leaves b)) &&
    !(([0, 1, 2, 3] : List (BitVec 2)).any fun l => (b.loop l).active && (b.loop l).lend.toNat = addr && (b.loop l).lc ≠ 1 &&
        !(is.any fun i => exits b i = some l))

/-- The next bundle of a bank whose bundle at `addr` is complete (R135, R138). -/
def nextBundle (addr fall : Nat) (b : Bank) : Bank :=
  match b.taken with
  | some t => { b with pc := t }
  | none =>
    match loopBack addr [3, 2, 1, 0] b with
    | (some t, b') => { b' with pc := t }
    | (none, b') => { b' with pc := BitVec.ofNat 32 fall }

/-- A bundle is complete: the link value, the next bundle or the end that a TEND of it has begun, and the group (R128, R129, R135, R138,
R211). DESIGN CHOICE (log 102): a bundle with a TEND leaves the loop levels as they are. -/
def completeBank (addr fall : Nat) (stop : Bool) (is : List Instr) (b : Bank) : Bank :=
  let b := match b.link with | some v => b.wrS 31 v | none => b
  let ends : Bool := stop || is.any Instr.ctl || endsLoop b addr
  let b' := if b.tended then { b with status := .ending, pc := BitVec.ofNat 32 addr } else nextBundle addr fall b
  { b' with sr := 0, taken := none, link := none, waitOver := false, grpOpen := !ends, wset := if ends then [] else b'.wset }

/-- The bank at the issue of its bundle: RND as it stands, nothing decided yet (R53, R130). DESIGN CHOICE (log 104): a debugger that writes RND at a
halt inside the bundle does not change the mode of the slots still to come. -/
def freshBank (b : Bank) : Bank := { b with issueRnd := b.rnd, taken := none, link := none, tended := false }

/-- The core halts before its next bundle (R213, R478): BUDGET and CYC stop counting, and IADDR names the bundle. -/
def haltCore (c : Nat) (why : HaltReason) (s : State) : State :=
  s.modCore c fun x =>
    let x := (match x.running with
      | some b => x.modBank b fun k => { k.stopClock (s.clk c) with iaddr := BitVec.ofNat 32 (issueAddr s c k) }
      | none => x)
    { x with dbg := { x.dbg with halted := true, stepping := false, reason := why, tcause := 0, retired := false, stepOps := [],
                                  hbank := x.running.getD false } }

/-- A complete bundle, at the end of its slots: BKPT halts, and a step's bundle is retired unless its task has still to end
(R213, R480). -/
def completeBundle (x : Bundle) (s : State) : State :=
  let c := s.ctx.core
  let s := s.modBank (completeBank s.ctx.addr s.ctx.fall x.stop (x.slots.map fun k => k.2))
  if s.ctx.bkpt then haltCore c .bkpt s
  else if s.bank.status = .ending then s
  else s.modCore c fun k => { k with dbg := { k.dbg with retired := k.dbg.stepping } }

/-! ### The bundle rows of the table -/

/-- EMPTY_BUNDLE (R125): no effect but its STOP, the end of its group and the next bundle; off the end of the image it traps (R123). -/
def execEmptyBundle (s : State) : Result :=
  .next (match fetchAt s s.ctx.core s.bank s.ctx.addr with
    | .bundle x =>
      if !x.slots.isEmpty then s
      else if fallsOff s.bank s.ctx.addr s.ctx.fall [] then takeTrapWith s causeInstrRange 0 0
      else completeBundle x (s.modBank freshBank)
    | _ => s)

/-- MALFORMED_HEADER (R126, R127, R147): the illegal-encoding cause, SR 0. -/
def execMalformedHeader (s : State) : Result := .next (takeTrapWith s causeIllegalEncoding 0 0)

/-- UNASSIGNED_OPCODE (R147, R167): the illegal-opcode cause, SR 0. -/
def execUnassignedOpcode (s : State) : Result := .next (takeTrapWith s causeIllegalOpcode 0 0)

/-! ### The bundle step -/

/-- A slot commits: its writes enter the group's write set (R129). -/
def commitSlot (i : Instr) (s : State) : State :=
  if s.ctx.stopped then s
  else { s.modBank (fun b => { b with wset := b.wset ++ (Instr.uses i).writes }) with ctx := { s.ctx with begun := true } }

/-- An access to scratchpad in a slot to the right of a VTOPK comes behind its list words (R272). -/
def beforeSlot (i : Instr) (s : State) : State :=
  if Instr.touches i && slotLive s.bank i && (s.core s.ctx.core).sel.any (fun x => x.bank = s.ctx.bank && !x.writes.isEmpty) then
    landBank s.ctx.core s.ctx.bank s
  else s

/-- The slots of a bundle, left to right, until one traps (R132). -/
def runSlots (ex : Instr → State → Result) : List (Nat × Instr) → State → Result
  | [], s => .next s
  | (k, i) :: r, s =>
    if s.ctx.stopped then .next s
    else match ex i (beforeSlot i { s with ctx := { s.ctx with slot := k, later := r.map fun x => x.1 } }) with
      | .next s' => runSlots ex r (commitSlot i s')
      | .fault f => .fault f
      | .refused f => .refused f

/-- Operations that the bundle has started since operation number `n` join those that a step waits for (R480). -/
def noteStepOps (n : Nat) (s : State) : State :=
  s.modCore s.ctx.core fun k =>
    if k.dbg.stepping then
      { k with dbg := { k.dbg with stepOps := k.dbg.stepOps ++ (List.range (s.opId - n)).map fun i => n + i } }
    else k

/-- The slots of an issued bundle and its completion. -/
def runBundle (ex : Instr → State → Result) (x : Bundle) (s : State) : Result :=
  let n := s.opId
  match runSlots ex (pendingSlots s.bank x) s with
  | .next s' =>
    let s' := noteStepOps n s'
    .next (if s'.ctx.stopped then s' else completeBundle x s')
  | r => r

/-- A bank whose bundle issues: a block of it has ended (R215, R468), and one in page wait goes on (R466). -/
def wake (b : Bank) : Bank :=
  { b with blockedSince := none, status := match b.status with
      | .pageWait _ => .live
      | x => x }

/-- BRK halts before the bundle issues (R125, R478). -/
def brkHalts (x : Bundle) (k : Core) (b : Bank) : Bool :=
  x.brk && k.dbg.den && k.dbg.brken && b.sr = 0 && !k.dbg.stepping

/-- A decoded bundle issues, or traps or halts before it does. DESIGN CHOICE (log 84): a bundle that falls off the image takes that trap, whatever
its S slot would take. -/
def issueBundle (ex : Instr → State → Result) (x : Bundle) (s : State) : Result :=
  let is := x.slots.map fun k => k.2
  if conflicts s.bank x then ex .malformedHeader s
  else if brkHalts x (s.core s.ctx.core) s.bank then .next (haltCore s.ctx.core .brk s)
  else if x.slots.isEmpty then ex .emptyBundle s
  else if s.bank.sr = 0 && fallsOff s.bank s.ctx.addr s.ctx.fall is then .next (takeTrapWith s causeInstrRange 0 0)
  else runBundle ex x (if s.bank.sr = 0 then s.modBank freshBank else s)

/-- The context of the bundle at a bank's program counter. -/
def issueCtx (s : State) (c : Nat) (b : Bool) : IssueCtx :=
  let k := (s.core c).bank b
  let a := issueAddr s c k
  ⟨c, b, 0, a, fallThrough s c k a, [], slotsInUse s c b, false, false, 0 < k.sr⟩

/-- One step of a core's running bank: the bundle at its program counter (R131, R147). -/
def bundleStep (ex : Instr → State → Result) (c : Nat) (b : Bool) (s : State) : Result :=
  let s : State := { s with ctx := issueCtx s c b }
  let s := s.modBank wake
  match fetchAt s c s.bank s.ctx.addr with
  | .outside => .next (takeTrapWith s causeInstrRange 0 0)
  | .poison => .next (takeTrapWith s causePoison 0 0)
  | .malformed => ex .malformedHeader s
  | .unassigned => ex .unassignedOpcode s
  | .bundle x => issueBundle ex x s

/-! ### The end of a task (R211) -/

/-- Bank `d` of core `p` holds another member of the gang whose member bank `b` of core `c` holds (R109, R216). -/
def sameGang (s : State) (c : Nat) (b : Bool) (p : Nat) (d : Bool) : Bool :=
  p ≠ c && 1 < ((s.core c).bank b).gangSize.toNat && ((s.core p).bank d).status ≠ .empty &&
    ((s.core p).bank d).gangId = ((s.core c).bank b).gangId

/-- A committed operation reads or writes the scratchpad of core `c`: a copy or a CGET by its local address, a publication by a source that it has
yet to read. -/
def COp.reaches (o : COp) (c : Nat) : Bool :=
  o.place ≠ .ended && ((o.len ≠ 0 && spadOwner o.loc = some c) ||
    o.pkts.any fun x => x.2.any fun k => k.2 ≠ 0 && spadOwner k.1 = some c)

/-- A gang peer's access that has committed toward the scratchpad of a bank's core has not been performed there (R219): an operation of the
peer's copy interface, or the list words of its VTOPK (R272). -/
def peerBusy (s : State) (c : Nat) (b : Bool) : Bool :=
  (s.ops.any fun o => o.2.ofTask && o.2.reaches c && sameGang s c b o.2.core o.2.bank) ||
    (coresOf (c / 4)).any fun p => (s.core p).sel.any fun x =>
      (x.writes.any fun w => spadOwner w.1 = some c) && sameGang s c b p x.bank

/-- The bank's task has an operation in the select unit (R272). -/
def selBusy (s : State) (c : Nat) (b : Bool) : Bool := (s.core c).sel.any fun x => x.bank = b

/-- A bank past its TEND bundle whose work, and whose gang peers' accesses to its scratchpad, have completed (R211, R219). -/
def bankEnds (s : State) (c : Nat) (b : Bool) : Bool :=
  ((s.core c).bank b).status = .ending && !(s.core c).dbg.halted && !matrixBusy s c b (fun _ => true) && !copiesBusy s c b &&
    !selBusy s c b && !peerBusy s c b

/-- The first fault recorded for a task that nothing has reported (R211, R322): copy groups, then tiles, then the task's own; and the
state in which it is reported. -/
def endFault (s : State) (c : Nat) (b : Bool) : Option (BitVec 8 × State) :=
  let k := (s.core c).bank b
  match (List.range 16).find? fun g => (k.group g).fault.isSome && !(k.group g).reported with
  | some g => some ((k.group g).fault.getD 0, modGroup c b g (fun x => { x with reported := true }) s)
  | none =>
    match firstFault ((s.core c).tileFaults.filter (faultMatches b k.task [0, 1, 2, 3] true)) with
    | some x => some (x.code, s.modCore c fun y => { y with tileFaults := y.tileFaults.erase x })
    | none => none

/-- IADDR of the running bank of a core names its next bundle as a debugger halts the core (R478). -/
def noteAddr (c : Nat) (s : State) : State :=
  match (s.core c).running with
  | some b => s.modBankAt c b fun k => { k with iaddr := BitVec.ofNat 32 (issueAddr s c k) }
  | none => s

/-- The step of a bank past its TEND bundle: a recorded fault is taken, and the task has not ended; or the task ends, and with it the step of a
debugger whose bundle that was (R211, R480). -/
def endStep (c : Nat) (b : Bool) (s : State) : State :=
  match endFault s c b with
  | some (code, s') =>
    let s' := if (s'.core c).trapHalts then noteAddr c s' else s'
    takeTrapWith (atBank c b (s'.modBankAt c b fun k => { k with tended := false })) code 0 0
  | none =>
    let own : Bool := (s.core c).running = some b
    let s := finishTask c b 1 s
    if own then s.modCore c fun k => { k with dbg := { k.dbg with retired := k.dbg.stepping } } else s

end Sys2Proof.Machine
end

