-- ==== Sys2Proof/Machine/Switch.lean ====
section
/-! DEFINITION. Context-bank switches, the WAITE limit and the debug unit (R109, R215, R467 to R469, R477 to R480). -/

namespace Sys2Proof.Machine

open Sys2Proof

/-! ### Blocked tasks (R467) -/

/-- What holds the task of a bank, beyond structural stalls: page wait and the wait of TEND are blocks (R186, R467). -/
def taskHold (s : State) (c : Nat) (b : Bool) : Hold :=
  let k := (s.core c).bank b
  match k.status with
  | .live => if k.pauseUntil ≤ s.clk c then issueHold c b s else .stall
  | .pageWait g => if (k.group g).faulted = 0 then issueHold c b s else .block
  | .ending => .block
  | _ => .go

/-- The task of a bank is blocked. -/
def taskBlocked (s : State) (c : Nat) (b : Bool) : Bool := taskHold s c b = .block || taskHold s c b = .senior

/-- A copy request of a bank's task is FAULTED (R370, R468). -/
def copyFaulted (s : State) (c : Nat) (b : Bool) : Bool :=
  s.ops.any fun o => o.2.core = c && o.2.bank = b && o.2.ofTask && o.2.toEngine && match o.2.place with
    | .faulted _ _ _ => true
    | .abandoned => true
    | _ => false

/-- A block has lasted `n` cycles of the task's own (R215, R468). -/
def heldFor (s : State) (c : Nat) (b : Bool) (n : Nat) : Bool :=
  let k := (s.core c).bank b
  match k.blockedSince with
  | some t => t + n ≤ k.cyc (s.clk c)
  | none => false

/-- Conditions 1 and 2 of R468: the running task of a core is blocked, and may be left. A core that is halted or steps does not switch
(R478, R480). -/
def mayLeave (s : State) (c : Nat) : Bool :=
  let x := s.core c
  !x.dbg.halted && !x.dbg.stepping && x.drain.isNone && clusterRuns s c &&
    match x.running with
    | some b => taskBlocked s c b && !bankEnds s c b &&
        (copyFaulted s c b || taskHold s c b = .senior || heldFor s c b 256)
    | none => false

/-- A parked task is ready to run (R467). -/
def parkedReady (s : State) (c : Nat) (b : Bool) : Bool :=
  let k := (s.core c).bank b
  match k.status with
  | .pageWait g => (k.group g).faulted = 0
  | _ => bankIssues k && k.pauseUntil ≤ s.clk c && issueHold c b s = .go

/-- The other bank of a core's running one is empty. -/
def otherEmpty (s : State) (c : Nat) : Bool :=
  match (s.core c).running with
  | some b => ((s.core c).bank (!b)).status = .empty
  | none => false

/-- A member core of a gang takes part in its firing by a drain (R109). -/
def drainsFor (s : State) (m : Nat × TaskInst) : Bool :=
  mayLeave s m.2.core && otherEmpty s m.2.core && coreFires s m.2.core

/-- A core fires a task next. -/
def firesNext (s : State) (m : Nat × TaskInst) : Bool :=
  match nextToFire s m.2.core with
  | some x => x.1 = m.1
  | none => false

/-- Every member core of a gang is idle or can drain now (R109). -/
def gangDrains (s : State) (ms : List (Nat × TaskInst)) : Bool :=
  ms.all fun m => firesNext s m && ((idleBank s m.2.core).isSome || drainsFor s m)

/-- The cores whose drains start with a switch of core `c`, by condition 3 of R468: that core alone, or every member core of a gang that
does not stand idle. -/
def switching (s : State) (c : Nat) : List Nat :=
  match (s.core c).running with
  | none => []
  | some b =>
    if !mayLeave s c then []
    else if parkedReady s c (!b) then [c]
    else if !(otherEmpty s c) || !coreFires s c then []
    else match nextToFire s c with
      | none => []
      | some x =>
        let ms := membersOf s x.1
        if ms.length ≤ 1 then [c]
        else if gangDrains s ms then (ms.filter fun m => drainsFor s m).map fun m => m.2.core
        else []

/-- A drain starts: issue stops for 8 cycles (R469). -/
def startDrain (c : Nat) (s : State) : State :=
  s.modCore c fun x => match x.running with
    | some b => { x with drain := some ⟨b, s.clk c + 8⟩ }
    | none => x

/-- BANK_SWITCH (R468). -/
def execBankSwitch (s : State) : Result :=
  .next (match s.ev with
    | some (.bankSwitch c) => (switching s c).foldl (fun s c => startDrain c s) s
    | _ => s)

/-- A parked bank becomes the running one (R468, R469). -/
def runBank (c : Nat) (b : Bool) (s : State) : State :=
  s.modCore c fun x => { x.modBank b (fun k => k.startClock (s.clk c)) with running := some b }

/-- A drain has ended on a core that goes on (R469). -/
def drained (s : State) (c : Nat) (d : Drain) : Bool := Drain.over s c d && !(s.core c).dbg.halted && clusterRuns s c

/-- The gang that a drained core fires next fires as a whole (R109): some member is still draining, or all can fire now. -/
def awaitsGang (s : State) (n : Nat) : Bool :=
  let ms := membersOf s n
  1 < ms.length && ms.all fun m => firesNext s m && ((memberBank s m).isSome || (s.core m.2.core).drain.isSome)

/-- A drain whose end this core decides alone (R469): a gang's member waits for GANG_FIRE. -/
def drainEnds (s : State) (c : Nat) : Option Drain :=
  match (s.core c).drain with
  | none => none
  | some d =>
    if !drained s c d then none
    else if ((s.core c).bank (!d.fromBank)).status ≠ .empty then some d
    else match nextToFire s c with
      | some x => if awaitsGang s x.1 then none else some d
      | none => some d

/-- SWITCH_DRAIN_END (R469): the other bank's bundle issues next, or a task fires into that bank; with neither, the core goes on with
the bank it has drained. -/
def execSwitchDrainEnd (s : State) : Result :=
  .next (match s.ev with
    | some (.switchDrainEnd c) =>
      (match drainEnds s c with
       | none => s
       | some d =>
         if ((s.core c).bank (!d.fromBank)).status ≠ .empty then runBank c (!d.fromBank) (leaveBank c s)
         else match (if coreFires s c then nextToFire s c else none) with
           | some x =>
             if (membersOf s x.1).length ≤ 1 then fireInto x.1 (!d.fromBank) (leaveBank c s)
             else s.modCore c fun k => { k with drain := none }
           | none => s.modCore c fun k => { k with drain := none })
    | _ => s)

/-! ### WAITE (R215) -/

/-- The WAITE at which a bank is held, where it has a cycle limit. -/
def heldWaite (s : State) (c : Nat) (b : Bool) : Option SYForm :=
  let k := (s.core c).bank b
  if k.status ≠ .live || (s.core c).running ≠ some b || k.waitOver then none
  else match fetchAt s c k (issueAddr s c k) with
    | .bundle x => (pendingSlots k x).findSome? fun i => match i.2 with
        | .waite f => if guardTrue f.g k && f.a ≠ 0 && !k.events.getLsbD f.imm.toNat then some f else none
        | _ => none
    | _ => none

/-- The cycle limit of a held WAITE has expired. -/
def waiteOver (s : State) (c : Nat) (b : Bool) : Bool :=
  match heldWaite s c b with
  | some f => heldFor s c b (((s.core c).bank b).rdS f.a).toNat
  | none => false

/-- WAITE_TIMEOUT (R215): WAITE stops blocking, with the bit unchanged. -/
def execWaiteTimeout (s : State) : Result :=
  .next (match s.ev with
    | some (.waiteTimeout c b) => if waiteOver s c b then s.modBankAt c b fun k => { k with waitOver := true } else s
    | _ => s)

/-! ### The debug unit (R477 to R480) -/

/-- A halt request is due: at a bundle boundary, with no switch in progress and no freeze (R240, R478). -/
def haltDue (s : State) (c : Nat) : Bool :=
  let x := s.core c
  x.dbg.den && x.dbg.halt && !x.dbg.halted && x.drain.isNone && (s.cluster (c / 4)).freeze.isNone

/-- DEBUG_HALT (R478). -/
def execDebugHalt (s : State) : Result :=
  .next (match s.ev with
    | some (.debugHalt c) => if haltDue s c then haltCore c .request s else s
    | _ => s)

/-- The running bank of a halted core goes on at IADDR, from SR (R478). -/
def resumeBank (k : Bank) (now : Nat) : Bank :=
  let k := { k with pc := k.iaddr }
  (match k.status with
    | .trapped => { k with status := .live }
    | _ => k).startClock now

/-- A parked bank that trapped past its TEND issues that bundle again when it runs (R143, R478). -/
def Bank.reissue (k : Bank) : Bank := { k with status := if k.status = .trapped then .live else k.status }

/-- A halted core goes on (R478, R480); RUN and STEP clear HALT. -/
def resumeCore (c : Nat) (step : Bool) (s : State) : State :=
  s.modCore c fun x =>
    let y := (match x.running with
      | some b => (x.modBank b fun k => resumeBank k (s.clk c)).modBank (!b) Bank.reissue
      | none => x)
    { y with dbg := { x.dbg with halted := false, halt := false, stepping := step, retired := false, stepOps := [], reason := .none,
                                  tcause := 0 } }

/-- A register read has been answered. -/
def answer (v : Nat) (s : State) : State := { s with mgmt := { s.mgmt with reads := s.mgmt.reads ++ [v] } }

/-- An access of a master to a debug register of a core, through BAR2 (R501): the debug class alone reaches it, as the table of the management
registers admits (R477, R503 to R505). What belongs to a register write that has been checked is not checked again. A refused read answers a free
value (log 33). -/
def debugAccess (c : Nat) (wr : Bool) (m : Master) (inWrite : Bool) (yes : State → State) (s : State) : State :=
  let u := (0x200000 + 32 * c) / 4096
  let no := fun (t : State) => if wr then t else answer (t.free 5) t
  if inWrite then yes s
  else if !barOpen s then (if wr then s else answer 0 s)
  else if m.cls ≠ 5 then no (violate s 6 u m.cls m.part wr)
  else checked s 6 u 5 m.part wr (!wr) yes no

/-- DEBUG_RUN (R478). -/
def execDebugRun (s : State) : Result :=
  .next (match s.ev with
    | some (.debugRun c m w) =>
      debugAccess c true m w (fun s => if (s.core c).dbg.den && (s.core c).dbg.halted then resumeCore c false s else s) s
    | _ => s)

/-- DEBUG_STEP (R480): the running bank issues one bundle. -/
def execDebugStep (s : State) : Result :=
  .next (match s.ev with
    | some (.debugStep c m w) =>
      debugAccess c true m w
        (fun s => if (s.core c).dbg.den && (s.core c).dbg.halted && (s.core c).running.isSome then resumeCore c true s else s) s
    | _ => s)

/-- An operation that SDRAIN waits for has neither completed nor faulted (R381, R480). -/
def opRuns (s : State) (id : Nat) : Bool :=
  match kget s.ops id with
  | some o => (match o.place with
      | .faulted _ _ _ => false
      | .abandoned => false
      | .ended => false
      | _ => true)
  | none => false

/-- The engine work that the stepped bundle started goes on (R480). -/
def stepWorks (s : State) (c : Nat) : Bool :=
  let d := (s.core c).dbg
  d.sdrain && (d.stepOps.any (opRuns s) || [false, true].any fun b => matrixBusy s c b fun q => d.stepOps.contains q.id)

/-- A step is over: its bundle has retired, or its task is gone or trapped (R480). -/
def stepOver (s : State) (c : Nat) : Bool :=
  let x := s.core c
  x.dbg.stepping && !(stepWorks s c) && (s.cluster (c / 4)).freeze.isNone &&
    (x.dbg.retired || match x.running with
      | some b => (x.bank b).status = .trapped
      | none => true)

/-- STEP_END (R480): the core halts, REASON 4. -/
def execStepEnd (s : State) : Result :=
  .next (match s.ev with
    | some (.stepEnd c) => if stepOver s c then haltCore c .stepEnded s else s
    | _ => s)

/-- Word `w` of a value, replaced. -/
def putWord (old w : Nat) (v : Word) : Nat := old - old / 2 ^ (32 * w) % 2 ^ 32 * 2 ^ (32 * w) + v.toNat * 2 ^ (32 * w)

/-- A field of an address register as the debugger sees it (R479). -/
def addrField (a : AddrReg) (f : Nat) : Word :=
  if f = 0 then a.base else if f = 1 then a.stride else if f = 2 then a.modulo
  else if f = 3 then (if a.swizzle then 1 else 0) else if f = 4 then a.org else 0

/-- The debugger writes a field of an address register. -/
def putAddrField (a : AddrReg) (f : Nat) (v : Word) : AddrReg :=
  if f = 0 then { a with base := v } else if f = 1 then { a with stride := v } else if f = 2 then { a with modulo := v }
  else if f = 3 then { a with swizzle := v.getLsbD 0 } else if f = 4 then { a with org := v } else a

/-- The value of an item of the bank in hand (R479). -/
def readItem (s : State) (i : Nat) : Word :=
  let b := s.bank
  if i < 0x400 then readCtl s i
  else if i < 0x420 then b.rdS (BitVec.ofNat 5 i)
  else if i = 0x420 then (b.p ||| 1).setWidth 32
  else if 0x440 ≤ i && i < 0x460 then BitVec.ofNat 32 ((b.rdM (BitVec.ofNat 3 (i / 4))).toNat / 2 ^ (32 * (i % 4)))
  else if 0x480 ≤ i && i < 0x4C0 then addrField (b.rdA (BitVec.ofNat 3 (i / 8))) (i % 8)
  else if 0x500 ≤ i && i < 0x510 then pollWord (b.group (i % 16))
  else if 0x1000 ≤ i && i < 0x1400 then BitVec.ofNat 32 ((b.rdV (BitVec.ofNat 5 (i / 32))).toNat / 2 ^ (32 * (i % 32)))
  else 0

/-- IADDR is redirected: SR is 0, and a task that stood at a trap or in a wait will issue there (R479). -/
def redirect (v : Word) (b : Bank) : Bank :=
  { b with iaddr := v, pc := v, sr := 0, tended := false, status := if b.status = .empty then .empty else .live }

/-- The debugger writes an item of the bank in hand (R479). -/
def writeItem (i : Nat) (v : Word) (s : State) : State :=
  if i = 0x00E then s.modBank (redirect v)
  else if i < 0x400 then writeCtl s i v
  else if i < 0x420 then s.modBank fun b => b.wrS (BitVec.ofNat 5 i) v
  else if i = 0x420 then s.modBank fun b => { b with p := v.extractLsb' 0 8 &&& 0xFE }
  else if 0x440 ≤ i && i < 0x460 then s.modBank fun b =>
    b.wrM (BitVec.ofNat 3 (i / 4)) (BitVec.ofNat 128 (putWord (b.rdM (BitVec.ofNat 3 (i / 4))).toNat (i % 4) v))
  else if 0x480 ≤ i && i < 0x4C0 then s.modBank fun b =>
    b.wrA (BitVec.ofNat 3 (i / 8)) (putAddrField (b.rdA (BitVec.ofNat 3 (i / 8))) (i % 8) v)
  else if 0x1000 ≤ i && i < 0x1400 then s.modBank fun b =>
    b.wrV (BitVec.ofNat 5 (i / 32)) (BitVec.ofNat 1024 (putWord (b.rdV (BitVec.ofNat 5 (i / 32))).toNat (i % 32) v))
  else s

/-- DBGDATA_ACCESS (R479): only while the core is halted. -/
def execDbgdataAccess (s : State) : Result :=
  .next (match s.ev with
    | some (.dbgdataAccess c wr v m w) =>
      debugAccess c wr m w (fun s =>
        let d := (s.core c).dbg
        let t := atBank c d.abank s
        if wr then (if d.halted then writeItem d.item.toNat (BitVec.ofNat 32 v) t else s)
        else answer (if d.halted then (readItem t d.item.toNat).toNat else 0) s) s
    | _ => s)

end Sys2Proof.Machine
end

