-- ==== Sys2Proof/Machine/Tracing.lean ====
section
/-! DEFINITION. The trace writers and the time base (R487 to R498, R517). -/

namespace Sys2Proof.Machine

open Sys2Proof

/-! ### Trace buffers (R490, R495 to R498) -/

/-- The 32 bytes of a record (R490). -/
def TraceRec.bytes (r : TraceRec) : List Byte :=
  leBytes 8 r.time ++ leBytes 2 r.code.toNat ++ leBytes 2 r.source.toNat ++ leBytes 4 r.launch.toNat ++ leBytes 4 r.task.toNat ++
    (r.payload ++ List.replicate 12 0).take 12

/-- Unread records of a buffer (R497). -/
def TraceBuf.unread (t : TraceBuf) : Nat := (t.wr + 2 ^ 19 - t.rd) % 2 ^ 19

/-- The key of the slot of an index (R495). -/
def TraceBuf.slotKey (t : TraceBuf) (i : Nat) : Nat := Space.hbm.key (t.base.toNat + i % 2 ^ 18 * 32)

/-- How far an index lies behind RD. -/
def TraceBuf.ahead (t : TraceBuf) (i : Nat) : Nat := (i + 2 ^ 19 - t.rd) % 2 ^ 19

/-- The replaced records that are still unread. -/
def TraceBuf.stillOver (t : TraceBuf) : List (Nat × Nat) := t.replaced.filter fun x => t.ahead x.1 < t.unread

/-- The unread indices, the oldest record first (R497): one that replaced another is newer than every record then in the buffer, and older than
those written later. -/
def TraceBuf.unreadFrom (t : TraceBuf) : List Nat :=
  (List.range (t.unread + 1)).flatMap fun i =>
    ((t.stillOver.filter fun x => t.ahead x.2 = i).map fun x => x.1) ++
      (if i < t.unread && !(t.stillOver.any fun x => t.ahead x.1 = i) then [(t.rd + i) % 2 ^ 19] else [])

/-- The class of the record in a slot. -/
def slotClass (s : State) (t : TraceBuf) (i : Nat) : Nat := (traceClass (BitVec.ofNat 16 (readNat s (t.slotKey i + 8) 2))).val

/-- The index that a record at a full buffer replaces, and its class (R497): the oldest of the lowest class. -/
def oldestLowest (s : State) (t : TraceBuf) : Nat × Nat :=
  (t.unreadFrom.foldl (fun (a : Option (Nat × Nat)) i =>
    match a with
    | none => some (i, slotClass s t i)
    | some (j, c) => if slotClass s t i < c then some (i, slotClass s t i) else some (j, c)) none).getD (0, 0)

/-- A record at WR; WR advances (R496). -/
def putRecord (f : Nat) (r : TraceRec) (s : State) : State :=
  let t := (s.field f).trace
  (writeBytes s (t.slotKey t.wr) r.bytes).modField f fun x =>
    { x with trace := { x.trace with wr := (x.trace.wr + 1) % 2 ^ 19, replaced := x.trace.stillOver } }

/-- The gap record (R498): the time of the first drop that it counts, and the drops since the last one. -/
def gapRecord (f : Nat) (t : TraceBuf) : TraceRec :=
  ⟨t.gapTime.getD 0, 0xF0, BitVec.ofNat 16 (f * 512), 0, 0xFFFFFFFF, t.gaps.toList.flatMap fun n => leBytes 3 (min n (2 ^ 24 - 1))⟩

/-- Records of a class are written (R495). -/
def TraceBuf.writes (t : TraceBuf) (code : BitVec 16) : Bool := t.clen.getLsbD (traceClass code).val

/-- The gap record is written where a drop counter has grown (R498) and its class is enabled (R495). -/
def noteGap (f : Nat) (s : State) : State :=
  let t := (s.field f).trace
  if t.gaps.toList.all (· = 0) || !t.writes 0xF0 then s
  else (putRecord f (gapRecord f t) s).modField f fun x =>
    { x with trace := { x.trace with gaps := Vector.replicate 4 0, gapTime := none } }

/-- A record meets a full buffer (R497). The drop is timed as it happens (R498). -/
def atFull (f : Nat) (r : TraceRec) (s : State) : State :=
  let t := (s.field f).trace
  let l := oldestLowest s t
  let c := traceClass r.code
  if c.val < l.2 then s.modField f fun x => { x with trace := x.trace.drop c (taiNs s) }
  else (writeBytes s (t.slotKey l.1) r.bytes).modField f fun x =>
    { x with trace := { x.trace.drop (Fin.ofNat 4 l.2) (taiNs s) with
        replaced := (x.trace.stillOver.filter fun y => y.1 ≠ l.1) ++ [(l.1, x.trace.wr)] } }

/-- A record reaches the writer of a field (R496 to R498); one of a disabled class is discarded (R495). -/
def writeTrace (f : Nat) (r : TraceRec) (s : State) : State :=
  let full := fun (s : State) => (s.field f).trace.unread = 2 ^ 18
  if !(s.field f).trace.writes r.code then s
  else if full s then atFull f r s
  else
    let s := noteGap f s
    if full s then atFull f r s else putRecord f r s

/-- The queue of TRACE records of a core, as a unit of its field's writer (R217, R496). -/
def unitSoftware (c : Nat) : Nat := 50000 + c

/-- A unit's queue is one of a core whose cluster is frozen: no record leaves it (R240). -/
def traceHeld (s : State) (u : Nat) : Bool :=
  if u < 8064 then !thawed s (u / 4) else 50000 ≤ u && !thawed s ((u - 50000) / 4)

/-- The units whose first record goes to a field and that are not frozen, each with that record (R496): a unit has one queue, whatever fields its
records go to. -/
def traceHeads (s : State) (f : Nat) : List (Nat × TraceRec) :=
  (s.traceUnits.filterMap fun u =>
    match u.2 with
    | r :: _ => if r.1 = f && !traceHeld s u.1 then some (u.1, r.2) else none
    | [] => none) ++
  (s.cores.filterMap fun c =>
    if fieldOf c.1 = f && !traceHeld s (unitSoftware c.1) then (match c.2.traceQ with | r :: _ => some (unitSoftware c.1, r) | [] => none) else none)

/-- The unit that the writer serves next, in rotation (R496). -/
def traceNext (s : State) (f : Nat) : Option (Nat × TraceRec) :=
  let hs := traceHeads s f
  match hs.find? fun u => (s.field f).trace.served < u.1 with
  | some u => some u
  | none => hs.head?

/-- A unit's first record leaves its queue. -/
def takeRecord (u : Nat) (s : State) : State :=
  if 50000 ≤ u then s.modCore (u - 50000) fun c => { c with traceQ := c.traceQ.drop 1 }
  else { s with traceUnits := kset s.traceUnits u ((kgetD s.traceUnits u []).drop 1) }

/-- TRACE_WRITE (R496). -/
def execTraceWrite (s : State) : Result :=
  .next (match s.ev with
    | some (.traceWrite f) =>
      (match traceNext s f with
       | some (u, r) =>
         let s := (takeRecord u s).modField f fun x => { x with trace := { x.trace with served := u } }
         writeTrace f r s
       | none => s)
    | _ => s)

/-! ### The time base (R487 to R489, R517) -/

/-- The time base counts from now on from the present value. -/
def rebase (s : State) : TimeBase :=
  { s.tb with ns := tbUnits s / 2 ^ 24 % 2 ^ 64, frac := tbUnits s % 2 ^ 24, since := s.now }

/-- A write of TBINC (R487). -/
def writeInc (v : Nat) (s : State) : State :=
  if 0x01000000 ≤ v && v ≤ 0x01800000 then { s with tb := { rebase s with inc := v } } else s

/-- A write of TBSTEP (R487): every replica adds `n` nanoseconds. -/
def stepTime (n : Nat) (s : State) : State :=
  let t := rebase s
  { s with tb := { t with ns := (t.ns + n) % 2 ^ 64 } }

/-- The time base of a launch processor's records of no launch: field 0 (R496). -/
def mgmtRec (code : BitVec 16) (payload : List Byte) (s : State) : State :=
  emit s 0 unitMboam (unitRec s code launchSource 0 0xFFFFFFFF payload)

/-- TIME_LOCK_CHANGE (R487, R489): a change of LOCKED emits a record. -/
def execTimeLockChange (s : State) : Result :=
  .next (match s.ev with
    | some (.timeLockChange locked src off) =>
      let t : State := { s with tb := { s.tb with locked := locked, src := BitVec.ofNat 2 src, offset := BitVec.ofNat 16 (min off 65535) } }
      if locked = s.tb.locked then t else mgmtRec 0x0070 (leBytes 1 (if locked then 1 else 0)) t
    | _ => s)

/-- A time stamp of a reference event. -/
def stamp (src ns : Nat) (s : State) : State := { s with mgmt := { s.mgmt with stamps := s.mgmt.stamps ++ [(src, ns)] } }

/-- PTP_EVENT_MESSAGE (R517): the port's message is time-stamped; sources 1 and 2 are the two ports. -/
def execPtpEventMessage (s : State) : Result :=
  .next (match s.ev with
    | some (.ptpEventMessage p) => stamp (1 + p % 2) (taiNs s) s
    | _ => s)

/-- PPS_EDGE (R517): time-stamped to within 1 ns; which of the three values is open (log 4). -/
def execPpsEdge (s : State) : Result :=
  .next (match s.ev with
    | some .ppsEdge => stamp 3 (taiNs s + s.choose 5 3 - 1) s
    | _ => s)

end Sys2Proof.Machine
end

