-- ==== Sys2Proof/Machine/RegRead.lean ====
section
/-! DEFINITION. What reads of the device's registers, of the capability list and of the trace buffers answer (R6, R72 to R74, R103, R360,
R367, R415, R428, R429, R458, R472, R477, R487, R495, R501, R503 to R508, R514, R518 to R520). -/

namespace Sys2Proof.Machine

open Sys2Proof

/-- A flag as a number. -/
def flagNat (b : Bool) : Nat := if b then 1 else 0

/-- A dword of a 64-bit register. -/
def dwordOf (v : Nat) (high : Bool) : Nat := if high then v / 2 ^ 32 % 2 ^ 32 else v % 2 ^ 32

/-- The registers of a work queue (R72 to R74). -/
def queueValue (x : WorkQueue) (r : Nat) : Nat :=
  if r = 0 || r = 4 then dwordOf x.base (r = 4)
  else if r = 8 then
    x.part * 2 ^ 20 + flagNat x.hold * 2 ^ 19 + x.prio * 2 ^ 16 + x.log2 * 2 ^ 12 + flagNat x.asg * 2 ^ 11 + flagNat x.en
  else if r = 12 then x.tail
  else if r = 16 then x.head
  else if r = 20 then flagNat x.busy * 2 + flagNat x.err
  else 0

/-- The registers of a partition (R360, R367, R428, R429, R458): VMINV's GO and ERTCMD read 0. -/
def partValue (x : Partition) (r : Nat) : Nat :=
  if r = 0x00 then x.vmRoot % 2 ^ 32 + flagNat x.vmEn
  else if r = 0x04 then x.vmRoot / 2 ^ 32
  else if r = 0x08 then x.invVpn % 2 ^ 20 * 2 ^ 12 + x.invScope * 4 + flagNat x.invBusy * 2
  else if r = 0x0C then x.invVpn / 2 ^ 20
  else if r = 0x10 then flagNat x.evsel * 2 + flagNat x.fsel
  else if r = 0x18 then x.swexp
  else 0

/-- The code of a halt reason in DBGSTAT (R477). -/
def HaltReason.code (r : HaltReason) : Nat :=
  match r with
  | .none => 0
  | .request => 1
  | .brk => 2
  | .bkpt => 3
  | .stepEnded => 4
  | .trap => 5

/-- The debug registers of a core, but for DBGDATA (R477): STEP and RUN read 0. -/
def debugValue (d : Debug) (r : Nat) : Nat :=
  if r = 0 then
    flagNat d.brken * 64 + flagNat d.traphalt * 32 + flagNat d.sdrain * 16 + flagNat d.halt * 2 + flagNat d.den
  else if r = 4 then
    d.tcause.toNat * 2 ^ 24 + d.tag.toNat * 2 ^ 14 + d.reason.code * 2 ^ 11 + flagNat d.hbank * 4 + flagNat d.stepping * 2 + flagNat d.halted
  else if r = 8 then flagNat d.abank * 2 ^ 31 + d.item.toNat
  else 0

/-- The debug registers of a core (R477, R479): DBGDATA reads 0 but while the core is halted. -/
def debugAt (s : State) (c r : Nat) : Nat :=
  let d := (s.core c).dbg
  if r ≠ 12 then debugValue d r
  else if d.halted then (readItem (atBank c d.abank s) d.item.toNat).toNat
  else 0

/-- The time base's registers (R487): TBNSH and TBFRAC give the latched value, where one is pending. TBSTEP reads 0. -/
def timeValue (s : State) (r : Nat) : Nat :=
  if r = 0x00 then taiNs s % 2 ^ 32
  else if r = 0x04 then s.mgmt.nsh.getD (taiNs s / 2 ^ 32)
  else if r = 0x08 then s.mgmt.frac.getD (tbUnits s % 2 ^ 24 / 2 ^ 16)
  else if r = 0x0C then s.tb.inc
  else if r = 0x14 then flagNat s.tb.locked * 2 ^ 31 + s.tb.src.toNat * 2 ^ 29 + s.tb.offset.toNat
  else 0

/-- A field's trace registers (R495). -/
def traceValue (x : TraceBuf) (r : Nat) : Nat :=
  if r = 0x00 || r = 0x04 then dwordOf x.base.toNat (r = 4)
  else if r = 0x08 then x.clen.toNat
  else if r = 0x0C then x.wr
  else if r = 0x10 then x.rd
  else if 0x14 ≤ r && r ≤ 0x20 then (x.drops.get (Fin.ofNat 4 ((r - 0x14) / 4))).toNat
  else 0

/-- An entry of an expert residency table, all of its 32 bytes (R415). -/
def ertWhole (x : ErtEntry) : Nat :=
  x.bind * 2 ^ 192 + x.lastuse * 2 ^ 128 + x.home * 2 ^ 64 + flagNat x.svalid * 2 ^ 42 + x.sump * 2 ^ 32 + x.tiles * 2 ^ 17 +
    x.slot * 2 ^ 11 + x.field * 2 ^ 4 + x.st

/-- CLTHERM of a cluster (R518, R519). -/
def thermValue (s : State) (k : Nat) : Nat := (s.cluster k).temp * 2 ^ 8 + (s.cluster k).cool * 4 + (s.cluster k).tstate

/-- DWGT of a field (R103). -/
def dwgtValue (x : FieldSt) : Nat := x.agexp * 2 ^ 16 + x.waff * 2 ^ 12 + x.wcode * 2 ^ 8 + x.wload * 2 ^ 4 + x.wcool

/-- An entry of the rim slot table, as it was last written (R87, R88). -/
def rimValue (s : State) (i : Nat) : Nat :=
  let x := (match s.mgmt.rimNext with | some t => t | none => s.mgmt.rim).getD i (false, 0)
  flagNat x.1 * 16 + x.2

/-- The dword at an offset of BAR2 (R6, R511): an offset at which no chapter puts a register reads 0. -/
def regValue (s : State) (off : Nat) : Nat :=
  if off < 0x80000 then queueValue (s.queue (off / 32)) (off % 32)
  else if off < 0x81000 then partValue (s.part ((off - 0x80000) / 256)) (off % 256)
  else if 0x100000 ≤ off && off < 0x100000 + 2016 * 8 then
    (if off % 8 = 0 then (s.cluster ((off - 0x100000) / 8)).ue * 2 ^ 24 + (s.cluster ((off - 0x100000) / 8)).ce else 0)
  else if 0x200000 ≤ off && off < 0x200000 + 8064 * 32 then debugAt s ((off - 0x200000) / 32) (off % 32)
  else if 0x300000 ≤ off && off < 0x300018 then timeValue s (off - 0x300000)
  else if 0x301000 ≤ off && off < 0x301000 + 84 * 64 then traceValue (s.field ((off - 0x301000) / 64)).trace (off % 64)
  else if 0x400000 ≤ off && off < 0x400200 then
    (if off % 16 < 8 then dwordOf (kgetD s.mgmt.windows ((off - 0x400000) / 16) (0 : DWord)).toNat (off % 16 = 4) else 0)
  else if off = 0x401000 then s.mgmt.tripth * 2 ^ 24 + s.mgmt.critth * 2 ^ 16 + s.mgmt.hotth * 2 ^ 8 + s.mgmt.hyst * 2 ^ 4
  else if off = 0x401008 then s.mgmt.cap * 2 ^ 14 + s.mgmt.thr * 2 ^ 12 + s.mgmt.pwr
  else if 0x410000 ≤ off && off < 0x410000 + 2016 * 4 then thermValue s ((off - 0x410000) / 4)
  else if 0x500000 ≤ off && off < 0x507000 then
    let k := (off - 0x500000) / 4096
    let r := off % 4096
    if r < 512 then dwordOf (kgetD s.mgmt.tables (k * 64 + r / 8) 0) (r % 8 = 4)
    else if r = 0x800 then (kgetD s.mgmt.viol k (0 : Word)).toNat
    else 0
  else if 0x4000000 ≤ off && off < 0x4000000 + 84 * 4 then dwgtValue (s.field ((off - 0x4000000) / 4))
  else if 0x4010000 ≤ off && off < 0x4010000 + 64 * 4 then rimValue s ((off - 0x4010000) / 4)
  else if 0x4020000 ≤ off && off < 0x4020000 + 16384 * 4 then flagNat (s.queue ((off - 0x4020000) / 4)).hold
  else 0

/-- What reading a dword does beside answering (R487): TBNSL latches; a read of TBNSH or of TBFRAC uses its latch up. -/
def regReadEffect (off : Nat) (s : State) : State :=
  if off = 0x300000 then
    { s with mgmt := { s.mgmt with nsh := some (taiNs s / 2 ^ 32), frac := some (tbUnits s % 2 ^ 24 / 2 ^ 16) } }
  else if off = 0x300004 then { s with mgmt := { s.mgmt with nsh := none } }
  else if off = 0x300008 then { s with mgmt := { s.mgmt with frac := none } }
  else s

/-- A read of 4 bytes, or of 8 with the low dword at the offset and read first. DESIGN CHOICE (log 91): a narrower one answers the whole dword. -/
def readDwords (off width : Nat) (s : State) : State :=
  if width = 8 then
    answer (regValue s off + regValue (regReadEffect off s) (off + 4) * 2 ^ 32) (regReadEffect (off + 4) (regReadEffect off s))
  else answer (regValue s off) (regReadEffect off s)

/-- A read of part of an entry of an expert residency table (R415). -/
def readErt (off width : Nat) (s : State) : State :=
  answer (ertWhole (s.ertEntry ((off - 0x1000000) / 0x200000) ((off - 0x1000000) % 0x200000 / 32)) / 2 ^ (8 * (off % 32)) %
    2 ^ (8 * width)) s

/-- The target and the unit that check an access to a register of BAR2, but for the ERT window (R504). -/
def regTarget (off : Nat) : Nat × Nat :=
  if off < 0x80000 then (3, off / 32) else (6, off / 4096)

/-- A read of registers of BAR2, or, at offsets past it, of the ports of launch firmware and Mboam, which no table checks (R103). A read
that is not admitted answers a free value: no chapter says what the requester sees (R505, log 33). -/
def readReg (a : RegAccess) (s : State) : State :=
  if 0x4000000 ≤ a.off then readDwords a.off a.width s
  else if 0x1000000 ≤ a.off then
    (if a.off < 0x3000000 then
      checked s 2 ((a.off - 0x1000000) / 32) a.by'.cls a.by'.part false true (readErt a.off a.width) fun t => answer (t.free 5) t
    else checked s 6 (a.off / 4096) a.by'.cls a.by'.part false true (answer 0) fun t => answer (t.free 5) t)
  else if 0x200000 ≤ a.off && a.off < 0x200000 + 8064 * 32 && a.by'.cls ≠ 5 then
    answer (s.free 5) (violate s 6 (a.off / 4096) a.by'.cls a.by'.part false)
  else checked s (regTarget a.off).1 (regTarget a.off).2 a.by'.cls a.by'.part false true (readDwords a.off a.width) fun t => answer (t.free 5) t

/-! ### The capability list (R507, R508) -/

/-- A record: ID, version 1, its length in dwords and NEXT. -/
def capRecord (id next : Nat) (body : List Nat) : List Nat := [id + 2 ^ 16 + (body.length + 2) * 2 ^ 24, next] ++ body

/-- A cluster is in the enabled-cluster map (R508). -/
def inMap (s : State) (k : Nat) : Bool := (s.cluster k).enabled && !(s.cluster k).mapped

/-- The enabled-cluster map: the number of enabled clusters, and 63 dwords of bits. -/
def mapBody (s : State) : List Nat :=
  ((List.range 2016).filter fun k => inMap s k).length ::
    (List.range 63).map fun d => ((List.range 32).map fun b => if inMap s (32 * d + b) then 2 ^ b else 0).sum

/-- The measurements, MEAS0 first. -/
def measBody (s : State) : List Nat :=
  s.mgmt.meas.flatMap fun m => (List.range 12).map fun i => leNat ((m.drop (4 * i)).take 4)

/-- Where the access tables and the ACCVIOL registers lie. -/
def tablesBody : List Nat := (List.range 7).flatMap fun k => [0x500000 + k * 0x1000, 0x500000 + k * 0x1000 + 0x800]

/-- The device identity (R507): part number and stepping are free values; the firmware and security versions are those of the image that has
started, free values with none (log 33). -/
def identityBody (s : State) : List Nat :=
  (List.range 2).map (fun i => Config.freeValue i % 2 ^ 32) ++ match s.mgmt.image with
    | some i => [(Config.firmwareVersion i.body).toNat, (Config.securityVersion i.body).toNat]
    | none => (List.range 2).map fun i => Config.freeValue (2 + i) % 2 ^ 32

/-- The list, from BAR0 offset 0x40 on. The spec places only its first record and gives no length of records 1, 3 and 4: the records stand
one behind the other, in the order of their IDs, and what the spec does not give of their contents is free (log 33). -/
def capList (s : State) : List Nat :=
  let r1 := 0x40
  let r2 := r1 + 4 * 6
  let r3 := r2 + 4 * 66
  let r4 := r3 + 4 * 98
  let r5 := r4 + 4 * 4
  capRecord 1 r2 (identityBody s) ++ capRecord 2 r3 (mapBody s) ++ capRecord 3 r4 (measBody s) ++
    capRecord 4 r5 ((List.range 2).map fun i => Config.freeValue (4 + i) % 2 ^ 32) ++ capRecord 5 0 tablesBody

/-- A read of BAR0: the capability list; the recovery window beside it holds what the spec does not say (log 33). -/
def readBar0 (a : RegAccess) (s : State) : State :=
  if s.mgmt.boot = .off then answer 0 s
  else if a.off % 4 = 0 && 0x40 ≤ a.off && a.off + a.width ≤ 0x40 + 4 * 190 then
    answer (((capList s).drop ((a.off - 0x40) / 4)).take (a.width / 4) |>.foldr (fun d n => d % 2 ^ 32 + n * 2 ^ 32) 0) s
  else answer (s.free 5 % 2 ^ (8 * a.width)) s

/-- A read of BAR4 (R495, R511): the trace buffer of the field, as its access table admits. -/
def readBar4 (a : RegAccess) (s : State) : State :=
  let f := a.off / 2 ^ 23
  checked s 4 f a.by'.cls a.by'.part false true
    (fun s => answer (if f < 84 then readNat s (Space.hbm.key ((s.field f).trace.base.toNat + a.off % 2 ^ 23)) a.width else 0) s)
    fun t => answer (t.free 5) t

/-- An access to BAR4 that writes: checked as any access to a trace buffer (R504, R505). DESIGN CHOICE (log 115): one that is admitted has no
effect, since R495 lets the host read the buffers. -/
def writeBar4 (a : RegAccess) (s : State) : State := checked s 4 (a.off / 2 ^ 23) a.by'.cls a.by'.part true false id id

/-- A read through a BAR (R501, R511): BAR2 and BAR4 read 0 until the image has started, and in recovery. -/
def readBar (a : RegAccess) (s : State) : State :=
  if a.bar = 0 then readBar0 a s
  else if !barOpen s then answer 0 s
  else if a.bar = 4 then readBar4 a s
  else readReg a s

end Sys2Proof.Machine
end

