-- ==== Sys2Proof/Machine/Registers.lean ====
section
/-! DEFINITION. Boot, measurements, and writes of device registers (R6, R7, R73 to R75, R87, R103, R360, R367, R428, R429, R458, R472,
R477, R487, R495, R500 to R508, R514, R518, R520, R540). -/

namespace Sys2Proof.Machine

open Sys2Proof

/-! ### Boot (R500 to R502) -/

/-- What comes to the device from outside, and is not lost in a reset of the device. -/
def Event.fromHost (e : Event) : Bool :=
  match e with
  | .powerOnReset _ | .recoveryGo _ _ _ | .measurementExtend _ _ _ | .registerWrite _ | .qtailWrite _ _ _ _ | .qctlWrite _ _ _ _
  | .firmwareAbort _ _ _ | .controlPip _ _ _ | .firmwarePriorityChange _ _ _ | .firmwareFault _ | .preemptionRequest _ _ _
  | .tenantSwitch _ _ _ | .thermalSample _ _ | .powerCheck _ | .coolantFault | .coolantTrip | .clusterRetirement _
  | .clusterFailure _ | .fieldLoss _ | .correctableError _ _ | .uncorrectableError _ _ _ | .faultResume _ _ | .faultAbort _ _
  | .vminvGo _ _ | .ertWrite _ | .ertcmdPrefetch _ _ _ | .ertcmdPin _ _ _ | .ertcmdUnpin _ _ _ | .ertcmdRelease _ _ _
  | .policyAnswer _ _ _ _ | .tbstepWrite _ _ | .tbnslRead _ | .timeLockChange _ _ _ | .ptpEventMessage _ | .ppsEdge
  | .debugStep _ _ _ | .debugRun _ _ _ | .dbgdataAccess _ _ _ _ _ | .linkPortFails _ | .linkPortRetrained _ | .linkCrcReplay _
  | .routerFailure _ | .waferAcknowledgement _ _ _ | .peerAbort _ _ | .peerSweepResult _ _ _ | .launchFirmwareReload _ _
  | .cutEdgeCrossing _ _ true => true
  | _ => false

/-- The ROM accepts an image (R500 steps 2 and 3, R501): both signatures verify over all of it but its signature block, and its security version,
part of what is signed, is not below the minimum. -/
def acceptable (minVer : Nat) (i : Image) : Bool :=
  sha384 i.pkEd = Config.fusedEd && sha384 i.pkMl = Config.fusedMl && Ed25519.verify i.pkEd i.body i.sigEd &&
    MlDsa65.verify i.pkMl i.body i.sigMl && minVer ≤ (Config.securityVersion i.body).toNat

/-- Memory outside the module, which a reset of the device does not touch: the host's. -/
def hostCells (m : List Host.Cell) : List Host.Cell :=
  m.filter fun (c : Host.Cell) => Space.host.index * 2 ^ 64 ≤ c.1 && c.1 < Space.index (.spad 0) * 2 ^ 64

/-- The device after power-on reset (R8, R224, R234, R487), with what is outside it: the host's memory, what the outside has under way,
the boot flash and the fused minimum version. The counters of free choices and of operations go on. -/
def powerOn (s : State) : State :=
  { State.reset with
    nonce := s.nonce, opId := s.opId, mem := hostCells s.mem, hostBad := s.hostBad, agenda := s.agenda.filter Event.fromHost,
    mgmt := { Mgmt.reset with flash := s.mgmt.flash, minVer := s.mgmt.minVer } }

/-- A partition as the configuration gives it (R72, R87, R333, R345, R414, R419). -/
def loadPart (enabled : List Nat) (p : Nat) (c : PartCfg) (s : State) : State :=
  let homes := (enabled.filter fun k => c.fields.contains (fieldOfCluster k)).foldl sadd []
  let s := s.modPart p fun _ => { Partition.reset with
    fields := c.fields, homes := homes, ertAgent := c.ertAgent, parkRoom := c.parkBytes, tailRoom := c.tailBytes, devRoom := c.devBytes }
  let s := c.queues.foldl (fun s q => if q < 16384 then s.modQueue q fun x => { x with asg := true, part := p } else s) s
  { s with sumps := c.sumps.foldl (fun m i => if i < 1024 then kset m i ⟨p, 0, 0, [], 0, false⟩ else m) s.sumps }

/-- A window register's value with its reserved bit zero (R514). -/
def windowValue (v : Nat) : DWord := BitVec.ofNat 64 v &&& ~~~2#64

/-- An access-table entry's value with its reserved bit zero (R504). -/
def tableValue (v : Nat) : Nat := v % 2 ^ 64 - bitsNat v 3 3 * 8

/-- What the started image loads (R500): the maps, the partition configuration, the rim slot table, the access tables, the FW fields, and the launch
firmware, each image of which it measures first (R502).
DESIGN CHOICE (log 75): the model enables the clusters that the image lists, fewer than R1's 1,920 too. -/
def loadConfig (c : BootCfg) (s : State) : State :=
  let s := (c.enabled.filter (· < 2016)).foldl (fun s k => s.modCluster k fun x => { x with enabled := true }) s
  let s := (List.range 84).foldl (fun s f => s.modField f fun x =>
    { x with trace := { x.trace with base := BitVec.ofNat 64 (c.traceBase + f * 2 ^ 23) }, refNext := s.now / 1024 }) s
  let s := ((List.range 16).zip c.parts).foldl (fun s p => loadPart (c.enabled.filter (· < 2016)) p.1 p.2 s) s
  let s := c.links.foldl (fun s x => s.modLink x.1 fun y => { y with peer := some (x.2.1, x.2.2) }) s
  let s := c.firmware.foldl (fun s d => extendMeas 2 d s) s
  { s with mgmt := { s.mgmt with
      boot := .running
      rim := (List.range 64).map fun i => let r := c.rim.getD i 0; (bitsNat r 4 4 = 1, r % 16)
      tables := c.tables.foldl (fun m x => kset m x.1 (tableValue x.2)) []
      windows := ((List.range 32).zip c.windows).foldl (fun m x => kset m x.1 (windowValue x.2)) [] } }

/-- R500 steps 2 to 5 on an image: measured and started, or the device is in recovery. -/
def bootImage (i : Image) (c : BootCfg) (s : State) : State :=
  if acceptable s.mgmt.minVer i then
    let t := extendMeas 1 (leBytes 4 (Config.securityVersion i.body).toNat) (extendMeas 0 (sha384 i.body) s)
    loadConfig c { t with mgmt := { t.mgmt with image := some i } }
  else { s with mgmt := { s.mgmt with boot := .recovery } }

/-- POWER_ON_RESET (R500): the ROM reads the image in the boot flash. With none there the device is in recovery (R501). -/
def execPowerOnReset (s : State) : Result :=
  .next (match s.ev with
    | some (.powerOnReset cfg) =>
      let t := powerOn s
      (match t.mgmt.flash with
       | some img => bootImage img cfg t
       | none => { t with mgmt := { t.mgmt with boot := .recovery } })
    | _ => s)

/-- RECOVERY_GO (R501): only in recovery; the image goes to the boot flash once it has been accepted. -/
def execRecoveryGo (s : State) : Result :=
  .next (match s.ev with
    | some (.recoveryGo img cfg _) =>
      if s.mgmt.boot ≠ .recovery then s
      else
        let t := bootImage img cfg s
        if t.mgmt.boot = .running then { t with mgmt := { t.mgmt with flash := some img } } else t
    | _ => s)

/-- MEASUREMENT_EXTEND (R502): MEAS3 to MEAS7, on request of the management class. -/
def execMeasurementExtend (s : State) : Result :=
  .next (match s.ev with
    | some (.measurementExtend k d m) => if 3 ≤ k && k ≤ 7 && m.cls = 6 && barOpen s then extendMeas k d s else s
    | _ => s)

/-! ### Writes of 32 bits (R6, R7) -/

/-- A dword of a 64-bit register, replaced. -/
def putDword (old : Nat) (high : Bool) (v : Nat) : Nat :=
  if high then v % 2 ^ 32 * 2 ^ 32 + old % 2 ^ 32 else old / 2 ^ 32 * 2 ^ 32 + v % 2 ^ 32

/-- What a write of a dword meets: the target and the unit whose table checks it (R504), none where what it does makes its own check; the classes
that its chapter names, where it names any (R540); and what it does. -/
structure DwordWrite where
  check : Option (Nat × Nat)
  named : List Nat
  act : State → State

/-- A register of the management-register target (R504). -/
def mgmtReg (off : Nat) (named : List Nat) (act : State → State) : DwordWrite := ⟨some (6, off / 4096), named, act⟩

/-- The register's chapter does not name the class of a writer (R540). -/
def DwordWrite.refuses (w : DwordWrite) (m : Master) : Bool := !(w.named.isEmpty || w.named.contains m.cls)

/-- One write access to one dword or to two: it is checked once, and one violation records it (R505, R540). -/
def performWrites (ws : List DwordWrite) (m : Master) (s : State) : State :=
  let act := fun s => ws.foldl (fun s w => w.act s) s
  match ws.findSome? fun w => w.check with
  | none => act s
  | some (k, u) => if ws.any fun w => w.refuses m then violate s k u m.cls m.part true else checked s k u m.cls m.part true false act id

/-- A write to a register of a work queue (R72 to R75). -/
def queueReg (q r v : Nat) (s : State) : State :=
  if r = 0 || r = 4 then s.modQueue q fun x => if x.en then x else { x with base := putDword x.base (r = 4) v / 64 * 64 }
  else if r = 8 then writeCtlReg q v s
  else if r = 12 then writeTail q v s
  else if r = 20 && v % 2 = 1 then s.modQueue q fun x => { x with err := false }
  else s

/-- A write to VMROOT (R360). -/
def writeRoot (p : Nat) (high : Bool) (v : Nat) (s : State) : State :=
  s.modPart p fun x =>
    if high then { x with vmRoot := v % 2 ^ 20 * 2 ^ 32 + x.vmRoot % 2 ^ 32 }
    else { x with vmRoot := x.vmRoot / 2 ^ 32 * 2 ^ 32 + v % 2 ^ 32 / 4096 * 4096, vmEn := v % 2 = 1 }

/-- A write to VMINV (R367): the fields, then GO. -/
def writeInval (p : Nat) (high : Bool) (v : Nat) (s : State) : State :=
  if high then s.modPart p fun x => { x with invVpn := v % 2 ^ 25 * 2 ^ 20 + x.invVpn % 2 ^ 20 }
  else
    let s := s.modPart p fun x => { x with
      invVpn := x.invVpn / 2 ^ 20 * 2 ^ 20 + bitsNat v 31 12
      invScope := if bitsNat v 3 2 < 2 then bitsNat v 3 2 else x.invScope }
    if v % 2 = 1 then startInval p s else s

/-- A write to ERTCMD (R429), through the ERT's access table. -/
def writeErtcmd (p v : Nat) (m : Master) (s : State) : State :=
  let e := v % 65536
  let h := bitsNat v 18 16
  if h ≤ 2 then atErt p e m (hintAt p e h) s
  else if h = 3 then atErt p e m (releaseEntry p e) s
  else s

/-- A write to the registers of a partition. -/
def partReg (off p r v : Nat) (m : Master) : Option DwordWrite :=
  if r = 0x00 || r = 0x04 then some (mgmtReg off [] (writeRoot p (r = 4) v))
  else if r = 0x08 || r = 0x0C then some (mgmtReg off [] (writeInval p (r = 0x0C) v))
  else if r = 0x10 then some (mgmtReg off [2, 6] fun s => s.modPart p fun x => { x with fsel := v % 2 = 1, evsel := v / 2 % 2 = 1 })
  else if r = 0x18 then
    some (mgmtReg off [2, 6] fun s => s.modPart p fun x => { x with swexp := if v % 16 ≤ 8 then v % 16 else x.swexp })
  else if r = 0x20 then some ⟨none, [], writeErtcmd p v m⟩
  else none

/-- Something that follows at once on a register write, before any later access of the host. -/
def postFirst (e : Event) (s : State) : State := { s with agenda := e :: s.agenda }

/-- A write to DBGCTL (R477). STEP and RUN act on a halted core. DESIGN CHOICE (log 114): of STEP and RUN in one write RUN acts, and STEP then finds
the core running and has no effect. -/
def writeDbgctl (c v : Nat) (m : Master) (s : State) : State :=
  let b := fun (i : Nat) => v / 2 ^ i % 2 = 1
  let s := s.modCore c fun k => { k with dbg := { k.dbg with
    brken := b 6, traphalt := b 5, sdrain := b 4, halt := b 1, den := b 0 } }
  let s := if b 3 then postFirst (.debugStep c m true) s else s
  if b 2 then postFirst (.debugRun c m true) s else s

/-- A write to a debug register of a core (R477, R479). -/
def debugReg (c r v : Nat) (m : Master) (s : State) : State :=
  if r = 0 then writeDbgctl c v m s
  else if r = 8 then s.modCore c fun k => { k with dbg := { k.dbg with abank := bitsNat v 31 31 = 1, item := BitVec.ofNat 16 v } }
  else if r = 12 then postFirst (.dbgdataAccess c true v m true) s
  else s

/-- A write to the time base's registers (R487). -/
def timeReg (r v : Nat) (s : State) : State :=
  if r = 0x0C then writeInc v s else if r = 0x10 then stepTime v s else s

/-- A write to a field's trace registers (R495). -/
def traceReg (f r v : Nat) (s : State) : State :=
  if r = 0x08 then s.modField f fun x => { x with trace := { x.trace with clen := BitVec.ofNat 4 v } }
  else if r = 0x10 then s.modField f fun x =>
    if 2 ^ 18 < (x.trace.wr + 2 ^ 19 - v % 2 ^ 19) % 2 ^ 19 then x else { x with trace := { x.trace with rd := v % 2 ^ 19 } }
  else if 0x14 ≤ r && r ≤ 0x20 then s.modField f fun x =>
    { x with trace := { x.trace with drops := x.trace.drops.set (Fin.ofNat 4 ((r - 0x14) / 4)) (BitVec.ofNat 32 v) } }
  else s

/-- A write to a CXL window register (R514): WAYS 5 to 7 and GRAN 7 keep the old value. -/
def windowReg (w : Nat) (high : Bool) (v : Nat) (s : State) : State :=
  let old := (kgetD s.mgmt.windows w (0 : DWord)).toNat
  let n := putDword old high v
  let ways := if 4 < bitsNat n 15 13 then bitsNat old 15 13 else bitsNat n 15 13
  let gran := if bitsNat n 12 10 = 7 then bitsNat old 12 10 else bitsNat n 12 10
  { s with mgmt := { s.mgmt with
      windows := kset s.mgmt.windows w (windowValue (bitsNat n 63 16 * 2 ^ 16 + ways * 2 ^ 13 + gran * 2 ^ 10 + n % 2 ^ 10)) } }

/-- A write to THERMCFG (R518). -/
def writeTherm (v : Nat) (s : State) : State :=
  { s with mgmt := { s.mgmt with
      tripth := bitsNat v 31 24, critth := bitsNat v 23 16, hotth := bitsNat v 15 8, hyst := bitsNat v 7 4 } }

/-- A write to PWRCTL (R520): CAP 150 to 270. -/
def writePwr (v : Nat) (s : State) : State :=
  let c := bitsNat v 22 14
  if 150 ≤ c && c ≤ 270 then { s with mgmt := { s.mgmt with cap := c } } else s

/-- A write to an access table (R504, R505). -/
def tableReg (k i : Nat) (high : Bool) (v : Nat) (s : State) : State :=
  let n := k * 64 + i
  { s with mgmt := { s.mgmt with
      tables := kset s.mgmt.tables n (tableValue (putDword (kgetD s.mgmt.tables n 0) high v)) } }

/-- A write to ACCVIOL (R506): 1 to any bit of COUNT clears it. -/
def violReg (k v : Nat) (s : State) : State :=
  if v / 2 ^ 24 % 256 = 0 then s
  else { s with mgmt := { s.mgmt with viol := kset s.mgmt.viol k (kgetD s.mgmt.viol k (0 : Word) &&& 0x00FFFFFF) } }

/-- A write to ECCSTAT (R472). -/
def writeEcc (k v : Nat) (s : State) : State := s.modCluster k fun x => { x with ue := bitsNat v 31 24, ce := v % 2 ^ 24 }

/-- A write to DWGT (R103). -/
def writeDwgt (f v : Nat) (s : State) : State :=
  s.modField f fun x => { x with
    agexp := bitsNat v 19 16, waff := bitsNat v 15 12, wcode := bitsNat v 11 8, wload := bitsNat v 7 4, wcool := v % 16 }

/-- A write to an entry of the rim slot table (R87, R88): it takes effect at the next frame boundary. -/
def writeRim (i v : Nat) (s : State) : State :=
  let t := match s.mgmt.rimNext with | some t => t | none => s.mgmt.rim
  { s with mgmt := { s.mgmt with rimNext := some (lset t i (bitsNat v 4 4 = 1, v % 16)) } }

/-- The registers that no BAR maps, which launch firmware and Mboam reach through their own ports (R73, R87, R103): DWGT of field f at
0x400_0000 + 4f, the rim slot table at 0x401_0000 + 4i, and HOLD of queue q in bit 0 at 0x402_0000 + 4q. -/
def portReg (off v : Nat) (m : Master) (s : State) : State :=
  if off < 0x4010000 then
    (if m.cls = 2 && (off - 0x4000000) / 4 < 84 && (s.part m.part).fields.contains ((off - 0x4000000) / 4) then writeDwgt ((off - 0x4000000) / 4) v s else s)
  else if off < 0x4020000 then (if m.cls = 6 && (off - 0x4010000) / 4 < 64 then writeRim ((off - 0x4010000) / 4) v s else s)
  else
    let q := (off - 0x4020000) / 4
    if m.cls = 2 && q < 16384 && (s.queue q).asg && (s.queue q).part = m.part then
      s.modQueue q fun x => { x with hold := v % 2 = 1 || (s.part m.part).fwFault }
    else s

/-- The write of the dword at an offset (R6), where a chapter puts a register there that software can write. -/
def dwordWrite (off v : Nat) (m : Master) : Option DwordWrite :=
  if off % 4 ≠ 0 then none
  else if off < 0x80000 then some ⟨some (3, off / 32), [], queueReg (off / 32) (off % 32) v⟩
  else if off < 0x81000 then partReg off ((off - 0x80000) / 256) (off % 256) v m
  else if 0x100000 ≤ off && off < 0x100000 + 2016 * 8 then
    (if off % 8 = 0 then some (mgmtReg off [4, 6] (writeEcc ((off - 0x100000) / 8) v)) else none)
  else if 0x200000 ≤ off && off < 0x200000 + 8064 * 32 then
    some (mgmtReg off [5] (debugReg ((off - 0x200000) / 32) (off % 32) v m))
  else if 0x300000 ≤ off && off < 0x300018 then
    some (mgmtReg off (if off = 0x30000C || off = 0x300010 then [6] else []) (timeReg (off - 0x300000) v))
  else if 0x301000 ≤ off && off < 0x301000 + 84 * 64 then some (mgmtReg off [] (traceReg ((off - 0x301000) / 64) (off % 64) v))
  else if 0x400000 ≤ off && off < 0x400200 then
    (if off % 16 < 8 then some (mgmtReg off [6] (windowReg ((off - 0x400000) / 16) (off % 16 = 4) v)) else none)
  else if off = 0x401000 then some (mgmtReg off [6] (writeTherm v))
  else if off = 0x401008 then some (mgmtReg off [6] (writePwr v))
  else if 0x500000 ≤ off && off < 0x507000 then
    let k := (off - 0x500000) / 4096
    let r := off % 4096
    if r < 512 then some (mgmtReg off [6] (tableReg k (r / 8) (r % 8 = 4) v))
    else if r = 0x800 then some (mgmtReg off [] (violReg k v))
    else none
  else if 0x4000000 ≤ off && off < 0x4030000 then some ⟨none, [], portReg off v m⟩
  else none

/-- What an access to BAR2 writes. At an offset where no register takes a write, a read-only one's among them, it has no effect, and is
checked all the same (R504, R505). -/
def dwordWrites (a : RegAccess) : List DwordWrite :=
  let lo := (dwordWrite a.off (a.value % 2 ^ 32) a.by').toList
  let hi := if a.width = 8 then (dwordWrite (a.off + 4) (a.value / 2 ^ 32 % 2 ^ 32) a.by').toList else []
  if (hi ++ lo).isEmpty && a.off < 0x4000000 then [mgmtReg a.off [] id] else hi ++ lo

/-- A write of 4 bytes, or of 8: the low dword lies at the offset. Where the low one starts an action, VMINV's GO, the high one takes effect
first. DESIGN CHOICE (log 91): a write of another width has no effect. -/
def writeReg (a : RegAccess) (s : State) : State :=
  if 0x1000000 ≤ a.off && a.off < 0x3000000 then ertAccess a s
  else if a.width = 4 || a.width = 8 then performWrites (dwordWrites a) a.by' s
  else s

/-- REGISTER_WRITE (R6). The table has no row of its own for a read of a register: the step performs it too (log 33). -/
def execRegisterWrite (s : State) : Result :=
  .next (match s.ev with
    | some (.registerWrite a) => if !a.wr then readBar a s else if a.bar = 2 then onBar (writeReg a) s else if a.bar = 4 then onBar (writeBar4 a) s else s
    | _ => s)

/-- TBSTEP_WRITE (R487, R540): only Mboam. -/
def execTbstepWrite (s : State) : Result :=
  .next (match s.ev with
    | some (.tbstepWrite n m) => onBar (performWrites (dwordWrite 0x300010 (n % 2 ^ 32) m).toList m) s
    | _ => s)

/-- TBNSL_READ (R487): the read of that register, with its check (R505) and the latches of TBNSH and TBFRAC. -/
def execTbnslRead (s : State) : Result :=
  .next (match s.ev with
    | some (.tbnslRead m) => readBar ⟨0x300000, 4, 0, m, 2, false⟩ s
    | _ => s)

end Sys2Proof.Machine
end

