-- ==== Sys2Proof/Machine/Management.lean ====
section
/-! DEFINITION. What the management controller does beside registers: temperature, power, errors, clusters mapped out, lost fields, failed
links and routers, tenant switches, home tables and refresh windows (R111, R237, R240, R241, R333, R375, R432, R470 to R476, R483,
R484, R515, R516, R518 to R521). -/

namespace Sys2Proof.Machine

open Sys2Proof

/-! ### Lost fields (R432, R483, R484) -/

/-- The core of a task instance, where it has one. -/
def TaskInst.inField (t : TaskInst) (f : Nat) : Bool := t.field = f || (t.st.bound && fieldOf t.core = f)

/-- A core of a field sent a packet, or a contribution that it combines; the device and other wafers have no core here. -/
def Packet.sentFrom (p : Packet) (f : Nat) : Bool := (Packet.sources p).any fun k => fieldOfCluster k = f

/-- Something on its way that ends or starts at a core of a field. -/
def eventInField (s : State) (f : Nat) (e : Event) : Bool :=
  match e with
  | .delivery p r _ _ => fieldOfCluster r = f || Packet.sentFrom p f
  | .rowAtHome p => Packet.sentFrom p f
  | .contribution p _ _ => Packet.sentFrom p f
  | .getResponse p _ => fieldOfCluster p.dstCl = f
  | .publicationAtHome p => Packet.sentFrom p f
  | .cutEdgeCrossing _ p inward => !inward && Packet.sentFrom p f
  | .remoteResult id _ _ => (match kget s.ops id with | some o => fieldOf o.core = f | none => false)
  | _ => false

/-- A launch that the loss of a field aborts (R432, R484): `es` are the entries that became LOST. -/
def lostWith (s : State) (f : Nat) (es : List (Nat × Nat)) (l : Nat) (x : Launch) : Bool :=
  s.tasks.any (fun t => t.2.launch = l && t.2.inField f) ||
    s.agenda.any (fun e => Event.ofLaunch l e && eventInField s f e) ||
    s.routers.any (fun r => r.2.held.any (fun h => h.pkt.launch = l && (fieldOfCluster r.1 = f || Packet.sentFrom h.pkt f)) ||
      r.2.holds.any (fun h => h.pkt.launch = l && Packet.sentFrom h.pkt f) ||
      r.2.partials.any (fun p => p.pkt.launch = l && p.ends ≠ 0 && Packet.sentFrom p.pkt f) ||
      r.2.transit.any fun t => t.pkt.launch = l && Packet.sentFrom t.pkt f) ||
    s.ops.any (fun o => o.2.launch = l && o.2.ofTask && fieldOf o.2.core = f) ||
    es.any (fun e => (launchesParked s e.1 e.2).contains l) ||
    es.any fun e => e.1 = x.part && (s.ertEntry e.1 e.2).bind ≠ 0 && (s.ertEntry e.1 e.2).bind / 2 ^ 20 = x.ns

/-- The weight data of a field is lost, and every slot is FREE (R483). -/
def clearStore (f : Nat) (s : State) : State :=
  let k := (Space.wstore f).key 0
  let s := (List.range 48).foldl (fun s n => freeSlot f n s) s
  { s with mem := s.mem.filter fun (c : Host.Cell) => !(k ≤ c.1 && c.1 < k + 2 ^ 64) }

/-- A field is lost (R483, R484): its clusters and weight store stop, its entries are LOST, the launches of R484 are aborted with cause
0x04 and their parked rows discarded, and its partition's home table is rebuilt later. -/
def loseField (f : Nat) (s : State) : State :=
  if (s.field f).lost then s
  else
    let es := entriesIn s f
    let ls := s.launches.filter fun l => lostWith s f es l.1 l.2 && !l.2.discarded && !l.2.retiring
    let s := s.modField f fun x => { x with lost := true }
    let s := (clustersOf f).foldl (fun s k => s.modCluster k fun x => { x with stopped := true, mapped := true }) s
    let s := loseEntries f s
    let s := clearStore f s
    let s := ls.foldl (fun s l => dropSumps l.1 (postAbort s l.1 0x04 (BitVec.ofNat 32 f))) s
    { s with parts := s.parts.map fun (p : Nat × Partition) =>
        (p.1, if p.2.fields.contains f then { p.2 with stale := true } else p.2) }

/-- FIELD_LOSS (R483). -/
def execFieldLoss (s : State) : Result :=
  .next (match s.ev with
    | some (.fieldLoss f) => if f < 84 then loseField f s else s
    | _ => s)

/-- Every live launch of the device is aborted with cause 0x04 (R483). -/
def abortAll (detail : Nat) (s : State) : State :=
  s.launches.foldl (fun s l =>
    if l.2.discarded || l.2.retiring then s else postAbort s l.1 0x04 (BitVec.ofNat 32 detail)) s

/-- The device needs a reset: its image stops, where one runs (R501). -/
def needsReset (s : State) : State :=
  if s.mgmt.boot = .running then { s with mgmt := { s.mgmt with boot := .dead } } else s

/-- ROUTER_FAILURE (R483): a device fault; the device needs a reset. DETAIL is the router's field. -/
def execRouterFailure (s : State) : Result :=
  .next (match s.ev with
    | some (.routerFailure r) =>
      let s := s.modRouter r fun x => { x with stopped := true }
      abortAll (fieldOfCluster r) (needsReset s)
    | _ => s)

/-! ### Temperature and power (R106, R518 to R521) -/

/-- The highest thermal state whose threshold a sample reaches (R518). -/
def reached (m : Mgmt) (t : Nat) : Nat :=
  if m.tripth ≤ t then 3 else if m.critth ≤ t then 2 else if m.hotth ≤ t then 1 else 0

/-- The threshold of a thermal state. -/
def threshold (m : Mgmt) (st : Nat) : Nat := if st = 3 then m.tripth else if st = 2 then m.critth else m.hotth

/-- The thermal state after a sample (R518). -/
def nextThermal (m : Mgmt) (st t : Nat) : Nat :=
  if st = 3 then 3
  else if st < reached m t then reached m t
  else if st ≠ 0 && t + m.hyst < threshold m st then st - 1
  else st

/-- A cluster in a thermal state; its clock is halved in CRIT (R106). -/
def Cluster.inState (x : Cluster) (now st : Nat) : Cluster :=
  let y := (match x.slowSince with
    | some t => if st = 2 then x else { x with slow := x.slow + (now - t + 1) / 2, slowSince := none }
    | none => if st = 2 then { x with slowSince := some now } else x)
  { y with tstate := st }

/-- A cluster's thermal state changes. -/
def setThermal (k st : Nat) (s : State) : State := s.modCluster k fun x => x.inState s.now st

/-- What a change of thermal state brings: the armed tasks of a HOT or CRIT cluster go elsewhere, and a TRIP loses the field
(R106, R111, R483). -/
def thermalChange (k st : Nat) (s : State) : State :=
  let s := setThermal k st s
  if st = 3 then loseField (fieldOfCluster k) s
  else if st = 0 then s
  else resubscribe k s

/-- THERMAL_SAMPLE (R518). -/
def execThermalSample (s : State) : Result :=
  .next (match s.ev with
    | some (.thermalSample k t) =>
      let st := nextThermal s.mgmt (s.cluster k).tstate (t % 256)
      let s' := s.modCluster k fun x => { x with temp := t % 256, cool := min ((s.mgmt.hotth - t % 256) / 4) 7 }
      if st = (s.cluster k).tstate then s' else thermalChange k st s'
    | _ => s)

/-- The throttle level after a comparison of PWR with CAP (R520): 4 units of 25 W to one of CAP, 40 to a kilowatt. -/
def nextThr (cap thr pwr : Nat) : Nat :=
  if 4 * cap < pwr then min (thr + 1) 3 else if pwr + 40 < 4 * cap then thr - 1 else thr

/-- POWER_CHECK (R520); a coolant fault holds THR at 3 (R521). -/
def execPowerCheck (s : State) : Result :=
  .next (match s.ev with
    | some (.powerCheck p) =>
      { s with mgmt := { s.mgmt with
          pwr := p % 4096
          thr := if s.mgmt.thrHeld then 3 else nextThr s.mgmt.cap s.mgmt.thr (p % 4096) } }
    | _ => s)

/-- COOLANT_FAULT (R521). -/
def execCoolantFault (s : State) : Result :=
  .next (match s.ev with
    | some .coolantFault => { s with mgmt := { s.mgmt with thr := 3, thrHeld := true } }
    | _ => s)

/-- COOLANT_TRIP (R521): every cluster trips, every field is lost, and the device needs a reset. -/
def execCoolantTrip (s : State) : Result :=
  .next (match s.ev with
    | some .coolantTrip =>
      let s := { s with clusters := (List.range 2016).map fun k => (k, (s.cluster k).inState s.now 3) }
      needsReset ((List.range 84).foldl (fun s f => loseField f s) s)
    | _ => s)

/-! ### Clusters mapped out (R107, R476) -/

/-- The running task instances of a cluster, parked ones among them. -/
def runningOn (s : State) (k : Nat) : List (Nat × TaskInst) := s.tasks.filter fun t => t.2.st = .running && t.2.core / 4 = k

/-- CLUSTER_RETIREMENT (R476): arming stops, the armed tasks go elsewhere, the running ones are pre-empted. -/
def execClusterRetirement (s : State) : Result :=
  .next (match s.ev with
    | some (.clusterRetirement k) =>
      if (s.cluster k).mapped then s
      else
        let s := resubscribe k (s.modCluster k fun x => { x with mapped := true, retired := true })
        preemptAll (runningOn s k) s
    | _ => s)

/-- A retired cluster on which no task runs any more stops (R476). -/
def settleRetired (s : State) : State :=
  s.clusters.foldl (fun s k =>
    if k.2.retired && !k.2.stopped && (runningOn s k.1).isEmpty then s.modCluster k.1 fun x => { x with stopped := true } else s) s

/-- A task of a failed cluster is killed, and one past TEND ends uncounted (R211, R473, R485); nothing selects its entry again before its launch is
discarded (R476). -/
def failTask (s : State) (m : Nat × TaskInst) : State :=
  requeue m.1 (fun t => { t with passUntil := some (s.now + 2 ^ 64) })
    (if isEnding s m.2 then cutShort m.2.core m.2.bank s else killBank m.2.core m.2.bank 2 s)

/-- CLUSTER_FAILURE (R476): the launches with a task there are aborted with cause 0x02 and code 0x2E; the source names the cluster. -/
def execClusterFailure (s : State) : Result :=
  .next (match s.ev with
    | some (.clusterFailure k) =>
      if (s.cluster k).stopped then s
      else
        let s := s.modCluster k fun x => { x with mapped := true, stopped := true }
        let ms := runningOn s k
        let s := ((ms.map fun m => m.2.launch).dedup).foldl (fun s l => abortCode l 0x2E (sourceOf (4 * k) false) s) s
        resubscribe k (ms.foldl failTask s)
    | _ => s)

/-! ### Errors (R240, R241, R375, R470 to R472) -/

/-- A record of a cluster about an error, with the source of the unit that detected it (R490, R492). -/
def errorRec (k : Nat) (code src : BitVec 16) (unit count : Nat) (s : State) : State :=
  emit s (fieldOfCluster k) (unitRouter k)
    (unitRec s code src 0 0xFFFFFFFF (leBytes 1 unit ++ leBytes 3 0 ++ leBytes 4 count))

/-- CORRECTABLE_ERROR (R240, R472): counted; an error in the cluster's SRAM freezes it for 16 cycles. -/
def execCorrectableError (s : State) : Result :=
  .next (match s.ev with
    | some (.correctableError k unit) =>
      let now := s.clk (4 * k)
      let s := s.modCluster k fun x =>
        let x := { x with ce := min (x.ce + 1) (2 ^ 24 - 1) }
        if 6 ≤ unit then x
        else match x.freeze with
          | none => { x with freeze := some (now + 16) }
          | some t => if t = now + 16 then x else { x with refreeze := true }
      errorRec k 0x0041 (sourceOf (4 * k) false) unit (s.cluster k).ce s
    | _ => s)

/-- A freeze of a cluster is over. -/
def frozenOver (s : State) (k : Nat) : Bool := match (s.cluster k).freeze with | some t => t ≤ s.clk (4 * k) | none => false

/-- How long a cluster has been frozen (R240): a freeze stands with the cycle in which its 16 cycles end. -/
def frozenFor (s : State) (k : Nat) : Nat := s.clk (4 * k) - ((s.cluster k).freeze.getD 0 - 16)

/-- A time that lies ahead moves by `n`, the length of a freeze that began at `from'`. -/
def moveTime (from' n t : Nat) : Nat := if from' < t then t + n else t

/-- The times that the units of a core wait for move by the length of a freeze: those of its banks' pauses (R218) and of its drain (R469). -/
def Core.moveTimes (from' n : Nat) (x : Core) : Core :=
  { x with b0 := { x.b0 with pauseUntil := moveTime from' n x.b0.pauseUntil },
           b1 := { x.b1 with pauseUntil := moveTime from' n x.b1.pauseUntil },
           drain := x.drain.map fun d => { d with ends := moveTime from' n d.ends } }

/-- As a freeze of cluster `k` ends, every unit has kept its timing relative to the others (R240): the times of its cores, and those from which
the array counts the cycles of its operations (R291, R292), move by the freeze's length. Hold times keep counting. -/
def moveTimes (k : Nat) (s : State) : State :=
  let n := frozenFor s k
  let from' := s.clk (4 * k) - n
  (coresOf k).foldl (fun s c => s.modCore c (Core.moveTimes from' n))
    (s.modCluster k fun x => { x with entries := x.entries.map fun e => { e with began := e.began + n } })

/-- FREEZE_END (R240): a further freeze follows where an error fell into this one. -/
def execFreezeEnd (s : State) : Result :=
  .next (match s.ev with
    | some (.freezeEnd k) =>
      if frozenOver s k then
        (moveTimes k s).modCluster k fun x => { x with freeze := if x.refreeze then some (s.clk (4 * k) + 16) else none, refreeze := false }
      else s
    | _ => s)

/-- The launches with an entry at a router (R471): in its name-match table; in its tag store, where copies, held deliveries, partials,
reductions and waiting GETs stand; and among its phase counters (R454). -/
def launchesAt (s : State) (r : Nat) : List Nat :=
  let x := s.router r
  ((x.entries.map fun (e : MatchEntry) => e.pat.launch) ++ (x.kept.map fun (k : Kept) => k.pkt.launch) ++
    (x.held.map fun (h : HeldDelivery) => h.pkt.launch) ++ (x.transit.map fun (t : TransitCopy) => t.pkt.launch) ++
    (x.reserved.map fun (p : Nat × Nat) => p.1) ++ (x.partials.map fun (p : Partial) => p.pkt.launch) ++
    (x.reds.map fun (q : Reduction) => q.pkt.launch) ++ (x.gets.map fun (p : Packet) => p.launch) ++
    (x.listed.map fun (q : DWord × BitVec 16 × Nat) => q.2.2) ++ (x.holds.map fun (h : PortHold) => h.pkt.launch) ++
    ((countersNow s).filter (fun (k : Nat × Nat) => k.1 = r)).map (fun (k : Nat × Nat) => k.2 / 64) ++
    (kgetD s.counters r []).map fun (k : Nat) => k / 64).dedup

/-- The launch-owned state of a router is lost: its launch, or every live launch with an entry there, is aborted (R465, R471). -/
def loseRouterState (r : Nat) (l : Option Nat) (s : State) : State :=
  let ls := match l with | some l => [l] | none => launchesAt s r
  (ls.filter fun l => (kget s.launches l).isSome).foldl (fun s l => abortCode l 0x29 (routerFault r) s) s

/-- The words of the unit at a key that an uncorrectable error poisons (R241). -/
def poisonUnit (k n : Nat) (s : State) : State := markPoison s ((List.range (n / 4)).map fun i => k / n * n + 4 * i)

/-- What an uncorrectable error does at its place (R241, R375, R471). -/
def errorAt (place : ErrPlace) (s : State) : State :=
  match place with
  | .scratchpad c o => poisonUnit ((Space.spad c).key o) 4 s
  | .instrMem c o => poisonUnit ((Space.imem c).key o) 4 s
  | .tableRam c o => poisonUnit ((Space.tram c).key o) 8 s
  | .accumulator c o => poisonUnit ((Space.tiles c).key o) 8 s
  | .control c b i => s.modCore c fun x => x.modBank b fun y => { y with psn := sadd y.psn i }
  | .mergeEntry k n => abortEntry k n 0x29 false s
  | .retained r i => s.modRouter r fun x => { x with kept := x.kept.modify i fun y => { y with pkt := { y.pkt with psn := true } } }
  | .routerState r l => loseRouterState r l s
  | .weightLoad k => s.modCluster k fun x => { x with job := x.job.map fun j => { j with bad := some (j.bad.getD 0x29) } }
  | .memory key => poisonUnit key 4 s

/-- The source of the unit that detects an error at a place (R465, R490): a core, a bank of it, a router, or else the cluster. -/
def errorSource (k : Nat) (place : ErrPlace) : BitVec 16 :=
  match place with
  | .scratchpad c _ | .instrMem c _ | .tableRam c _ | .accumulator c _ => sourceOf c false
  | .control c b _ => sourceOf c b
  | .retained r _ | .routerState r _ => sourceOf (4 * r) false
  | .mergeEntry k _ | .weightLoad k => sourceOf (4 * k) false
  | .memory _ => sourceOf (4 * k) false

/-- UNCORRECTABLE_ERROR (R241, R472): counted where it lies in the cluster's SRAM, recorded, and its data marked or its work aborted. -/
def execUncorrectableError (s : State) : Result :=
  .next (match s.ev with
    | some (.uncorrectableError k unit place) =>
      let s := if unit < 6 then s.modCluster k fun x => { x with ue := min (x.ue + 1) 255 } else s
      errorAt place (errorRec k 0x0042 (errorSource k place) unit (s.cluster k).ue s)
    | _ => s)

/-! ### Refresh windows (R237, R238) -/

/-- A field's next refresh window has started. -/
def windowDue (s : State) (f : Nat) : Bool := !(s.field f).lost && 1024 * (s.field f).refNext ≤ s.now

/-- REFRESH_WINDOW (R237): window n refreshes group n mod 16 for 48 cycles from cycle 1,024n. -/
def execRefreshWindow (s : State) : Result :=
  .next (match s.ev with
    | some (.refreshWindow f) =>
      if windowDue s f then
        s.modField f fun x => { x with refCur := s.now / 1024 % 16, refAct := s.now % 1024 < 48, refNext := s.now / 1024 + 1 }
      else s
    | _ => s)

/-- A window in progress has lasted 48 cycles. -/
def windowOver (s : State) (f : Nat) : Bool := (s.field f).refAct && 48 ≤ s.now % 1024

/-- REFRESH_WINDOW_END (R237). -/
def execRefreshWindowEnd (s : State) : Result :=
  .next (match s.ev with
    | some (.refreshWindowEnd f) => if windowOver s f then s.modField f fun x => { x with refAct := false } else s
    | _ => s)

/-! ### Partitions (R333, R475) -/

/-- No task runs in some fields. -/
def idleFields (s : State) (fs : List Nat) : Bool := !(s.tasks.any fun t => t.2.st = .running && fs.contains (fieldOf t.2.core))

/-- The tasks of a partition that run in some fields. -/
def runningIn (s : State) (part : Nat) (fs : List Nat) : List (Nat × TaskInst) :=
  s.tasks.filter fun t => t.2.st = .running && partOf t.2.launch = part && fs.contains (fieldOf t.2.core)

/-- TENANT_SWITCH (R475), step by step: HOLD; no arming; pre-emption; when no task runs in the fields, abort; and with no live launch the
new field set, whose home table HOME_TABLE_REBUILD makes. -/
def execTenantSwitch (s : State) : Result :=
  .next (match s.ev with
    | some (.tenantSwitch part fs stage) =>
      if stage = 1 then holdQueues part true s
      else if stage = 2 then s.modPart part fun p => { p with noArm := fs.foldl sadd p.noArm }
      else if stage = 3 then
        preemptAll (runningIn s part fs) s
      else if stage = 4 then (if idleFields s fs then abortPartition part s else s)
      else if stage = 5 then
        (if (liveIn s part).isEmpty then s.modPart part fun p =>
          { p with fields := p.fields.filter (fun f => !fs.contains f), noArm := p.noArm.filter (fun f => !fs.contains f), stale := true }
         else s)
      else s
    | _ => s)

/-- The home table of a field set (R333): the clusters enabled in the boot defect map, in ascending index. -/
def homeTable (s : State) (fs : List Nat) : List Nat :=
  ((fs.flatMap clustersOf).filter fun k => (s.cluster k).enabled).foldl sadd []

/-- A home table is stale and may be rebuilt: its partition has no live launch. -/
def rebuildDue (s : State) (part : Nat) : Bool := (s.part part).stale && (liveIn s part).isEmpty

/-- HOME_TABLE_REBUILD (R333): lost fields leave the field set and the table, and what homes keep of bound tensors goes to the new
homes (R418). -/
def execHomeTableRebuild (s : State) : Result :=
  .next (match s.ev with
    | some (.homeTableRebuild part) =>
      if !rebuildDue s part then s
      else
        let fs := liveFields s part
        moveViews part (s.modPart part fun p => { p with fields := fs, homes := homeTable s fs, stale := false })
    | _ => s)

/-! ### Shohal ports (R515, R516) -/

/-- LINK_PORT_FAILS (R516): the port retrains. -/
def execLinkPortFails (s : State) : Result :=
  .next (match s.ev with
    | some (.linkPortFails p) => s.modLink p fun x => if x.up then { x with up := false, since := s.now } else x
    | _ => s)

/-- A port has not been retrained within 2^24 cycles. -/
def portLost (s : State) (p : Nat) : Bool := !(s.link p).up && (s.link p).peer.isSome && (s.link p).since + 2 ^ 24 ≤ s.now

/-- LINK_PORT_RETRAINED (R516): too late where the port is to be removed. -/
def execLinkPortRetrained (s : State) : Result :=
  .next (match s.ev with
    | some (.linkPortRetrained p) => if portLost s p then s else s.modLink p fun x => if x.peer.isSome then { x with up := true } else x
    | _ => s)

/-- A launch has a cut edge on a port. -/
def edgeOn (s : State) (p : Nat) (x : Launch) : Bool :=
  x.edges.any fun e => cutPort s e.peer (mkName x.ns e.tnum 0) = some p

/-- LINK_PORT_FAILURE (R516): the port leaves the map, and the live launches with a cut edge on it are aborted with cause 0x06. -/
def execLinkPortFailure (s : State) : Result :=
  .next (match s.ev with
    | some (.linkPortFailure p) =>
      if !portLost s p then s
      else
        let peer := match (s.link p).peer with | some q => q.1 | none => 0
        let ls := s.launches.filter fun l => edgeOn s p l.2 && !l.2.discarded && !l.2.retiring
        let s := ls.foldl (fun s l => postAbort s l.1 0x06 (BitVec.ofNat 32 peer)) s
        s.modLink p fun x => { x with peer := none }
    | _ => s)

/-- LINK_CRC_REPLAY (R515): no replay is visible to traffic. -/
def execLinkCrcReplay (s : State) : Result :=
  .next (match s.ev with
    | some (.linkCrcReplay p) => s.modLink p fun x => { x with replays := x.replays + 1 }
    | _ => s)

end Sys2Proof.Machine
end

