-- ==== Sys2Proof/Machine/ScalarMem.lean ====
section
/-! DEFINITION. Scalar loads and stores, full/empty accesses and scratchpad atomics (R199 to R204). -/

namespace Sys2Proof.Machine

open Sys2Proof

/-- An access of the S class at an address: it traps as R199 states, or takes the poison-consumed cause where it reads a
poisoned word (R470), or acts on the key of its first byte. -/
def sAccess (s : State) (a size : Nat) (reads : Bool) (act : Nat → State) : State :=
  match checkAddr s s.bank a size with
  | .error c => takeTrap s c
  | .ok k => if reads && poisoned s k size then takeTrap s causePoison else act k

/-- A load of `size` bytes whose value goes to s_D (R200). -/
def loadBody (f : SMForm) (size : Nat) (conv : Nat → Word) (s : State) : State :=
  sAccess s (smFormAddr f s.bank size) size true fun k => s.modBank fun b => b.wrS f.d (conv (readNat s k size))

/-- A store of the low `size` bytes of s_D (R200). -/
def storeBody (f : SMForm) (size : Nat) (s : State) : State :=
  sAccess s (smFormAddr f s.bank size) size false fun k => storeBytes s k (leBytes size (s.bank.rdS f.d).toNat)

/-- LDW (R200). -/
def execLdw (f : SMForm) (s : State) : Result := guarded f.g s (loadBody f 4 fun v => BitVec.ofNat 32 v)
/-- LDH (R200): sign-extended. -/
def execLdh (f : SMForm) (s : State) : Result := guarded f.g s (loadBody f 2 fun v => BitVec.ofInt 32 (sext v 16))
/-- LDHU (R200). -/
def execLdhu (f : SMForm) (s : State) : Result := guarded f.g s (loadBody f 2 fun v => BitVec.ofNat 32 v)
/-- LDB (R200): sign-extended. -/
def execLdb (f : SMForm) (s : State) : Result := guarded f.g s (loadBody f 1 fun v => BitVec.ofInt 32 (sext v 8))
/-- LDBU (R200). -/
def execLdbu (f : SMForm) (s : State) : Result := guarded f.g s (loadBody f 1 fun v => BitVec.ofNat 32 v)

/-- LDD (R200): one access of 8 bytes into a pair. -/
def execLdd (f : SMForm) (s : State) : Result :=
  guarded f.g s fun s =>
    sAccess s (smFormAddr f s.bank 8) 8 true fun k =>
      s.modBank fun b =>
        (b.wrS f.d (BitVec.ofNat 32 (readNat s k 4))).wrS (f.d + 1) (BitVec.ofNat 32 (readNat s (k + 4) 4))

/-- STW (R200). -/
def execStw (f : SMForm) (s : State) : Result := guarded f.g s (storeBody f 4)
/-- STH (R200). -/
def execSth (f : SMForm) (s : State) : Result := guarded f.g s (storeBody f 2)
/-- STB (R200). -/
def execStb (f : SMForm) (s : State) : Result := guarded f.g s (storeBody f 1)

/-- STD (R200): one access of 8 bytes from a pair. -/
def execStd (f : SMForm) (s : State) : Result :=
  guarded f.g s fun s =>
    sAccess s (smFormAddr f s.bank 8) 8 false fun k => storeBytes s k (leBytes 8 (s.bank.rdPair f.d).toNat)

/-- LDS (R203): the word goes to s_D and, with E = 1, becomes empty. The bundle has waited until the word is full. -/
def execLds (f : LDSForm) (s : State) : Result :=
  guarded f.g s fun s =>
    sAccess s (ldsAddr f s.bank) 4 true fun k =>
      let s' := s.modBank fun b => b.wrS f.d (BitVec.ofNat 32 (readNat s k 4))
      if f.e then setEmpty s' [k] else s'

/-- STF (R203): the word is written and set full. -/
def execStf (f : SMForm) (s : State) : Result :=
  guarded f.g s fun s =>
    sAccess s (smFormAddr f s.bank 4) 4 false fun k =>
      setFull (storeBytes s k (leBytes 4 (s.bank.rdS f.d).toNat)) [k]

/-- FECLR (R203): the word is set empty. -/
def execFeclr (f : SMForm) (s : State) : Result :=
  guarded f.g s fun s => sAccess s (smFormAddr f s.bank 4) 4 false fun k => setEmpty s [k]

/-- An atomic (R204): one read-modify-write at the owning port; the old word goes to s_D, the full/empty bit stays. `new` gives
the new word, or none where nothing is written. -/
def atomicBody (f : SMForm) (new : Word → Option Word) (s : State) : State :=
  sAccess s (smFormAddr f s.bank 4) 4 true fun k =>
    let old := BitVec.ofNat 32 (readNat s k 4)
    let s' := match new old with
      | some w => storeBytes s k (leBytes 4 w.toNat)
      | none => s
    s'.modBank fun b => b.wrS f.d old

/-- AADD (R204). -/
def execAadd (f : SMForm) (s : State) : Result :=
  guarded f.g s fun s => atomicBody f (fun w => some (w + s.bank.rdS f.d)) s
/-- AMAX (R204): signed. -/
def execAmax (f : SMForm) (s : State) : Result :=
  guarded f.g s fun s => atomicBody f (fun w => some (if w.toInt < (s.bank.rdS f.d).toInt then s.bank.rdS f.d else w)) s
/-- AOR (R204). -/
def execAor (f : SMForm) (s : State) : Result :=
  guarded f.g s fun s => atomicBody f (fun w => some (w ||| s.bank.rdS f.d)) s
/-- AXCH (R204). -/
def execAxch (f : SMForm) (s : State) : Result :=
  guarded f.g s fun s => atomicBody f (fun _ => some (s.bank.rdS f.d)) s
/-- ACAS (R204): the compare value is s_D, the new value s_D+1; no write is made when they differ. -/
def execAcas (f : SMForm) (s : State) : Result :=
  guarded f.g s fun s =>
    atomicBody f (fun w => if w = s.bank.rdS f.d then some (s.bank.rdS (f.d + 1)) else none) s

end Sys2Proof.Machine
end

