-- ==== Sys2Proof/Machine/Dispatch.lean ====
section
/-! DEFINITION. The one dispatch: each row of the opcode table calls its meaning. -/

namespace Sys2Proof.Machine

open Sys2Proof

/-- What an instruction, or a step of the device, does. -/
def exec (i : Instr) (s : State) : Host.Outcome State Fault Refusal :=
  match i with
  | .add f => Sys2Proof.Machine.execAdd f s
  | .sub f => Sys2Proof.Machine.execSub f s
  | .mul f => Sys2Proof.Machine.execMul f s
  | .mulh f => Sys2Proof.Machine.execMulh f s
  | .mulhu f => Sys2Proof.Machine.execMulhu f s
  | .div f => Sys2Proof.Machine.execDiv f s
  | .divu f => Sys2Proof.Machine.execDivu f s
  | .rem f => Sys2Proof.Machine.execRem f s
  | .remu f => Sys2Proof.Machine.execRemu f s
  | .and f => Sys2Proof.Machine.execAnd f s
  | .or f => Sys2Proof.Machine.execOr f s
  | .xor f => Sys2Proof.Machine.execXor f s
  | .andn f => Sys2Proof.Machine.execAndn f s
  | .shl f => Sys2Proof.Machine.execShl f s
  | .shr f => Sys2Proof.Machine.execShr f s
  | .sra f => Sys2Proof.Machine.execSra f s
  | .min f => Sys2Proof.Machine.execMin f s
  | .max f => Sys2Proof.Machine.execMax f s
  | .minu f => Sys2Proof.Machine.execMinu f s
  | .maxu f => Sys2Proof.Machine.execMaxu f s
  | .clz f => Sys2Proof.Machine.execClz f s
  | .popc f => Sys2Proof.Machine.execPopc f s
  | .bfx f => Sys2Proof.Machine.execBfx f s
  | .bfi f => Sys2Proof.Machine.execBfi f s
  | .li f => Sys2Proof.Machine.execLi f s
  | .sel f => Sys2Proof.Machine.execSel f s
  | .cmp f => Sys2Proof.Machine.execCmp f s
  | .plog f => Sys2Proof.Machine.execPlog f s
  | .br f => Sys2Proof.Machine.execBr f s
  | .bri f => Sys2Proof.Machine.execBri f s
  | .call f => Sys2Proof.Machine.execCall f s
  | .calli f => Sys2Proof.Machine.execCalli f s
  | .ret f => Sys2Proof.Machine.execRet f s
  | .loop f => Sys2Proof.Machine.execLoop f s
  | .loopi f => Sys2Proof.Machine.execLoopi f s
  | .lexit f => Sys2Proof.Machine.execLexit f s
  | .ldw f => Sys2Proof.Machine.execLdw f s
  | .ldh f => Sys2Proof.Machine.execLdh f s
  | .ldhu f => Sys2Proof.Machine.execLdhu f s
  | .ldb f => Sys2Proof.Machine.execLdb f s
  | .ldbu f => Sys2Proof.Machine.execLdbu f s
  | .ldd f => Sys2Proof.Machine.execLdd f s
  | .stw f => Sys2Proof.Machine.execStw f s
  | .sth f => Sys2Proof.Machine.execSth f s
  | .stb f => Sys2Proof.Machine.execStb f s
  | .std f => Sys2Proof.Machine.execStd f s
  | .lds f => Sys2Proof.Machine.execLds f s
  | .stf f => Sys2Proof.Machine.execStf f s
  | .feclr f => Sys2Proof.Machine.execFeclr f s
  | .aadd f => Sys2Proof.Machine.execAadd f s
  | .amax f => Sys2Proof.Machine.execAmax f s
  | .aor f => Sys2Proof.Machine.execAor f s
  | .axch f => Sys2Proof.Machine.execAxch f s
  | .acas f => Sys2Proof.Machine.execAcas f s
  | .rpop f => Sys2Proof.Machine.execRpop f s
  | .rtry f => Sys2Proof.Machine.execRtry f s
  | .rrel f => Sys2Proof.Machine.execRrel f s
  | .rclaim f => Sys2Proof.Machine.execRclaim f s
  | .rfill f => Sys2Proof.Machine.execRfill f s
  | .rstat f => Sys2Proof.Machine.execRstat f s
  | .aset f => Sys2Proof.Machine.execAset f s
  | .ainc f => Sys2Proof.Machine.execAinc f s
  | .mfc f => Sys2Proof.Machine.execMfc f s
  | .mtc f => Sys2Proof.Machine.execMtc f s
  | .fence f => Sys2Proof.Machine.execFence f s
  | .trap f => Sys2Proof.Machine.execTrap f s
  | .tend f => Sys2Proof.Machine.execTend f s
  | .waite f => Sys2Proof.Machine.execWaite f s
  | .bkpt f => Sys2Proof.Machine.execBkpt f s
  | .gbar f => Sys2Proof.Machine.execGbar f s
  | .trace f => Sys2Proof.Machine.execTrace f s
  | .spause f => Sys2Proof.Machine.execSpause f s
  | .vfaddF32 f => Sys2Proof.Machine.execVfaddF32 f s
  | .vfaddBf16 f => Sys2Proof.Machine.execVfaddBf16 f s
  | .vfaddF16 f => Sys2Proof.Machine.execVfaddF16 f s
  | .vfsubF32 f => Sys2Proof.Machine.execVfsubF32 f s
  | .vfsubBf16 f => Sys2Proof.Machine.execVfsubBf16 f s
  | .vfsubF16 f => Sys2Proof.Machine.execVfsubF16 f s
  | .vfmulF32 f => Sys2Proof.Machine.execVfmulF32 f s
  | .vfmulBf16 f => Sys2Proof.Machine.execVfmulBf16 f s
  | .vfmulF16 f => Sys2Proof.Machine.execVfmulF16 f s
  | .vfmaF32 f => Sys2Proof.Machine.execVfmaF32 f s
  | .vfmaBf16 f => Sys2Proof.Machine.execVfmaBf16 f s
  | .vfmaF16 f => Sys2Proof.Machine.execVfmaF16 f s
  | .vfmsF32 f => Sys2Proof.Machine.execVfmsF32 f s
  | .vfmsBf16 f => Sys2Proof.Machine.execVfmsBf16 f s
  | .vfmsF16 f => Sys2Proof.Machine.execVfmsF16 f s
  | .vfnmaF32 f => Sys2Proof.Machine.execVfnmaF32 f s
  | .vfnmaBf16 f => Sys2Proof.Machine.execVfnmaBf16 f s
  | .vfnmaF16 f => Sys2Proof.Machine.execVfnmaF16 f s
  | .vfminF32 f => Sys2Proof.Machine.execVfminF32 f s
  | .vfminBf16 f => Sys2Proof.Machine.execVfminBf16 f s
  | .vfminF16 f => Sys2Proof.Machine.execVfminF16 f s
  | .vfmaxF32 f => Sys2Proof.Machine.execVfmaxF32 f s
  | .vfmaxBf16 f => Sys2Proof.Machine.execVfmaxBf16 f s
  | .vfmaxF16 f => Sys2Proof.Machine.execVfmaxF16 f s
  | .vfcmpF32 f => Sys2Proof.Machine.execVfcmpF32 f s
  | .vfcmpBf16 f => Sys2Proof.Machine.execVfcmpBf16 f s
  | .vfcmpF16 f => Sys2Proof.Machine.execVfcmpF16 f s
  | .vfclampF32 f => Sys2Proof.Machine.execVfclampF32 f s
  | .vfclampBf16 f => Sys2Proof.Machine.execVfclampBf16 f s
  | .vfclampF16 f => Sys2Proof.Machine.execVfclampF16 f s
  | .vexp2 f => Sys2Proof.Machine.execVexp2 f s
  | .vlog2 f => Sys2Proof.Machine.execVlog2 f s
  | .vrcp f => Sys2Proof.Machine.execVrcp f s
  | .vrsq f => Sys2Proof.Machine.execVrsq f s
  | .vsqrt f => Sys2Proof.Machine.execVsqrt f s
  | .vfrnd f => Sys2Proof.Machine.execVfrnd f s
  | .vfclass f => Sys2Proof.Machine.execVfclass f s
  | .vaddI32 f => Sys2Proof.Machine.execVaddI32 f s
  | .vaddI16 f => Sys2Proof.Machine.execVaddI16 f s
  | .vaddI8 f => Sys2Proof.Machine.execVaddI8 f s
  | .vsubI32 f => Sys2Proof.Machine.execVsubI32 f s
  | .vsubI16 f => Sys2Proof.Machine.execVsubI16 f s
  | .vsubI8 f => Sys2Proof.Machine.execVsubI8 f s
  | .vmulI32 f => Sys2Proof.Machine.execVmulI32 f s
  | .vmulI16 f => Sys2Proof.Machine.execVmulI16 f s
  | .vmulI8 f => Sys2Proof.Machine.execVmulI8 f s
  | .vminI32 f => Sys2Proof.Machine.execVminI32 f s
  | .vminI16 f => Sys2Proof.Machine.execVminI16 f s
  | .vminI8 f => Sys2Proof.Machine.execVminI8 f s
  | .vmaxI32 f => Sys2Proof.Machine.execVmaxI32 f s
  | .vmaxI16 f => Sys2Proof.Machine.execVmaxI16 f s
  | .vmaxI8 f => Sys2Proof.Machine.execVmaxI8 f s
  | .vcmpI32 f => Sys2Proof.Machine.execVcmpI32 f s
  | .vcmpI16 f => Sys2Proof.Machine.execVcmpI16 f s
  | .vcmpI8 f => Sys2Proof.Machine.execVcmpI8 f s
  | .vabsI32 f => Sys2Proof.Machine.execVabsI32 f s
  | .vabsI16 f => Sys2Proof.Machine.execVabsI16 f s
  | .vabsI8 f => Sys2Proof.Machine.execVabsI8 f s
  | .vshlI32 f => Sys2Proof.Machine.execVshlI32 f s
  | .vshlI32Imm f => Sys2Proof.Machine.execVshlI32Imm f s
  | .vshlI16 f => Sys2Proof.Machine.execVshlI16 f s
  | .vshlI16Imm f => Sys2Proof.Machine.execVshlI16Imm f s
  | .vshlI8 f => Sys2Proof.Machine.execVshlI8 f s
  | .vshlI8Imm f => Sys2Proof.Machine.execVshlI8Imm f s
  | .vshrI32 f => Sys2Proof.Machine.execVshrI32 f s
  | .vshrI32Imm f => Sys2Proof.Machine.execVshrI32Imm f s
  | .vshrI16 f => Sys2Proof.Machine.execVshrI16 f s
  | .vshrI16Imm f => Sys2Proof.Machine.execVshrI16Imm f s
  | .vshrI8 f => Sys2Proof.Machine.execVshrI8 f s
  | .vshrI8Imm f => Sys2Proof.Machine.execVshrI8Imm f s
  | .vsraI32 f => Sys2Proof.Machine.execVsraI32 f s
  | .vsraI32Imm f => Sys2Proof.Machine.execVsraI32Imm f s
  | .vsraI16 f => Sys2Proof.Machine.execVsraI16 f s
  | .vsraI16Imm f => Sys2Proof.Machine.execVsraI16Imm f s
  | .vsraI8 f => Sys2Proof.Machine.execVsraI8 f s
  | .vsraI8Imm f => Sys2Proof.Machine.execVsraI8Imm f s
  | .vmulh f => Sys2Proof.Machine.execVmulh f s
  | .vsaddI16 f => Sys2Proof.Machine.execVsaddI16 f s
  | .vsaddI8 f => Sys2Proof.Machine.execVsaddI8 f s
  | .vssubI16 f => Sys2Proof.Machine.execVssubI16 f s
  | .vssubI8 f => Sys2Proof.Machine.execVssubI8 f s
  | .vand f => Sys2Proof.Machine.execVand f s
  | .vor f => Sys2Proof.Machine.execVor f s
  | .vxor f => Sys2Proof.Machine.execVxor f s
  | .vandn f => Sys2Proof.Machine.execVandn f s
  | .vsel f => Sys2Proof.Machine.execVsel f s
  | .vcvt f => Sys2Proof.Machine.execVcvt f s
  | .vcvti f => Sys2Proof.Machine.execVcvti f s
  | .vcvtb8 f => Sys2Proof.Machine.execVcvtb8 f s
  | .vwideb8 f => Sys2Proof.Machine.execVwideb8 f s
  | .vhad f => Sys2Proof.Machine.execVhad f s
  | .vpack f => Sys2Proof.Machine.execVpack f s
  | .vunpack f => Sys2Proof.Machine.execVunpack f s
  | .vdotBf16 f => Sys2Proof.Machine.execVdotBf16 f s
  | .vdotI8 f => Sys2Proof.Machine.execVdotI8 f s
  | .vmov f => Sys2Proof.Machine.execVmov f s
  | .vbcst f => Sys2Proof.Machine.execVbcst f s
  | .vins f => Sys2Proof.Machine.execVins f s
  | .vext f => Sys2Proof.Machine.execVext f s
  | .vperm f => Sys2Proof.Machine.execVperm f s
  | .vzip f => Sys2Proof.Machine.execVzip f s
  | .vunzip f => Sys2Proof.Machine.execVunzip f s
  | .vslide f => Sys2Proof.Machine.execVslide f s
  | .vradd f => Sys2Proof.Machine.execVradd f s
  | .vrmax f => Sys2Proof.Machine.execVrmax f s
  | .vrmin f => Sys2Proof.Machine.execVrmin f s
  | .vraddi f => Sys2Proof.Machine.execVraddi f s
  | .vpsum f => Sys2Proof.Machine.execVpsum f s
  | .vtopk f => Sys2Proof.Machine.execVtopk f s
  | .vmergek f => Sys2Proof.Machine.execVmergek f s
  | .vcntm f => Sys2Proof.Machine.execVcntm f s
  | .vtld f => Sys2Proof.Machine.execVtld f s
  | .vtli f => Sys2Proof.Machine.execVtli f s
  | .vtlu f => Sys2Proof.Machine.execVtlu f s
  | .vld f => Sys2Proof.Machine.execVld f s
  | .vst f => Sys2Proof.Machine.execVst f s
  | .vldt f => Sys2Proof.Machine.execVldt f s
  | .vstt f => Sys2Proof.Machine.execVstt f s
  | .vgath f => Sys2Proof.Machine.execVgath f s
  | .vscat f => Sys2Proof.Machine.execVscat f s
  | .vlds f => Sys2Proof.Machine.execVlds f s
  | .vldb f => Sys2Proof.Machine.execVldb f s
  | .vmlog f => Sys2Proof.Machine.execVmlog f s
  | .vmset f => Sys2Proof.Machine.execVmset f s
  | .vmfirst f => Sys2Proof.Machine.execVmfirst f s
  | .vlerpF32 f => Sys2Proof.Machine.execVlerpF32 f s
  | .vlerpBf16 f => Sys2Proof.Machine.execVlerpBf16 f s
  | .vfsgn f => Sys2Proof.Machine.execVfsgn f s
  | .vfscale f => Sys2Proof.Machine.execVfscale f s
  | .mwld f => Sys2Proof.Machine.execMwld f s
  | .mwlds f => Sys2Proof.Machine.execMwlds f s
  | .mwpre f => Sys2Proof.Machine.execMwpre f s
  | .mma f => Sys2Proof.Machine.execMma f s
  | .mmao f => Sys2Proof.Machine.execMmao f s
  | .mzero f => Sys2Proof.Machine.execMzero f s
  | .mdrain f => Sys2Proof.Machine.execMdrain f s
  | .msca f => Sys2Proof.Machine.execMsca f s
  | .mstat f => Sys2Proof.Machine.execMstat f s
  | .mresc f => Sys2Proof.Machine.execMresc f s
  | .mtrn f => Sys2Proof.Machine.execMtrn f s
  | .mwait f => Sys2Proof.Machine.execMwait f s
  | .mprog f => Sys2Proof.Machine.execMprog f s
  | .mflags f => Sys2Proof.Machine.execMflags f s
  | .mhold f => Sys2Proof.Machine.execMhold f s
  | .mflush f => Sys2Proof.Machine.execMflush f s
  | .cld f => Sys2Proof.Machine.execCld f s
  | .cst f => Sys2Proof.Machine.execCst f s
  | .cld2d f => Sys2Proof.Machine.execCld2d f s
  | .cst2d f => Sys2Proof.Machine.execCst2d f s
  | .cldr f => Sys2Proof.Machine.execCldr f s
  | .catom f => Sys2Proof.Machine.execCatom f s
  | .cwait f => Sys2Proof.Machine.execCwait f s
  | .cpoll f => Sys2Proof.Machine.execCpoll f s
  | .cfence f => Sys2Proof.Machine.execCfence f s
  | .ccancel f => Sys2Proof.Machine.execCcancel f s
  | .cget f => Sys2Proof.Machine.execCget f s
  | .pub f => Sys2Proof.Machine.execPub f s
  | .pubr f => Sys2Proof.Machine.execPubr f s
  | .pubred f => Sys2Proof.Machine.execPubred f s
  | .pip f => Sys2Proof.Machine.execPip f s
  | .subscribe f => Sys2Proof.Machine.execSubscribe f s
  | .unsub f => Sys2Proof.Machine.execUnsub f s
  | .cpref f => Sys2Proof.Machine.execCpref f s
  | .phase f => Sys2Proof.Machine.execPhase f s
  | .pubc f => Sys2Proof.Machine.execPubc f s
  | .subq f => Sys2Proof.Machine.execSubq f s
  | .ertq f => Sys2Proof.Machine.execErtq f s
  | .erth f => Sys2Proof.Machine.execErth f s
  | .sumpq f => Sys2Proof.Machine.execSumpq f s
  | .powerOnReset => Sys2Proof.Machine.execPowerOnReset s
  | .recoveryGo => Sys2Proof.Machine.execRecoveryGo s
  | .measurementExtend => Sys2Proof.Machine.execMeasurementExtend s
  | .registerWrite => Sys2Proof.Machine.execRegisterWrite s
  | .qtailWrite => Sys2Proof.Machine.execQtailWrite s
  | .qctlWrite => Sys2Proof.Machine.execQctlWrite s
  | .queueSelection => Sys2Proof.Machine.execQueueSelection s
  | .nop => Sys2Proof.Machine.execNop s
  | .load => Sys2Proof.Machine.execLoad s
  | .unload => Sys2Proof.Machine.execUnload s
  | .launch => Sys2Proof.Machine.execLaunch s
  | .abort => Sys2Proof.Machine.execAbort s
  | .commandFenceRelease => Sys2Proof.Machine.execCommandFenceRelease s
  | .launchAcceptance => Sys2Proof.Machine.execLaunchAcceptance s
  | .waferAcknowledgement => Sys2Proof.Machine.execWaferAcknowledgement s
  | .gateTimeout => Sys2Proof.Machine.execGateTimeout s
  | .peerAbort => Sys2Proof.Machine.execPeerAbort s
  | .firmwareAbort => Sys2Proof.Machine.execFirmwareAbort s
  | .controlPip => Sys2Proof.Machine.execControlPip s
  | .firmwarePriorityChange => Sys2Proof.Machine.execFirmwarePriorityChange s
  | .firmwareFault => Sys2Proof.Machine.execFirmwareFault s
  | .preemptionRequest => Sys2Proof.Machine.execPreemptionRequest s
  | .tenantSwitch => Sys2Proof.Machine.execTenantSwitch s
  | .homeTableRebuild => Sys2Proof.Machine.execHomeTableRebuild s
  | .rimRequestStart => Sys2Proof.Machine.execRimRequestStart s
  | .taskHandoff => Sys2Proof.Machine.execTaskHandoff s
  | .distributorSelection => Sys2Proof.Machine.execDistributorSelection s
  | .passOverEnd => Sys2Proof.Machine.execPassOverEnd s
  | .entryHandover => Sys2Proof.Machine.execEntryHandover s
  | .taskFire => Sys2Proof.Machine.execTaskFire s
  | .gangFire => Sys2Proof.Machine.execGangFire s
  | .budgetExhausted => Sys2Proof.Machine.execBudgetExhausted s
  | .thermalSample => Sys2Proof.Machine.execThermalSample s
  | .powerCheck => Sys2Proof.Machine.execPowerCheck s
  | .coolantFault => Sys2Proof.Machine.execCoolantFault s
  | .coolantTrip => Sys2Proof.Machine.execCoolantTrip s
  | .clusterRetirement => Sys2Proof.Machine.execClusterRetirement s
  | .clusterFailure => Sys2Proof.Machine.execClusterFailure s
  | .fieldLoss => Sys2Proof.Machine.execFieldLoss s
  | .bankSwitch => Sys2Proof.Machine.execBankSwitch s
  | .switchDrainEnd => Sys2Proof.Machine.execSwitchDrainEnd s
  | .correctableError => Sys2Proof.Machine.execCorrectableError s
  | .freezeEnd => Sys2Proof.Machine.execFreezeEnd s
  | .uncorrectableError => Sys2Proof.Machine.execUncorrectableError s
  | .refreshWindow => Sys2Proof.Machine.execRefreshWindow s
  | .refreshWindowEnd => Sys2Proof.Machine.execRefreshWindowEnd s
  | .stagingDequeue => Sys2Proof.Machine.execStagingDequeue s
  | .segmentAdmission => Sys2Proof.Machine.execSegmentAdmission s
  | .holdLimitReached => Sys2Proof.Machine.execHoldLimitReached s
  | .arraySelection => Sys2Proof.Machine.execArraySelection s
  | .weightLoadGrant => Sys2Proof.Machine.execWeightLoadGrant s
  | .weightLoadEnd => Sys2Proof.Machine.execWeightLoadEnd s
  | .positionFire => Sys2Proof.Machine.execPositionFire s
  | .rowResultWrite => Sys2Proof.Machine.execRowResultWrite s
  | .selectWrites => Sys2Proof.Machine.execSelectWrites s
  | .install => Sys2Proof.Machine.execInstall s
  | .installAcknowledgement => Sys2Proof.Machine.execInstallAcknowledgement s
  | .installRefusal => Sys2Proof.Machine.execInstallRefusal s
  | .removal => Sys2Proof.Machine.execRemoval s
  | .publicationAtHome => Sys2Proof.Machine.execPublicationAtHome s
  | .delivery => Sys2Proof.Machine.execDelivery s
  | .heldDeliveryRelease => Sys2Proof.Machine.execHeldDeliveryRelease s
  | .pinRequest => Sys2Proof.Machine.execPinRequest s
  | .copyExpiry => Sys2Proof.Machine.execCopyExpiry s
  | .contribution => Sys2Proof.Machine.execContribution s
  | .partnerTimeout => Sys2Proof.Machine.execPartnerTimeout s
  | .getRequest => Sys2Proof.Machine.execGetRequest s
  | .getResponse => Sys2Proof.Machine.execGetResponse s
  | .getRetryResend => Sys2Proof.Machine.execGetRetryResend s
  | .rimQuery => Sys2Proof.Machine.execRimQuery s
  | .queryReply => Sys2Proof.Machine.execQueryReply s
  | .prefetchAtHome => Sys2Proof.Machine.execPrefetchAtHome s
  | .copyRequest => Sys2Proof.Machine.execCopyRequest s
  | .pageWalk => Sys2Proof.Machine.execPageWalk s
  | .boxPerformed => Sys2Proof.Machine.execBoxPerformed s
  | .atomicAtAgent => Sys2Proof.Machine.execAtomicAtAgent s
  | .remoteResult => Sys2Proof.Machine.execRemoteResult s
  | .faultResume => Sys2Proof.Machine.execFaultResume s
  | .faultAbort => Sys2Proof.Machine.execFaultAbort s
  | .faultAnswerTimeout => Sys2Proof.Machine.execFaultAnswerTimeout s
  | .vminvGo => Sys2Proof.Machine.execVminvGo s
  | .invalidationDone => Sys2Proof.Machine.execInvalidationDone s
  | .cfenceRelease => Sys2Proof.Machine.execCfenceRelease s
  | .releaseInjection => Sys2Proof.Machine.execReleaseInjection s
  | .ertWrite => Sys2Proof.Machine.execErtWrite s
  | .ertcmdPrefetch => Sys2Proof.Machine.execErtcmdPrefetch s
  | .ertcmdPin => Sys2Proof.Machine.execErtcmdPin s
  | .ertcmdUnpin => Sys2Proof.Machine.execErtcmdUnpin s
  | .ertcmdRelease => Sys2Proof.Machine.execErtcmdRelease s
  | .hintAtErtAgent => Sys2Proof.Machine.execHintAtErtAgent s
  | .rowAtHome => Sys2Proof.Machine.execRowAtHome s
  | .pageSeal => Sys2Proof.Machine.execPageSeal s
  | .pageFailure => Sys2Proof.Machine.execPageFailure s
  | .policyAnswer => Sys2Proof.Machine.execPolicyAnswer s
  | .policyTimeout => Sys2Proof.Machine.execPolicyTimeout s
  | .stateNotice => Sys2Proof.Machine.execStateNotice s
  | .rowParking => Sys2Proof.Machine.execRowParking s
  | .residencyNotice => Sys2Proof.Machine.execResidencyNotice s
  | .sumpDrain => Sys2Proof.Machine.execSumpDrain s
  | .sweepStart => Sys2Proof.Machine.execSweepStart s
  | .sweepEnd => Sys2Proof.Machine.execSweepEnd s
  | .phaseCloseNotice => Sys2Proof.Machine.execPhaseCloseNotice s
  | .launchRetirement => Sys2Proof.Machine.execLaunchRetirement s
  | .launchAbort => Sys2Proof.Machine.execLaunchAbort s
  | .traceWrite => Sys2Proof.Machine.execTraceWrite s
  | .tbstepWrite => Sys2Proof.Machine.execTbstepWrite s
  | .tbnslRead => Sys2Proof.Machine.execTbnslRead s
  | .timeLockChange => Sys2Proof.Machine.execTimeLockChange s
  | .ptpEventMessage => Sys2Proof.Machine.execPtpEventMessage s
  | .ppsEdge => Sys2Proof.Machine.execPpsEdge s
  | .linkPortFailure => Sys2Proof.Machine.execLinkPortFailure s
  | .debugHalt => Sys2Proof.Machine.execDebugHalt s
  | .debugStep => Sys2Proof.Machine.execDebugStep s
  | .stepEnd => Sys2Proof.Machine.execStepEnd s
  | .debugRun => Sys2Proof.Machine.execDebugRun s
  | .dbgdataAccess => Sys2Proof.Machine.execDbgdataAccess s
  | .waiteTimeout => Sys2Proof.Machine.execWaiteTimeout s
  | .linkPortFails => Sys2Proof.Machine.execLinkPortFails s
  | .linkPortRetrained => Sys2Proof.Machine.execLinkPortRetrained s
  | .linkCrcReplay => Sys2Proof.Machine.execLinkCrcReplay s
  | .routerFailure => Sys2Proof.Machine.execRouterFailure s
  | .cutEdgeInstalled => Sys2Proof.Machine.execCutEdgeInstalled s
  | .peerSweepResult => Sys2Proof.Machine.execPeerSweepResult s
  | .launchFirmwareReload => Sys2Proof.Machine.execLaunchFirmwareReload s
  | .emptyBundle => Sys2Proof.Machine.execEmptyBundle s
  | .malformedHeader => Sys2Proof.Machine.execMalformedHeader s
  | .unassignedOpcode => Sys2Proof.Machine.execUnassignedOpcode s
  | .accumulatorPortRow => Sys2Proof.Machine.execAccumulatorPortRow s
  | .cutEdgeCrossing => Sys2Proof.Machine.execCutEdgeCrossing s

end Sys2Proof.Machine
end

