-- ==== Sys2Proof/Machine/Schedule.lean ====
section
/-! DEFINITION. What can move next, and how one step of the device is taken (log 3, log 4, log 20). Everything the device does is a row of
the opcode table: a bundle that a core issues, or a step that no word encodes. -/

namespace Sys2Proof.Machine

open Sys2Proof

/-! ### Order within channels (R7, R328, R338, R376, R418, R511) -/

/-- The boxes that one engine sends to one agent keep their order (R376). -/
def boxChannel (s : State) (op i : Nat) : Option (List Nat) :=
  match kget s.ops op with
  | some o => (match o.boxes[i]? with
      | some b => b.tr.map fun t => [12, o.engine, t.agent]
      | none => none)
  | none => none

/-- The channel of a publication to its home: what one core's bank sends keeps its order, and so do the tiles of one tensor from another wafer
(R338, R516). -/
def Packet.channel (s : State) (p : Packet) : Option (List Nat) :=
  match p.org with
  | .task _ _ => some [1, p.srcCl, p.srcCb, homeOf s p.name p.launch]
  | .peer => some [13, homeOf s p.name p.launch, tnumOf p.name]
  | .device => some [14, homeOf s p.name p.launch]

/-- The channel of something on its way: two things of one channel keep their order. Accesses of one host port do, and none of different ports
(R511). -/
def Event.channel (s : State) (e : Event) : Option (List Nat) :=
  match e with
  | .publicationAtHome p => Packet.channel s p
  | .rowAtHome p => Packet.channel s p
  | .delivery _ r tgt home => some [2, home, r, tgt.task, tgt.sub, tgt.uid]
  | .install m => some [3, m.tgt.task, m.tgt.sub, m.home]
  | .installAcknowledgement m => some [3, m.tgt.task, m.tgt.sub, m.home]
  | .installRefusal m => some [3, m.tgt.task, m.tgt.sub, m.home]
  | .removal m => some [3, m.tgt.task, m.tgt.sub, m.home]
  | .stateNotice part e _ _ => some [4, part, e]
  | .rowParking part _ => some [5, part]
  | .registerWrite a | .ertWrite a => some [6, a.by'.port]
  | .vminvGo _ m | .ertcmdPrefetch _ _ m | .ertcmdPin _ _ m | .ertcmdUnpin _ _ m | .ertcmdRelease _ _ m | .tbstepWrite _ m | .tbnslRead m
  | .measurementExtend _ _ m => some [6, m.port]
  | .debugStep _ m _ | .debugRun _ m _ | .dbgdataAccess _ _ _ m _ => some [6, m.port]
  | .qtailWrite _ _ _ port | .qctlWrite _ _ _ port | .recoveryGo _ _ port => some [6, port]
  | .phaseCloseNotice l r _ => some [7, l, r]
  | .cutEdgeCrossing l p inward => some (if inward then [8, l] else [15, l, homeOf s p.name p.launch])
  | .waferAcknowledgement g _ _ => some [9, g]
  | .peerSweepResult g w _ => some [10, g, w]
  | .tenantSwitch part _ _ => some [11, part]
  | .boxPerformed op i => boxChannel s op i
  | .atomicAtAgent op => boxChannel s op 0
  | _ => none

/-- A box can be performed: its task's cluster is not frozen (R240), and a page's bank group is in no refresh window (R237). -/
def boxGoes (s : State) (op : Nat) : Bool :=
  match kget s.ops op with
  | some o =>
    if o.kind = .page then !refreshes s (o.opnd / 48) (o.opnd % 48)
    else o.kind = .fetch || thawed s (o.core / 4)
  | none => true

/-- A delivery that has begun to write its slot comes before every other one for its ring (R205). -/
def deliveryGoes (s : State) (e : Event) (p : Packet) (tgt : Target) : Bool :=
  !(movedUnits s e).isEmpty || match kget s.tasks tgt.task, subOf s tgt with
    | some t, some x => Packet.isPip p || x.nodata || (match taskRing s t x.ring with | some g => !g.fills (.engine 0) | none => true)
    | _, _ => true

/-- A packet that leaves for a peer can go on: to its port, or to be held at the port's edge router (R90, R347); with no port mapped to the peer it
waits for one. -/
def crossingGoes (s : State) (l : Nat) (p : Packet) : Bool :=
  !waitsAtPort s l p || l < 96 || (crossingPort s l p).isSome

/-- The cluster of a FAULTED request's task is not frozen (R240). -/
def answerGoes (s : State) (part tag : Nat) : Bool :=
  match faultedOp s part tag with
  | some o => !o.ofTask || thawed s (o.core / 4)
  | none => true

/-- An access to a core's debug registers waits while its cluster is frozen (R240). -/
def debugGoes (s : State) (a : RegAccess) : Bool :=
  !(a.bar = 2 && 0x200000 ≤ a.off && a.off < 0x200000 + 8064 * 32) || thawed s ((a.off - 0x200000) / 128)

/-- No cluster of some tasks that have a core is frozen: what would change such a task waits for the thaw (R240). -/
def tasksThawed (s : State) (ts : List (Nat × TaskInst)) : Bool := ts.all fun t => !t.2.st.bound || thawed s (t.2.core / 4)

/-- The task that an answer to an install is for, where it still stands. -/
def answeredTask (s : State) (m : PathMsg) : List (Nat × TaskInst) := s.tasks.filter fun t => t.1 = m.tgt.task

/-- The cluster in whose SRAM, or at whose weight port, an error lies; none for one that lies in a router or in memory outside the fields. -/
def errorIn : ErrPlace → Option Nat
  | .scratchpad c _ | .instrMem c _ | .tableRam c _ | .accumulator c _ | .control c _ _ => some (c / 4)
  | .mergeEntry k _ | .weightLoad k => some k
  | .retained _ _ | .routerState _ _ | .memory _ => none

/-- Something on its way can take effect now. What another wafer has sent for a GROUP waits until a part of the GROUP is live here; the spec
does not say whether it is kept (log 70). -/
def Event.ready (s : State) (e : Event) : Bool :=
  crosses s e && match e with
  | .boxPerformed op _ => boxGoes s op
  | .delivery p r tgt _ => thawed s r && deliveryGoes s e p tgt
  | .getResponse p _ => thawed s p.dstCl
  | .remoteResult op _ _ => (match kget s.ops op with | some o => thawed s (o.core / 4) | none => true)
  | .phaseCloseNotice _ r _ => thawed s r
  | .clusterRetirement k => thawed s k
  | .uncorrectableError _ _ place => (errorIn place).all (thawed s)
  | .publicationAtHome p => treeRoom s (homeOf s p.name p.launch) p
  | .installAcknowledgement m | .installRefusal m => tasksThawed s (answeredTask s m)
  | .preemptionRequest part whole n => tasksThawed s (preempted s part whole n)
  | .rowAtHome p => rowGoes s p
  | .cutEdgeCrossing l p inward => inward || crossingGoes s l p
  | .faultResume part tag | .faultAbort part tag => answerGoes s part tag
  | .registerWrite a => debugGoes s a
  | .debugStep c _ _ | .debugRun c _ _ | .dbgdataAccess c _ _ _ _ => thawed s (c / 4)
  | .waferAcknowledgement g _ _ => (groupLaunch s g).isSome
  | .peerSweepResult g _ _ => (groupLaunch s g).isSome
  | .peerAbort g _ => (groupPart s g).isSome
  | .tenantSwitch part fs stage =>
    if stage = 3 then tasksThawed s (runningIn s part fs)
    else if stage = 4 then idleFields s fs else if stage = 5 then (liveIn s part).isEmpty else true
  | _ => true

/-! ### What can move -/

/-- A step that the device can take: something on its way arrives, one unit of it or one word of a drained row moves before the rest (R434), the
device does something of its own, a core issues a bundle, the members of a gang leave a GBAR together (R216), or a bank past its TEND ends. -/
inductive Move where
  | arrive (i : Nat) (e : Event)
  | land (e : Event)
  | landRow (c i : Nat)
  | own (e : Event)
  | issue (c : Nat) (b : Bool)
  | barrier (g : Nat)
  | finish (c : Nat) (b : Bool)
  deriving DecidableEq, Repr

/-! ### Units that move early (R225, R246, R434) -/

/-- The units that something on its way consists of: their size, where in its first unit it begins, and its length. None where it moves as
one: a box that will not be performed. -/
def unitsOf (s : State) (e : Event) : Option (Nat × Nat × Nat) :=
  match e with
  | .boxPerformed op i =>
    (match kget s.ops op with
     | some o =>
       (match o.boxes[i]? with
        | some b =>
          (match b.tr with
           | some t =>
             let refused := (accessFault s o t o.writes o.reads).isSome || (o.kind = .page && (pageRefusal s o b t).isSome) ||
               (o.kind = .store && t.mtype = 2 && poisoned s (o.loc + b.off) b.len)
             if b.done || ((movedUnits s e).isEmpty && refused) then none
             else some ((boxUnit o b t).1, (boxUnit o b t).2, b.len)
           | none => none)
        | none => none)
     | none => none)
  | .delivery p r tgt _ =>
    (match kget s.tasks tgt.task, subOf s tgt with
     | some t, some x =>
       if Packet.isPip p || x.nodata || mustHold s r tgt t x ||
           !((s.router r).entries.any fun e => match e.kind with | .loc t _ => t = tgt | _ => false) then none
       else some (4, 0, p.payload.length)
     | _, _ => none)
  | .getResponse p how =>
    (match kget s.ops p.op with
     | some o => if how ≠ 0 || o.cancelled then none else some (4, o.loc % 4, min p.payload.length o.len)
     | none => none)
  | .heldDeliveryRelease r tgt => (releasing s r tgt).map fun p => (4, 0, p.payload.length)
  | _ => none

/-- The units of something on its way that have not moved. -/
def unitsLeft (s : State) (e : Event) : List Nat :=
  match unitsOf s e with
  | some (w, a, n) => (List.range ((a + n + w - 1) / w)).filter fun u => !(movedUnits s e).contains u
  | none => []

/-- A span of a delivery moves into its ring. It takes its slot with its first data (R205). -/
def moveDelivery (tgt : Target) (p : Packet) (x : Nat × Nat) (s : State) : State :=
  match kget s.tasks tgt.task, subOf s tgt with
  | some t, some y =>
    (match taskRing s t y.ring with
     | some g => modTaskRing tgt.task y.ring (fun g => g.takeNow y.uid)
         (engineWrite s ((Space.spad t.core).key (g.slotAddr g.slotNow) + x.1) ((p.payload.drop x.1).take x.2) p.psn)
     | none => s)
  | _, _ => s

/-- A span of something on its way moves; `rest` are the spans that move after it. -/
def moveSpan (e : Event) (rest : List (Nat × Nat)) (x : Nat × Nat) (s : State) : State :=
  match e with
  | .boxPerformed op i =>
    (match kget s.ops op with
     | some o =>
       (match o.boxes[i]? with
        | some b => (match b.tr with
          | some t =>
            if o.kind = .fetch then readSpan o b t s x
            else if o.kind = .page then pageSpan o b t s x else moveBytes o i b t rest s x
          | none => s)
        | none => s)
     | none => s)
  | .delivery p _ tgt _ => moveDelivery tgt p x s
  | .heldDeliveryRelease r tgt => (match releasing s r tgt with
      | some p => moveDelivery tgt p x s
      | none => s)
  | .getResponse p _ =>
    (match kget s.ops p.op with
     | some o => engineWrite s (o.loc + x.1) ((p.payload.drop x.1).take x.2) p.psn
     | none => s)
  | _ => s

/-- One unit of something on its way moves, which one being open (log 4); it will not move again. -/
def landUnit (e : Event) (s : State) : State :=
  match unitsOf s e, unitsLeft s e with
  | some (w, a, n), u :: us =>
    let v := (u :: us).getD (s.choose 5 (us.length + 1)) u
    let t := moveSpan e (spansLeft w a n (sadd (movedUnits s e) v)) (unitSpan w a n v) s
    { t with early := (t.early.filter fun x => x.1 ≠ e) ++ [(e, sadd (movedUnits s e) v)] }
  | _, _ => s

/-- One word of a drained row, or of a step of MSTAT, is written before the others, which one being open (log 4). -/
def landRow (c i : Nat) (s : State) : State :=
  match (s.core c).port[i]? with
  | some p => (match PortOp.left p with
      | w :: ws => portWord c i ((w :: ws).getD (s.choose 5 (ws.length + 1)) w) p s
      | [] => s)
  | none => s

/-- What is on its way, and a held delivery that is being released, keep their notes of the units that have moved; nothing else has one. -/
def dropEarly (s : State) : State :=
  { s with early := s.early.filter fun x => s.agenda.contains x.1 || match x.1 with
      | .heldDeliveryRelease r tgt => (heldReady s r tgt).isSome
      | _ => false }

/-- The words of an accumulator port's row that are left. -/
def rowLeft (s : State) (c i : Nat) : Nat := match (s.core c).port[i]? with | some p => (PortOp.left p).length | none => 0

/-- Beside each step that moves units, the early move of one of them, while more than one is left. -/
def withLandings (s : State) (ms : List Move) : List Move :=
  ms.flatMap fun m => match m with
    | .arrive _ e => if (unitsLeft s e).length ≤ 1 then [m] else [m, .land e]
    | .own (.heldDeliveryRelease r tgt) =>
      if (unitsLeft s (.heldDeliveryRelease r tgt)).length ≤ 1 then [m] else [m, .land (.heldDeliveryRelease r tgt)]
    | .own (.accumulatorPortRow c i) => if rowLeft s c i ≤ 1 then [m] else [m, .landRow c i]
    | m => [m]

/-! ### What the next bundle of a bank waits for (R203, R205, R216, R249) -/

/-- The slots of a bank's next bundle that have still to commit and whose guards hold. -/
def nextSlots (s : State) (c : Nat) (b : Bool) : List (Nat × Instr) :=
  let k := (s.core c).bank b
  if k.status ≠ .live then []
  else match fetchAt s c k (issueAddr s c k) with
    | .bundle x => if conflicts k x then [] else (pendingSlots k x).filter fun i => slotLive k i.2
    | _ => []

/-- A synchronising load. -/
def Instr.syncs (i : Instr) : Bool :=
  match i with
  | .lds _ | .vlds _ => true
  | _ => false

/-- The words of the synchronising loads with E = 1 that a bank's next bundle brings to the ports: it waits for nothing else. -/
def waitWords (s : State) (c : Nat) (b : Bool) : List Nat :=
  let is := nextSlots s c b
  let t := atBank c b s
  let ws := is.flatMap fun i => match i.2 with
    | .lds f => if f.e then ldsWords f t else []
    | .vlds f => if f.e then vldsWords f t else []
    | _ => []
  if ws.isEmpty || bundleHold (is.filter fun i => !Instr.syncs i.2) t ≠ .go then [] else ws

/-- The banks of the device. -/
def banksOf (s : State) : List (Nat × Bool) := s.cores.flatMap fun c => [(c.1, false), (c.1, true)]

/-- The requests with E = 1 that wait at the ports, in the order of reaching them (R203, R249); those of one cycle by core and bank (log 28). -/
def noteWaits (s : State) : State :=
  let now := (banksOf s).filterMap fun x => let ws := waitWords s x.1 x.2; if ws.isEmpty then none else some (x.1, x.2, ws)
  { s with waits := (s.waits.filter now.contains) ++ now.filter fun x => !s.waits.contains x }

/-- A bank's bundle has issued: its requests wait no more. -/
def dropWait (c : Nat) (b : Bool) (s : State) : State := { s with waits := s.waits.filter fun x => !(x.1 = c && x.2.1 = b) }

/-- The task of a bank asks for the slot at a ring's fill position while its next bundle is held at an RCLAIM (R205). -/
def noteClaims (s : State) (x : Nat × Bool) : State :=
  if ((s.core x.1).bank x.2).rings.isEmpty then s
  else
    let is := nextSlots s x.1 x.2
    let wants := fun (i : Nat) => is.any fun k => match k.2 with | .rclaim f => f.imm.toNat = i | _ => false
    s.modBankAt x.1 x.2 fun k =>
      { k with rings := (k.rings.zip (List.range k.rings.length)).map fun r =>
          if wants r.2 then (if r.1.asks.contains .task || r.1.canTake .task then r.1 else r.1.ask .task)
          else { r.1 with asks := r.1.asks.erase .task } }

/-- The task of a bank asks for the slot at a ring's pop position while nothing but its RPOPs can hold its next bundle (R205; log 36). -/
def noteReads (s : State) (x : Nat × Bool) : State :=
  if ((s.core x.1).bank x.2).rings.isEmpty then s
  else
    let is := nextSlots s x.1 x.2
    let pops := fun (k : Nat × Instr) => match k.2 with | .rpop _ => true | _ => false
    let go := is.any pops && bundleHold (is.filter fun k => !pops k) (atBank x.1 x.2 s) = .go
    let wants := fun (i : Nat) => go && is.any fun k => match k.2 with | .rpop f => f.imm.toNat = i | _ => false
    s.modBankAt x.1 x.2 fun k =>
      { k with rings := (k.rings.zip (List.range k.rings.length)).map fun r => if wants r.2 then r.1.askRead .task else r.1.readDone .task }

/-- A draining instruction at the head of a core's queue asks for a slot of its ring to fill, and one with a ring source for those at the pop
position (R205, R310). -/
def noteDrain (s : State) (c : Nat) : State :=
  match (s.core c).queue with
  | q :: _ =>
    if drainAsks s c q then s.modBankAt c q.bank fun b => b.modRing q.form.as.toNat fun r => r.ask (.engine q.id)
    else if sourceAsks q then s.modBankAt c q.bank fun b => b.modRing q.form.as.toNat fun r => r.askRead (.engine q.id)
    else s
  | [] => s

/-- Who waits for a ring's slot has asked for it (R205). -/
def noteAsks (s : State) : State :=
  s.cores.foldl (fun s c => noteDrain s c.1) ((banksOf s).foldl (fun s x => noteReads (noteClaims s x) x) s)

/-- The core's next bundle holds a GBAR of a gang of several members, all of whom have reached it (R216). -/
def leavesGbar (s : State) (c : Nat) (b : Bool) : Bool :=
  let k := (s.core c).bank b
  1 < k.gangSize.toNat && (match kget s.gangs k.gangId with | some g => !Gang.broken g (k.gbars + 1) | none => false) &&
    (nextSlots s c b).any fun i => match i.2 with | .gbar _ => true | _ => false

/-- The members of a gang that leave a GBAR now: those on the running banks of their cores (R216; log 74). -/
def leavers (s : State) (g : Nat × Gang) : List (Nat × Bool) :=
  g.2.cores.filterMap fun c => match issuing s c with
    | some b => if ((s.core c).bank b).gangId = g.1 && leavesGbar s c b then some (c, b) else none
    | none => none

/-- The things on their way that can take effect: ready, and the first of their channels. -/
def arrivals (s : State) : List Event → Nat → List (List Nat) → List Move
  | [], _, _ => []
  | e :: r, i, seen =>
    match Event.channel s e with
    | none => if Event.ready s e then .arrive i e :: arrivals s r (i + 1) seen else arrivals s r (i + 1) seen
    | some k =>
      if !seen.contains k && Event.ready s e then .arrive i e :: arrivals s r (i + 1) (k :: seen)
      else arrivals s r (i + 1) (k :: seen)

/-- An own step where its condition holds. -/
def ownIf (c : Bool) (e : Event) : List Move := if c then [.own e] else []

/-- Steps bound to a cycle, which nothing else comes before: refresh windows, the ends of freezes, budget overruns, hold limits, fault records
and questions to launch firmware left unanswered, and ports not retrained (R114, R237, R240, R299, R372, R428, R516). What would change a
frozen cluster waits for its thaw. -/
def timed (s : State) : List Move :=
  (s.fields.flatMap fun f => ownIf (windowDue s f.1) (.refreshWindow f.1) ++ ownIf (windowOver s f.1 && !windowDue s f.1) (.refreshWindowEnd f.1)) ++
    (s.clusters.flatMap fun k => ownIf (frozenOver s k.1) (.freezeEnd k.1)) ++
    (s.cores.flatMap fun c => [false, true].flatMap fun b =>
      ownIf (clusterRuns s c.1 && overrun s c.1 b) (.budgetExhausted c.1 b)) ++
    (s.clusters.flatMap fun k => k.2.entries.flatMap fun e =>
      ownIf (clusterRuns s (4 * k.1) && holdReached s k.1 e) (.holdLimitReached k.1 e.num)) ++
    (s.ops.flatMap fun o => ownIf (faultLate s o.2 && (!o.2.ofTask || ifaceRuns s o.2)) (.faultAnswerTimeout o.1)) ++
    (s.policy.flatMap fun r => ownIf (policyLate s r) (.policyTimeout r.part r.handle)) ++
    s.links.flatMap fun p => ownIf (portLost s p.1) (.linkPortFailure p.1)

/-- What the launch processor can do with commands (R77 to R84). -/
def commandMoves (s : State) : List Move :=
  ownIf (arbiterSelects s) .queueSelection ++
    s.cmds.flatMap fun c =>
      ownIf (pendingCmd s c.q 0).isSome (.nop c.q) ++ ownIf (pendingCmd s c.q 1).isSome (.load c.q) ++
        ownIf (pendingCmd s c.q 2).isSome (.unload c.q) ++ ownIf (launchCmd s c.q).isSome (.launch c.q) ++
        ownIf (pendingCmd s c.q 4).isSome (.abort c.q) ++ ownIf (fenceOver s c.q) (.commandFenceRelease c.q) ++
        ownIf (checkedCmd s c.q).isSome (.launchAcceptance c.q)

/-- What the launch processor can do with launches (R90, R96, R457, R459, R481, R486). -/
def launchMoves (s : State) : List Move :=
  (s.launches.flatMap fun l =>
    ownIf (gateLate s l.1) (.gateTimeout l.1) ++ ownIf (handoff s l.1).isSome (.taskHandoff l.1) ++
      ownIf (sweepDue s l.1) (.sweepStart l.1) ++ ownIf (sweepEnds s l.1) (.sweepEnd l.1) ++
      ownIf (retirable s l.1) (.launchRetirement l.1) ++ ownIf (edgesToInstall s l.1) (.cutEdgeInstalled l.1)) ++
    ((s.aborts.map fun a => a.launch).dedup).flatMap fun l => ownIf (tasksThawed s (tasksOf s l)) (.launchAbort l)

/-- What distributors, trace writers and pool entries can do (R98 to R100, R108, R109, R496). -/
def taskMoves (s : State) : List Move :=
  (s.fields.flatMap fun f =>
    ownIf (selecting s f.1) (.distributorSelection f.1) ++ ownIf (traceNext s f.1).isSome (.traceWrite f.1)) ++
    s.tasks.flatMap fun t =>
      ownIf (passedOver s t.2) (.passOverEnd t.1) ++ ownIf (stranded s t.2) (.entryHandover t.1) ++
        ownIf (t.2.st = .ready && (fireReady s t.1).isSome) (.taskFire t.1) ++
        ownIf (t.2.st = .ready && t.2.rank = 0 && (gangFires s t.2.gang).isSome) (.gangFire t.2.gang)

/-- What a core's units can do (R215, R272, R292, R296, R297, R316, R468, R469, R478, R480). -/
def coreMoves (s : State) (c : Nat) (x : Core) : List Move :=
  ownIf (haltDue s c) (.debugHalt c) ++ ownIf (stepOver s c) (.stepEnd c) ++
    if !clusterRuns s c then []
    else
      (match issuing s c with | some b => if leavesGbar s c b then [] else [.issue c b] | none => []) ++
      ([false, true].flatMap fun b =>
        (if bankEnds s c b then [.finish c b] else []) ++ ownIf (waiteOver s c b) (.waiteTimeout c b)) ++
      ownIf (!(switching s c).isEmpty) (.bankSwitch c) ++ ownIf (drainEnds s c).isSome (.switchDrainEnd c) ++
      ownIf (dequeuable s c) (.stagingDequeue c) ++ ownIf (admissible s c) (.segmentAdmission c) ++
      ownIf (nextResult s c).isSome (.rowResultWrite c) ++ ownIf (!x.sel.isEmpty) (.selectWrites c) ++
      (List.range x.port.length).flatMap fun i =>
        match x.port[i]? with
        | some p => ownIf (portReady s c i p) (.accumulatorPortRow c i)
        | none => []

/-- A throttled array fires positions only in some cycles (R520). -/
def arrayCycle (s : State) : Bool := s.now % 4 < 4 - s.mgmt.thr

/-- What a cluster's merge buffer and array can do (R289, R291, R301). -/
def clusterMoves (s : State) (k : Nat) (x : Cluster) : List Move :=
  if !clusterRuns s (4 * k) then []
  else
    ownIf ((bestEntry s k).isSome || (tileDue x).isSome) (.arraySelection k) ++
      (match x.job with
        | some j => ownIf (grantable s k j) (.weightLoadGrant k) ++ ownIf (loadEnds s k j) (.weightLoadEnd k)
        | none => []) ++
      ownIf (arrayCycle s && (firing s k).isSome) (.positionFire k)

/-- What a router can do (R342, R347, R350). -/
def routerMoves (s : State) (r : Nat) (x : Router) : List Move :=
  (((x.held.map fun (h : HeldDelivery) => h.tgt).dedup).flatMap fun t =>
    ownIf (thawed s r && (heldReady s r t).isSome) (.heldDeliveryRelease r t)) ++
    ownIf (x.kept.any fun k => !k.expired && k.expiry ≤ 2 * s.now) (.copyExpiry r) ++
    (List.range x.partials.length).flatMap fun i =>
      match x.partials[i]? with
      | some p => ownIf (p.ends ≠ 0 && p.ends ≤ s.now) (.partnerTimeout r i)
      | none => []

/-- What copy engines and rim resources can do (R88, R353, R356, R369, R392, R396). -/
def copyMoves (s : State) : List Move :=
  (s.ops.flatMap fun o =>
    ownIf (copyReady s o.2) (.copyRequest o.1) ++ ownIf (walkReady s o.2) (.pageWalk o.1) ++
      ownIf (nextToLeave s o.2 && ifaceRuns s o.2 && fenceDone s o.2) (.cfenceRelease o.1) ++
      ownIf (nextToLeave s o.2 && ifaceRuns s o.2 && o.2.rel && released s o.2) (.releaseInjection o.1) ++
      ownIf ((match o.2.retryAt with | some t => t ≤ s.now | none => false) && ifaceRuns s o.2) (.getRetryResend o.1)) ++
    (List.range s.rim.length).flatMap fun i =>
      match s.rim[i]? with
      | some r => ownIf (rimFirst s i r && rimFits s r) (.rimRequestStart i)
      | none => []

/-- What partitions, expert tables and links can do (R90, R333, R347, R367, R422, R425). -/
def partMoves (s : State) : List Move :=
  (s.parts.flatMap fun p =>
    ownIf (rebuildDue s p.1) (.homeTableRebuild p.1) ++ ownIf (invalidated s p.1) (.invalidationDone p.1)) ++
    (s.ert.flatMap fun e => ownIf (sealable s (e.1 / 65536) (e.1 % 65536)) (.pageSeal (e.1 / 65536) (e.1 % 65536))) ++
    (((s.sumps.filterMap fun u => if u.2.order = 0 then none else some (u.2.part, u.2.entry, u.2.launch)).dedup).flatMap fun t =>
      ownIf (drainReady s t.1 t.2.1 t.2.2) (.sumpDrain t.1 t.2.1 t.2.2)) ++
    s.links.flatMap fun p => match portGoes s p.1 with
      | some h => [.own (.cutEdgeCrossing p.1 h.pkt false)]
      | none => []

/-- What gangs can do (R216). -/
def gangMoves (s : State) : List Move := s.gangs.flatMap fun g => if (leavers s g).isEmpty then [] else [.barrier g.1]

/-- Everything that can move now. -/
def moves (s : State) : List Move :=
  match timed s with
  | m :: ms => m :: ms
  | [] =>
    withLandings s (arrivals s s.agenda 0 [] ++ (s.cores.flatMap fun c => coreMoves s c.1 c.2) ++ s.routers.flatMap fun r => routerMoves s r.1 r.2) ++
      gangMoves s ++ commandMoves s ++ launchMoves s ++ taskMoves s ++ (s.clusters.flatMap fun k => clusterMoves s k.1 k.2) ++ copyMoves s ++
      partMoves s

/-! ### Taking a step -/

/-- What follows on a message of a serial channel takes its place: installs and removals are relayed hop by hop (R336, R337). -/
def keepPlace (e : Event) (s : State) : State :=
  match Event.channel s e with
  | some (3 :: k) =>
    (match (s.agenda.reverse.find? fun x => Event.channel s x = some (3 :: k)) with
     | some x => { s with agenda := x :: (s.agenda.reverse.erase x).reverse }
     | none => s)
  | _ => s

/-- A step of the device that no word encodes, as the row of the table that it is. -/
def runEvent (ex : Instr → State → Result) (e : Event) (s : State) : Result :=
  ex (Event.instr e) { s with ev := some e }

/-- Something on its way takes effect: it is on its way no more (R455). -/
def arrive (ex : Instr → State → Result) (i : Nat) (e : Event) (s : State) : Result :=
  let n := s.agenda.length
  match runEvent ex e (touchTraffic e { s with agenda := s.agenda.eraseIdx i }) with
  | .next s' =>
    let s' := notePath s e { s' with early := s'.early.filter fun x => x.1 ≠ e }
    .next (if n ≤ s'.agenda.length then keepPlace e s' else s')
  | r => r

/-- The bundles of several banks issue in one step. -/
def issueAll (ex : Instr → State → Result) : List (Nat × Bool) → State → Result
  | [], s => .next s
  | (c, b) :: r, s =>
    match bundleStep ex c b s with
    | .next s' => issueAll ex r (dropWait c b s')
    | x => x

/-- Take a step. -/
def takeMove (ex : Instr → State → Result) (m : Move) (s : State) : Result :=
  match m with
  | .arrive i e => arrive ex i e s
  | .land e => .next (landUnit e s)
  | .landRow c i => .next (landRow c i s)
  | .own e => (match runEvent ex e s with
      | .next s' => .next { s' with early := s'.early.filter fun x => x.1 ≠ e }
      | r => r)
  | .issue c b => issueAll ex [(c, b)] s
  | .barrier g => issueAll ex (match kget s.gangs g with | some x => leavers s (g, x) | none => []) s
  | .finish c b => .next (endStep c b s)

/-- A bank's note of when a block began to hold its next bundle (R468). -/
def noteBlock (s : State) (c : Nat) (b : Bool) : State :=
  let k := (s.core c).bank b
  if taskBlocked s c b then
    (if k.blockedSince.isSome then s else s.modBankAt c b fun k => { k with blockedSince := some (k.cyc (s.clk c)) })
  else if k.blockedSince.isSome then s.modBankAt c b fun k => { k with blockedSince := none }
  else s

/-- A core's running bank, where no drain is in progress. -/
def noteBlocks (s : State) : State :=
  s.cores.foldl (fun s c =>
    match (s.core c.1).running with
    | some b => if (s.core c.1).drain.isNone then noteBlock s c.1 b else s
    | none => s) s

/-- The task of a bank stands at a GBAR: its fence is satisfied, and nothing else holds its bundle, nor does the debugger or a pause
(R216). -/
def atGbar (s : State) (c : Nat) (b : Bool) : Bool :=
  let k := (s.core c).bank b
  let is := nextSlots s c b
  let bar := fun (i : Nat × Instr) => match i.2 with | .gbar _ => true | _ => false
  k.sr = 0 && ((s.core c).running = some b || k.blockedSince.isSome) && is.any bar && !(s.core c).dbg.stops && k.pauseUntil ≤ s.clk c &&
    !fenceWaits 1 (atBank c b s) && bundleHold (is.filter fun i => !bar i) (atBank c b s) = .go

/-- A gang's members that stand at a GBAR have reached it (R216). -/
def noteGbar (s : State) (g : Nat × Gang) : State :=
  let r := (List.range g.2.cores.length).map fun i =>
    let c := g.2.cores.getD i 0
    match [false, true].find? fun b => ((s.core c).bank b).gangId = g.1 && ((s.core c).bank b).gangRank.toNat = i && atGbar s c b with
    | some b => max (Gang.reach g.2 i) (((s.core c).bank b).gbars + 1)
    | none => Gang.reach g.2 i
  { s with gangs := kset s.gangs g.1 { g.2 with reached := r } }

/-- GBARs that have been reached. -/
def noteGbars (s : State) : State := s.gangs.foldl noteGbar s

/-- The rim slot table that Mboam has written takes effect at a frame boundary between two cycles (R88). -/
def turnFrame (old new : Nat) (m : Mgmt) : Mgmt :=
  if old / 1024 = new / 1024 then m
  else match m.rimNext with
    | some t => { m with rim := t, rimNext := none }
    | none => m

/-- Time passes: one cycle, and as many more as the spec leaves open (R2; log 3). -/
def tick (s : State) : State :=
  { s with
    nonce := s.nonce + 1
    now := s.now + 1 + Config.freeCycles s.nonce
    ev := none
    mgmt := turnFrame s.now (s.now + 1 + Config.freeCycles s.nonce) s.mgmt }

/-- The end of a step: who waits has asked, what has arrived counts no more, and counters that count have their entries, for which copies
make room (R454). -/
def closeStep (s : State) : State :=
  tick (trimAll (noteCounters (settlePassing (dropEarly (noteWaits (takeSlots (noteAsks (noteGbars (noteBlocks (settleRetired s))))))))))

/-- Which of several moves is taken is open (log 4); one alone is taken. -/
def pickMove (s : State) : List Move → Option Move
  | [] => none
  | [m] => some m
  | m :: ms => some ((m :: ms).getD (s.choose 0 (ms.length + 1)) m)

/-- One step of the device: one move, or none where nothing can move, and time passes. -/
def stepWith (ex : Instr → State → Result) (s : State) : Result :=
  match pickMove s (moves s) with
  | none => .next (closeStep s)
  | some m =>
    match takeMove ex m s with
    | .next s' => .next (closeStep s')
    | .fault f => .fault f
    | .refused f => .refused f

/-! ### One word from outside -/

/-- A bank that is about to issue from word 0 of an image of one line. -/
def probeBank : Bank := { Bank.reset with status := .live, imLen := 64, events := BitVec.allOnes 16 }

/-- The class in which a table word stands: the one that decodes it, else one in which its OPC is assigned. -/
def probeClass (w : Word) : SlotClass :=
  match tableClassOf w with
  | some c => c
  | none => (tableClasses.find? fun c => assigned c (opcOf w).toNat).getD .S

/-- The header of a bundle with one slot of a class, ending its group (R125). -/
def probeHeader : SlotClass → Word
  | .S => 0xC1000000
  | .V => 0xA1000000
  | .M => 0x89000000
  | .C => 0x85000000

/-- A state in which core 0 issues a bundle of one slot word next, its further words zero; the words and the event that a blocking
instruction would wait for are there (log 21). -/
def probe (w : Word) (s : State) : State :=
  let s := s.modCluster 0 fun k => { k with enabled := true }
  let s := s.modCore 0 fun c => { c with b0 := probeBank, running := some false, senior := some false }
  let s := setFull s (wordKeys ((Space.spad 0).key 0) 128)
  writeNat (writeNat s ((Space.imem 0).key 0) 4 (probeHeader (probeClass w)).toNat) ((Space.imem 0).key 4) 4 w.toNat

end Sys2Proof.Machine
end

