-- ==== Sys2Proof/Machine/Step.lean ====
section
/-! DEFINITION. One step of the device, and a state that runs a given instruction next. -/

namespace Sys2Proof.Machine

open Sys2Proof

/-- One step of the device (R2, R131). -/
def step (s : State) : Host.Outcome State Fault Refusal := stepWith exec s

/-- `s` with an instruction's word where core 0 issues next. -/
def State.withFetchWord (s : State) (_nbits w : Nat) : State := probe (BitVec.ofNat 32 w) s

end Sys2Proof.Machine
end

