-- ==== Sys2Proof/Safety.lean ====
section
/-! DEFINITION. What counts as a safe step, the invariant of the device, and the frames in which claims about instructions are stated. -/

namespace Sys2Proof.Machine

open Sys2Proof

/-- A step or an instruction answers a next state: it neither faults nor is refused. -/
def Answers (r : Result) : Prop := ∃ t, r = .next t

/-- With the step `e` that no word encodes in hand, its row `i` of the table answers a next state of which `P` holds. -/
def Runs (i : Instr) (e : Event) (s : State) (P : State → Prop) : Prop := s.ev = some e → ∃ t, exec i s = .next t ∧ P t

/-- The invariant of the device: memory is in its canonical form, so that equal memories are equal lists. -/
def State.Inv (s : State) : Prop := Memory.wf s.mem = true

/-- Every byte of memory reads as before, and every word keeps its full/empty bit and its poison. -/
def SameMemory (s t : State) : Prop :=
  (∀ a, Memory.get t.mem a = Memory.get s.mem a) ∧ t.full = s.full ∧ t.poison = s.poison

/-- Everything but the bank of the bundle in execution is as before: other banks and cores, clusters, tasks, launches, memory,
what is on its way, time. -/
def OnlyBank (s t : State) : Prop :=
  t = { s with cores := t.cores } ∧ (∀ c, c ≠ s.ctx.core → t.core c = s.core c) ∧
    t.core s.ctx.core = (s.core s.ctx.core).modBank s.ctx.bank (fun _ => t.bank) ∧ SameMemory s t

/-- Scalar register `d` receives `v` (s0 stays zero) and nothing else changes. -/
def WritesScalar (s t : State) (d : BitVec 5) (v : Word) : Prop :=
  (∀ r, t.bank.rdS r = if r = d ∧ d ≠ 0 then v else s.bank.rdS r) ∧ t.bank = { s.bank with s := t.bank.s } ∧ OnlyBank s t

/-- Predicate `d` receives `v` (p0 stays true) and nothing else changes. -/
def WritesPred (s t : State) (d : BitVec 3) (v : Bool) : Prop :=
  (∀ r, t.bank.rdP r = if r = d ∧ d ≠ 0 then v else s.bank.rdP r) ∧ t.bank = { s.bank with p := t.bank.p } ∧ OnlyBank s t

/-- Mask `d` receives `v` (m0 stays all ones), the flags `fl` are ORed into FLAGS, and nothing else changes. -/
def WritesMask (s t : State) (d : BitVec 3) (v : MWord) (fl : Fl) : Prop :=
  (∀ r, t.bank.rdM r = if r = d ∧ d ≠ 0 then v else s.bank.rdM r) ∧ t.bank.flags = s.bank.flags ||| fl.bits ∧
    t.bank = { s.bank with m := t.bank.m, flags := t.bank.flags } ∧ OnlyBank s t

/-- Vector register `d` receives `v`, the flags `fl` are ORed into FLAGS, and nothing else changes. -/
def WritesVector (s t : State) (d : BitVec 5) (v : VWord) (fl : Fl) : Prop :=
  (∀ r, t.bank.rdV r = if r = d then v else s.bank.rdV r) ∧ t.bank.flags = s.bank.flags ||| fl.bits ∧
    t.bank = { s.bank with v := t.bank.v, flags := t.bank.flags } ∧ OnlyBank s t

/-- The active lanes of `w` bits of vector register `d` receive `r`, its inactive lanes keep their bits, the flags `fl` are ORed into FLAGS,
and nothing else changes (R243, R244). -/
def WritesLanes (s t : State) (d : BitVec 5) (w : Nat) (mask : MWord) (r : Nat → Nat) (fl : Fl) : Prop :=
  WritesVector s t d (t.bank.rdV d) fl ∧
    ∀ i, i < 1024 / w → lane (t.bank.rdV d) i w = if laneOn mask w i then r i % 2 ^ w else lane (s.bank.rdV d) i w

/-- The select unit has started an operation that will give `v` to vector register `d` and write `ws` to scratchpad (R272), the flags `fl` are ORed
into FLAGS, and nothing else changes. -/
def Selects (s t : State) (d : BitVec 5) (v : VWord) (ws : List (Nat × List Byte)) (fl : Fl) : Prop :=
  t = { s with opId := s.opId + 1, cores := t.cores } ∧ SameMemory s t ∧ (∀ c, c ≠ s.ctx.core → t.core c = s.core c) ∧
    t.core s.ctx.core = { (s.core s.ctx.core).modBank s.ctx.bank (fun _ => t.bank) with
      sel := (s.core s.ctx.core).sel ++ [⟨s.opId, s.ctx.bank, s.bank.task, d, v, ws⟩] } ∧
    t.bank = { s.bank with flags := s.bank.flags ||| fl.bits }

/-- Every byte outside the `n` bytes from `k` reads as before. -/
def SameOutside (s t : State) (k n : Nat) : Prop := ∀ a, a < k ∨ k + n ≤ a → Memory.get t.mem a = Memory.get s.mem a

/-- The bytes `bs` are stored from `k`, words written whole lose their poison, and nothing else changes: no register, no flag, no other
byte, no full/empty bit. -/
def StoresBytes (s t : State) (k : Nat) (bs : List Byte) : Prop :=
  (∀ i, (h : i < bs.length) → Memory.get t.mem (k + i) = bs[i]) ∧ SameOutside s t k bs.length ∧
    (∀ w, w ∈ t.poison ↔ w ∈ s.poison ∧ w ∉ fullWords k bs.length) ∧
    t = { s with mem := t.mem, poison := t.poison }

/-- The task of the bundle in execution has trapped with a cause: TSW.CAUSE, IADDR and SR are saved, and the slots to the right do
not commit (R142, R143). -/
def Trapped (s t : State) (cause : BitVec 8) (sr : Nat) : Prop :=
  t.bank.status = .trapped ∧ t.bank.cause = cause ∧ t.bank.iaddr = BitVec.ofNat 32 s.ctx.addr ∧ t.bank.sr = sr ∧
    t.ctx.stopped = true ∧ t.bank.s = s.bank.s ∧ t.bank.p = s.bank.p ∧ t.bank.v = s.bank.v ∧ t.bank.m = s.bank.m ∧
    t.bank.a = s.bank.a ∧ t.bank.flags = s.bank.flags ∧ t.bank.loops = s.bank.loops ∧ SameMemory s t ∧
    ∀ c, c ≠ s.ctx.core → t.core c = s.core c

/-- An M-class instruction has entered its core's staging queue as the last, with what it read at issue, and nothing else changes
(R130, R296). -/
def Stages (s t : State) (k : MKind) (f : MForm) (addr addr2 : Nat) : Prop :=
  (∃ q : MOp, (t.core s.ctx.core).queue = (s.core s.ctx.core).queue ++ [q] ∧ q.id = s.opId ∧ q.kind = k ∧ q.form = f ∧
      q.bank = s.ctx.bank ∧ q.task = s.bank.task ∧ q.addr = addr ∧ q.addr2 = addr2) ∧
    t = { s with opId := s.opId + 1, cores := t.cores } ∧ (∀ c, c ≠ s.ctx.core → t.core c = s.core c) ∧
    t.core s.ctx.core = { (s.core s.ctx.core).modBank s.ctx.bank (fun _ => t.bank) with queue := (t.core s.ctx.core).queue } ∧
    SameMemory s t

/-- A copy request of the slot in execution as it enters the interface (R356, R357): under its number, of a kind, with the opcode that OP
names, for its task, on the engine that the core's number gives, in a group, with the phase register's value, not yet sent. -/
def RequestOf (s : State) (o : COp) (kind : OpKind) (opc grp : Nat) : Prop :=
  o.id = s.opId ∧ o.kind = kind ∧ o.opc = opc ∧ o.core = s.ctx.core ∧ o.bank = s.ctx.bank ∧ o.task = s.bank.task ∧
    o.launch = s.bank.launch.toNat ∧ o.part = partOf s.bank.launch.toNat ∧ o.gid = taskNs s ∧ o.grp = some grp ∧
    o.phase = s.bank.phase.toNat ∧ o.engine = 4 * fieldOf s.ctx.core + s.ctx.core % 4 ∧ o.iface = s.ctx.slot - 4 ∧ o.place = .queued ∧
    o.cancelled = false ∧ o.fault = none

/-- Row `row` of a core's tile becomes `vals`, its poison marks `psn` by column, the bits `flags` are ORed into the tile's flag word, and no other byte
of memory and no other tile's flag word changes (R292, R304). -/
def RowBecomes (s t : State) (c z row : Nat) (vals : List Nat) (psn : Nat → Bool) (flags : BitVec 8) : Prop :=
  t.mem = Memory.setBytes s.mem (tileKey c z row 0) (vals.flatMap fun v => leBytes 4 v) ∧
    (∀ j, j < 128 → elemPoison t c z row j = psn j) ∧
    ∀ y, (t.core c).tflags.get y = if y = Fin.ofNat 4 z then (s.core c).tflags.get y ||| flags else (s.core c).tflags.get y

/-- Memory with the words `ws` of a unit, each given by its offset, written from the unit's bytes at a key (R225, R434). -/
def putWords (m : List Host.Cell) (key : Nat) (bs : List Byte) (ws : List Nat) : List Host.Cell :=
  ws.foldl (fun m w => Memory.setBytes m (key + w) ((bs.drop w).take 4)) m

/-- PSN, as a bit of a flag word (R304). -/
def psnBit (any : Bool) : BitVec 8 := if any then 0x20 else 0

/-- The number that a finite value stands for: (−1)^neg · m · 2^e (R46). -/
def FVal.rat : FVal → ℚ
  | .fin n m e => (if n then -1 else 1) * (m : ℚ) * (2 : ℚ) ^ e
  | _ => 0

/-- A value that is neither a NaN nor an infinity. -/
def FVal.isFin (v : FVal) : Bool := !v.isNan && !v.isInf

/-- A magnitude `x` below `l`, rounded in a mode to multiples of `g`, reaches the multiple `l`, and one that is at least `l` has reached it (R51):
to nearest from half a step below on, for at the limits at which this is asked the step below `l` is odd; toward zero from `l` on; away from zero
from anywhere above the step below. -/
def RMode.Reaches (mode : RMode) (neg : Bool) (x l g : ℚ) : Prop :=
  match mode, neg with
  | .rne, _ => l - g / 2 ≤ x
  | .rna, _ => l - g / 2 ≤ x
  | .rtz, _ => l ≤ x
  | .rdn, false => l ≤ x
  | .rup, true => l ≤ x
  | .rdn, true => l - g < x
  | .rup, false => l - g < x

/-- The finite pattern `r` is the one of its format that a mode takes for the exact `x` (R51): the nearest, a tie going to the even pattern or away
from zero, or the next one toward zero, toward −∞ or toward +∞. -/
def FFmt.Nearest (t : FFmt) (mode : RMode) (x : ℚ) (r : Nat) : Prop :=
  let v := (t.decode r).rat
  ∀ p, p < 2 ^ t.bits → (t.decode p).isFin = true →
    let w := (t.decode p).rat
    match mode with
    | .rne => |x - v| ≤ |x - w| ∧ (|x - v| = |x - w| → v ≠ w → r % 2 = 0)
    | .rna => |x - v| ≤ |x - w| ∧ (|x - v| = |x - w| → v ≠ w → |w| < |v|)
    | .rtz => |v| ≤ |x| ∧ (|w| ≤ |x| → |w| ≤ |v|)
    | .rdn => v ≤ x ∧ (w ≤ x → w ≤ v)
    | .rup => x ≤ v ∧ (x ≤ w → v ≤ w)

/-- A pattern and flags are the exact non-zero `x` rounded once to a format in a mode (R51, R54, R56, R57). Where the rounding with unbounded
exponent range reaches 2^(emax + 1), the result overflows to the infinity or, in a mode toward zero, to the largest finite number, with OF and NX.
Else it is the finite number that the mode takes, with the sign of `x`, NX where it differs from `x`, and UF where it differs and the rounding with
unbounded exponent range stays below the smallest normal number. -/
def FFmt.RoundsTo (t : FFmt) (mode : RMode) (x : ℚ) (r : Nat) (fl : Fl) : Prop :=
  let neg : Bool := decide (x < 0)
  let tooBig := mode.Reaches neg |x| (2 ^ ((t.emaxField : ℤ) - t.bias)) (2 ^ ((t.emaxField : ℤ) - 1 - t.bias - t.mb))
  let reached := mode.Reaches neg |x| (2 ^ (1 - (t.bias : ℤ))) (2 ^ (-(t.bias : ℤ) - t.mb))
  fl.nv = false ∧ fl.dz = false ∧ (fl.of = true ↔ tooBig) ∧
    (tooBig → fl.uf = false ∧ fl.nx = true ∧
      r = if mode = .rtz ∨ (mode = .rdn ∧ neg = false) ∨ (mode = .rup ∧ neg = true) then t.maxBits neg else t.infBits neg) ∧
    (¬tooBig → r < 2 ^ t.bits ∧ (t.decode r).isFin = true ∧ (t.decode r).neg = neg ∧ t.Nearest mode x r ∧
      (fl.nx = true ↔ (t.decode r).rat ≠ x) ∧ (fl.uf = true ↔ (t.decode r).rat ≠ x ∧ ¬reached))

/-- A debugger access to a core's debug registers takes effect (R480, R503, R505): inside a BAR access that is admitted, or from outside while
the BARs answer, from a master of the debugger's class whose access the debug table admits. -/
def debugMay (s : State) (c : Nat) (m : Master) (inWrite wr : Bool) : Prop :=
  inWrite = true ∨ (barOpen s = true ∧ m.cls = 5 ∧ admitted s 6 ((0x200000 + 32 * c) / 4096) 5 m.part wr (!wr) = true)

/-- The state in which the walk of a copy operation's next box is judged (R364, R370, R372): the walk has left the list of the walks ahead and
its agents are held. -/
def walkState (s : State) (o : COp) (va : Nat) : State := holdWalk o va (s.modOp o.id fun y => { y with ahead := y.ahead.drop 1 })

end Sys2Proof.Machine
end

