-- ==== Sys2Proof/Certificates/Slice0/Obligations.lean ====
section
/-! DEFINITION. The statements for the provers: the spec's rules about this model, one definition each. -/

open Sys2Proof Sys2Proof.Machine

/-! ### Guards, scalar arithmetic, predicates -/

/-- A slot whose guard is false does nothing (R134). -/
def Obligations.FalseGuardDoesNothing : Prop :=
  ∀ (i : Instr) (g : Guard) (s : State), Instr.guardOf i = some g → guardTrue g s.bank = false → exec i s = .next s

/-- The two-operand instructions of R188 complete with the value R188 gives, into s_D and nothing else. -/
def Obligations.ScalarArithmeticResults : Prop :=
  ∀ e ∈ ([(.add, fun a b => a + b), (.sub, fun a b => a - b), (.mul, fun a b => a * b),
      (.mulh, fun a b => BitVec.ofInt 32 (a.toInt * b.toInt / 2 ^ 32)), (.mulhu, fun a b => BitVec.ofNat 32 (a.toNat * b.toNat / 2 ^ 32)),
      (.div, fun a b => if b = 0 then 0xFFFFFFFF else if a = 0x80000000 ∧ b = 0xFFFFFFFF then 0x80000000
        else BitVec.ofInt 32 (a.toInt.tdiv b.toInt)),
      (.divu, fun a b => if b = 0 then 0xFFFFFFFF else BitVec.ofNat 32 (a.toNat / b.toNat)),
      (.rem, fun a b => if b = 0 then a else if a = 0x80000000 ∧ b = 0xFFFFFFFF then 0
        else BitVec.ofInt 32 (a.toInt - b.toInt * a.toInt.tdiv b.toInt)),
      (.remu, fun a b => if b = 0 then a else BitVec.ofNat 32 (a.toNat % b.toNat)),
      (.and, fun a b => a &&& b), (.or, fun a b => a ||| b), (.xor, fun a b => a ^^^ b), (.andn, fun a b => a &&& ~~~b),
      (.shl, fun a b => a <<< (b.toNat % 32)), (.shr, fun a b => a >>> (b.toNat % 32)), (.sra, fun a b => a.sshiftRight (b.toNat % 32)),
      (.min, fun a b => if a.toInt < b.toInt then a else b), (.max, fun a b => if a.toInt > b.toInt then a else b),
      (.minu, fun a b => if a.toNat < b.toNat then a else b), (.maxu, fun a b => if a.toNat > b.toNat then a else b)] :
      List ((SRForm → Instr) × (Word → Word → Word))),
    ∀ (f : SRForm) (s : State), guardTrue f.g s.bank = true →
      ∃ t, exec (e.1 f) s = .next t ∧ WritesScalar s t f.d (e.2 (s.bank.rdS f.a) (opB f s.bank))

/-- CLZ, POPC, BFX, BFI, LI, SEL complete with the values of R189 to R192, into s_D and nothing else; CMP with the predicate of R193 under each
of the ten condition codes of R155, and PLOG with that of R194, and nothing else. -/
def Obligations.ScalarFieldResults : Prop :=
  ((∀ (f : SRForm) (s : State), guardTrue f.g s.bank = true →
     (∃ t, exec (.clz f) s = .next t ∧ WritesScalar s t f.d
       (if s.bank.rdS f.a = 0 then 32 else BitVec.ofNat 32 (31 - Nat.log2 (s.bank.rdS f.a).toNat))) ∧
     (∃ t, exec (.popc f) s = .next t ∧ WritesScalar s t f.d
       (BitVec.ofNat 32 ((List.range 32).filter fun i => (s.bank.rdS f.a).getLsbD i).length)) ∧
     (∃ t, exec (.bfx f) s = .next t ∧ WritesScalar s t f.d (bfxWord (f.fn.getLsbD 0) (s.bank.rdS f.a) (opB f s.bank))) ∧
     (∃ t, exec (.bfi f) s = .next t ∧ WritesScalar s t f.d (bfiWord (s.bank.rdS f.d) (s.bank.rdS f.a) (opB f s.bank))) ∧
     ∃ t, exec (.sel f) s = .next t ∧ WritesScalar s t f.d
       (if s.bank.rdP (f.fn.extractLsb' 0 3) != f.fn.getLsbD 3 then s.bank.rdS f.a else opB f s.bank)) ∧
   ∀ (f : LIForm) (s : State), guardTrue f.g s.bank = true →
     ∃ t, exec (.li f) s = .next t ∧ WritesScalar s t f.d (f.x.getD (BitVec.signExtend 32 f.imm14))) ∧
  (∀ (f : SRForm) (s : State), guardTrue f.g s.bank = true →
     (∃ t, exec (.cmp f) s = .next t ∧ WritesPred s t (lo3 f.d) (cmpCond f.fn (s.bank.rdS f.a) (opB f s.bank))) ∧
     (let a := s.bank.rdS f.a
      let b := opB f s.bank
      ∀ e ∈ ([(0, decide (a = b)), (1, decide (a ≠ b)), (2, decide (a.toInt < b.toInt)), (3, decide (b.toInt ≤ a.toInt)),
          (4, decide (a.toInt ≤ b.toInt)), (5, decide (b.toInt < a.toInt)), (6, decide (a.toNat < b.toNat)), (7, decide (b.toNat ≤ a.toNat)),
          (8, decide (a.toNat ≤ b.toNat)), (9, decide (b.toNat < a.toNat))] : List (BitVec 4 × Bool)),
        f.fn = e.1 → ∃ t, exec (.cmp f) s = .next t ∧ WritesPred s t (lo3 f.d) e.2) ∧
     ∃ t, exec (.plog f) s = .next t ∧ WritesPred s t (lo3 f.d)
       (f.fn.getLsbD ((s.bank.rdP (lo3 f.a)).toNat + 2 * (s.bank.rdP (lo3 f.b)).toNat)))

/-- BFX and BFI bit by bit (R191): with pos = b[4:0] and w' = Min(b[10:5], 32 − pos), the extracted field's bits, the copies of its top
bit under sign extension, and the inserted field among the old bits. -/
def Obligations.BitFieldBits : Prop :=
  ∀ (a d old : Word) (i : Nat), i < 32 →
    (bfxWord false a d).getLsbD i = (decide (i < fieldWidth d) && a.getLsbD (fieldPos d + i)) ∧
    (0 < fieldWidth d → (bfxWord true a d).getLsbD i = a.getLsbD (fieldPos d + min i (fieldWidth d - 1))) ∧
    (bfiWord old a d).getLsbD i =
      if fieldPos d ≤ i ∧ i < fieldPos d + fieldWidth d then a.getLsbD (i - fieldPos d) else old.getLsbD i

/-! ### Control transfers and loops -/

/-- BR, BRI, CALL, CALLI and RET complete where the target is a bundle position of the image: BR and CALL name the address of their own
bundle plus OFF20, BRI and CALLI the word address in s_A, RET the one in s31. Control goes to the target when the bundle is complete, a call
leaves the fall-through address for s31, and nothing else changes (R135, R195). For each of the five, a target beyond the image takes the
instruction-range cause, and one to a word of the image that is no bundle position the branch-target cause (R123, R135). That a target below
word 0 takes the instruction-range cause is the model's choice (log 85). -/
def Obligations.Transfers : Prop :=
  ∀ (f : SBForm) (g : SRForm) (s : State),
    ∀ e ∈ ([(.br f, f.g, (s.ctx.addr : Int) + f.off.toInt, none),
        (.call f, f.g, (s.ctx.addr : Int) + f.off.toInt, some (BitVec.ofNat 32 s.ctx.fall)),
        (.bri g, g.g, ((s.bank.rdS g.a).toNat : Int), none),
        (.calli g, g.g, ((s.bank.rdS g.a).toNat : Int), some (BitVec.ofNat 32 s.ctx.fall)),
        (.ret g, g.g, ((s.bank.rdS 31).toNat : Int), none)] : List (Instr × Guard × Int × Option Word)),
      guardTrue e.2.1 s.bank = true →
      (∀ a : Nat, e.2.2.1 = a → a < s.bank.imWords → bundlePosition s s.ctx.core s.bank a = true →
        ∃ t, exec e.1 s = .next t ∧ OnlyBank s t ∧ t.bank = { s.bank with taken := some (BitVec.ofNat 32 a), link := e.2.2.2 }) ∧
      (e.2.2.1 < 0 ∨ (s.bank.imWords : Int) ≤ e.2.2.1 →
        ∃ t, exec e.1 s = .next t ∧ Trapped s t causeInstrRange (stopSlot s)) ∧
      ∀ a : Nat, e.2.2.1 = a → a < s.bank.imWords → bundlePosition s s.ctx.core s.bank a = false →
        ∃ t, exec e.1 s = .next t ∧ Trapped s t causeBranchTarget (stopSlot s)

/-- LOOP, LOOPI with a count and LEXIT complete: the level is set or made inactive, and nothing else changes; with count 0 control passes
to the bundle after LEND (R137, R197, R198). The checks of R137: a LEND that is no bundle position, or not beyond the LOOP bundle, takes the
branch-target cause; then a level that is active, or below an active one, or whose LEND lies beyond that of the highest active level below it,
takes the loop-nesting cause. Where count 0 leads off the image, control takes the instruction-range cause (R123). -/
def Obligations.LoopsComplete : Prop :=
  ∀ (f : SLForm) (s : State), guardTrue f.g s.bank = true →
    (∃ t, exec (.lexit f) s = .next t ∧ OnlyBank s t ∧
      t.bank = s.bank.setLoop f.lvl { s.bank.loop f.lvl with active := false, lc := 0 }) ∧
    (0 < f.endOff.toNat → bundlePosition s s.ctx.core s.bank (s.ctx.addr + f.endOff.toNat) = true →
      levelBusy s.bank f.lvl = false → beyondOuter s.bank f.lvl (s.ctx.addr + f.endOff.toNat) = false →
      ∀ e ∈ ([(.loop, s.bank.rdS f.cnt), (.loopi, f.x.getD 0)] : List ((SLForm → Instr) × Word)),
        (e.2 ≠ 0 → ∃ t, exec (e.1 f) s = .next t ∧ OnlyBank s t ∧
          t.bank = s.bank.setLoop f.lvl ⟨true, e.2, BitVec.ofNat 32 s.ctx.fall, BitVec.ofNat 32 (s.ctx.addr + f.endOff.toNat)⟩) ∧
        (e.2 = 0 → fallThrough s s.ctx.core s.bank (s.ctx.addr + f.endOff.toNat) < s.bank.imWords →
          ∃ t, exec (e.1 f) s = .next t ∧ OnlyBank s t ∧
            t.bank.taken = some (BitVec.ofNat 32 (fallThrough s s.ctx.core s.bank (s.ctx.addr + f.endOff.toNat))) ∧
            (t.bank.loop f.lvl).active = false)) ∧
    ∀ e ∈ ([(.loop, s.bank.rdS f.cnt), (.loopi, f.x.getD 0)] : List ((SLForm → Instr) × Word)),
      let lend := s.ctx.addr + f.endOff.toNat
      let nested := (∃ k : BitVec 2, f.lvl.toNat ≤ k.toNat ∧ (s.bank.loop k).active = true) ∨
        ∃ k : BitVec 2, k.toNat < f.lvl.toNat ∧ (s.bank.loop k).active = true ∧ (s.bank.loop k).lend.toNat < lend ∧
          ∀ j : BitVec 2, k.toNat < j.toNat → j.toNat < f.lvl.toNat → (s.bank.loop j).active = false
      (bundlePosition s s.ctx.core s.bank lend = false ∨ f.endOff.toNat = 0 →
        ∃ t, exec (e.1 f) s = .next t ∧ Trapped s t causeBranchTarget (stopSlot s)) ∧
      (bundlePosition s s.ctx.core s.bank lend = true → 0 < f.endOff.toNat → nested →
        ∃ t, exec (e.1 f) s = .next t ∧ Trapped s t causeLoopNesting (stopSlot s)) ∧
      (bundlePosition s s.ctx.core s.bank lend = true → 0 < f.endOff.toNat → ¬ nested → e.2 = 0 →
        s.bank.imWords ≤ fallThrough s s.ctx.core s.bank lend →
        ∃ t, exec (e.1 f) s = .next t ∧ Trapped s t causeInstrRange (stopSlot s))

/-- The loop levels at the end of a bundle (R138). `hit` says that an active level ends at the bundle. From level 3 down, a level whose count
less one is not 0 takes the back-edge, and lower levels stay; a level whose count reaches 0 becomes inactive; with no back-edge control falls
through. A bundle that takes a transfer leaves every level, and one with a taken CALL also gives s31 its link value (R196), as the bundle is
complete. A bundle with a TEND begins the end of its task (R211); that it too leaves every level is the model's choice (log 102). -/
def Obligations.LoopBackEdge : Prop :=
  ∀ (b : Bank) (addr : Nat),
    let hit := fun l : BitVec 2 => (b.loop l).active = true ∧ (b.loop l).lend.toNat = addr
    let r := loopBack addr [3, 2, 1, 0] b
    (∀ l, hit l → (b.loop l).lc ≠ 1 → (∀ k : BitVec 2, l.toNat < k.toNat → hit k → (b.loop k).lc = 1) →
      r.1 = some (b.loop l).lstart ∧ r.2.loop l = { b.loop l with lc := (b.loop l).lc - 1 } ∧
        (∀ k : BitVec 2, l.toNat < k.toNat → hit k → r.2.loop k = { b.loop k with lc := 0, active := false }) ∧
        ∀ k : BitVec 2, k ≠ l → k.toNat < l.toNat ∨ ¬ hit k → r.2.loop k = b.loop k) ∧
    ((∀ k, hit k → (b.loop k).lc = 1) →
      r.1 = none ∧ ∀ k, r.2.loop k = { b.loop k with
        lc := if (b.loop k).active && (b.loop k).lend.toNat = addr then 0 else (b.loop k).lc
        active := (b.loop k).active && !decide ((b.loop k).lend.toNat = addr) }) ∧
    r.2 = { b with loops := r.2.loops } ∧
    ∀ fall stop is,
      let c := completeBank addr fall stop is b
      (∀ d, c.rdS d = match b.link with | some v => (if d = 31 then v else b.rdS d) | none => b.rdS d) ∧ c.link = none ∧ c.taken = none ∧
      (b.tended = false → b.taken = none → c.pc = r.1.getD (BitVec.ofNat 32 fall) ∧ c.loops = r.2.loops ∧ c.status = b.status) ∧
      (b.tended = false → ∀ v, b.taken = some v → c.pc = v ∧ c.loops = b.loops ∧ c.status = b.status) ∧
      (b.tended = true → c.status = .ending ∧ c.pc = BitVec.ofNat 32 addr ∧ c.loops = b.loops)

/-! ### Scalar memory -/

/-- The scalar loads complete at an aligned address in range whose words are not poisoned: s_D receives the little-endian value, extended
as R200 says, and nothing else changes; LDD receives both words of its pair. -/
def Obligations.ScalarLoadsComplete : Prop :=
  ∀ (f : SMForm) (s : State) (k : Nat), guardTrue f.g s.bank = true →
    (∀ e ∈ ([(.ldw, 4, fun v => BitVec.ofNat 32 v), (.ldh, 2, fun v => BitVec.signExtend 32 (BitVec.ofNat 16 v)),
        (.ldhu, 2, fun v => BitVec.ofNat 32 v), (.ldb, 1, fun v => BitVec.signExtend 32 (BitVec.ofNat 8 v)),
        (.ldbu, 1, fun v => BitVec.ofNat 32 v)] : List ((SMForm → Instr) × Nat × (Nat → Word))),
      smFormAddr f s.bank e.2.1 % e.2.1 = 0 → localKey s s.ctx.core s.bank (smFormAddr f s.bank e.2.1) = some k →
        poisoned s k e.2.1 = false →
        ∃ t, exec (e.1 f) s = .next t ∧ WritesScalar s t f.d (e.2.2 (readNat s k e.2.1))) ∧
    (smFormAddr f s.bank 8 % 8 = 0 → localKey s s.ctx.core s.bank (smFormAddr f s.bank 8) = some k → poisoned s k 8 = false →
      f.d.toNat % 2 = 0 →
      ∃ t, exec (.ldd f) s = .next t ∧ OnlyBank s t ∧ t.bank = { s.bank with s := t.bank.s } ∧
        ∀ r, t.bank.rdS r = if r = f.d + 1 then BitVec.ofNat 32 (readNat s (k + 4) 4)
          else if r = f.d ∧ f.d ≠ 0 then BitVec.ofNat 32 (readNat s k 4) else s.bank.rdS r)

/-- The scalar stores complete at an aligned address in range: the stored bytes are the little-endian low bytes of the source, at the
key of the instruction's own address, and nothing else changes (R199 to R201). -/
def Obligations.ScalarStoresComplete : Prop :=
  ∀ (f : SMForm) (s : State) (k : Nat), guardTrue f.g s.bank = true →
    ∀ e ∈ ([(.stw, 4, leBytes 4 (s.bank.rdS f.d).toNat), (.sth, 2, leBytes 2 (s.bank.rdS f.d).toNat),
        (.stb, 1, leBytes 1 (s.bank.rdS f.d).toNat), (.std, 8, leBytes 8 (s.bank.rdPair f.d).toNat)] :
        List ((SMForm → Instr) × Nat × List Byte)),
      smFormAddr f s.bank e.2.1 % e.2.1 = 0 → localKey s s.ctx.core s.bank (smFormAddr f s.bank e.2.1) = some k →
      ∃ t, exec (e.1 f) s = .next t ∧ StoresBytes s t k e.2.2

/-- LDS, STF and FECLR complete with their full/empty bits: LDS writes s_D and with E = 1 empties the word, STF stores the word and sets it
full, FECLR empties it; no other word's bit changes (R203). -/
def Obligations.FullEmptyAccesses : Prop :=
  (∀ (f : LDSForm) (s : State) (k : Nat), guardTrue f.g s.bank = true → ldsAddr f s.bank % 4 = 0 →
    localKey s s.ctx.core s.bank (ldsAddr f s.bank) = some k → poisoned s k 4 = false →
    ∃ t, exec (.lds f) s = .next t ∧ (∀ r, t.bank.rdS r = if r = f.d ∧ f.d ≠ 0 then BitVec.ofNat 32 (readNat s k 4) else s.bank.rdS r) ∧
      t.bank = { s.bank with s := t.bank.s } ∧ (∀ w, w ∈ t.full ↔ w ∈ s.full ∧ ¬ (f.e = true ∧ w = k)) ∧
      OnlyBank s { t with full := s.full }) ∧
  ∀ (f : SMForm) (s : State) (k : Nat), guardTrue f.g s.bank = true → smFormAddr f s.bank 4 % 4 = 0 →
    localKey s s.ctx.core s.bank (smFormAddr f s.bank 4) = some k →
    (∃ t, exec (.stf f) s = .next t ∧ StoresBytes s { t with full := s.full } k (leBytes 4 (s.bank.rdS f.d).toNat) ∧
      ∀ w, w ∈ t.full ↔ w = k ∨ w ∈ s.full) ∧
    ∃ t, exec (.feclr f) s = .next t ∧ t = { s with full := t.full } ∧ ∀ w, w ∈ t.full ↔ w ≠ k ∧ w ∈ s.full

/-- The scratchpad atomics complete: the old word goes to s_D, the new word is stored at the same place, ACAS stores only where the old word
equals s_D, and the word's full/empty bit stays (R204). -/
def Obligations.AtomicsComplete : Prop :=
  ∀ (f : SMForm) (s : State) (k : Nat), guardTrue f.g s.bank = true → smFormAddr f s.bank 4 % 4 = 0 →
    localKey s s.ctx.core s.bank (smFormAddr f s.bank 4) = some k → poisoned s k 4 = false →
    ∀ old : Word, old = BitVec.ofNat 32 (readNat s k 4) →
    ∀ e ∈ ([(.aadd, old + s.bank.rdS f.d), (.amax, if old.toInt < (s.bank.rdS f.d).toInt then s.bank.rdS f.d else old),
        (.aor, old ||| s.bank.rdS f.d), (.axch, s.bank.rdS f.d),
        (.acas, if old = s.bank.rdS f.d then s.bank.rdS (f.d + 1) else old)] : List ((SMForm → Instr) × Word)),
      ∃ t, exec (e.1 f) s = .next t ∧ (∀ i, i < 4 → Memory.get t.mem (k + i) = BitVec.ofNat 8 (e.2.toNat / 2 ^ (8 * i))) ∧
        SameOutside s t k 4 ∧ t.full = s.full ∧
        (∀ r, t.bank.rdS r = if r = f.d ∧ f.d ≠ 0 then old else s.bank.rdS r) ∧ t.bank = { s.bank with s := t.bank.s } ∧
        (∀ w, w ∈ t.poison ↔ w ∈ s.poison) ∧
        OnlyBank s { t with mem := s.mem, poison := s.poison }

/-- A scalar access traps: misaligned with cause 0x08, out of the local address map with cause 0x09, and a load of a poisoned word with cause
0x0E; registers and memory stay (R199, R470). So does LDS, which reads (R203). -/
def Obligations.ScalarAccessesTrap : Prop :=
  (∀ (f : LDSForm) (s : State), guardTrue f.g s.bank = true →
    let a := ldsAddr f s.bank
    (a % 4 ≠ 0 → ∃ t, exec (.lds f) s = .next t ∧ Trapped s t causeMisaligned (stopSlot s)) ∧
    (a % 4 = 0 → localKey s s.ctx.core s.bank a = none → ∃ t, exec (.lds f) s = .next t ∧ Trapped s t causeAddrRange (stopSlot s)) ∧
    ∀ k, a % 4 = 0 → localKey s s.ctx.core s.bank a = some k → poisoned s k 4 = true →
      ∃ t, exec (.lds f) s = .next t ∧ Trapped s t causePoison (stopSlot s)) ∧
  ∀ (f : SMForm) (s : State), guardTrue f.g s.bank = true →
    ∀ e ∈ ([(.ldw, 4, true), (.ldh, 2, true), (.ldhu, 2, true), (.ldb, 1, true), (.ldbu, 1, true), (.ldd, 8, true),
        (.stw, 4, false), (.sth, 2, false), (.stb, 1, false), (.std, 8, false), (.stf, 4, false), (.feclr, 4, false),
        (.aadd, 4, true), (.amax, 4, true), (.aor, 4, true), (.axch, 4, true), (.acas, 4, true)] : List ((SMForm → Instr) × Nat × Bool)),
      let a := smFormAddr f s.bank e.2.1
      (a % e.2.1 ≠ 0 → ∃ t, exec (e.1 f) s = .next t ∧ Trapped s t causeMisaligned (stopSlot s)) ∧
      (a % e.2.1 = 0 → localKey s s.ctx.core s.bank a = none →
        ∃ t, exec (e.1 f) s = .next t ∧ Trapped s t causeAddrRange (stopSlot s)) ∧
      ∀ k, a % e.2.1 = 0 → localKey s s.ctx.core s.bank a = some k → e.2.2 = true → poisoned s k e.2.1 = true →
        ∃ t, exec (e.1 f) s = .next t ∧ Trapped s t causePoison (stopSlot s)

/-! ### Rings and address registers -/

/-- The ring instructions complete on ring IMM10[3:0]: RPOP and RTRY pop a FILLED slot for which no other reader asked before and give its address,
RTRY gives all ones where there is none, RCLAIM takes the slot at the fill position where one is free and no other filler asked before, RFILL and
RREL mark and release the task's oldest, RSTAT counts (R205, R206). That RTRY gives all ones for a FILLED slot that the matrix array has asked for
is the model's reading (log 36). -/
def Obligations.RingsComplete : Prop :=
  ∀ (f : SYForm) (s : State) (r : Ring), guardTrue f.g s.bank = true → s.bank.ring f.imm.toNat = some r →
    (∀ e ∈ ([.rpop, .rtry] : List (SYForm → Instr)), r.canRead .task = true →
      ∃ t, exec (e f) s = .next t ∧ OnlyBank s t ∧
        t.bank = (s.bank.modRing f.imm.toNat fun r => (r.readDone .task).pop .task).wrS f.d (BitVec.ofNat 32 (r.slotAddr r.popPos))) ∧
    (r.canRead .task = false → ∃ t, exec (.rtry f) s = .next t ∧ WritesScalar s t f.d 0xFFFFFFFF) ∧
    (r.canTake .task = true → ∃ t, exec (.rclaim f) s = .next t ∧ OnlyBank s t ∧
      t.bank = (s.bank.modRing f.imm.toNat fun r => (r.answered .task).take .task).wrS f.d (BitVec.ofNat 32 (r.slotAddr r.fillPos))) ∧
    (r.holds .task = true → ∃ t, exec (.rrel f) s = .next t ∧ OnlyBank s { t with changed := s.changed, passing := s.passing } ∧
      t.bank = s.bank.modRing f.imm.toNat fun r => r.release .task) ∧
    (r.fills .task = true → ∃ t, exec (.rfill f) s = .next t ∧ OnlyBank s t ∧
      t.bank = { s.bank.modRing f.imm.toNat (fun r => r.fill .task) with events := s.bank.events ||| 1 }) ∧
    ∃ t, exec (.rstat f) s = .next t ∧ WritesScalar s t f.d r.counts

/-- The three positions of a ring (R205, R206): a pop advances the pop position alone, a claim the fill position alone, a mark none of them.
A release moves neither the pop nor the fill position: it marks the holder's oldest slot that is not released, and from the release position on
every released slot becomes FREE and the release position advances past it, up to the first slot that its holder still holds. -/
def Obligations.RingPositions : Prop :=
  ∀ (r : Ring) (h : Holder) (g : Filler), r.rel < r.count →
    (r.canPop = true → (r.pop h).popPos = (r.popPos + 1) % r.count ∧ (r.pop h).fillPos = r.fillPos ∧ (r.pop h).rel = r.rel) ∧
    ((r.take g).fillPos = (r.fillPos + 1) % r.count ∧ (r.take g).popPos = r.popPos ∧ (r.take g).rel = r.rel) ∧
    ((r.fill g).fillPos = r.fillPos ∧ (r.fill g).popPos = r.popPos ∧ (r.fill g).rel = r.rel ∧ (r.fill g).filled = r.filled + (if r.fills g then 1 else 0)) ∧
    ((r.release h).popPos = r.popPos ∧ (r.release h).fillPos = r.fillPos ∧ r.free ≤ (r.release h).free ∧ (r.release h).taken = r.taken) ∧
    (∃ k, k ≤ r.held.length ∧ (r.release h).rel = (r.rel + k) % r.count ∧
      let marked := markFirst (fun t : HeldSlot => decide (t.holder = h) && !t.released) (fun t => { t with released := true }) r.held
      (r.release h).held = marked.drop k ∧ (∀ x ∈ marked.take k, x.released = true) ∧
        ∀ x, (r.release h).held.head? = some x → x.released = false)

/-- ASET writes one field of an address register and AINC steps its BASE; nothing else changes. A step without MODULO advances BASE by the
increment modulo 2^32; with it, BASE stays within MODULO bytes of ORG, at a distance that differs from the advanced one by a multiple of
MODULO (R207). -/
def Obligations.AddressRegisterResults : Prop :=
  (∀ (f : SYForm) (s : State), guardTrue f.g s.bank = true →
     (∃ t, exec (.aset f) s = .next t ∧ OnlyBank s t ∧ t.bank = { s.bank with a := t.bank.a } ∧
       ∀ r, t.bank.rdA r = if r ≠ lo3 f.d then s.bank.rdA r
         else if f.imm.toNat = 0 then { s.bank.rdA r with base := s.bank.rdS f.a, org := s.bank.rdS f.a }
         else if f.imm.toNat = 1 then { s.bank.rdA r with stride := s.bank.rdS f.a }
         else if f.imm.toNat = 2 then { s.bank.rdA r with modulo := s.bank.rdS f.a }
         else { s.bank.rdA r with swizzle := (s.bank.rdS f.a).getLsbD 0 }) ∧
     ∃ t, exec (.ainc f) s = .next t ∧ OnlyBank s t ∧ t.bank = { s.bank with a := t.bank.a } ∧
       ∀ r, t.bank.rdA r = if r ≠ lo3 f.d then s.bank.rdA r
         else (s.bank.rdA r).step (if f.a = 0 then (s.bank.rdA r).stride.toInt else (s.bank.rdS f.a).toInt)) ∧
  (∀ (a : AddrReg) (inc : Int),
     (a.modulo = 0 → (a.step inc).base = a.base + BitVec.ofInt 32 inc) ∧
     (a.modulo ≠ 0 → ∃ k : Nat, k < a.modulo.toNat ∧ (a.step inc).base = a.org + BitVec.ofNat 32 k ∧
       ((k : Int) - ((a.base.toNat : Int) - a.org.toNat + inc)) % a.modulo.toNat = 0) ∧
     (a.step inc).stride = a.stride ∧ (a.step inc).modulo = a.modulo ∧ (a.step inc).swizzle = a.swizzle ∧ (a.step inc).org = a.org)

/-! ### Control registers and the system instructions -/

/-- MFC completes, where the register holds no poison (R470: otherwise it takes the poison-consumed cause): s_D receives the control register
of R121 and nothing else changes; a read of TIMEL also latches the high half of the same time for TIMEH (R122, R208), and a read of TIMEH uses
that latch up (the model's reading, log 47). MTC completes (R121, R208): RND takes a mode of 0 to 4 and keeps its value
otherwise, FLAGS is replaced, MHOLDC takes a value of at most 1,023, a mailbox takes the word, and every other listed register ignores the
write; a register written holds no poison after it (the model's reading, log 31). -/
def Obligations.ControlRegisterAccesses : Prop :=
  (∀ (f : SYForm) (s : State), guardTrue f.g s.bank = true → f.imm.toNat ∈ s.bank.psn →
     ∃ t, exec (.mfc f) s = .next t ∧ Trapped s t causePoison (stopSlot s)) ∧
  (∀ (f : SYForm) (s : State), guardTrue f.g s.bank = true → f.imm.toNat ∉ s.bank.psn →
     (f.imm ≠ 0x00A → f.imm ≠ 0x00B → ∃ t, exec (.mfc f) s = .next t ∧ WritesScalar s t f.d (readCtl s f.imm.toNat)) ∧
     (f.imm = 0x00A → ∃ t, exec (.mfc f) s = .next t ∧ OnlyBank s t ∧
       t.bank = { s.bank.wrS f.d (BitVec.ofNat 32 (taiNs s)) with timeh := some (BitVec.ofNat 32 (taiNs s / 2 ^ 32)) }) ∧
     (f.imm = 0x00B → ∃ t, exec (.mfc f) s = .next t ∧ OnlyBank s t ∧
       t.bank = { s.bank.wrS f.d (s.bank.timeh.getD (BitVec.ofNat 32 (taiNs s / 2 ^ 32))) with timeh := none }) ∧
     ∀ e ∈ ([(0x000, tsw (s.core s.ctx.core) s.ctx.bank), (0x001, s.bank.taskid), (0x002, s.bank.gangRank), (0x003, s.bank.gangSize),
         (0x004, s.bank.launch), (0x005, s.bank.gen), (0x006, s.bank.rnd.setWidth 32), (0x007, s.bank.flags.setWidth 32),
         (0x008, BitVec.ofNat 32 (s.bank.cyc (s.clk s.ctx.core))), (0x009, BitVec.ofNat 32 (s.bank.budget - s.bank.cyc (s.clk s.ctx.core))),
         (0x00C, let x := s.field (fieldOf s.ctx.core)
           BitVec.ofNat 32 (x.refCur % 16 * 2 ^ 28 + (x.refCur + 1) % 16 * 2 ^ 24 + (if x.refAct then 2 ^ 23 else 0) +
             (1024 - s.now % 1024) % 1024)),
         (0x00D, (s.cluster (s.ctx.core / 4)).mholdc.setWidth 32), (0x00E, s.bank.iaddr)] ++
         (List.finRange 16).map (fun i => (0x010 + i.val, s.bank.mbx.get i)) ++
         (List.finRange 4).flatMap (fun l =>
           let v := s.bank.loop (BitVec.ofFin l)
           [(0x020 + l.val, v.lc), (0x024 + l.val, v.lstart), (0x028 + l.val, v.lend)]) ++
         (List.finRange 16).flatMap (fun k => match s.bank.ring k.val with
           | none => [(0x040 + 4 * k.val, 0), (0x041 + 4 * k.val, 0), (0x042 + 4 * k.val, 0), (0x043 + 4 * k.val, 0)]
           | some r => [(0x040 + 4 * k.val, BitVec.ofNat 32 r.base),
               (0x041 + 4 * k.val,
                 BitVec.ofNat 32 ((if msrc s s.ctx.core s.ctx.bank k.val then 256 else 0) + r.lsize * 16 + r.lslots)),
               (0x042 + 4 * k.val, BitVec.ofNat 32 (r.rel * 2 ^ 16 + r.fillPos * 2 ^ 8 + r.popPos)),
               (0x043 + 4 * k.val, BitVec.ofNat 32 (r.filled + r.free * 2 ^ 9 + r.held.length * 2 ^ 18))]) :
         List (Nat × Word)), readCtl s e.1 = e.2) ∧
  (∀ (f : SYForm) (s : State) (v : Word), guardTrue f.g s.bank = true → s.bank.rdS f.a = v →
     (f.imm = 0x006 → ∃ t, exec (.mtc f) s = .next t ∧ OnlyBank s t ∧
       t.bank = if v.toNat % 8 ≤ 4 then { s.bank with rnd := BitVec.ofNat 3 v.toNat, psn := sdel s.bank.psn 0x006 } else s.bank) ∧
     (f.imm = 0x007 → ∃ t, exec (.mtc f) s = .next t ∧ OnlyBank s t ∧
       t.bank = { s.bank with flags := v.extractLsb' 0 5, psn := sdel s.bank.psn 0x007 }) ∧
     (f.imm = 0x00D → v.toNat ≤ 1023 → ∃ t, exec (.mtc f) s = .next t ∧
       t = (s.modCluster (s.ctx.core / 4) fun k => { k with mholdc := v.extractLsb' 0 10 }).modBank fun b =>
         { b with psn := sdel b.psn 0x00D }) ∧
     (∀ i : Fin 16, f.imm.toNat = 0x010 + i.val → ∃ t, exec (.mtc f) s = .next t ∧ OnlyBank s t ∧
       t.bank = { s.bank with mbx := s.bank.mbx.set i.val v, psn := sdel s.bank.psn (0x010 + i.val) }) ∧
     (f.imm ≠ 0x006 → f.imm ≠ 0x007 → (f.imm = 0x00D → 1023 < v.toNat) → (f.imm.toNat < 0x010 ∨ 0x01F < f.imm.toNat) →
       exec (.mtc f) s = .next s))

/-- FENCE, TEND, WAITE, SPAUSE, BKPT, GBAR and TRACE complete with the effects of R210 to R218: BKPT away from a debugger does nothing; under
DEN and BRKEN the core halts with the tag before the next slot, which SR names, or when the bundle is complete where no slot follows (R213).
A WAITE whose event has not occurred is held by its bundle's hold; with a limit in s_A, once it has blocked for that many cycles of the running
bank it blocks no more and leaves the bit unchanged (R215); that the cycles count from when the task is found blocked is the model's reading
(log 24). A bundle is held at issue by each of its slots whose guard holds and whose condition does not yet hold (R186, R203, R206, R210, R215, R216,
R249, R322, R352, R390), and a bundle that is held does not issue; a TEND holds the end of its task until the work of the task has completed (R211). What holds a FENCE at a
scope is an operation of the task that is not complete and whose effects belong to the scope (R438), an MDRAIN or MSTAT whose rows are not all
written, words of a selection not yet written, or, at SYSTEM, a cut-edge publication that the peer wafer has not accepted. -/
def Obligations.SystemInstructionsComplete : Prop :=
  (∀ (is : List (Nat × Instr)) (s : State) (k : Nat) (i : Instr), (k, i) ∈ is → slotLive s.bank i = true → ownHold i s ≠ .go →
    bundleHold is s ≠ .go) ∧
  (∀ (s : State),
    (∀ f : SYForm,
      (fenceWaits f.imm.toNat s = true → ownHold (.fence f) s = .block) ∧
      (s.bank.events.getLsbD f.imm.toNat = false → s.bank.waitOver = false → ownHold (.waite f) s = .block) ∧
      (fenceWaits 1 s = true ∨ (1 < s.bank.gangSize.toNat ∧ ∃ g, kget s.gangs s.bank.gangId = some g ∧
          g.broken (s.bank.gbars + 1) = false ∧ ∃ k, k < g.cores.length ∧ g.reach k < s.bank.gbars + 1) → ownHold (.gbar f) s = .block) ∧
      ∀ r, s.bank.ring f.imm.toNat = some r →
        (r.canRead .task = false → ownHold (.rpop f) s = .block) ∧ (r.canTake .task = false → ownHold (.rclaim f) s = .block)) ∧
    (∀ (f : LDSForm) (w : Nat), ldsAddr f s.bank % 4 = 0 → localKey s s.ctx.core s.bank (ldsAddr f s.bank) = some w → isFull s w = false →
      ownHold (.lds f) s = .block) ∧
    (∀ (f : VMForm) (w : Nat), w ∈ vldsWords f s → isFull s w = false → ownHold (.vlds f) s = .block) ∧
    (∀ f : CForm, (s.bank.group f.grp.toNat).out ≠ 0 → ownHold (.cwait f) s = .block) ∧
    (∀ f : MForm, matrixBusy s s.ctx.core s.ctx.bank (fun q => (MOp.names q).any (waitTiles f).contains || (MForm.zf f && MOp.loads q)) = true →
      ownHold (.mwait f) s = .block) ∧
    ∀ (f : CForm) (k : Nat), 4 ≤ k → guardTrue f.g s.bank = true → 0 < f.len → f.len ≤ 4096 →
      freeRun (slotsInUse s s.ctx.core s.ctx.bank) ((f.len + 511) / 512) = none → bundleHold [(k, .cget f)] s ≠ .go) ∧
  (∀ (n : Nat) (s : State),
    let drains := fun (q : MOp) => q.bank = s.ctx.bank ∧ (q.kind = .mdrain ∨ q.kind = .mstat) ∧ drainScope s s.ctx.core q ≤ n
    fenceWaits n s = true ↔
      (∃ o, o ∈ s.ops ∧ o.2.core = s.ctx.core ∧ o.2.bank = s.ctx.bank ∧ o.2.ofTask = true ∧ o.2.scope ≤ n) ∨
      (∃ q, q ∈ (s.core s.ctx.core).queue ∧ drains q) ∨ (∃ p, p ∈ (s.core s.ctx.core).port ∧ drains p.op) ∨
      (∃ q, q ∈ (s.core s.ctx.core).sel ∧ q.bank = s.ctx.bank ∧ q.writes ≠ [] ∧ selScope s.ctx.core q ≤ n) ∨
      (n = 4 ∧ crossingOut s s.bank.task none = true)) ∧
  (∀ (o : COp), o.scope = match o.kind with
    | .load => if o.loc / 2 ^ 64 = (Space.spad o.core).index then 0 else 1
    | .ring => 0
    | .publish => 2
    | .store => 3
    | .atomic => 3
    | _ => 5) ∧
  (∀ (s : State) (n : Nat) (p : Packet) (g : Option Nat), p.org = .task n g → p.kind ≠ 2 → p.kind ≠ 3 → cutPeers s p ≠ [] →
    (Event.publicationAtHome p ∈ s.agenda ∨ Event.rowAtHome p ∈ s.agenda → crossingOut s n none = true) ∧
      ∀ w, Event.cutEdgeCrossing w p false ∈ s.agenda → crossingOut s n none = true) ∧
  (∀ s c b, issueHold c b s ≠ .go → issuing s c ≠ some b) ∧
  (∀ s c b f u, heldWaite s c b = some f → ((s.core c).bank b).blockedSince = some u →
    f.a ≠ 0 ∧ guardTrue f.g ((s.core c).bank b) = true ∧ ((s.core c).bank b).events.getLsbD f.imm.toNat = false ∧
      (waiteOver s c b = true ↔ u + (((s.core c).bank b).rdS f.a).toNat ≤ ((s.core c).bank b).cyc (s.clk c))) ∧
  (∀ (f : SYForm) (s : State), s.bank.waitOver = true → ownHold (.waite f) s = .go) ∧
  (∀ s c b, bankEnds s c b = true → ((s.core c).bank b).status = .ending ∧ matrixBusy s c b (fun _ => true) = false ∧
    ∀ o ∈ s.ops, o.2.core = c → o.2.bank = b → o.2.ofTask = false) ∧
  (∀ (f : SYForm) (s : State), guardTrue f.g s.bank = true → (s.core s.ctx.core).dbg.den = true → (s.core s.ctx.core).dbg.brken = true →
    ∃ t, exec (.bkpt f) s = .next t ∧ SameMemory s t ∧ t.bank.s = s.bank.s ∧ t.bank.v = s.bank.v ∧ t.bank.status = s.bank.status ∧
      (t.core s.ctx.core).dbg.tag = f.imm ∧
      (∀ k r, s.ctx.later = k :: r → t.ctx.stopped = true ∧ t.bank.sr = k ∧ t.bank.iaddr = BitVec.ofNat 32 s.ctx.addr ∧
        (t.core s.ctx.core).dbg.halted = true ∧ (t.core s.ctx.core).dbg.reason = .bkpt) ∧
      (s.ctx.later = [] → t.ctx = { s.ctx with bkpt := true } ∧
        ∀ x, ((completeBundle x t).core s.ctx.core).dbg.halted = true ∧ ((completeBundle x t).core s.ctx.core).dbg.reason = .bkpt ∧
          (completeBundle x t).bank.sr = 0)) ∧
  ∀ (f : SYForm) (s : State), guardTrue f.g s.bank = true →
    exec (.fence f) s = .next s ∧
    (∃ t, exec (.tend f) s = .next t ∧ OnlyBank s t ∧ t.bank = { s.bank with status := .ending, tended := true }) ∧
    (∃ t, exec (.waite f) s = .next t ∧ OnlyBank s t ∧ t.bank = { s.bank with events := t.bank.events, waitOver := false } ∧
      ∀ j, j < 16 → t.bank.events.getLsbD j =
        (s.bank.events.getLsbD j && (s.bank.waitOver || !decide (j = f.imm.toNat)))) ∧
    (∃ t, exec (.spause f) s = .next t ∧ OnlyBank s t ∧
      t.bank = { s.bank with pauseUntil := s.clk s.ctx.core + f.imm.toNat + 1 }) ∧
    ((s.core s.ctx.core).dbg.den = false ∨ (s.core s.ctx.core).dbg.brken = false → exec (.bkpt f) s = .next s) ∧
    (s.bank.gangSize.toNat ≤ 1 ∨ (∀ g, kget s.gangs s.bank.gangId = some g → g.broken (s.bank.gbars + 1) = false) →
      ∃ t, exec (.gbar f) s = .next t ∧ OnlyBank s t ∧ t.bank = { s.bank with gbars := s.bank.gbars + 1 }) ∧
    ((s.field (fieldOf s.ctx.core)).trace.clen.getLsbD 0 = true → (s.core s.ctx.core).traceQ.length < 4 →
      ∃ t, exec (.trace f) s = .next t ∧ t.mem = s.mem ∧ t.bank = s.bank ∧
        (t.core s.ctx.core).traceQ = (s.core s.ctx.core).traceQ ++
          [⟨taiNs s, 0x8000 + f.imm.setWidth 16, sourceOf s.ctx.core s.ctx.bank, s.bank.launch, s.bank.taskid,
            leBytes 4 (s.bank.rdS f.a).toNat ++ leBytes 4 (s.bank.rdS (f.a + 1)).toNat ++ leBytes 4 (s.bank.rdS (f.a + 2)).toNat⟩]) ∧
    ((s.field (fieldOf s.ctx.core)).trace.clen.getLsbD 0 = false → exec (.trace f) s = .next s)

/-- TRAP takes the software-trap cause at its slot; a GBAR that a member of the gang can no longer reach takes the gang-barrier cause; a ring
instruction on a ring at or beyond NRING takes the ring-range cause, and RREL or RFILL with no slot to release or mark the ring-underflow cause
(R206, R212, R216). -/
def Obligations.SystemTraps : Prop :=
  (∀ (f : SYForm) (s : State), guardTrue f.g s.bank = true →
     (∃ t, exec (.trap f) s = .next t ∧ Trapped s t causeSoftware (stopSlot s)) ∧
     ∀ g, 1 < s.bank.gangSize.toNat → kget s.gangs s.bank.gangId = some g → g.broken (s.bank.gbars + 1) = true →
       ∃ t, exec (.gbar f) s = .next t ∧ Trapped s t causeGangBarrier (stopSlot s)) ∧
  (∀ (f : SYForm) (s : State), guardTrue f.g s.bank = true →
     (s.bank.ring f.imm.toNat = none → ∀ e ∈ ([.rpop, .rtry, .rrel, .rclaim, .rfill, .rstat] : List (SYForm → Instr)),
       ∃ t, exec (e f) s = .next t ∧ Trapped s t causeRingRange (stopSlot s)) ∧
     ∀ r, s.bank.ring f.imm.toNat = some r →
       (r.holds .task = false → ∃ t, exec (.rrel f) s = .next t ∧ Trapped s t causeRingUnderflow (stopSlot s)) ∧
       (r.fills .task = false → ∃ t, exec (.rfill f) s = .next t ∧ Trapped s t causeRingUnderflow (stopSlot s)))

/-- A trap aborts the launch with cause 0x02 and the trap's code and source, unless a debugger with DEN and TRAPHALT holds the core: then the
core halts with the cause in DBGSTAT, which names the running bank, and no launch is aborted (R465, R477, R478). A copy that meets PF of its
group takes the page-wait cause: the bank is in page wait on the group at its C slot, and no launch is aborted (R466); that no trace record is
emitted then is the model's reading (log 30). -/
def Obligations.TrapEntry : Prop :=
  (∀ (s : State) (code : BitVec 8) (sr : Nat) (user : BitVec 16),
     let t := takeTrapWith s code sr user
     Trapped s t code sr ∧
     (((s.core s.ctx.core).dbg.den && (s.core s.ctx.core).dbg.traphalt) = false →
       t.aborts = s.aborts ++ [⟨s.bank.launch.toNat, 0x02, (BitVec.setWidth 16 code ++ sourceOf s.ctx.core s.ctx.bank : BitVec 32), s.now⟩] ∧
         (t.core s.ctx.core).dbg = (s.core s.ctx.core).dbg) ∧
     (((s.core s.ctx.core).dbg.den && (s.core s.ctx.core).dbg.traphalt) = true →
       t.aborts = s.aborts ∧ (t.core s.ctx.core).dbg.halted = true ∧ (t.core s.ctx.core).dbg.reason = .trap ∧
         (t.core s.ctx.core).dbg.tcause = code ∧ (t.core s.ctx.core).dbg.hbank = (s.core s.ctx.core).running.getD s.ctx.bank)) ∧
  (∀ (s : State) (g : Nat), ∃ t, takePageWait s g = t ∧ t.bank.status = .pageWait g ∧ t.bank.cause = 0x19 ∧ t.bank.sr = (stopSlot s) ∧
     t.bank.iaddr = BitVec.ofNat 32 s.ctx.addr ∧ t.bank.s = s.bank.s ∧ t.ctx.stopped = true ∧ t.aborts = s.aborts ∧ SameMemory s t ∧
     t.core s.ctx.core = (s.core s.ctx.core).modBank s.ctx.bank fun _ => t.bank)


/-! ### Vector arithmetic -/

/-- The lane-wise float instructions complete, with the lane values whose rounding `FloatValues` states: each active lane receives the result of the
operation in the effective rounding mode (VX.RM, or RND as it stood at issue), and the flags of the active lanes are ORed into FLAGS (R53, R55,
R244, R250 to R252, R254, R255, R284). -/
def Obligations.FloatLaneResults : Prop :=
  ∀ e ∈ ([(.vfaddF32, .f32, fAdd .f32), (.vfaddBf16, .bf16, fAdd .bf16), (.vfaddF16, .f16, fAdd .f16),
      (.vfsubF32, .f32, fSub .f32), (.vfsubBf16, .bf16, fSub .bf16), (.vfsubF16, .f16, fSub .f16),
      (.vfmulF32, .f32, fMul .f32), (.vfmulBf16, .bf16, fMul .bf16), (.vfmulF16, .f16, fMul .f16),
      (.vfmaF32, .f32, fMa .f32), (.vfmaBf16, .bf16, fMa .bf16), (.vfmaF16, .f16, fMa .f16),
      (.vfmsF32, .f32, fMs .f32), (.vfmsBf16, .bf16, fMs .bf16), (.vfmsF16, .f16, fMs .f16),
      (.vfnmaF32, .f32, fNma .f32), (.vfnmaBf16, .bf16, fNma .bf16), (.vfnmaF16, .f16, fNma .f16),
      (.vfminF32, .f32, fun _ a b _ => FFmt.minMax .f32 false a b), (.vfminBf16, .bf16, fun _ a b _ => FFmt.minMax .bf16 false a b),
      (.vfminF16, .f16, fun _ a b _ => FFmt.minMax .f16 false a b), (.vfmaxF32, .f32, fun _ a b _ => FFmt.minMax .f32 true a b),
      (.vfmaxBf16, .bf16, fun _ a b _ => FFmt.minMax .bf16 true a b), (.vfmaxF16, .f16, fun _ a b _ => FFmt.minMax .f16 true a b),
      (.vfclampF32, .f32, fun _ a b d => fClamp .f32 a b d), (.vfclampBf16, .bf16, fun _ a b d => fClamp .bf16 a b d),
      (.vfclampF16, .f16, fun _ a b d => fClamp .f16 a b d),
      (.vexp2, .f32, fFun .exp2), (.vlog2, .f32, fFun .log2), (.vrcp, .f32, fFun .rcp), (.vrsq, .f32, fFun .rsq),
      (.vsqrt, .f32, fFun .sqrt), (.vfrnd, .f32, fRnd), (.vlerpF32, .f32, fLerp .f32), (.vlerpBf16, .bf16, fLerp .bf16)] :
      List ((VRForm → Instr) × FFmt × (RMode → Nat → Nat → Nat → Nat × Fl))),
    ∀ (f : VRForm) (s : State), guardTrue f.g s.bank = true →
      let r := fun i => e.2.2 (effMode f.rm s.bank.issueRnd) (lane (s.bank.rdV f.a) i e.2.1.bits) (lane (s.bank.rdV f.b) i e.2.1.bits)
        (lane (s.bank.rdV f.d) i e.2.1.bits)
      ∃ t, exec (e.1 f) s = .next t ∧ WritesLanes s t f.d e.2.1.bits (s.bank.rdM f.msk) (fun i => (r i).1)
        (Fl.all (((List.range (1024 / e.2.1.bits)).filter fun i => laneOn (s.bank.rdM f.msk) e.2.1.bits i).map fun i => (r i).2))

/-- A NaN operand of a float operation gives the canonical NaN whatever the mode (R47, R56, R58): of add, subtract, multiply, minimum and maximum,
with NV where an operand is a signalling NaN (R250, R251); of the fused forms, with NV also where the factors are 0 and ∞ (R56, R250); of clamp
(R252), the functions, the rounding to an integral value and the scaling (R254, R255, R267), with NV for a signalling NaN; of lerp, with NV at
least for that (R284). A conversion gives the canonical NaN of its destination, with NV for a signalling one (R58); a binary8 destination its NaN
(R59), from which FP32, BF16 and FP16 get theirs with no flag (R265); an integer destination 0 with NV (R61). Of finite operands, a sum of
products of any number of terms is its exact value rounded once in the mode, with OF, UF and NX as R54 says, subnormal numbers included (R51, R54,
R56, R57); so are, each in one rounding, add, subtract, multiply and the fused forms. An exact zero has the sign that R56 gives it and no flag. -/
def Obligations.FloatValues : Prop :=
  (∀ (t : FFmt) (m : RMode) (a b d : Nat), ((t.decode a).isNan = true ∨ (t.decode b).isNan = true) →
    ∀ op ∈ ([fAdd, fSub, fMul, fun t _ a b _ => t.minMax false a b, fun t _ a b _ => t.minMax true a b] :
        List (FFmt → RMode → Nat → Nat → Nat → Nat × Fl)),
      (op t m a b d).1 = t.cnan ∧ (op t m a b d).2.nv = ((t.decode a).isSnan || (t.decode b).isSnan)) ∧
  (∀ (t : FFmt) (m : RMode) (a b d : Nat), ((t.decode a).isNan = true ∨ (t.decode b).isNan = true ∨ (t.decode d).isNan = true) →
    let snan := (t.decode a).isSnan || (t.decode b).isSnan || (t.decode d).isSnan
    let zeroInf := ((t.decode a).isZero && (t.decode b).isInf) || ((t.decode a).isInf && (t.decode b).isZero)
    (∀ op ∈ ([fMa, fMs, fNma] : List (FFmt → RMode → Nat → Nat → Nat → Nat × Fl)),
      (op t m a b d).1 = t.cnan ∧ (op t m a b d).2.nv = (snan || zeroInf)) ∧
    (fClamp t a b d).1 = t.cnan ∧ (fClamp t a b d).2.nv = snan ∧
    (fLerp t m a b d).1 = t.cnan ∧ (snan = true → (fLerp t m a b d).2.nv = true)) ∧
  (∀ (m : RMode) (a b d : Nat), (FFmt.f32.decode a).isNan = true →
    ∀ op ∈ ([fFun .exp2, fFun .log2, fFun .rcp, fFun .rsq, fFun .sqrt, fRnd] : List (RMode → Nat → Nat → Nat → Nat × Fl)),
      (op m a b d).1 = FFmt.f32.cnan ∧ (op m a b d).2.nv = (FFmt.f32.decode a).isSnan) ∧
  (∀ (t u : FFmt) (f : B8) (m : RMode) (sat : Bool) (a : Nat) (k : Int), (t.decode a).isNan = true →
    ((t.encode m false ((t.decode a).scale k)).1 = t.cnan ∧ (t.encode m false ((t.decode a).scale k)).2 = Fl.none) ∧
    ((u.encode m sat (t.decode a)).1 = u.cnan ∧ (u.encode m sat (t.decode a)).2 = Fl.none) ∧
    ((f.encode m sat (t.decode a)).1 = f.nan ∧ (f.encode m sat (t.decode a)).2 = Fl.none) ∧
    (snanFlag (t.decode a)).nv = (t.decode a).isSnan ∧
    ∀ ty, toInteger ty m (t.decode a) = (0, Fl.inv)) ∧
  (∀ (f : B8) (u : FFmt) (m : RMode), (f.decode f.nan).isNan = true ∧ u.encode m false (f.decode f.nan) = (u.cnan, Fl.none)) ∧
  (∀ (t : FFmt) (m : RMode) (ts : List (List FVal)), (∀ l, l ∈ ts → ∀ v, v ∈ l → v.isFin = true) →
    let x : ℚ := (ts.map fun l => (l.map FVal.rat).prod).sum
    let r := t.roundTerms m ts
    (x ≠ 0 → t.RoundsTo m x r.1 r.2) ∧
      (x = 0 → r.2 = Fl.none ∧ r.1 = t.sign (if ts.all fun l => (termVal l).neg then true
        else if ts.any fun l => (termVal l).neg then decide (m = .rdn) else false))) ∧
  ∀ (t : FFmt) (m : RMode) (a b d : Nat), (t.decode a).isFin = true → (t.decode b).isFin = true → (t.decode d).isFin = true →
    let x := (t.decode a).rat
    let y := (t.decode b).rat
    let z := (t.decode d).rat
    ∀ e ∈ ([(fAdd, x + y), (fSub, x - y), (fMul, x * y), (fMa, x * y + z), (fMs, x * y - z), (fNma, z - x * y)] :
        List ((FFmt → RMode → Nat → Nat → Nat → Nat × Fl) × ℚ)),
      e.2 ≠ 0 → t.RoundsTo m e.2 (e.1 t m a b d).1 (e.1 t m a b d).2

/-- The lane-wise integer and bitwise instructions complete with the lane values of R256 to R258, R260, R255 and R285, without flags: each
active lane receives its result, inactive lanes keep their bits. -/
def Obligations.IntegerLaneResults : Prop :=
  ∀ (f : VRForm) (s : State), guardTrue f.g s.bank = true →
    ∀ e ∈ ([(.vaddI32, 32, fun a b _ => a + b), (.vaddI16, 16, fun a b _ => a + b), (.vaddI8, 8, fun a b _ => a + b),
        (.vsubI32, 32, fun a b _ => a + 2 ^ 32 - b), (.vsubI16, 16, fun a b _ => a + 2 ^ 16 - b), (.vsubI8, 8, fun a b _ => a + 2 ^ 8 - b),
        (.vmulI32, 32, fun a b _ => a * b), (.vmulI16, 16, fun a b _ => a * b), (.vmulI8, 8, fun a b _ => a * b),
        (.vminI32, 32, fun a b _ => iMin f.q 32 a b), (.vminI16, 16, fun a b _ => iMin f.q 16 a b), (.vminI8, 8, fun a b _ => iMin f.q 8 a b),
        (.vmaxI32, 32, fun a b _ => iMax f.q 32 a b), (.vmaxI16, 16, fun a b _ => iMax f.q 16 a b), (.vmaxI8, 8, fun a b _ => iMax f.q 8 a b),
        (.vabsI32, 32, fun a _ _ => (sext a 32).natAbs), (.vabsI16, 16, fun a _ _ => (sext a 16).natAbs),
        (.vabsI8, 8, fun a _ _ => (sext a 8).natAbs),
        (.vshlI32, 32, fun a b _ => a * 2 ^ (b % 32)), (.vshlI16, 16, fun a b _ => a * 2 ^ (b % 16)), (.vshlI8, 8, fun a b _ => a * 2 ^ (b % 8)),
        (.vshlI32Imm, 32, fun a _ _ => a * 2 ^ f.imm.toNat), (.vshlI16Imm, 16, fun a _ _ => a * 2 ^ f.imm.toNat),
        (.vshlI8Imm, 8, fun a _ _ => a * 2 ^ f.imm.toNat),
        (.vshrI32, 32, fun a b _ => a / 2 ^ (b % 32)), (.vshrI16, 16, fun a b _ => a / 2 ^ (b % 16)), (.vshrI8, 8, fun a b _ => a / 2 ^ (b % 8)),
        (.vshrI32Imm, 32, fun a _ _ => a / 2 ^ f.imm.toNat), (.vshrI16Imm, 16, fun a _ _ => a / 2 ^ f.imm.toNat),
        (.vshrI8Imm, 8, fun a _ _ => a / 2 ^ f.imm.toNat),
        (.vsraI32, 32, fun a b _ => iSra 32 a (b % 32)), (.vsraI16, 16, fun a b _ => iSra 16 a (b % 16)),
        (.vsraI8, 8, fun a b _ => iSra 8 a (b % 8)), (.vsraI32Imm, 32, fun a _ _ => iSra 32 a f.imm.toNat),
        (.vsraI16Imm, 16, fun a _ _ => iSra 16 a f.imm.toNat), (.vsraI8Imm, 8, fun a _ _ => iSra 8 a f.imm.toNat),
        (.vmulh, 32, fun a b _ => iMulh f.q a b),
        (.vsaddI16, 16, fun a b _ => iSat f.q false 16 a b), (.vsaddI8, 8, fun a b _ => iSat f.q false 8 a b),
        (.vssubI16, 16, fun a b _ => iSat f.q true 16 a b), (.vssubI8, 8, fun a b _ => iSat f.q true 8 a b),
        (.vand, 8, fun a b _ => a &&& b), (.vor, 8, fun a b _ => a ||| b), (.vxor, 8, fun a b _ => a ^^^ b),
        (.vandn, 8, fun a b _ => a &&& (255 - b)), (.vfclass, 32, fun a _ _ => fClass a),
        (.vfsgn, (fmtOf f.ta).bits, fun a b _ => a % 2 ^ ((fmtOf f.ta).bits - 1) + b / 2 ^ ((fmtOf f.ta).bits - 1) * 2 ^ ((fmtOf f.ta).bits - 1))] :
        List ((VRForm → Instr) × Nat × (Nat → Nat → Nat → Nat))),
      ∃ t, exec (e.1 f) s = .next t ∧ WritesLanes s t f.d e.2.1 (s.bank.rdM f.msk)
        (fun i => e.2.2 (lane (s.bank.rdV f.a) i e.2.1) (lane (s.bank.rdV f.b) i e.2.1) (lane (s.bank.rdV f.d) i e.2.1)) Fl.none

/-- The saturating lanes of VSADD and VSSUB are the exact sum or difference where the lane format holds it, and its nearest end where it does
not (R258). -/
def Obligations.SaturatingLanes : Prop :=
  ∀ (w a b : Nat) (sub : Bool), 1 < w → a < 2 ^ w → b < 2 ^ w →
    (let x : Int := if sub then sext a w - sext b w else sext a w + sext b w
     sext (iSat false sub w a b) w = if x < -2 ^ (w - 1) then -2 ^ (w - 1) else if 2 ^ (w - 1) - 1 < x then 2 ^ (w - 1) - 1 else x) ∧
    (let y : Int := if sub then (a : Int) - b else a + b
     (iSat true sub w a b : Int) = if y < 0 then 0 else if 2 ^ w - 1 < y then 2 ^ w - 1 else y)

/-- The compares and mask instructions complete: the mask m_D of VCMP and VFCMP, with VFCMP's flags, and of VMLOG and VMSET; nothing else
changes (R243, R253, R259, R283). -/
def Obligations.MaskResults : Prop :=
  ∀ (f : VRForm) (s : State), guardTrue f.g s.bank = true →
    (∀ e ∈ ([(.vcmpI32, 32), (.vcmpI16, 16), (.vcmpI8, 8)] : List ((VRForm → Instr) × Nat)),
      ∃ t, exec (e.1 f) s = .next t ∧ WritesMask s t (lo3 f.d) (maskOfLanes e.2 (s.bank.rdM f.msk) fun i =>
        iCond f.q f.cnd e.2 (lane (s.bank.rdV f.a) i e.2) (lane (s.bank.rdV f.b) i e.2)) Fl.none) ∧
    (∀ e ∈ ([(.vfcmpF32, .f32), (.vfcmpBf16, .bf16), (.vfcmpF16, .f16)] : List ((VRForm → Instr) × FFmt)),
      let x := fun i => e.2.decode (lane (s.bank.rdV f.a) i e.2.bits)
      let y := fun i => e.2.decode (lane (s.bank.rdV f.b) i e.2.bits)
      ∃ t, exec (e.1 f) s = .next t ∧ WritesMask s t (lo3 f.d)
        (maskOfLanes e.2.bits (s.bank.rdM f.msk) fun i => fCond f.cnd (x i) (y i))
        (laneFlags e.2.bits (1024 / e.2.bits) (s.bank.rdM f.msk) fun i => fCondFlags f.cnd (x i) (y i))) ∧
    (∃ t v, exec (.vmlog f) s = .next t ∧ WritesMask s t (lo3 f.d) v Fl.none ∧ ∀ j, j < 128 → v.getLsbD j =
      if (s.bank.rdM f.msk).getLsbD j then
        truthTable (f.imm.extractLsb' 0 4) ((s.bank.rdM (lo3 f.a)).getLsbD j) ((s.bank.rdM (lo3 f.b)).getLsbD j)
      else (s.bank.rdM (lo3 f.d)).getLsbD j) ∧
    ∃ t v, exec (.vmset f) s = .next t ∧ WritesMask s t (lo3 f.d) v Fl.none ∧ ∀ j, j < 128 → v.getLsbD j =
      if (s.bank.rdM f.msk).getLsbD j then decide (j < (s.bank.rdS f.a).toNat) else (s.bank.rdM (lo3 f.d)).getLsbD j

/-- The conversions and VFSCALE complete: the converted lanes are the active lanes of the destination, with their flags; the lanes beyond the
converted ones keep their contents (R261 to R267). -/
def Obligations.ConversionResults : Prop :=
  ∀ (f : VRForm) (s : State), guardTrue f.g s.bank = true →
    let m := effMode f.rm s.bank.issueRnd
    let A := fun i w => lane (s.bank.rdV f.a) i w
    let B := fun i w => lane (s.bank.rdV f.b) i w
    (∀ e ∈ ([
        (.vcvt, 1024 / max (fmtOf f.ta).bits (fmtOf f.tb).bits, (fmtOf f.tb).bits, fun i =>
          let x := (fmtOf f.ta).decode (A i (fmtOf f.ta).bits)
          (((fmtOf f.tb).encode m f.sat x).1, (snanFlag x).or ((fmtOf f.tb).encode m f.sat x).2)),
        (.vcvti, 1024 / max (laneBits f.ta) (laneBits f.tb), laneBits f.tb, fun i => cvtiLane f.ta f.tb m (A i (laneBits f.ta))),
        (.vcvtb8, 32, 8, fun i =>
          let x := sumTerms m [[FFmt.f32.decode (A i 32), FFmt.f32.decode (B i 32)]]
          (((b8Of f.tb).encode m f.sat x.1).1, x.2.or ((b8Of f.tb).encode m f.sat x.1).2)),
        (.vwideb8, 1024 / (fmtOf f.tb).bits, (fmtOf f.tb).bits, fun i =>
          (fmtOf f.tb).encode (rmodeOfRnd s.bank.issueRnd) false
            ((b8Of f.ta).decode (A ((if f.q then 1024 / (fmtOf f.tb).bits else 0) + i) 8))),
        (.vpack, 2 * (1024 / laneBits f.ta), laneBits f.tb, fun i =>
          (packLane f.tb f.sat (intOfLane f.ta (if i < 1024 / laneBits f.ta then A i (laneBits f.ta)
            else B (i - 1024 / laneBits f.ta) (laneBits f.ta))), Fl.none)),
        (.vunpack, 1024 / laneBits f.tb, laneBits f.tb, fun i =>
          (truncInt (intOfLane f.ta (A ((if f.q then 1024 / laneBits f.tb else 0) + i) (laneBits f.ta))) (laneBits f.tb), Fl.none))] :
        List ((VRForm → Instr) × Nat × Nat × (Nat → Nat × Fl))),
      ∃ t, exec (e.1 f) s = .next t ∧ WritesLanes s t f.d e.2.2.1 (s.bank.rdM f.msk)
        (fun i => if i < e.2.1 then (e.2.2.2 i).1 else lane (s.bank.rdV f.d) i e.2.2.1)
        (laneFlags e.2.2.1 e.2.1 (s.bank.rdM f.msk) fun i => (e.2.2.2 i).2)) ∧
    let z := fun i => (fmtOf f.ta).encode m false (((fmtOf f.ta).decode (A i (fmtOf f.ta).bits)).scale (sext (B i (fmtOf f.ta).bits) (fmtOf f.ta).bits))
    ∃ t, exec (.vfscale f) s = .next t ∧ WritesLanes s t f.d (fmtOf f.ta).bits (s.bank.rdM f.msk) (fun i => (z i).1)
      (laneFlags (fmtOf f.ta).bits (1024 / (fmtOf f.ta).bits) (s.bank.rdM f.msk)
        fun i => (snanFlag ((fmtOf f.ta).decode (A i (fmtOf f.ta).bits))).or (z i).2)

/-- The moves and permutes complete (R260, R282, R283): active lane i receives the named source lane; VEXT, VMFIRST and VCNTM write a scalar
register; VSEL selects every byte by its mask. -/
def Obligations.PermuteResults : Prop :=
  ∀ (f : VRForm) (s : State), guardTrue f.g s.bank = true →
    let A := fun i w => lane (s.bank.rdV f.a) i w
    let B := fun i w => lane (s.bank.rdV f.b) i w
    let w := laneBits f.ta
    let n := 1024 / w
    let P := fun i => if i < n then A i w else B (i - n) w
    (∀ e ∈ ([(.vmov, 8, fun i => A i 8), (.vbcst, if f.x.isSome then laneBits f.tb else 32, fun _ => (s.bank.rdS f.a).toNat),
        (.vins, laneBits f.tb, fun i => if i = f.imm.toNat then (s.bank.rdS f.a).toNat else lane (s.bank.rdV f.d) i (laneBits f.tb)),
        (.vperm, if f.x.isSome then w else 8, fun i =>
          A (B i (if f.x.isSome then w else 8) % (1024 / (if f.x.isSome then w else 8))) (if f.x.isSome then w else 8)),
        (.vzip, w, fun i => if i % 2 = 0 then A ((if f.q then n / 2 else 0) + i / 2) w else B ((if f.q then n / 2 else 0) + i / 2) w),
        (.vunzip, w, fun i => P (2 * i + (if f.q then 1 else 0))), (.vslide, w, fun i => P (i + f.imm.toNat))] :
        List ((VRForm → Instr) × Nat × (Nat → Nat))),
      ∃ t, exec (e.1 f) s = .next t ∧ WritesLanes s t f.d e.2.1 (s.bank.rdM f.msk) e.2.2 Fl.none) ∧
    (∃ t, exec (.vsel f) s = .next t ∧ WritesVector s t f.d (t.bank.rdV f.d) Fl.none ∧
      ∀ i, i < 128 → lane (t.bank.rdV f.d) i 8 = if (s.bank.rdM f.msk).getLsbD i then A i 8 else B i 8) ∧
    (∃ t, exec (.vext f) s = .next t ∧ WritesScalar s t f.d
      (if f.ta = 0x21 ∨ f.ta = 0x22 then BitVec.ofInt 32 (sext (A f.imm.toNat w) w) else BitVec.ofNat 32 (A f.imm.toNat w))) ∧
    (∃ t, exec (.vmfirst f) s = .next t ∧ WritesScalar s t f.d (BitVec.ofNat 32
      (((List.range 128).find? fun j => (s.bank.rdM (lo3 f.a)).getLsbD j && (s.bank.rdM f.msk).getLsbD j).getD 128))) ∧
    ∃ t, exec (.vcntm f) s = .next t ∧ WritesScalar s t f.d (BitVec.ofNat 32
      (((List.range 128).filter fun j => (s.bank.rdM (lo3 f.a)).getLsbD j && (s.bank.rdM f.msk).getLsbD j).length))

/-- The reductions, the prefix sum and the dot products complete (R65, R66, R68, R279 to R281), with their flags: of a float VRMAX or VRMIN NV for a
signalling NaN among the active lanes, of a float VPSUM those of its first lane and of each addition. -/
def Obligations.ReductionResults : Prop :=
  ∀ (f : VRForm) (s : State), guardTrue f.g s.bank = true →
    let m := effMode f.rm s.bank.issueRnd
    let M := s.bank.rdM f.msk
    let A := fun i w => lane (s.bank.rdV f.a) i w
    let B := fun i w => lane (s.bank.rdV f.b) i w
    let D := fun i w => lane (s.bank.rdV f.d) i w
    (let t' := fmtOf f.ta
     let r := reduceTree m 6 ((List.range (1024 / t'.bits)).map fun i =>
       if laneOn M t'.bits i then ((some (widen32 t' (A i t'.bits)).1, (widen32 t' (A i t'.bits)).2) : RNode) else (none, Fl.none))
     ∃ t, exec (.vradd f) s = .next t ∧ WritesVector s t f.d (BitVec.ofNat 1024 (r.1.getD 0x80000000)) r.2) ∧
    (∃ t, exec (.vraddi f) s = .next t ∧ WritesVector s t f.d (BitVec.ofNat 1024
      (truncInt ((((List.range (1024 / laneBits f.ta)).filter fun i => laneOn M (laneBits f.ta) i).map
        fun i => intOfLane f.ta (A i (laneBits f.ta))).sum) 32)) Fl.none) ∧
    (∀ e ∈ ([(.vrmax, true), (.vrmin, false)] : List ((VRForm → Instr) × Bool)),
      (isFloat f.ta = false → ∃ t, exec (e.1 f) s = .next t ∧ WritesVector s t f.d (BitVec.ofNat 1024
        (truncInt ((activeVals s.bank f (laneBits f.ta)).foldl (fun (a : Int) v =>
          if e.2 then max a (intOfLane f.ta v) else min a (intOfLane f.ta v)) (if e.2 then (intRange f.ta).1 else (intRange f.ta).2))
          (laneBits f.ta))) Fl.none) ∧
      (isFloat f.ta = true → ∃ t v, exec (e.1 f) s = .next t ∧ WritesVector s t f.d (BitVec.ofNat 1024 v)
          (Fl.all ((activeVals s.bank f (fmtOf f.ta).bits).map fun x => snanFlag ((fmtOf f.ta).decode x))) ∧
        v = (activeVals s.bank f (fmtOf f.ta).bits).foldl (fun a x => ((fmtOf f.ta).minMax e.2 a x).1) ((fmtOf f.ta).infBits e.2))) ∧
    (let w := laneBits f.ta
     let add := fun a x =>
       if isFloat f.ta then (fmtOf f.ta).roundTerms (rmodeOfRnd s.bank.issueRnd) [[(fmtOf f.ta).decode a], [(fmtOf f.ta).decode x]]
       else ((a + x) % 2 ^ w, Fl.none)
     ∃ t v, exec (.vpsum f) s = .next t ∧ WritesVector s t f.d v
         (prefixSum (sumFirst f.ta) add ((List.range (1024 / w)).map fun i => (laneOn M w i, A i w)) none Fl.none).2 ∧
       (∀ i, i < 1024 / w → laneOn M w i = false → lane v i w = D i w) ∧
       (∀ i, i < 1024 / w → laneOn M w i = true → (∀ j, j < i → laneOn M w j = false) →
         lane v i w = (sumFirst f.ta (A i w)).1 % 2 ^ w) ∧
       ∀ i j, i < 1024 / w → j < i → laneOn M w i = true → laneOn M w j = true → (∀ k, j < k → k < i → laneOn M w k = false) →
         lane v i w = (add (lane v j w) (A i w)).1 % 2 ^ w) ∧
    (∃ t, exec (.vdotI8 f) s = .next t ∧ WritesLanes s t f.d 32 M (fun i =>
      truncInt (D i 32 + ((List.range 4).map fun j => sext (A (4 * i + j) 8) 8 * sext (B (4 * i + j) 8) 8).sum) 32) Fl.none) ∧
    let y := fun i => FFmt.f32.roundTerms m [[FFmt.f32.decode (D i 32)],
      [FFmt.bf16.decode (A (2 * i) 16), FFmt.bf16.decode (B (2 * i) 16)],
      [FFmt.bf16.decode (A (2 * i + 1) 16), FFmt.bf16.decode (B (2 * i + 1) 16)]]
    ∃ t, exec (.vdotBf16 f) s = .next t ∧ WritesLanes s t f.d 32 M (fun i => (y i).1) (laneFlags 32 32 M fun i => (y i).2)

/-- The table instructions complete where their offsets are aligned, within the table, and unpoisoned: VTLD reads 128 bytes, VTLU looks
each active lane up, VTLI interpolates each active lane; a misaligned offset takes cause 0x08, one beyond the table cause 0x0A, and a read of a
poisoned word of table RAM, with some lane active, cause 0x0E (R268, R275 to R278, R470). That the checks of an offset are made also where no lane is active is the model's
reading (log 90). -/
def Obligations.TableResults : Prop :=
  ∀ (f : VRForm) (s : State), guardTrue f.g s.bank = true →
    let off := (s.bank.rdS f.a).toNat
    (off % 128 = 0 → off + 128 ≤ s.bank.tblLen → poisoned s (tableKey s off) 128 = false ∨ activeLanes (s.bank.rdM f.msk) 8 = [] →
      ∃ t, exec (.vtld f) s = .next t ∧ WritesLanes s t f.d 8 (s.bank.rdM f.msk) (fun j => readNat s (tableKey s (off + j)) 1) Fl.none) ∧
    (off % 128 ≠ 0 → ∃ t, exec (.vtld f) s = .next t ∧ Trapped s t causeMisaligned (stopSlot s)) ∧
    (off % 128 = 0 → s.bank.tblLen < off + 128 → ∃ t, exec (.vtld f) s = .next t ∧ Trapped s t causeTableRange (stopSlot s)) ∧
    (off % 128 = 0 → off + 128 ≤ s.bank.tblLen → poisoned s (tableKey s off) 128 = true → activeLanes (s.bank.rdM f.msk) 8 ≠ [] →
      ∃ t, exec (.vtld f) s = .next t ∧ Trapped s t causePoison (stopSlot s)) ∧
    (let w := laneBits f.tb
     let o := bitsNat (s.bank.rdS f.b).toNat 13 0
     let n := bitsNat (s.bank.rdS f.b).toNat 27 14
     (o % (w / 8) = 0 → 0 < n → o + n * (w / 8) ≤ s.bank.tblLen →
       (∀ i, i < 1024 / w → laneOn (s.bank.rdM f.msk) w i = true → lane (s.bank.rdV f.a) i w < n →
         poisoned s (tableKey s (o + lane (s.bank.rdV f.a) i w * (w / 8))) (w / 8) = false) →
       ∃ t, exec (.vtlu f) s = .next t ∧ WritesLanes s t f.d w (s.bank.rdM f.msk) (fun i =>
         if lane (s.bank.rdV f.a) i w < n then readNat s (tableKey s (o + lane (s.bank.rdV f.a) i w * (w / 8))) (w / 8) else 0) Fl.none) ∧
     (o % (w / 8) ≠ 0 → ∃ t, exec (.vtlu f) s = .next t ∧ Trapped s t causeMisaligned (stopSlot s)) ∧
     (o % (w / 8) = 0 → n = 0 ∨ s.bank.tblLen < o + n * (w / 8) → ∃ t, exec (.vtlu f) s = .next t ∧ Trapped s t causeTableRange (stopSlot s)) ∧
     ∀ i, i < 1024 / w → o % (w / 8) = 0 → o + n * (w / 8) ≤ s.bank.tblLen → laneOn (s.bank.rdM f.msk) w i = true → lane (s.bank.rdV f.a) i w < n →
       poisoned s (tableKey s (o + lane (s.bank.rdV f.a) i w * (w / 8))) (w / 8) = true →
       ∃ t, exec (.vtlu f) s = .next t ∧ Trapped s t causePoison (stopSlot s)) ∧
    let h := (s.bank.rdS f.b).toNat
    let n := readNat s (tableKey s (h + 8)) 4
    let g := fmtOf f.tb
    let y := fun i => vtliLane s h n (f.imm.extractLsb' 2 2).toNat (f.imm.extractLsb' 0 2).toNat (g.decode (lane (s.bank.rdV f.a) i g.bits))
    let z := fun i => g.encode (effMode f.rm s.bank.issueRnd) false (y i).1
    (h % 16 = 0 → 2 ≤ n → n ≤ 2046 → h + 16 + 8 * n ≤ s.bank.tblLen →
      poisoned s (tableKey s h) 12 = false ∨ activeLanes (s.bank.rdM f.msk) g.bits = [] →
      (∀ i ∈ activeLanes (s.bank.rdM f.msk) g.bits, ∀ k, (y i).2.2 = some k → poisoned s (tableKey s (h + 16 + 8 * k)) 8 = false) →
      ∃ t, exec (.vtli f) s = .next t ∧ WritesLanes s t f.d g.bits (s.bank.rdM f.msk) (fun i => (z i).1)
        (laneFlags g.bits (1024 / g.bits) (s.bank.rdM f.msk) fun i => (y i).2.1.or (z i).2)) ∧
    (h % 16 ≠ 0 → ∃ t, exec (.vtli f) s = .next t ∧ Trapped s t causeMisaligned (stopSlot s)) ∧
    (h % 16 = 0 → s.bank.tblLen < h + 16 ∨
        ((poisoned s (tableKey s h) 12 = false ∨ activeLanes (s.bank.rdM f.msk) g.bits = []) ∧ (n < 2 ∨ 2046 < n ∨ s.bank.tblLen < h + 16 + 8 * n)) →
      ∃ t, exec (.vtli f) s = .next t ∧ Trapped s t causeTableRange (stopSlot s)) ∧
    (h % 16 = 0 → h + 16 ≤ s.bank.tblLen → poisoned s (tableKey s h) 12 = true → activeLanes (s.bank.rdM f.msk) g.bits ≠ [] →
      ∃ t, exec (.vtli f) s = .next t ∧ Trapped s t causePoison (stopSlot s)) ∧
    ∀ i k, i ∈ activeLanes (s.bank.rdM f.msk) g.bits → (y i).2.2 = some k → h % 16 = 0 → 2 ≤ n → n ≤ 2046 → h + 16 + 8 * n ≤ s.bank.tblLen →
      poisoned s (tableKey s (h + 16 + 8 * k)) 8 = true → ∃ t, exec (.vtli f) s = .next t ∧ Trapped s t causePoison (stopSlot s)

/-- The selection instructions complete (R69, R70, R269 to R274): VMERGEK leaves the merge of two ranked registers with the select unit, which gives
it to vD as it finishes (R272); VHAD puts each block of lanes through the
stages of R70, each a butterfly over lanes one, two, four and so on apart, then the scaling, writes the run of registers at vD, whose lanes are
those of the block in order, and ORs in the flags of every step; VTOPK leaves its thresholds and its lists with the select unit, and of the
flags raises only NV. The order of (+0, i) and (−0, i), which R69 leaves open, is a free value (log 80). -/
def Obligations.SelectionResults : Prop :=
  ∀ (f : VRForm) (s : State), guardTrue f.g s.bank = true →
    (let ps := regPairs (s.bank.rdM f.msk) (s.bank.rdV f.a) ++ regPairs (s.bank.rdM f.msk) (s.bank.rdV f.b)
     let r := (sortByRank ps).take (f.imm.toNat + 1)
     ∃ t, exec (.vmergek f) s = .next t ∧ Selects s t f.d
       (vOfBytes (((List.range 16).map fun i => r.getD i Pair.unfilled).flatMap pairBytes)) [] (scoreFlags ps)) ∧
    (∀ (h : Nat) (xs : List Nat) (j : Nat), j < xs.length →
      (hadStage h xs).length = xs.length ∧ (hadStage h xs)[j]? = some (if j / h % 2 = 0
        then FFmt.f32.roundTerms .rne [[FFmt.f32.decode (xs.getD j 0)], [FFmt.f32.decode (xs.getD (j + h) 0)]]
        else FFmt.f32.roundTerms .rne [[FFmt.f32.decode (xs.getD (j - h) 0)], [(FFmt.f32.decode (xs.getD j 0)).negate]])) ∧
    (1 ≤ f.imm.toNat → f.imm.toNat ≤ 8 →
      let st := f.imm.toNat
      let n := 2 ^ (st - 5)
      let xs := fun t => (List.range t).foldl (fun (x : List Nat × Fl) i =>
        let r := hadStage (2 ^ i) x.1
        (r.map fun p => p.1, x.2.or (Fl.all (r.map fun p => p.2))))
        ((List.range n).flatMap fun q => (List.range 32).map fun i => lane (s.bank.rdV (f.a + BitVec.ofNat 5 q)) i 32, Fl.none)
      let z := fun i => FFmt.f32.encode .rne false ((FFmt.f32.decode ((xs st).1.getD i 0)).scale (-((st / 2 : Nat) : Int)))
      ∃ t, exec (.vhad f) s = .next t ∧ OnlyBank s t ∧ t.bank = { s.bank with v := t.bank.v, flags := t.bank.flags } ∧
        t.bank.flags = s.bank.flags ||| ((xs st).2.or (Fl.all ((List.range (32 * n)).map fun i => (z i).2))).bits ∧
        (∀ q i, q < n → i < 32 → lane (t.bank.rdV (f.d + BitVec.ofNat 5 q)) i 32 = (z (32 * q + i)).1 % 2 ^ 32) ∧
        ∀ r, (∀ q, q < n → r ≠ f.d + BitVec.ofNat 5 q) → t.bank.rdV r = s.bank.rdV r) ∧
    ((TopK.columns (topkOf f s.bank) (s.bank.rdM f.msk)).isEmpty = true →
      ∃ t v, exec (.vtopk f) s = .next t ∧ Selects s t f.d v [] Fl.none ∧
        ∀ j, j < 32 → lane v j 32 = if laneOn (s.bank.rdM f.msk) 32 j then 0xFF800000 else lane (s.bank.rdV f.d) j 32) ∧
    (∀ c o kb, (TopK.columns (topkOf f s.bank) (s.bank.rdM f.msk)).isEmpty = false →
      (topkOf f s.bank).check s = .ok ((c, o), kb) →
      (∀ j ∈ TopK.columns (topkOf f s.bank) (s.bank.rdM f.msk), ∀ r, r < (topkOf f s.bank).rows →
        poisoned s ((topkOf f s.bank).scoreKey c o r j) 4 = false) →
      let k := topkOf f s.bank
      let cols := TopK.columns k (s.bank.rdM f.msk)
      ∃ t v, exec (.vtopk f) s = .next t ∧
        Selects s t f.d v (cols.map fun j => (kb + 256 * j, (k.list (k.column s c o j)).flatMap pairBytes))
          (Fl.all (cols.map fun j => scoreFlags (k.column s c o j))) ∧
        ∀ j, j < 32 → lane v j 32 =
          if laneOn (s.bank.rdM f.msk) 32 j = false then lane (s.bank.rdV f.d) j 32
          else if j < k.cols then writtenScore ((k.list (k.column s c o j)).getLastD Pair.unfilled).1 % 2 ^ 32 else 0xFF800000) ∧
    (∀ c, (TopK.columns (topkOf f s.bank) (s.bank.rdM f.msk)).isEmpty = false → (topkOf f s.bank).check s = .error c →
      ∃ t, exec (.vtopk f) s = .next t ∧ Trapped s t c (stopSlot s)) ∧
    ∀ c o kb j r, (topkOf f s.bank).check s = .ok ((c, o), kb) → j ∈ TopK.columns (topkOf f s.bank) (s.bank.rdM f.msk) →
      r < (topkOf f s.bank).rows → poisoned s ((topkOf f s.bank).scoreKey c o r j) 4 = true →
      ∃ t, exec (.vtopk f) s = .next t ∧ Trapped s t causePoison (stopSlot s)

/-- The ranking of (score, index) pairs (R69): a higher score first, equal scores by the lower index, a NaN below everything, −0 as +0, NaNs by
index; a NaN is written canonically, an unfilled entry is minus infinity at 2^32 − 1; SortByRank puts a list into rank order and keeps every
pair of it. -/
def Obligations.RankOrder : Prop :=
  (∀ a b : Pair,
    let x := FFmt.f32.decode a.1
    let y := FFmt.f32.decode b.1
    (x.isNan = false → y.isNan = false →
      (0 < x.cmp y → ranksBefore a b = true) ∧ (x.cmp y = 0 → ranksBefore a b = decide (a.2 < b.2)) ∧
        (x.cmp y < 0 → ranksBefore a b = false)) ∧
    (x.isNan = false → y.isNan = true → ranksBefore a b = true ∧ ranksBefore b a = false) ∧
    (x.isNan = true → y.isNan = true → ranksBefore a b = decide (a.2 < b.2))) ∧
  (FFmt.f32.decode 0).cmp (FFmt.f32.decode 0x80000000) = 0 ∧
  (∀ v, (FFmt.f32.decode v).isNan = true → writtenScore v = 0x7FC00000) ∧
  FFmt.f32.decode Pair.unfilled.1 = .inf true ∧ Pair.unfilled.2 = 0xFFFFFFFF ∧
  ∀ l : List Pair, List.Perm (sortByRank l) l ∧ List.Pairwise (fun a b => ranksBefore b a = false) (sortByRank l)

/-! ### Vector memory -/

/-- The vector loads complete when every active element is aligned and in range, no word of it is poisoned, and for VLDS every watched word is
full: the active lanes receive their elements, VLDS with E empties the words it read, a post-increment steps the address register, and nothing
else changes. VLDB reads its one element only where a lane is active, and gives it to every active lane (R223, R245 to R249). -/
def Obligations.VectorLoadsComplete : Prop :=
  ∀ (f : VMForm) (s : State), guardTrue f.g s.bank = true →
    let sz := eszBytes f.esz
    let on := activeLanes (s.bank.rdM f.msk) (8 * sz)
    let stepped := fun r => if f.pi = true ∧ r = f.ar then (s.bank.rdA r).step (s.bank.rdA r).stride.toInt else s.bank.rdA r
    (∀ e ∈ ([(.vld, 128, true, 1, rowElems f s.bank), (.vlds, 128, true, 1, rowElems f s.bank),
        (.vldt, sz, false, sz, columnElems f s.bank), (.vgath, sz, false, sz, indexElems f s.bank)] :
        List ((VMForm → Instr) × Nat × Bool × Nat × List Elem)),
      ∀ ks, elemKeys s (s.bank.rdA f.ar).swizzle e.2.1 (vmLa f s.bank) e.2.2.1 e.2.2.2.2 = .ok ks →
        (∀ k ∈ ks, poisoned s k.2 e.2.2.2.1 = false) → (e.1 f = .vlds f → ∀ k ∈ ks, isFull s (wordKey k.2) = true) →
        ∃ t, exec (e.1 f) s = .next t ∧ OnlyBank s { t with full := s.full } ∧ t.bank = { s.bank with v := t.bank.v, a := t.bank.a } ∧
          (∀ r, r ≠ f.d → t.bank.rdV r = s.bank.rdV r) ∧
          (∀ i, i < 128 / e.2.2.2.1 → lane (t.bank.rdV f.d) i (8 * e.2.2.2.1) =
            match pickElem ks i with
            | some k => readNat s k e.2.2.2.1 % 2 ^ (8 * e.2.2.2.1)
            | none => lane (s.bank.rdV f.d) i (8 * e.2.2.2.1)) ∧
          (∀ r, t.bank.rdA r = stepped r) ∧
          ∀ w, w ∈ t.full ↔ w ∈ s.full ∧ ¬ (e.1 f = .vlds f ∧ f.e = true ∧ ∃ k ∈ ks, w = wordKey k.2)) ∧
    ∀ k, (on ≠ [] → elemKey s (s.bank.rdA f.ar).swizzle sz (vmLa f s.bank) = .ok k ∧ poisoned s k sz = false) →
      ∃ t, exec (.vldb f) s = .next t ∧ OnlyBank s t ∧ t.bank = { s.bank with v := t.bank.v, a := t.bank.a } ∧
        (∀ r, r ≠ f.d → t.bank.rdV r = s.bank.rdV r) ∧
        (∀ i, i < 128 / sz → lane (t.bank.rdV f.d) i (8 * sz) =
          if i ∈ on then readNat s k sz % 2 ^ (8 * sz) else lane (s.bank.rdV f.d) i (8 * sz)) ∧
        ∀ r, t.bank.rdA r = stepped r

/-- The vector stores complete when every active element is aligned and in range: the active lanes are stored to their elements in ascending
lane order, a word written whole loses its poison, no other byte of memory and no other word's poison changes, no full/empty bit changes, and
of the registers only a post-incremented address register changes (R223, R241, R245 to R248). -/
def Obligations.VectorStoresComplete : Prop :=
  ∀ (f : VMForm) (s : State), guardTrue f.g s.bank = true →
    let sz := eszBytes f.esz
    ∀ e ∈ ([(.vst, 128, true, 1, rowElems f s.bank), (.vstt, sz, false, sz, columnElems f s.bank), (.vscat, sz, false, sz, indexElems f s.bank)] :
        List ((VMForm → Instr) × Nat × Bool × Nat × List Elem)),
      ∀ ks, elemKeys s (s.bank.rdA f.ar).swizzle e.2.1 (vmLa f s.bank) e.2.2.1 e.2.2.2.2 = .ok ks →
        ∃ t, exec (e.1 f) s = .next t ∧
          t.mem = ks.foldl (fun m k => Memory.setBytes m k.2 (leBytes e.2.2.2.1 (lane (s.bank.rdV f.d) k.1 (8 * e.2.2.2.1)))) s.mem ∧
          (∀ a, (∀ k ∈ ks, a < k.2 ∨ k.2 + e.2.2.2.1 ≤ a) → Memory.get t.mem a = Memory.get s.mem a) ∧
          (∀ w, w ∈ t.poison ↔ w ∈ s.poison ∧
            ¬ (w % 4 = 0 ∧ ∀ i, i < 4 → ∃ k ∈ ks, k.2 ≤ w + i ∧ w + i < k.2 + e.2.2.2.1)) ∧
          t.full = s.full ∧ t.bank = { s.bank with a := t.bank.a } ∧
          (∀ r, t.bank.rdA r = if f.pi = true ∧ r = f.ar then (s.bank.rdA r).step (s.bank.rdA r).stride.toInt else s.bank.rdA r) ∧
          OnlyBank s { t with mem := s.mem, poison := s.poison }

/-- A vector access traps at its first failing element in lane order, and a load at a poisoned word, with no register changed
(R199, R245, R470). VLDB, which reads one element, traps at it where a lane is active. That SR names the slot also where none has committed, and
that an element that fails both checks is misaligned, are the model's readings of R142 and R223 beside R245 (logs 65, 67). -/
def Obligations.VectorAccessesTrap : Prop :=
  ∀ (f : VMForm) (s : State), guardTrue f.g s.bank = true →
    let sz := eszBytes f.esz
    (activeLanes (s.bank.rdM f.msk) (8 * sz) ≠ [] →
      (∀ c, elemKey s (s.bank.rdA f.ar).swizzle sz (vmLa f s.bank) = .error c →
        (c = causeMisaligned ∨ c = causeAddrRange) ∧ ∃ t, exec (.vldb f) s = .next t ∧ Trapped s t c s.ctx.slot) ∧
      ∀ k, elemKey s (s.bank.rdA f.ar).swizzle sz (vmLa f s.bank) = .ok k → poisoned s k sz = true →
        ∃ t, exec (.vldb f) s = .next t ∧ Trapped s t causePoison (stopSlot s)) ∧
    ∀ e ∈ ([(.vld, 128, true, 1, rowElems f s.bank, true), (.vlds, 128, true, 1, rowElems f s.bank, true),
        (.vldt, sz, false, sz, columnElems f s.bank, true), (.vgath, sz, false, sz, indexElems f s.bank, true),
        (.vst, 128, true, 1, rowElems f s.bank, false), (.vstt, sz, false, sz, columnElems f s.bank, false),
        (.vscat, sz, false, sz, indexElems f s.bank, false)] : List ((VMForm → Instr) × Nat × Bool × Nat × List Elem × Bool)),
      (∀ c, elemKeys s (s.bank.rdA f.ar).swizzle e.2.1 (vmLa f s.bank) e.2.2.1 e.2.2.2.2.1 = .error c →
        (c = causeMisaligned ∨ c = causeAddrRange) ∧ ∃ t, exec (e.1 f) s = .next t ∧ Trapped s t c s.ctx.slot) ∧
      ∀ ks, elemKeys s (s.bank.rdA f.ar).swizzle e.2.1 (vmLa f s.bank) e.2.2.1 e.2.2.2.2.1 = .ok ks → e.2.2.2.2.2 = true →
        (∃ k ∈ ks, poisoned s k.2 e.2.2.2.1 = true) → ∃ t, exec (e.1 f) s = .next t ∧ Trapped s t causePoison (stopSlot s)

/-! ### The matrix class -/

/-- The M-class instructions complete when their operands pass the checks of R309: each enters its core's staging queue with what it read at
issue; MPROG and MFLAGS also make their destination pending, and MWAIT with no recorded fault waits in the queue (R296, R306 to R324). -/
def Obligations.MatrixInstructionsStage : Prop :=
  ∀ (f : MForm) (s : State), guardTrue f.g s.bank = true →
    (∀ e ∈ ([(.mwld, .mwld), (.mwpre, .mwpre), (.mzero, .mzero), (.mhold, .mhold), (.mflush, .mflush)] : List ((MForm → Instr) × MKind)),
      ∃ t, exec (e.1 f) s = .next t ∧ t.bank = s.bank ∧ Stages s t e.2 f 0 0) ∧
    (∀ e ∈ ([(.mwlds, .mwlds), (.mdrain, .mdrain), (.mstat, .mstat), (.mresc, .mresc), (.mtrn, .mtrn)] : List ((MForm → Instr) × MKind)),
      operandFault e.2 f s = none →
      ∃ t, exec (e.1 f) s = .next t ∧ t.bank = s.bank ∧ Stages s t e.2 f (s.bank.rdA (MForm.ar f)).base.toNat 0) ∧
    (∀ e ∈ ([(.mma, .mma), (.mmao, .mmao)] : List ((MForm → Instr) × MKind)),
      operandFault e.2 f s = none → (f.slot ≠ 63 ∨ s.bank.staged.isSome = true) →
      ∃ t, exec (e.1 f) s = .next t ∧ t.bank = s.bank ∧ Stages s t e.2 f (s.bank.rdA (MForm.ar f)).base.toNat 0) ∧
    (scaleFault f s = none → ∃ t, exec (.msca f) s = .next t ∧ t.bank = s.bank ∧
      Stages s t .msca f (s.bank.rdA f.rs).base.toNat (s.bank.rdA f.cs).base.toNat) ∧
    ((∀ x ∈ (s.core s.ctx.core).tileFaults, faultMatches s.ctx.bank s.bank.task (waitTiles f) (MForm.zf f) x = false) →
      ∃ t, exec (.mwait f) s = .next t ∧ t.bank = s.bank ∧ Stages s t .mwait f 0 0) ∧
    ∀ e ∈ ([(.mprog, .mprog), (.mflags, .mflags)] : List ((MForm → Instr) × MKind)),
      ∃ t, exec (e.1 f) s = .next t ∧ Stages s t e.2 f 0 0 ∧
        t.bank = { s.bank with pending := s.bank.pending ++ [⟨f.dst.toNat, s.opId⟩] }

/-- An M-class instruction whose scratchpad operand fails a check of R309 takes that cause: misaligned, out of range, a ring beyond NRING, or
a ring whose slots are too small or too few; a product by the staged source without one takes the matrix-operand cause. The scale operands of MSCA
take the misaligned-address cause and then the address-range cause (R309, R319). An MWAIT for whose tiles, or under ALL for the task, a fault is
recorded takes the first in the order of R322 with its cause, and that one is recorded no more. That SR is 3 also where no slot has committed is the
model's reading (log 65). -/
def Obligations.MatrixOperandsTrap : Prop :=
  ∀ (f : MForm) (s : State), guardTrue f.g s.bank = true →
    (∀ e ∈ ([(.mwlds, .mwlds), (.mdrain, .mdrain), (.mstat, .mstat), (.mresc, .mresc), (.mtrn, .mtrn), (.mma, .mma), (.mmao, .mmao)] :
        List ((MForm → Instr) × MKind)),
      let a := (s.bank.rdA (MForm.ar f)).base.toNat
      let u := unitSize e.2 f
      (f.asrc = true → a % 128 ≠ 0 → ∃ t, exec (e.1 f) s = .next t ∧ Trapped s t causeMisaligned s.ctx.slot) ∧
      (f.asrc = true → a % 128 = 0 → localSpan s s.ctx.core s.bank a (unitCount e.2 f * u) = none →
        ∃ t, exec (e.1 f) s = .next t ∧ Trapped s t causeAddrRange s.ctx.slot) ∧
      (f.asrc = false → s.bank.ring f.as.toNat = none → ∃ t, exec (e.1 f) s = .next t ∧ Trapped s t causeRingRange s.ctx.slot) ∧
      ∀ r, f.asrc = false → s.bank.ring f.as.toNat = some r → (r.slotSize < u ∨ r.count < slotsNeeded r u (unitCount e.2 f)) →
        ∃ t, exec (e.1 f) s = .next t ∧ Trapped s t causeMatrixOperand s.ctx.slot) ∧
    (∀ e ∈ ([.mma, .mmao] : List (MForm → Instr)), operandFault .mma f s = none → f.slot = 63 → s.bank.staged = none →
      ∃ t, exec (e f) s = .next t ∧ Trapped s t causeMatrixOperand s.ctx.slot) ∧
    (let x := (s.bank.rdA f.rs).base.toNat
     let y := (s.bank.rdA f.cs).base.toNat
     (x % 128 ≠ 0 ∨ y % 128 ≠ 0 → ∃ t, exec (.msca f) s = .next t ∧ Trapped s t causeMisaligned s.ctx.slot) ∧
     (x % 128 = 0 → y % 128 = 0 →
       localSpan s s.ctx.core s.bank x (4 * MForm.n f) = none ∨ localSpan s s.ctx.core s.bank y 512 = none →
       ∃ t, exec (.msca f) s = .next t ∧ Trapped s t causeAddrRange s.ctx.slot)) ∧
    (∀ e, firstFault ((s.core s.ctx.core).tileFaults.filter (faultMatches s.ctx.bank s.bank.task (waitTiles f) (MForm.zf f))) = some e →
      ∃ t, exec (.mwait f) s = .next t ∧ Trapped s t e.code (stopSlot s) ∧
        (t.core s.ctx.core).tileFaults = (s.core s.ctx.core).tileFaults.erase e) ∧
    ∀ (l : List TileFault) (e : TileFault), firstFault l = some e → e ∈ l ∧ ∀ x ∈ l, faultRank e ≤ faultRank x

/-! ### The copy class -/

/-- The copies and atomics complete: with their checks passed and PF of their group clear, the request that R357 and R385 to R388 describe
enters the core's copy interface: its opcode, its task, its group and phase, the engine of R356, its local data or ring, its rows and boxes;
for CATOM the operation, its operands, the width and the destination, which is pending from then on. -/
def Obligations.CopiesComplete : Prop :=
  ∀ (f : CForm) (s : State), guardTrue f.g s.bank = true → (s.bank.group f.grp.toNat).faulted = 0 →
    let va := (s.bank.rdPair f.ca).toNat
    (∀ e ∈ ([(.cld, .load, 0, 0, 1, 0), (.cst, .store, 1, 0, 1, 0),
        (.cld2d, .load, 2, (s.bank.rdS (f.cb + 1)).toInt, (s.bank.rdS (f.cb + 2)).toNat, f.pitch.toNat * 128),
        (.cst2d, .store, 3, (s.bank.rdS (f.cb + 1)).toInt, (s.bank.rdS (f.cb + 2)).toNat, f.pitch.toNat * 128)] :
        List ((CForm → Instr) × OpKind × Nat × Int × Nat × Nat)),
      let st := e.2.2.2.1
      let rows := e.2.2.2.2.1
      let pitch := e.2.2.2.2.2
      ∀ k, vaBad va st rows f.len = false →
        localSpan s s.ctx.core s.bank (s.bank.rdS f.cb).toNat (localLen rows f.len pitch) = some k →
        1 ≤ rows → rows ≤ 65535 → boxCount va st rows f.len ≤ 256 →
        ∃ o : COp, exec (e.1 f) s = .next (submit o s) ∧ RequestOf s o e.2.1 e.2.2.1 f.grp.toNat ∧ o.loc = k ∧ o.len = f.len ∧
          o.rows = rows ∧ o.stride = BitVec.ofInt 32 st ∧ 128 * o.pitch = pitch ∧ o.boxes = copyBoxes va st rows f.len pitch) ∧
    (∀ r, s.bank.ring f.ca.toNat = some r → vaBad (s.bank.rdPair f.cb).toNat 0 1 f.len = false → slotsFor r f.len ≤ r.count →
      boxCount (s.bank.rdPair f.cb).toNat 0 1 f.len ≤ 256 →
      ∃ o : COp, exec (.cldr f) s = .next (submit o s) ∧ RequestOf s o .ring 4 f.grp.toNat ∧ o.ring = f.ca.toNat ∧ o.len = f.len ∧
        o.slots = [] ∧ o.boxes = copyBoxes (s.bank.rdPair f.cb).toNat 0 1 f.len 0) ∧
    let wide := f.opt.getLsbD 3
    let n := if wide then 8 else 4
    va < vaEnd → va % n = 0 →
      ∃ (o : COp) (u : State), exec (.catom f) s = .next (submit o u) ∧ RequestOf s o .atomic 5 f.grp.toNat ∧ o.len = n ∧ o.wide = wide ∧
        o.aop = (f.opt.extractLsb' 0 3).toNat ∧ o.dst = f.cb.toNat ∧ o.boxes = [⟨va, n, 0, none, false⟩] ∧
        o.opnd = (if wide then (s.bank.rdPair f.cb).toNat else (s.bank.rdS f.cb).toNat) ∧
        o.cmp = (if wide then (s.bank.rdPair (f.cb + 2)).toNat else (s.bank.rdS (f.cb + 1)).toNat) ∧
        OnlyBank s u ∧
        u.bank = { s.bank with pending := s.bank.pending ++ (if f.cb = 0 then [] else [⟨f.cb.toNat, s.opId⟩]) ++
          (if wide then [⟨f.cb.toNat + 1, s.opId⟩] else []) }

/-- What a request does as it enters the interface (R380, R382): it is kept under its number, its group counts one more, and the number is used
up; a copy or an atomic stays queued. -/
def Obligations.RequestEnters : Prop :=
  ∀ (o : COp) (s : State), o.toEngine = true → o.id = s.opId → o.core = s.ctx.core → o.bank = s.ctx.bank → o.place = .queued →
    kget s.ops o.id = none → (∀ x ∈ s.ops, x.2.core = o.core → x.2.bank = o.bank → x.2.place ≠ .queued) →
    ∃ t, submit o s = t ∧ kget t.ops o.id = some o ∧ t.opId = s.opId + 1 ∧ SameMemory s t ∧
      (∀ g, o.grp = some g → (t.bank.group g).out = (s.bank.group g).out + 1)

/-- A copy, an atomic, a GET or a publication whose checks fail traps at its C slot with the first failing cause in the order of R383, whatever
PF is: virtual addresses, local addresses, counts, names with the tile size and the reduction. A copy or an atomic whose checks pass takes page
wait where its group has PF (R466). A name without a tensor in the task's graph takes the unknown-tensor cause, where no earlier check fails; that
CPREF takes it too is the model's reading (log 49), and so are that the range of a CATOM is judged before its alignment (log 29) and that SR names
the slot also where none has committed (log 65). -/
def Obligations.CopiesTrapOrWait : Prop :=
  (∀ (f : CForm) (s : State), guardTrue f.g s.bank = true →
     let va := (s.bank.rdPair f.ca).toNat
     let traps := fun (i : Instr) (c : BitVec 8) => ∃ t, exec i s = .next t ∧ Trapped s t c s.ctx.slot
     (∀ e ∈ ([(.cld f, 0, 1, 0), (.cst f, 0, 1, 0),
         (.cld2d f, (s.bank.rdS (f.cb + 1)).toInt, (s.bank.rdS (f.cb + 2)).toNat, f.pitch.toNat * 128),
         (.cst2d f, (s.bank.rdS (f.cb + 1)).toInt, (s.bank.rdS (f.cb + 2)).toNat, f.pitch.toNat * 128)] : List (Instr × Int × Nat × Nat)),
       let place := localSpan s s.ctx.core s.bank (s.bank.rdS f.cb).toNat (localLen e.2.2.1 f.len e.2.2.2)
       let many := e.2.2.1 < 1 ∨ 65535 < e.2.2.1 ∨ 256 < boxCount va e.2.1 e.2.2.1 f.len
       (vaBad va e.2.1 e.2.2.1 f.len = true → traps e.1 causeAddrRange) ∧
       (place = none → traps e.1 causeAddrRange) ∧
       (vaBad va e.2.1 e.2.2.1 f.len = false → place.isSome = true → many → traps e.1 causeCopyLength) ∧
       (vaBad va e.2.1 e.2.2.1 f.len = false → place.isSome = true → ¬ many → (s.bank.group f.grp.toNat).faulted ≠ 0 →
         exec e.1 s = .next (takePageWait s f.grp.toNat))) ∧
     (let src := (s.bank.rdPair f.cb).toNat
      (vaBad src 0 1 f.len = true → traps (.cldr f) causeAddrRange) ∧
      (vaBad src 0 1 f.len = false → s.bank.ring f.ca.toNat = none → traps (.cldr f) causeRingRange) ∧
      ∀ r, vaBad src 0 1 f.len = false → s.bank.ring f.ca.toNat = some r →
        (r.count < slotsFor r f.len ∨ 256 < boxCount src 0 1 f.len → traps (.cldr f) causeCopyLength) ∧
        (slotsFor r f.len ≤ r.count → boxCount src 0 1 f.len ≤ 256 → (s.bank.group f.grp.toNat).faulted ≠ 0 →
          exec (.cldr f) s = .next (takePageWait s f.grp.toNat))) ∧
     (let n := if f.opt.getLsbD 3 then 8 else 4
      (vaEnd ≤ va → traps (.catom f) causeAddrRange) ∧
      (va < vaEnd → va % n ≠ 0 → traps (.catom f) causeMisaligned) ∧
      (va < vaEnd → va % n = 0 → (s.bank.group f.grp.toNat).faulted ≠ 0 → exec (.catom f) s = .next (takePageWait s f.grp.toNat))) ∧
     (let la := (s.bank.rdS f.ca).toNat
      let place := localSpan s s.ctx.core s.bank la f.len
      (∀ i ∈ ([.cget f, .pub f, .pubred f, .pubc f] : List Instr),
        (la % 4 ≠ 0 → traps i causeMisaligned) ∧ (la % 4 = 0 → place = none → traps i causeAddrRange)) ∧
      (la % 4 = 0 → place.isSome = true → 4096 < f.len → traps (.cget f) causeGetLength) ∧
      (la % 4 = 0 → place.isSome = true → f.len ≤ 4096 → namedTensor s (nameAt s f.cb) = none → traps (.cget f) causeUnknownTensor) ∧
      ∀ x, la % 4 = 0 → place.isSome = true → namedTensor s (nameAt s f.cb) = some x →
        (x.tileSize ≠ f.len → ∀ i ∈ ([.pub f, .pubred f, .pubc f] : List Instr), traps i causeTileSize) ∧
        (x.tileSize = f.len → badContribution f x (s.bank.rdS (f.ca + 1)) = true →
          traps (.pubred f) causeReduction ∧ (redOf f (some x) ≠ 0 → traps (.pubc f) causeReduction))) ∧
     (let rows := (s.bank.rdS (f.ca + 1)).toNat
      let la := (s.bank.rdS f.ca).toNat
      let ta := (s.bank.rdS (f.ca + 2)).toNat
      let place := localSpan s s.ctx.core s.bank la (rows * f.len)
      let tags := localSpan s s.ctx.core s.bank ta (4 * rows)
      (rows < 1 ∨ 4096 < rows → traps (.pubr f) causeCopyLength) ∧
      (1 ≤ rows → rows ≤ 4096 →
        (la % 4 ≠ 0 ∨ ta % 4 ≠ 0 → traps (.pubr f) causeMisaligned) ∧
        (la % 4 = 0 → ta % 4 = 0 →
          (place = none ∨ tags = none → traps (.pubr f) causeAddrRange) ∧
          (place.isSome = true → tags.isSome = true →
            (namedTensor s (nameAt s f.cb) = none → traps (.pubr f) causeUnknownTensor) ∧
            ∀ x, namedTensor s (nameAt s f.cb) = some x → x.tileSize < f.len + 4 → traps (.pubr f) causeTileSize))))) ∧
  (∀ (f : CForm) (s : State), guardTrue f.g s.bank = true → namedTensor s (nameAt s f.cb) = none →
     (∀ e ∈ ([.pip, .cpref] : List (CForm → Instr)), ∃ t, exec (e f) s = .next t ∧ Trapped s t causeUnknownTensor s.ctx.slot) ∧
     ∀ e ∈ ([.pub, .pubred, .pubc] : List (CForm → Instr)), (s.bank.rdS f.ca).toNat % 4 = 0 →
       (localSpan s s.ctx.core s.bank (s.bank.rdS f.ca).toNat f.len).isSome = true →
       ∃ t, exec (e f) s = .next t ∧ Trapped s t causeUnknownTensor s.ctx.slot)

/-- Waiting, polling, fencing and cancelling complete: CWAIT passes where no fault is recorded and takes the recorded one, CPOLL writes the
group's word, CFENCE holds later requests for the group's operations and has no effect where it has none (R413), and CCANCEL of an empty group
clears its record (R390 to R393). CCANCEL of a group with operations discards those not yet sent, of one at an engine starts no further box and
lets those in flight be performed, drops what an operation in the network will bring, and leaves every other operation and memory alone; where
all were unsent, OUT is 0 and the record is cleared (R393). -/
def Obligations.CopyControlCompletes : Prop :=
  ∀ (f : CForm) (s : State), guardTrue f.g s.bank = true →
    ((s.bank.group f.grp.toNat).fault = none → exec (.cwait f) s = .next s) ∧
    (∀ c, (s.bank.group f.grp.toNat).fault = some c → ∃ t, exec (.cwait f) s = .next t ∧ t.bank.status = .trapped ∧ t.bank.cause = c ∧
      t.bank.sr = (stopSlot s) ∧ SameMemory s t) ∧
    (∃ t, exec (.cpoll f) s = .next t ∧ WritesScalar s t f.ca (BitVec.ofNat 32
      ((if (s.bank.group f.grp.toNat).fault.isSome then 2 ^ 31 else 0) + (if (s.bank.group f.grp.toNat).faulted ≠ 0 then 2 ^ 30 else 0) +
        ((s.bank.group f.grp.toNat).fault.getD 0).toNat * 2 ^ 16 + (s.bank.group f.grp.toNat).out % 128))) ∧
    (groupOps s f.grp.toNat = [] → exec (.cfence f) s = .next s) ∧
    (groupOps s f.grp.toNat ≠ [] → ∃ o : COp, exec (.cfence f) s = .next (submit o s) ∧ o.kind = .control ∧ o.isFence = true ∧
      o.grp = none ∧ o.opnd = f.opt.toNat ∧ o.dst = f.grp.toNat ∧ o.after = (groupOps s f.grp.toNat).map fun o => o.id) ∧
    (s.ops = [] → (s.bank.group f.grp.toNat).out = 0 → ∃ t, exec (.ccancel f) s = .next t ∧ OnlyBank s t ∧
      t.bank = { s.bank with groups := t.bank.groups } ∧
      t.bank.group f.grp.toNat = { s.bank.group f.grp.toNat with fault := none, faulted := 0, reported := false } ∧
      ∀ g, g < 16 → g ≠ f.grp.toNat → t.bank.group g = s.bank.group g) ∧
    ((∀ x ∈ s.ops, kget s.ops x.1 = some x.2 ∧ x.2.id = x.1) →
      (∀ x ∈ s.ops, x.2.core = s.ctx.core → x.2.bank = s.ctx.bank → x.2.place = .queued → x.2.grp = some f.grp.toNat) →
      ∃ t, exec (.ccancel f) s = .next t ∧ t.mem = s.mem ∧
        (∀ n, (∀ o ∈ groupOps s f.grp.toNat, o.id ≠ n) → kget t.ops n = kget s.ops n) ∧
        (∀ o ∈ groupOps s f.grp.toNat,
          (o.place = .queued → kget t.ops o.id = none) ∧
          (o.place = .network → kget t.ops o.id = if o.retryAt.isSome then none else some { o with cancelled := true }) ∧
          (o.place ≠ .queued → o.place ≠ .network → o.place ≠ .ended →
            (kget t.ops o.id = none ∨ kget t.ops o.id = some { o with cancelled := true, place := .engine }) ∧
            ((∃ b ∈ o.boxes, b.tr.isSome = true ∧ b.done = false) →
              kget t.ops o.id = some { o with cancelled := true, place := .engine }))) ∧
        (groupOps s f.grp.toNat ≠ [] → (s.bank.group f.grp.toNat).out = (groupOps s f.grp.toNat).length →
          (∀ o ∈ groupOps s f.grp.toNat, o.place = .queued) →
          (t.bank.group f.grp.toNat).out = 0 ∧ (t.bank.group f.grp.toNat).fault = none ∧ (t.bank.group f.grp.toNat).faulted = 0))

/-- The publications, GETs and prefetches complete: with their checks passed the request enters the interface with the packets that R394 to
R401 and R406 describe: a GET has the first free run of response slots (R352), a PUBC without a reduction is an ordinary publication with COLL.
The KIND of a prefetch is the model's reading (log 76). -/
def Obligations.PublicationsComplete : Prop :=
  ∀ (f : CForm) (s : State) (t : Tensor), guardTrue f.g s.bank = true → namedTensor s (nameAt s f.cb) = some t →
    let la := (s.bank.rdS f.ca).toNat
    (∀ k, la % 4 = 0 → localSpan s s.ctx.core s.bank la f.len = some k → f.len ≤ 4096 →
      ∃ (o : COp) (p : Packet), exec (.cget f) s = .next (submit o s) ∧ o.kind = .get ∧ o.loc = k ∧ o.len = f.len ∧
        o.send = [.getRequest p] ∧ p.name = nameAt s f.cb ∧ p.kind = 6 ∧ p.ask = f.len ∧
        ∀ run, freeRun (s.ctx.gets ++ slotsInUse s s.ctx.core s.ctx.bank) ((f.len + 511) / 512) = some run →
          o.gslots = run ∧ p.gslot = run.headD 0) ∧
    (∀ k, la % 4 = 0 → localSpan s s.ctx.core s.bank la f.len = some k → t.tileSize = f.len →
      (∃ (o : COp) (p : Packet), exec (.pub f) s = .next (submit o s) ∧ o.kind = .publish ∧ o.grp = some f.grp.toNat ∧ o.rel = f.rel ∧
        o.pkts = [(p, [(k, f.len)])] ∧ p.name = nameAt s f.cb ∧ p.kind = 0 ∧ p.gen = pubGen f 1 s ∧ p.pclass = t.pclass) ∧
      (redOf f (some t) = 0 → ∃ (o : COp) (p : Packet), exec (.pubc f) s = .next (submit o s) ∧ o.kind = .publish ∧
        o.pkts = [(p, [(k, f.len)])] ∧ p.name = nameAt s f.cb ∧ p.kind = 0 ∧ p.red = 0 ∧ p.coll = true ∧
        p.step = (s.bank.rdS (f.ca + 2)).toNat % 2 ^ 16) ∧
      (badContribution f t (s.bank.rdS (f.ca + 1)) = false →
        (∃ (o : COp) (p : Packet), exec (.pubred f) s = .next (submit o s) ∧ o.kind = .publish ∧ o.pkts = [(p, [(k, f.len)])] ∧
          p.name = nameAt s f.cb ∧ p.kind = 2 ∧ p.red = redOf f (some t) ∧ p.cidx = (s.bank.rdS (f.ca + 1)).toNat % 2 ^ 16 ∧
          p.ccnt = ccntOf (s.bank.rdS (f.ca + 1)) (some t)) ∧
        ∃ (o : COp) (p : Packet), exec (.pubc f) s = .next (submit o s) ∧ o.kind = .publish ∧ o.pkts = [(p, [(k, f.len)])] ∧
          p.name = nameAt s f.cb ∧ p.coll = true ∧ p.step = (s.bank.rdS (f.ca + 2)).toNat % 2 ^ 16)) ∧
    (∀ k kt, 1 ≤ (s.bank.rdS (f.ca + 1)).toNat → (s.bank.rdS (f.ca + 1)).toNat ≤ 4096 → la % 4 = 0 → (s.bank.rdS (f.ca + 2)).toNat % 4 = 0 →
      localSpan s s.ctx.core s.bank la ((s.bank.rdS (f.ca + 1)).toNat * f.len) = some k →
      localSpan s s.ctx.core s.bank (s.bank.rdS (f.ca + 2)).toNat (4 * (s.bank.rdS (f.ca + 1)).toNat) = some kt → f.len + 4 ≤ t.tileSize →
      ∃ (o : COp) (p : Packet), exec (.pubr f) s = .next (submit o s) ∧ o.kind = .publish ∧ p.kind = 4 ∧ p.name = nameAt s f.cb ∧
        o.pkts = (List.range (s.bank.rdS (f.ca + 1)).toNat).map fun i => (p, [(kt + 4 * i, 4), (k + i * f.len, f.len)])) ∧
    (∃ (o : COp) (p : Packet), exec (.pip f) s = .next (submit o s) ∧ o.kind = .publish ∧ o.grp = none ∧ o.pkts = [(p, [])] ∧
      p.name = nameAt s f.cb ∧ p.kind = 1) ∧
    ∃ (o : COp) (p : Packet), exec (.cpref f) s = .next (submit o s) ∧ o.kind = .control ∧ o.send = [.prefetchAtHome p] ∧
      p.name = nameAt s f.cb ∧ p.kind = 8

/-- Subscriptions, phases and expert queries complete (R402 to R410): SUB records an INSTALLING subscription and sends its installs, UNSUB
removes the matching one, with the deliveries that are held for it, or does nothing, SUBQ writes its word, PHASE sets the phase register, and
ERTQ, SUMPQ and ERTH send their request, or take the expert-index or the sump-index cause. -/
def Obligations.SubscriptionsComplete : Prop :=
  ∀ (f : CForm) (s : State), guardTrue f.g s.bank = true →
    (∀ x, curTask s = some x → subCause s x (s.bank.rdS f.ca) (s.bank.rdPair f.cb) (s.bank.rdPair (f.cb + 2)) = false →
      ∃ (o : COp) (u : State) (y : Sub), exec (.subscribe f) s = .next (submit o u) ∧ o.kind = .control ∧
        kget u.tasks s.bank.task = some { x with subs := x.subs ++ [y] } ∧ y.st = .installing ∧ y.dynamic = true ∧
        y.index = (s.bank.rdS f.ca).toNat % 16 ∧ o.send = (installsOf s (s.ctx.core / 4) s.bank.task y s.bank.phase.toNat).map fun m => .install m) ∧
    (∀ x, curTask s = some x → subCause s x (s.bank.rdS f.ca) (s.bank.rdPair f.cb) (s.bank.rdPair (f.cb + 2)) = true →
      ∃ t, exec (.subscribe f) s = .next t ∧ Trapped s t causeSubscription s.ctx.slot) ∧
    (∀ x, curTask s = some x →
      (lowest (x.subs.filter fun y => y.dynamic && y.isFor (s.bank.rdPair f.cb) (s.bank.rdPair (f.cb + 2))) = none → exec (.unsub f) s = .next s) ∧
      ∀ y, lowest (x.subs.filter fun y => y.dynamic && y.isFor (s.bank.rdPair f.cb) (s.bank.rdPair (f.cb + 2))) = some y →
        let tgt : Target := ⟨s.bank.task, y.index, y.uid⟩
        ∃ (o : COp) (u : State), exec (.unsub f) s = .next (submit o u) ∧ o.kind = .control ∧
          o.send = removalsOf (s.ctx.core / 4) s.bank.task y ∧
          (∀ k, kget u.tasks s.bank.task = some k → ∀ z ∈ k.subs, z.index ≠ y.index) ∧
          (∀ h ∈ (u.router (s.ctx.core / 4)).held, h.tgt ≠ tgt) ∧
          ((∀ e ∈ s.early, (∀ p r h, e.1 ≠ .delivery p r tgt h) ∧ ∀ r, e.1 ≠ .heldDeliveryRelease r tgt) →
            (u.router (s.ctx.core / 4)).held = (s.router (s.ctx.core / 4)).held.filter (fun h => h.tgt ≠ tgt) ∧
            ∃ rs, kget u.tasks s.bank.task = some { x with subs := x.subs.filter fun z => z.index ≠ y.index, rings := rs })) ∧
    (∃ t v, exec (.subq f) s = .next t ∧ WritesScalar s t f.ca v ∧
      ∀ x, curTask s = some x →
        v = match lowest (x.subs.filter fun y => y.isFor (s.bank.rdPair f.cb) (s.bank.rdPair (f.cb + 2))) with
          | some y => subqWord y
          | none => 0) ∧
    (s.bank.phase.toNat ≤ (f.opt.extractLsb' 0 4).toNat → ∃ t, exec (.phase f) s = .next t ∧ OnlyBank s { t with changed := s.changed } ∧
      t.bank = { s.bank with phase := f.opt.extractLsb' 0 4 }) ∧
    ((f.opt.extractLsb' 0 4).toNat < s.bank.phase.toNat → ∃ t, exec (.phase f) s = .next t ∧ Trapped s t causePhaseOrder s.ctx.slot) ∧
    (∀ e ∈ ([(.ertq, .ertq, 2 ^ 16, causeExpertIndex), (.sumpq, .sumpq, 1024, causeSumpIndex)] :
        List ((CForm → Instr) × OpKind × Nat × BitVec 8)),
      ((s.bank.rdS f.cb).toNat < e.2.2.1 → ∃ (o : COp) (u : State), exec (e.1 f) s = .next (submit o u) ∧ o.kind = e.2.1 ∧
        o.dst = f.ca.toNat ∧ o.opnd = (s.bank.rdS f.cb).toNat ∧ o.send = [.remoteResult s.opId 0 0] ∧
        u.bank.pending = s.bank.pending ++ (if f.ca = 0 then [] else [⟨f.ca.toNat, s.opId⟩])) ∧
      (e.2.2.1 ≤ (s.bank.rdS f.cb).toNat → ∃ t, exec (e.1 f) s = .next t ∧ Trapped s t e.2.2.2 s.ctx.slot)) ∧
    ((s.bank.rdS f.cb).toNat < 2 ^ 16 → ∃ o : COp, exec (.erth f) s = .next (submit o s) ∧ o.kind = .control ∧
      o.send = [.hintAtErtAgent (partOf s.bank.launch.toNat) (s.bank.rdS f.cb).toNat (f.opt.extractLsb' 0 3).toNat
        s.bank.launch.toNat s.bank.phase.toNat]) ∧
    (2 ^ 16 ≤ (s.bank.rdS f.cb).toNat → ∃ t, exec (.erth f) s = .next t ∧ Trapped s t causeExpertIndex s.ctx.slot)

/-! ## Work queues, commands and launches (03, 19) -/

/-- R74, R75, R77, R78, R79, R80, R83, R84, R96, R504: an admitted doorbell writes QTAIL (or, past the ring, disables the queue with ERR
and is discarded); an admitted QCTL write sets PRIO and EN, while EN is 0 a valid LOG2SIZE too, and EN from 0 to 1 clears QHEAD and QTAIL; the
arbiter takes, of the ready queues of the highest priority, the first at or after that level's pointer, wrapping; a selection reads the head command
and makes the queue BUSY;
a NOP completes with its record; LOAD installs the graph under the lowest free namespace; UNLOAD marks the namespace unloading while a launch
uses it; a LAUNCH that admission accepts keeps its argument words, and one that it refuses is rejected with code 0x24 and the policy's code
(admission is the model's free policy, log 5); ABORT posts cause 0x05; a fence ends; an accepted launch is live. -/
def Obligations.CommandsComplete : Prop :=
  (∀ s q v part port, barOpen s = true → q < 16384 → admitted s 3 q 4 part true false = true →
    Runs .qtailWrite (.qtailWrite q v part port) s fun t =>
      (v < 2 ^ (s.queue q).log2 → t.queue q = { s.queue q with tail := v }) ∧
        (2 ^ (s.queue q).log2 ≤ v → (t.queue q).en = false ∧ (t.queue q).err = true ∧ (t.queue q).tail = (s.queue q).tail ∧
          (t.queue q).head = (s.queue q).head)) ∧
  (∀ s q v part port, barOpen s = true → q < 16384 → admitted s 3 q 4 part true false = true →
    Runs .qctlWrite (.qctlWrite q v part port) s fun t =>
      (t.queue q).prio = bitsNat v 18 16 ∧ (t.queue q).en = (bitsNat v 0 0 = 1 && (s.queue q).asg) ∧
        (t.queue q).log2 = (if (s.queue q).en = false ∧ 4 ≤ bitsNat v 15 12 ∧ bitsNat v 15 12 ≤ 12 then bitsNat v 15 12 else (s.queue q).log2) ∧
        (t.queue q).hold = (s.queue q).hold ∧ (t.queue q).asg = (s.queue q).asg ∧ (t.queue q).part = (s.queue q).part ∧
        (¬((s.queue q).en = false ∧ (t.queue q).en = true) → (t.queue q).head = (s.queue q).head ∧ (t.queue q).tail = (s.queue q).tail) ∧
        ((s.queue q).en = false → (t.queue q).en = true → (t.queue q).head = 0 ∧ (t.queue q).tail = 0)) ∧
  (∀ s q x, arbiterPick s = some (q, x) → (q, x) ∈ s.queues ∧ queueReady s x = true ∧
    ∀ y, y ∈ s.queues → queueReady s y.2 = true → y.2.prio ≤ x.prio ∧
      (y.2.prio = x.prio → (q + 16384 - s.ptrs.get (Fin.ofNat 8 x.prio)) % 16384 ≤ (y.1 + 16384 - s.ptrs.get (Fin.ofNat 8 x.prio)) % 16384)) ∧
  (∀ s x, queueReady s x = true ↔ x.en = true ∧ x.asg = true ∧ x.hold = false ∧ (s.part x.part).fwFault = false ∧ x.head ≠ x.tail ∧
    x.busy = false ∧ (s.launches.filter fun l => l.2.part = x.part).length < 1024 ∧ s.launches.length < 4096) ∧
  (∀ s q x, arbiterSelects s = true → arbiterPick s = some (q, x) →
    Runs .queueSelection .queueSelection s fun t =>
      (t.queue q).busy = true ∧ t.ptrs.get (Fin.ofNat 8 x.prio) = (q + 1) % 16384 ∧
        ∃ c, t.cmds = s.cmds ++ [c] ∧ c.q = q ∧ c.w = readCommand s q x ∧ c.held = decide (bitsNat (readCommand s q x) 9 9 = 1)) ∧
  (∀ s q c, pendingCmd s q 0 = some c → c.badField = none → c.cplAddr % 32 = 0 → hostOk s (queuePort c.q) c.cplAddr 32 = true →
    Runs .nop (.nop q) s fun t =>
      t.cmds = s.cmds.filter (fun x => x.q ≠ c.q) ∧ (t.queue c.q).busy = false ∧
        ((s.queue c.q).en = true → (s.queue c.q).epoch = c.epoch →
          (t.queue c.q).head = ((s.queue c.q).head + 1) % 2 ^ (s.queue c.q).log2) ∧
        t.mem = Memory.setBytes s.mem (hostKey (queuePort c.q) c.cplAddr) ((c.record c.ident 1 0 0 (taiNs s)).bytes (taiNs s)) ∧
        t.msix = if c.irq then s.msix ++ [vectorOf c.q] else s.msix) ∧
  (∀ s q c ns, pendingCmd s q 1 = some c → c.badField = none → hostOk s (queuePort c.q) c.addr 64 = true →
      hostOk s (queuePort c.q) c.addr (readHeader (hostObject s (queuePort c.q) c.addr)).total = true →
      loadChecks (hostObject s (queuePort c.q) c.addr) = none → freeNs s = some ns →
      deviceUsed s (s.queue c.q).part + (readHeader (hostObject s (queuePort c.q) c.addr)).total ≤ (s.part (s.queue c.q).part).devRoom →
    Runs .load (.load q) s fun t =>
      t.graphs = kset s.graphs ns (graphFrom (hostObject s (queuePort c.q) c.addr) (s.queue c.q).part) ∧
        t.cmds = s.cmds.filter (fun x => x.q ≠ c.q) ∧ (t.queue c.q).busy = false) ∧
  (∀ s q c g, pendingCmd s q 2 = some c → c.badField = none → nsLoaded s c.q c.ns = true → kget s.graphs c.ns = some g →
    Runs .unload (.unload q) s fun t =>
      (s.launches.any (fun x => x.2.ns = c.ns) = true → kget t.graphs c.ns = some { g with unloading := true }) ∧
        (nsInUse s c.ns = false → kget t.graphs c.ns = none)) ∧
  (∀ s q c, launchCmd s q = some c → c.badField = none → nsLoaded s c.q c.ns = true → partOf c.ident = (s.queue c.q).part →
      kget s.launches c.ident = none → hostOk s (queuePort c.q) c.addr c.argLen = true →
      (c.nwaf ≤ 1 ∨ hostOk s (queuePort c.q) c.cutAddr (8 * c.ncut) = true) →
    Runs .launch (.launch q) s fun t =>
      (Config.admission s.nonce = 0 → t.cmds = s.cmds.map fun (x : Cmd) =>
        if x.q = c.q then { x with args := some (argWords s c), edges := cutEdges s c } else x) ∧
        (Config.admission s.nonce ≠ 0 → t = reject c 0x24 (Config.admission s.nonce).toNat s)) ∧
  (∀ s q c, pendingCmd s q 4 = some c → c.badField = none → partOf c.ident = (s.queue c.q).part →
    Runs .abort (.abort q) s fun t =>
      if abortable s c.ident then t.aborts = s.aborts ++ [⟨c.ident, 0x05, BitVec.ofNat 32 c.q, s.now⟩]
      else t.cmds = s.cmds.filter (fun x => x.q ≠ c.q) ∧ (t.queue c.q).busy = false) ∧
  (∀ s q, fenceOver s q = true →
    Runs .commandFenceRelease (.commandFenceRelease q) s fun t =>
      t.cmds = s.cmds.map fun (c : Cmd) => if c.q = q then { c with held := false } else c) ∧
  (∀ s q c args, checkedCmd s q = some (c, args) →
    Runs .launchAcceptance (.launchAcceptance q) s fun t =>
      kget t.launches c.ident = some (newLaunch s c args) ∧ t.cmds = s.cmds.filter (fun x => x.q ≠ c.q) ∧
        (t.queue c.q).busy = false)

/-- R85, R86, R90, R91, R457, R459, R461, R481, R486: what the launch processor does with live launches. Acknowledgements count toward the gate
and a mismatch aborts with cause 0x08; a late gate aborts with 0x07, a peer with 0x06, the firmware with 0x09; a control pip is published; a
firmware fault aborts the partition's live launches with cause 0x09 and holds its queues, and a reload by the running image ends the fault and what the fault holds (the model's reading, log 53), and is
measured (R502); a sweep starts with every answer and clears the launch's change bits,
and ends with the phases closed that were clean twice; a closed phase raises event 5; a retirement and an abort end a launch. What the wafers of a
group exchange of their sweeps is the model's reading (log 17). -/
def Obligations.LaunchesProgress : Prop :=
  (∀ s g n w l x, groupLaunch s g = some (l, x) →
    Runs .waferAcknowledgement (.waferAcknowledgement g n w) s fun t =>
      if x.nwaf ≠ n ∨ x.wafidx = w ∨ w ∈ x.acks then t.aborts = s.aborts ++ [⟨l, 0x08, BitVec.ofNat 32 w, s.now⟩]
      else t.launches = (s.modLaunch l fun x => { x with acks := sadd x.acks w }).launches) ∧
  (∀ s l x, kget s.launches l = some x → gateLate s l = true →
    Runs .gateTimeout (.gateTimeout l) s fun t => t.aborts = s.aborts ++ [⟨l, 0x07, BitVec.ofNat 32 (missingMask x 0), s.now⟩]) ∧
  (∀ s g w l x, groupPart s g = some (l, x) →
    Runs .peerAbort (.peerAbort g w) s fun t =>
      if x.discarded ∨ x.retiring then t = s else t.aborts = s.aborts ++ [⟨l, 0x06, BitVec.ofNat 32 w, s.now⟩] ∧
        ∃ y, kget t.launches l = some y ∧ y.told = true) ∧
  (∀ s part l code, partOf l = part → abortable s l = true →
    Runs .firmwareAbort (.firmwareAbort part l code) s fun t => t.aborts = s.aborts ++ [⟨l, 0x09, BitVec.ofNat 32 code, s.now⟩]) ∧
  (∀ s part l code, partOf l = part → (kget s.launches l).isSome = true →
    Runs .controlPip (.controlPip part l code) s fun t =>
      ∃ p, t.agenda = s.agenda ++ [.publicationAtHome p] ∧ p.name = mkName 0 3 l ∧ p.gen = BitVec.ofNat 16 code ∧ p.launch = l ∧
        p.phase = frontier s l) ∧
  (∀ s part, Runs .firmwareFault (.firmwareFault part) s fun t =>
      (t.part part).fwFault = true ∧
        (∃ d, t.aborts = s.aborts ++ (s.launches.filter fun l => l.2.part = part && !l.2.discarded && !l.2.retiring).map fun l =>
          ⟨l.1, 0x09, d, s.now⟩) ∧
        t.queues = s.queues.map fun (x : Nat × WorkQueue) => (x.1, if x.2.asg && x.2.part = part then { x.2 with hold := true } else x.2)) ∧
  (∀ s part d, s.mgmt.boot ≠ .running → Runs .launchFirmwareReload (.launchFirmwareReload part d) s fun t => t = s) ∧
  (∀ s part d, s.mgmt.boot = .running → Runs .launchFirmwareReload (.launchFirmwareReload part d) s fun t =>
      (t.part part).fwFault = false ∧
        t.mgmt.meas = lmod s.mgmt.meas 2 (fun m => sha384 (m ++ d)) ∧
        t.queues = if (s.part part).fwFault then s.queues.map fun (x : Nat × WorkQueue) =>
          (x.1, if x.2.asg && x.2.part = part then { x.2 with hold := false } else x.2) else s.queues) ∧
  (∀ s l, sweepDue s l = true →
    Runs .sweepStart (.sweepStart l) s fun t =>
      (∃ x, kget t.launches l = some x ∧ x.sweeping = some (sweepView s l) ∧ x.nextSweep = s.now + sweepInterval s x.part) ∧
        t.changed = s.changed.filter (fun k => k / 64 ≠ l)) ∧
  (∀ s l x v rs, kget s.launches l = some x → x.sweeping = some v → peerReports x = some rs → x.discarded = false →
    Runs .sweepEnd (.sweepEnd l) s fun t =>
      ∃ y, kget t.launches l = some y ∧ y.sweeping = none ∧
        ∀ q, q ∈ closing x ((List.range 16).map fun p => jointly (v.clean.getD p false) rs p) (jointly (if x.joint then v.ended else allEnded s l) rs 16) → q ∈ y.closed) ∧
  (∀ s l r p, Runs .phaseCloseNotice (.phaseCloseNotice l r p) s fun t =>
      ∀ c b, c ∈ coresOf r → ((s.core c).bank b).status ≠ .empty → ((s.core c).bank b).launch.toNat = l →
        ((t.core c).bank b).events.getLsbD 5 = true) ∧
  (∀ s l, retirable s l = true →
    Runs .launchRetirement (.launchRetirement l) s fun t => kget t.launches l = none) ∧
  (∀ s l x a, firstAbort s l = some a → kget s.launches l = some x → x.retiring = false → x.discarded = false →
    Runs .launchAbort (.launchAbort l) s fun t =>
      (∃ y, kget t.launches l = some y ∧ y.discarded = true ∧ y.abort = some a) ∧ ∀ n, n ∈ t.tasks → n.2.launch ≠ l) ∧
  (∀ s l x, kget s.launches l = some x → edgesToInstall s l = true →
    Runs .cutEdgeInstalled (.cutEdgeInstalled l) s fun t =>
      kget t.launches l = some { x with edgesIn := true } ∧ t.outbox = s.outbox ++ [.ack x.group x.nwaf x.wafidx]) ∧
  (∀ s g w v l x, groupLaunch s g = some (l, x) →
    Runs .peerSweepResult (.peerSweepResult g w v) s fun t =>
      t.launches = (s.modLaunch l fun x => { x with peerViews := x.peerViews ++ [(w, v)] }).launches)

/-! ## Tasks, distributors and context banks (03, 04, 20) -/

/-- R96, R98 to R100, R104, R108 to R110, R114, R211, R215, R336, R403, R468, R469, R473, R474: what distributors and cores do with task instances.
An entry whose priority firmware changes joins its new queue as the youngest (log 61), and a restartable task past its TEND is no object of a
pre-emption (log 56): both are the model's. The end of a task after its work has completed (R211): a recorded fault is taken and the task has not
ended; else every loop level becomes inactive, the rings are returned and the subscriptions removed, no request of the task is left, the bank is
empty and seniority passes, the pool entry is freed, and TASKS counts one more; that the bank's registers keep their values is the model's reading
(log 58), and so is that SR is 0 where a recorded fault is taken at the end of a task (log 11). A kill (R473) empties the bank, keeps the registers that committed slots have written, and leaves no request and no matrix operation of
the task; a task past its TEND is not killed. A selection takes an aged entry before every other, the oldest first, else the highest
priority and in it the place in the queue; which cores are eligible and what they score is stated, and the cores chosen are those of the highest
total, ties to the lowest cluster and core. A hand-over goes to the field of the partition with the most eligible cores that has room in its pool,
ties to the lowest. A task that fires finds in its bank the state that R110 lists. -/
def Obligations.TaskStepsComplete : Prop :=
  (∀ s part l prio n x, kget s.tasks n = some x → x.launch = l → partOf l = part → x.st = .pending →
    Runs .firmwarePriorityChange (.firmwarePriorityChange part l prio) s fun t =>
      kget t.tasks n = some (if x.keepPrio = false ∧ x.queuePrio ≠ prio % 8 then { x with queuePrio := prio % 8, queued := s.now } else x)) ∧
  (∀ s part n x d, preempted s part false n = [(n, x)] → kget s.tasks n = some x → x.st = .running → descOf s x = some d →
    Runs .preemptionRequest (.preemptionRequest part false n) s fun t =>
      (d.restart = false → n ∈ (t.core x.core).noFire) ∧
        (d.restart = true → isEnding s x = false → overrunFirst (n, x) s = s → t = killUnit n 0 id s)) ∧
  (∀ s l x d f, handoff s l = some (x, d, f) →
    Runs .taskHandoff (.taskHandoff l) s fun t =>
      (∃ y, kget t.launches l = some y ∧ y.todo = x.todo + 1) ∧
        ∀ r, r < d.gang → kget t.tasks (s.opId + r) = some (newInst s l x x.todo r s.opId f d)) ∧
  (∀ s f x cs, selecting s f = true → selection s f = some x → placement s f (membersOf s x.1).length x.2 = some cs →
    Runs .distributorSelection (.distributorSelection f) s fun t =>
      t = ((membersOf s x.1).zip cs).foldl (fun s m => arm m.1.1 m.2 s) s) ∧
  (∀ s f x, selection s f = some x → x ∈ s.tasks ∧ selectable? s f x = true ∧ ∀ y, y ∈ s.tasks → selectable? s f y = true →
    (aged s f y.2 = true → aged s f x.2 = true ∧ older y x = false) ∧
      (aged s f x.2 = false → y.2.queuePrio ≤ x.2.queuePrio ∧ (y.2.queuePrio = x.2.queuePrio → earlier y x = false))) ∧
  (∀ s f x, (aged s f x = true ↔ (s.field f).agexp ≠ 15 ∧ x.joined + 2 ^ ((s.field f).agexp + 10) < s.now)) ∧
  (∀ x y, (older x y = true ↔ x.2.joined < y.2.joined ∨ (x.2.joined = y.2.joined ∧ x.1 < y.1)) ∧
    (earlier x y = true ↔ x.2.queued < y.2.queued ∨ (x.2.queued = y.2.queued ∧ older x y = true))) ∧
  (∀ s x c d o, descOf s x = some d → codeOf s x = some o →
    (eligible s x c = true ↔
      (s.cluster (c / 4)).enabled = true ∧ (s.cluster (c / 4)).mapped = false ∧ (s.cluster (c / 4)).stopped = false ∧
      (s.cluster (c / 4)).tstate = 0 ∧ fieldOf c ∈ (s.part (partOf x.launch)).fields ∧ (s.field (fieldOf c)).lost = false ∧
      (s.tasks.filter fun y => y.2.st.bound && y.2.core = c).length < 8 ∧ (ringsFit s c d).isSome = true ∧
      imagesFit s c (nsOfTask s x) d.code o = true ∧
      (∀ y, y ∈ x.subs → ∀ h, h ∈ patternHomes s y.pat → ∀ r, r ∈ installPath (c / 4) h →
        (s.router r.1).entries.length + (if c / 4 = h then 2 else 1) ≤ 2048) ∧
      ∀ e, expertEntry s x = some e → ((s.ertEntry (partOf x.launch) e).st = 2 ∨ (s.ertEntry (partOf x.launch) e).st = 3) ∧
        (s.ertEntry (partOf x.launch) e).field = fieldOf c)) ∧
  (∀ s x c d, descOf s x = some d → score s x c =
    (s.field (fieldOf c)).waff * (if d.affkey = 0 then 0 else min 15 (s.tasks.filter fun y => y.2.st.bound && y.2.core / 4 = c / 4 &&
      partOf y.2.launch = partOf x.launch && (descOf s y.2).any fun e => e.affkey = d.affkey).length) +
    (s.field (fieldOf c)).wcode * (if (loaded s c false (nsOfTask s x) d.code).isSome = true then 1 else 0) +
    (s.field (fieldOf c)).wload * (8 - (boundTo s c).length) +
    (s.field (fieldOf c)).wcool * min ((s.mgmt.hotth - (s.cluster (c / 4)).temp) / 4) 7) ∧
  (∀ s x k, (ranked s x k).Pairwise (fun a b => b.2 < a.2 ∨ (a.2 = b.2 ∧ a.1 < b.1)) ∧
    ∀ a, a ∈ ranked s x k ↔ a.1 ∈ coresOf k ∧ eligible s x a.1 = true ∧ a.2 = score s x a.1) ∧
  (∀ s f n x cs, placement s f n x = some cs → cs.Pairwise (· < ·) ∧ ∃ k, k ∈ clustersOf f ∧ n ≤ (ranked s x k).length ∧
    (∀ c, c ∈ cs ↔ ∃ v, (c, v) ∈ (ranked s x k).take n) ∧
    ∀ j, j ∈ clustersOf f → n ≤ (ranked s x j).length →
      (((ranked s x j).take n).map Prod.snd).sum < (((ranked s x k).take n).map Prod.snd).sum ∨
        ((((ranked s x j).take n).map Prod.snd).sum = (((ranked s x k).take n).map Prod.snd).sum ∧ k ≤ j)) ∧
  (∀ s f n x, placement s f n x = none ↔ ∀ k, k ∈ clustersOf f → (ranked s x k).length < n) ∧
  (∀ s f x, selecting s f = true → selection s f = some x → placement s f (membersOf s x.1).length x.2 = none →
    Runs .distributorSelection (.distributorSelection f) s fun t =>
      ∀ m, m ∈ membersOf s x.1 → ∃ y, kget t.tasks m.1 = some y ∧ y.passUntil = some (s.now + 256) ∧ y.noElig.isSome = true ∧
        y.keepPrio = false) ∧
  (∀ s n x, kget s.tasks n = some x → passedOver s x = true →
    Runs .passOverEnd (.passOverEnd n) s fun t => kget t.tasks n = some { x with passUntil := none }) ∧
  (∀ s n x, kget s.tasks n = some x → stranded s x = true →
    Runs .entryHandover (.entryHandover n) s fun t =>
      let free := fun f => if f = x.field ∨ poolFree s f < (membersOf s n).length then 0
        else (((clustersOf f).flatMap coresOf).filter fun c => eligible s x c).length
      let fs := (s.part (partOf x.launch)).fields.filter fun f => !(s.field f).lost
      ∀ m, m ∈ membersOf s n → ∀ z, kget s.tasks m.1 = some z → ∃ y, kget t.tasks m.1 = some y ∧
        ((y.noElig = some s.now ∧ y.field = z.field ∧ ∀ f, f ∈ fs → free f = 0) ∨
          (y.noElig = none ∧ y.passUntil = none ∧ y.joined = z.joined ∧ y.field ∈ fs ∧ y.field ≠ x.field ∧ 0 < free y.field ∧
            ∀ f, f ∈ fs → free f < free y.field ∨ (free f = free y.field ∧ y.field ≤ f)))) ∧
  (∀ s n b x d k l, fireReady s n = some b → kget s.tasks n = some x → descOf s x = some d → codeOf s x = some k →
      kget s.launches x.launch = some l →
    Runs .taskFire (.taskFire n) s fun t =>
      let y := (t.core x.core).bank b
      (t.core x.core).running = some b ∧ kget t.tasks n = some { x with st := .running, bank := b, restarted := false } ∧
        y.status = .live ∧ y.task = n ∧ y.pc = BitVec.ofNat 32 d.entry ∧ y.imBase = x.imBase ∧ y.imLen = k.imLen ∧ y.tblBase = x.tbBase ∧
        y.tblLen = k.tbLen ∧ (∀ i : Fin 16, y.mbx.get i = x.mbx.getD i.val 0) ∧
        y.taskid = BitVec.ofNat 32 (x.tmpl % 2 ^ 16 + x.rank * 2 ^ 16) ∧ y.gangRank = BitVec.ofNat 32 x.rank ∧
        y.gangSize = BitVec.ofNat 32 d.gang ∧ y.launch = BitVec.ofNat 32 x.launch ∧ y.gen = l.gen.setWidth 32 ∧ y.budget = d.budget ∧
        y.cyc (s.clk x.core) = 0 ∧ y.rnd = 0 ∧ y.flags = 0 ∧ y.rings = x.rings ∧ y.rdP 0 = true ∧ (∀ i, i ≠ 0 → y.rdP i = false) ∧
        (∀ i, y.s.get i = 0) ∧ (∀ i, y.v.get i = 0) ∧ (∀ i, y.m.get i = 0) ∧ (∀ i, y.a.get i = AddrReg.zero) ∧
        (∀ i, y.loops.get i = LoopLevel.zero) ∧ y.cause = 0 ∧ y.sr = 0 ∧ y.iaddr = 0 ∧ y.timeh = none ∧ y.psn = [] ∧ y.wset = [] ∧
        y.events = 0 ∧ (∀ i, y.groups.get i = CopyGroup.empty) ∧ y.phase = 0 ∧ y.hold = 0 ∧ y.staged = none) ∧
  (∀ s g ms, gangFires s g = some ms →
    Runs .gangFire (.gangFire g) s fun t =>
      kget t.gangs g = some ⟨ms.map fun m => m.2.core, ms.map fun _ => 0, ms.map fun _ => true⟩ ∧
        t = ms.foldl (fun u m => match memberBank s m with
            | some b => fireInto m.1 b (leaveBank m.2.core u)
            | none => u)
          { s with
              gangs := kset s.gangs g ⟨ms.map fun m => m.2.core, ms.map fun _ => 0, ms.map fun _ => true⟩ }) ∧
  (∀ s c b x d, overrun s c b = true → kget s.tasks ((s.core c).bank b).task = some x → descOf s x = some d →
    Runs .budgetExhausted (.budgetExhausted c b) s fun t =>
      (d.restart = false → ((t.core c).bank b).status = .trapped ∧
        t.aborts = s.aborts ++ [⟨x.launch, 0x03, BitVec.setWidth 32 (sourceOf c b), s.now⟩]) ∧
      (d.restart = true → 3 ≤ x.overruns → ((t.core c).bank b).status = .trapped ∧
        t.aborts = s.aborts ++ [⟨x.launch, 0x02, trapDetail 0x2D (sourceOf c b), s.now⟩])) ∧
  (∀ s m x, subOf s m.tgt = some x →
    Runs .installAcknowledgement (.installAcknowledgement m) s fun t =>
      ∃ y, subOf t m.tgt = some y ∧ y.acks = x.acks + 1 ∧
        (x.st = .installing → x.homes.length ≤ x.acks + 1 → y.st = .active)) ∧
  (∀ s m x, subOf s m.tgt = some x →
    Runs .installRefusal (.installRefusal m) s fun t =>
      (x.dynamic = true → ∃ y, subOf t m.tgt = some y ∧ y.st = .refused) ∧
        ∀ k, x.dynamic = false → kget s.tasks m.tgt.task = some k → k.st = .arming →
          t = undoArming m.tgt.task s) ∧
  (∀ s c, Runs .bankSwitch (.bankSwitch c) s fun t =>
      ∀ k b, k ∈ switching s c → (s.core k).running = some b → (t.core k).drain = some ⟨b, s.clk k + 8⟩) ∧
  (∀ s c d, drainEnds s c = some d → ((s.core c).bank (!d.fromBank)).status ≠ .empty →
    Runs .switchDrainEnd (.switchDrainEnd c) s fun t =>
      (t.core c).running = some (!d.fromBank) ∧ (t.core c).drain = none) ∧
  (∀ s c b code u, endFault s c b = some (code, u) →
    ((endStep c b s).core c).bank b = { ((endStep c b s).core c).bank b with status := .trapped, cause := code, sr := 0, tended := false }) ∧
  (∀ s c b n x l, endFault s c b = none → bankEnds s c b = true → ((s.core c).bank b).task = n → kget s.tasks n = some x →
      kget s.launches x.launch = some l →
    let t := endStep c b s
    let k := (t.core c).bank b
    kget t.tasks n = none ∧ (∃ y, kget t.launches x.launch = some y ∧ y.tasks = l.tasks + 1) ∧ k.status = .empty ∧
      (∀ i, (k.loop i).active = false) ∧ (∀ r, r ∈ k.rings → r.held = [] ∧ r.taken = [] ∧ r.asks = [] ∧ r.readers = []) ∧
      (x.st.bound = true → ∀ y, y ∈ x.subs → ∀ e, e ∈ removalsOf (x.core / 4) n y → e ∈ t.agenda) ∧
      (∀ o, o ∈ t.ops → o.2.core = c → o.2.bank = b → o.2.ofTask = false) ∧
      (t.core c).senior = (if (s.core c).senior = some b then
        (if ((s.core c).bank (!b)).status = .empty then none else some (!b)) else (s.core c).senior) ∧
      k.s = ((s.core c).bank b).s ∧ k.v = ((s.core c).bank b).v ∧ k.m = ((s.core c).bank b).m ∧ k.flags = ((s.core c).bank b).flags) ∧
  (∀ s c b why,
    let t := killBank c b why s
    let k := (t.core c).bank b
    k.status = .empty ∧ k.s = ((s.core c).bank b).s ∧ k.v = ((s.core c).bank b).v ∧ k.m = ((s.core c).bank b).m ∧
      (∀ o, o ∈ t.ops → o.2.core = c → o.2.bank = b → o.2.ofTask = false) ∧ (∀ q, q ∈ (t.core c).queue → q.bank ≠ b) ∧
      (∀ p, p ∈ (t.core c).port → p.op.bank ≠ b) ∧ (∀ q, q ∈ (t.core c).sel → q.bank ≠ b)) ∧
  (∀ s n why f, (∀ m, m ∈ membersOf s n → m.2.st = .running → isEnding s m.2 = true) → killUnit n why f s = s) ∧
  (∀ s n why f x, membersOf s n = [(n, x)] → x.st = .running → isEnding s x = false →
    ∃ g : TaskInst → TaskInst, killUnit n why f s = requeue n g (killBank x.core x.bank why s)) ∧
  (∀ s c b, waiteOver s c b = true →
    Runs .waiteTimeout (.waiteTimeout c b) s fun t =>
      ((t.core c).bank b).waitOver = true ∧ ((t.core c).bank b).events = ((s.core c).bank b).events)
/-! ## Boot, registers, time and power (23) -/

/-- R6, R487, R489, R490, R496, R500 to R502, R504, R517, R518, R520, R521, R540: boot starts the image in flash where it is accepted, measured
into MEAS0 and MEAS1, or enters recovery (what MEAS0 and MEAS1 are extended with is the model's choice, log 15; that flash keeps its image over a
reset its reading, log 16); MEAS3 to MEAS7 are extended for the management class; an admitted register write writes (THERMCFG
stands for all), one of a class that the register's chapter does not name is a violation, an admitted read answers (THERMCFG and QCTL stand for
all; that REGISTER_WRITE performs reads too is log 33), and before the image runs BAR2 reads 0; Mboam steps the time base; TBNSL answers and
latches TBNSH; a change of lock is kept; PTP and PPS events are time-stamped (their stamps: log 25); a record reaches the trace buffer; a thermal
sample, which also sets COOL (log 55), a power check and the coolant events change temperature, THR and boot state. -/
def Obligations.ManagementStepsComplete : Prop :=
  (∀ s cfg, Runs .powerOnReset (.powerOnReset cfg) s fun t =>
      t.mgmt.flash = s.mgmt.flash ∧ t.now = 0 ∧ t.launches = [] ∧ t.tasks = [] ∧ t.cores = [] ∧
        (s.mgmt.flash = none → t.mgmt.boot = .recovery) ∧
        ∀ img, s.mgmt.flash = some img →
          (acceptable s.mgmt.minVer img = true → t.mgmt.boot = .running ∧ t.mgmt.image = some img ∧
            t.mgmt.meas.getD 0 [] = sha384 (List.replicate 48 0 ++ sha384 img.body) ∧
            t.mgmt.meas.getD 1 [] = sha384 (List.replicate 48 0 ++ leBytes 4 (Config.securityVersion img.body).toNat)) ∧
          (acceptable s.mgmt.minVer img = false → t.mgmt.boot = .recovery)) ∧
  (∀ s img cfg port, s.mgmt.boot = .recovery →
    Runs .recoveryGo (.recoveryGo img cfg port) s fun t =>
      (acceptable s.mgmt.minVer img = true → t.mgmt.boot = .running ∧ t.mgmt.flash = some img) ∧
        (acceptable s.mgmt.minVer img = false → t.mgmt.boot = .recovery ∧ t.mgmt.flash = s.mgmt.flash)) ∧
  (∀ s k d m, 3 ≤ k → k ≤ 7 → barOpen s = true → m.cls = 6 →
    Runs .measurementExtend (.measurementExtend k d m) s fun t =>
      t = { s with mgmt := { s.mgmt with meas := lmod s.mgmt.meas k fun m => sha384 (m ++ d) } }) ∧
  (∀ s v m, v < 2 ^ 32 → barOpen s = true → m.cls = 6 → admitted s 6 (0x401000 / 4096) 6 m.part true false = true →
    Runs .registerWrite (.registerWrite ⟨0x401000, 4, v, m, 2, true⟩) s fun t =>
      t = { s with mgmt := { s.mgmt with
              tripth := bitsNat v 31 24, critth := bitsNat v 23 16, hotth := bitsNat v 15 8, hyst := bitsNat v 7 4 } }) ∧
  (∀ s v m, barOpen s = true → m.cls ≠ 6 →
    Runs .registerWrite (.registerWrite ⟨0x401000, 4, v, m, 2, true⟩) s fun t => t = violate s 6 (0x401000 / 4096) m.cls m.part true) ∧
  (∀ s m, barOpen s = true → admitted s 6 (0x401000 / 4096) m.cls m.part false true = true →
    Runs .registerWrite (.registerWrite ⟨0x401000, 4, 0, m, 2, false⟩) s fun t =>
      t = answer (s.mgmt.tripth * 2 ^ 24 + s.mgmt.critth * 2 ^ 16 + s.mgmt.hotth * 2 ^ 8 + s.mgmt.hyst * 2 ^ 4) s) ∧
  (∀ s q m x, q < 16384 → s.queue q = x → barOpen s = true → admitted s 3 q m.cls m.part false true = true →
    Runs .registerWrite (.registerWrite ⟨q * 32 + 8, 4, 0, m, 2, false⟩) s fun t =>
      t = answer (x.part * 2 ^ 20 + (if x.hold then 2 ^ 19 else 0) + x.prio * 2 ^ 16 + x.log2 * 2 ^ 12 + (if x.asg then 2 ^ 11 else 0) +
        if x.en then 1 else 0) s) ∧
  (∀ s off width m, barOpen s = false →
    Runs .registerWrite (.registerWrite ⟨off, width, 0, m, 2, false⟩) s fun t => t = answer 0 s) ∧
  (∀ s n m, n < 2 ^ 32 → barOpen s = true → m.cls = 6 → admitted s 6 (0x300010 / 4096) 6 m.part true false = true →
    Runs .tbstepWrite (.tbstepWrite n m) s fun t =>
      t.tb.ns = (tbUnits s / 2 ^ 24 % 2 ^ 64 + n) % 2 ^ 64 ∧ t.tb.frac = tbUnits s % 2 ^ 24 ∧ t.tb.since = s.now) ∧
  (∀ s m, barOpen s = true → admitted s 6 (0x300000 / 4096) m.cls m.part false true = true →
    Runs .tbnslRead (.tbnslRead m) s fun t =>
      t.mgmt.reads = s.mgmt.reads ++ [taiNs s % 2 ^ 32] ∧ t.mgmt.nsh = some (taiNs s / 2 ^ 32) ∧
        t.mgmt.frac = some (tbUnits s % 2 ^ 24 / 2 ^ 16)) ∧
  (∀ s locked src off, Runs .timeLockChange (.timeLockChange locked src off) s fun t =>
      t.tb = { s.tb with locked := locked, src := BitVec.ofNat 2 src, offset := BitVec.ofNat 16 (min off 65535) }) ∧
  (∀ s p, Runs .ptpEventMessage (.ptpEventMessage p) s fun t => t.mgmt.stamps = s.mgmt.stamps ++ [(1 + p % 2, taiNs s)]) ∧
  (∀ s, Runs .ppsEdge .ppsEdge s fun t =>
      ∃ ns, t.mgmt.stamps = s.mgmt.stamps ++ [(3, ns)] ∧ ns ≤ taiNs s + 1 ∧ taiNs s ≤ ns + 1) ∧
  (∀ s f u r, traceNext s f = some (u, r) → (s.field f).trace.gaps.toList.all (fun n => n = 0) = true →
      (s.field f).trace.unread < 2 ^ 18 →
    Runs .traceWrite (.traceWrite f) s fun t =>
      t.mem = Memory.setBytes s.mem ((s.field f).trace.slotKey (s.field f).trace.wr) r.bytes ∧
        (t.field f).trace.wr = ((s.field f).trace.wr + 1) % 2 ^ 19) ∧
  (∀ s k n, nextThermal s.mgmt (s.cluster k).tstate (n % 256) = (s.cluster k).tstate →
    Runs .thermalSample (.thermalSample k n) s fun t => t = s.modCluster k fun x =>
      { x with temp := n % 256, cool := min ((s.mgmt.hotth - n % 256) / 4) 7 }) ∧
  (∀ s k n, nextThermal s.mgmt (s.cluster k).tstate (n % 256) = 2 → (s.cluster k).tstate = 1 →
    Runs .thermalSample (.thermalSample k n) s fun t => (t.cluster k).tstate = 2 ∧ (t.cluster k).temp = n % 256) ∧
  (∀ s p, Runs .powerCheck (.powerCheck p) s fun t =>
      t = { s with mgmt := { s.mgmt with
              pwr := p % 4096, thr := if s.mgmt.thrHeld then 3 else nextThr s.mgmt.cap s.mgmt.thr (p % 4096) } }) ∧
  (∀ s, Runs .coolantFault .coolantFault s fun t => t = { s with mgmt := { s.mgmt with thr := 3, thrHeld := true } }) ∧
  (∀ s, Runs .coolantTrip .coolantTrip s fun t =>
      (s.mgmt.boot = .running → t.mgmt.boot = .dead) ∧ (s.mgmt.boot ≠ .running → t.mgmt.boot = s.mgmt.boot) ∧
        (∀ f, f < 84 → (t.field f).lost = true) ∧ ∀ k, k < 2016 → (t.cluster k).tstate = 3)

/-! ## Faults, lost fields, links and the debug unit (20, 23) -/

/-- R237, R240, R241, R333, R472, R475 to R480, R483, R484, R515, R516: what errors, lost parts, tenant switches, links, refresh windows and the
debugger do. Which units of a cluster are its SRAM, whose errors count and freeze it, is log 23; that a window is marked in the step that is due,
with CUR, ACT and NEXT from the clock, is log 22; when a halt that the debugger asks for is due is log 13. The launches that the loss of a field aborts, with cause 0x04 and the field, are those
that have a task in it, traffic or an operation from or to its cores, a row parked for an entry that it makes LOST, or a binding to one. -/
def Obligations.FaultStepsComplete : Prop :=
  (∀ s part fs, Runs .tenantSwitch (.tenantSwitch part fs 1) s fun t =>
      t.queues = s.queues.map fun (x : Nat × WorkQueue) => (x.1, if x.2.asg && x.2.part = part then { x.2 with hold := true } else x.2)) ∧
  (∀ s part fs, (s.launches.filter fun x => x.2.part = part) = [] →
    Runs .tenantSwitch (.tenantSwitch part fs 5) s fun t =>
      t = s.modPart part fun p =>
        { p with fields := p.fields.filter (fun f => !fs.contains f), noArm := p.noArm.filter (fun f => !fs.contains f), stale := true }) ∧
  (∀ s part, rebuildDue s part = true →
    Runs .homeTableRebuild (.homeTableRebuild part) s fun t =>
      t = moveViews part (s.modPart part fun p =>
        { p with fields := liveFields s part, homes := homeTable s (liveFields s part), stale := false })) ∧
  (∀ s k, (s.cluster k).mapped = false →
    Runs .clusterRetirement (.clusterRetirement k) s fun t => (t.cluster k).mapped = true ∧ (t.cluster k).retired = true) ∧
  (∀ s k, (s.cluster k).stopped = false →
    Runs .clusterFailure (.clusterFailure k) s fun t =>
      (t.cluster k).mapped = true ∧ (t.cluster k).stopped = true ∧
        ∀ m, m ∈ runningOn s k → ⟨m.2.launch, 0x02, trapDetail 0x2E (sourceOf (4 * k) false), s.now⟩ ∈ t.aborts) ∧
  (∀ s f, f < 84 → (s.field f).lost = false →
    Runs .fieldLoss (.fieldLoss f) s fun t =>
      (t.field f).lost = true ∧ (∀ k, k ∈ clustersOf f → (t.cluster k).stopped = true) ∧ (∀ n, n < 48 → t.slot f n = .free) ∧
        t.aborts = s.aborts ++ (s.launches.filter fun l =>
          lostWith s f (entriesIn s f) l.1 l.2 && !l.2.discarded && !l.2.retiring).map fun l => ⟨l.1, 0x04, BitVec.ofNat 32 f, s.now⟩) ∧
  (∀ s f l x, lostWith s f (entriesIn s f) l x = true ↔
    (∃ k, k ∈ s.tasks ∧ k.2.launch = l ∧ (k.2.field = f ∨ (k.2.st.bound = true ∧ fieldOf k.2.core = f))) ∨
    (∃ e, e ∈ s.agenda ∧ Event.ofLaunch l e = true ∧ eventInField s f e = true) ∨
    (∃ r, r ∈ s.routers ∧
      ((∃ h, h ∈ r.2.held ∧ h.pkt.launch = l ∧ (fieldOfCluster r.1 = f ∨ Packet.sentFrom h.pkt f = true)) ∨
        (∃ h, h ∈ r.2.holds ∧ h.pkt.launch = l ∧ Packet.sentFrom h.pkt f = true) ∨
        (∃ p, p ∈ r.2.partials ∧ p.pkt.launch = l ∧ p.ends ≠ 0 ∧ Packet.sentFrom p.pkt f = true) ∨
        ∃ y, y ∈ r.2.transit ∧ y.pkt.launch = l ∧ Packet.sentFrom y.pkt f = true)) ∨
    (∃ o, o ∈ s.ops ∧ o.2.launch = l ∧ o.2.ofTask = true ∧ fieldOf o.2.core = f) ∨
    (∃ e, e ∈ entriesIn s f ∧ l ∈ launchesParked s e.1 e.2) ∨
    ∃ e, e ∈ entriesIn s f ∧ e.1 = x.part ∧ (s.ertEntry e.1 e.2).bind ≠ 0 ∧ (s.ertEntry e.1 e.2).bind / 2 ^ 20 = x.ns) ∧
  (∀ s f e, e ∈ entriesIn s f ↔ ∃ k, k ∈ s.ert ∧ k.2.field = f ∧ 1 ≤ k.2.st ∧ k.2.st ≤ 3 ∧ e = (k.1 / 65536, k.1 % 65536)) ∧
  (∀ s k unit, unit < 6 → (s.cluster k).freeze = none → (s.cluster k).ce < 2 ^ 24 - 1 →
    Runs .correctableError (.correctableError k unit) s fun t =>
      t.cluster k = { s.cluster k with ce := (s.cluster k).ce + 1, freeze := some (s.clk (4 * k) + 16) }) ∧
  (∀ s k, frozenOver s k = true →
    Runs .freezeEnd (.freezeEnd k) s fun t =>
      (t.cluster k).freeze = (if (s.cluster k).refreeze then some (s.clk (4 * k) + 16) else none) ∧ (t.cluster k).refreeze = false ∧
      (t.cluster k).entries = (s.cluster k).entries.map (fun e => { e with began := e.began + frozenFor s k }) ∧
      (∀ c b, c ∈ coresOf k → ((t.core c).bank b).pauseUntil =
          moveTime (s.clk c - frozenFor s k) (frozenFor s k) ((s.core c).bank b).pauseUntil ∧
        ((t.core c).bank b).s = ((s.core c).bank b).s ∧ ((t.core c).bank b).pc = ((s.core c).bank b).pc) ∧
      ∀ c, c ∉ coresOf k → t.core c = s.core c) ∧
  (∀ s k c o, Runs .uncorrectableError (.uncorrectableError k 0 (.scratchpad c o)) s fun t =>
      (t.cluster k).ue = min ((s.cluster k).ue + 1) 255 ∧ (Space.spad c).key o / 4 * 4 ∈ t.poison ∧ ∀ w, w ∈ s.poison → w ∈ t.poison) ∧
  (∀ s f, windowDue s f = true →
    Runs .refreshWindow (.refreshWindow f) s fun t =>
      t = s.modField f fun x =>
        { x with refCur := s.now / 1024 % 16, refAct := s.now % 1024 < 48, refNext := s.now / 1024 + 1 }) ∧
  (∀ s f, windowOver s f = true →
    Runs .refreshWindowEnd (.refreshWindowEnd f) s fun t => t = s.modField f fun x => { x with refAct := false }) ∧
  (∀ s p, portLost s p = true →
    Runs .linkPortFailure (.linkPortFailure p) s fun t =>
      (t.link p).peer = none ∧ ∀ l, l ∈ s.launches → edgeOn s p l.2 = true → l.2.discarded = false → l.2.retiring = false →
        ∃ a, a ∈ t.aborts ∧ a.launch = l.1 ∧ a.cause = 0x06) ∧
  (∀ s p, (s.link p).up = true →
    Runs .linkPortFails (.linkPortFails p) s fun t => t.link p = { s.link p with up := false, since := s.now }) ∧
  (∀ s p, (s.link p).peer.isSome = true → portLost s p = false →
    Runs .linkPortRetrained (.linkPortRetrained p) s fun t => t.link p = { s.link p with up := true }) ∧
  (∀ s p, Runs .linkCrcReplay (.linkCrcReplay p) s fun t => t = s.modLink p fun x => { x with replays := x.replays + 1 }) ∧
  (∀ s r, Runs .routerFailure (.routerFailure r) s fun t =>
      (t.router r).stopped = true ∧ (s.mgmt.boot = .running → t.mgmt.boot = .dead) ∧
        ∀ l, l ∈ s.launches → l.2.discarded = false → l.2.retiring = false → ∃ a, a ∈ t.aborts ∧ a.launch = l.1 ∧ a.cause = 0x04) ∧
  (∀ s c, haltDue s c = true →
    Runs .debugHalt (.debugHalt c) s fun t => (t.core c).dbg.halted = true ∧ (t.core c).dbg.reason = .request) ∧
  (∀ s c b m w, debugMay s c m w true → (s.core c).dbg.den = true → (s.core c).dbg.halted = true → (s.core c).running = some b →
    Runs .debugStep (.debugStep c m w) s fun t =>
      (t.core c).dbg.halted = false ∧ (t.core c).dbg.stepping = true ∧ ((t.core c).bank b).pc = ((s.core c).bank b).iaddr) ∧
  (∀ s c, stepOver s c = true →
    Runs .stepEnd (.stepEnd c) s fun t => (t.core c).dbg.halted = true ∧ (t.core c).dbg.reason = .stepEnded) ∧
  (∀ s c b m w, debugMay s c m w true → (s.core c).dbg.den = true → (s.core c).dbg.halted = true → (s.core c).running = some b →
    Runs .debugRun (.debugRun c m w) s fun t =>
      (t.core c).dbg.halted = false ∧ (t.core c).dbg.stepping = false ∧ ((t.core c).bank b).pc = ((s.core c).bank b).iaddr) ∧
  (∀ s c v m w, debugMay s c m w false → (s.core c).dbg.halted = true →
    Runs .dbgdataAccess (.dbgdataAccess c false v m w) s fun t =>
      t.mgmt.reads = s.mgmt.reads ++ [(readItem (atBank c (s.core c).dbg.abank s) (s.core c).dbg.item.toNat).toNat]) ∧
  (∀ s c v m w (d : BitVec 5), debugMay s c m w true → (s.core c).dbg.halted = true → (s.core c).dbg.item.toNat = 0x400 + d.toNat →
      d ≠ 0 →
    Runs .dbgdataAccess (.dbgdataAccess c true v m w) s fun t =>
      ((t.core c).bank (s.core c).dbg.abank).rdS d = BitVec.ofNat 32 v) ∧
  (∀ s c v m, barOpen s = true → ¬ debugMay s c m false true →
    Runs .dbgdataAccess (.dbgdataAccess c true v m false) s fun t => t = violate s 6 ((0x200000 + 32 * c) / 4096) m.cls m.part true)
/-! ## The matrix array (12, 13) -/

/-- R272, R288, R289, R291, R292, R295 to R301, R316 to R321: what the staging queues, the merge buffer, the array and the accumulator ports do. A load is judged
as the bank group grants it: a FREE slot gives the dead-slot fault, a LOADING one the not-sealed fault, a staged tile that is reached no longer the
address-range cause (R219, R309), a poisoned tile the memory-error cause; every other load brings its 32 KiB. The memory-error code of a poisoned load is the model's reading (log 34), and which of the free merge
entries a segment takes its choice (log 88). A selection's column and its packed list are written as its operation ends (R272). A position that fires takes its A row into the array, or is
padding; a result is the row of R292, with RMAX under ST (R295); a row of an accumulator port is that of R316 to R321. How poison travels into RMAX and
RSUM is the model's reading (log 32). -/
def Obligations.MatrixStepsComplete : Prop :=
  (∀ s c q r, (s.core c).queue = q :: r → dequeuable s c = true →
    Runs .stagingDequeue (.stagingDequeue c) s fun t =>
      t = dequeue c q s ∧ (q.kind = .mwait → (t.core c).queue = r) ∧
        (q.kind = .mhold → (t.core c).queue = r ∧ ((t.core c).bank q.bank).hold = q.form.rows) ∧
        (q.kind = .mzero → (t.core c).queue = r ∧ (t.core c).port = (s.core c).port ++ [⟨q, [], [], 0, MForm.n q.form, false, []⟩])) ∧
  (∀ s c q r n, (s.core c).queue = q :: r → admissible s c = true → admissionFault s c q = none → q.kind = .mma → q.form.mrg = false →
      freeEntry (s.cluster (c / 4)) = some n →
    Runs .segmentAdmission (.segmentAdmission c) s fun t =>
      (t.core c).queue = r ∧ ∃ e, (t.cluster (c / 4)).entries = (s.cluster (c / 4)).entries ++ [e] ∧ e.num = n ∧ e.kind = .product) ∧
  (∀ s k num, Runs .holdLimitReached (.holdLimitReached k num) s fun t =>
      ∀ e, e ∈ (s.cluster k).entries → e.num = num → holdReached s k e = true → { e with ready := true } ∈ (t.cluster k).entries) ∧
  (∀ s k e, bestEntry s k = some e →
    Runs .arraySelection (.arraySelection k) s fun t =>
      if e.isLoad then
        ((s.cluster k).stat.has e.key || (s.cluster k).shad.has e.key) = true →
          (t.cluster k).entries = (s.cluster k).entries.filter fun y => y.num ≠ e.num
      else (t.cluster k).next = some e.num) ∧
  (∀ s k j, (s.cluster k).job = some j → grantable s k j = true →
    Runs .weightLoadGrant (.weightLoadGrant k) s fun t =>
      let src := if j.key.slot = 63 then j.src else wtileKey (fieldOfCluster k) j.key.slot j.key.tile
      let slot := s.slot (fieldOfCluster k) j.key.slot
      ∃ bad, (t.cluster k).job = some { j with granted := true, bad := bad } ∧
        (j.key.slot ≠ 63 → slot = .free → bad = some 0x22) ∧ (j.key.slot ≠ 63 → slot = .loading → bad = some 0x23) ∧
        (j.key.slot = 63 → stagedHeld s j.key j.src = false → bad = some causeAddrRange) ∧
        (((j.key.slot ≠ 63 ∧ slot = .sealed) ∨ (j.key.slot = 63 ∧ stagedHeld s j.key j.src = true)) →
          (poisoned s src 32768 = true → bad = some 0x29) ∧
          (poisoned s src 32768 = false → bad = none ∧
            ∀ i, i < 32768 → Memory.get t.mem ((Space.wload j.id).key 0 + i) = Memory.get s.mem (src + i)))) ∧
  (∀ s k j, (s.cluster k).job = some j → loadEnds s k j = true → j.bad = none → j.stale = false →
    Runs .weightLoadEnd (.weightLoadEnd k) s fun t =>
      (t.cluster k).job = none ∧ (t.cluster k).shad = ⟨some j.key, some j.id⟩) ∧
  (∀ s k n e, (s.cluster k).current = none → (s.cluster k).next = some n → (s.cluster k).entry n = some e → canStart e = true →
    let x := (startNext k s).cluster k
    x.current = some n ∧ x.next = none ∧
      (e.kind = .transpose ∨ (s.cluster k).stat.load = e.tile → x.stat = (s.cluster k).stat ∧ x.shad = (s.cluster k).shad) ∧
      (e.kind ≠ .transpose → (s.cluster k).stat.load ≠ e.tile → x.stat = (s.cluster k).shad ∧ x.shad = (s.cluster k).stat)) ∧
  (∀ s k e, firing s k = some e →
    Runs .positionFire (.positionFire k) s fun t =>
      t = firePosition k e (startNext k s) ∧ t.mem = s.mem ∧
        (∀ y, (t.cluster k).entry e.num = some y → y.fired = e.fired + 1) ∧
        (∀ g, nextPosition (startNext k s) e = some (some g) → g.aborted = false →
          let key := unitKey s (segCore g) g.op g.units g.fired
          (key ≠ 0 → (t.core (segCore g)).flights = (s.core (segCore g)).flights ++
            (if e.kind = .transpose then [] else [⟨g.op, g.fired, readBytes s key 256, poisoned s key 256, e.tile.getD 0⟩])) ∧
          (key = 0 → ⟨some g.op.form.z.toNat, g.op.bank, g.op.task, causeAddrRange⟩ ∈ (t.core (segCore g)).tileFaults ∧
            ((t.core (segCore g)).tflags.get (Fin.ofNat 4 g.op.form.z.toNat)).getLsbD 7 = true)) ∧
        ((∀ g, nextPosition (startNext k s) e = some (some g) → g.aborted = true) → ∀ c, (t.core c).flights = (s.core c).flights)) ∧
  ((∀ a b w k acc, cellSteps a b w 0 k acc = acc) ∧
    ∀ a b w n k v fl, cellSteps a b w (n + 1) k (v, fl) =
      let r := FFmt.f32.roundTerms .rne ([FFmt.f32.decode v] :: (List.range w).map fun i => [a (k + i), b (k + i)])
      cellSteps a b w n (k + w) (r.1, fl.or r.2)) ∧
  (∀ s c i x, nextResult s c = some (i, x) →
    Runs .rowResultWrite (.rowResultWrite c) s fun t =>
      (t.core c).flights = (s.core c).flights.eraseIdx i ∧
        (x.row + 1 = MForm.n x.op.form → ((t.core c).bank x.op.bank).events.getLsbD 3 = true) ∧
        (x.row < 128 →
          let q := x.op
          let z := q.form.z.toNat
          let cells := (List.range 128).map fun j =>
            cellSteps (aElem q.form.afmt x.a) (fun k => bElem s ((Space.wload x.load).key 0) q.form.bfmt k j) (if isB8 q.form.bfmt then 2 else 1)
              128 0 (if MForm.zf q.form then 0 else readElem s c z x.row j, Fl.none)
          let psn := fun j => x.psn || (!MForm.zf q.form && elemPoison s c z x.row j)
          RowBecomes s t c z x.row (cells.map fun e => e.1) psn
              (flagBits (Fl.all (cells.map fun e => e.2)) ||| psnBit ((List.range 128).any psn)) ∧
            (MForm.st q.form = true → rmaxOf t c z x.row = BitVec.ofNat 32 ((cells.map fun e => e.1).foldl
              (fun a v => (FFmt.f32.minMax true a v).1) (if MForm.zf q.form then 0xFF800000 else (rmaxOf s c z x.row).toNat))) ∧
            (MForm.st q.form = false → t.rmax = s.rmax) ∧ t.rsum = s.rsum)) ∧
  (∀ s c x r, (s.core c).sel = x :: r →
    Runs .selectWrites (.selectWrites c) s fun t =>
      (t.core c).sel = r ∧ t.mem = x.writes.foldl (fun m w => Memory.setBytes m w.1 w.2) s.mem ∧
        ((t.core c).bank x.bank).rdV x.dst = x.result) ∧
  (∀ s c i p, (s.core c).port[i]? = some p → portReady s c i p = true →
    Runs .accumulatorPortRow (.accumulatorPortRow c i) s fun t =>
      if p.row + PortOp.stepRows p < p.rows then
        (t.core c).port.map (fun o => (o.op, o.row)) =
          ((s.core c).port.modify i fun o => { o with row := p.row + PortOp.stepRows p }).map fun o => (o.op, o.row)
      else (t.core c).port.map (fun o => o.op) = ((s.core c).port.eraseIdx i).map (fun o => o.op) ∧ ((t.core c).bank p.op.bank).events.getLsbD 3 = true) ∧
  (∀ s c i p, (s.core c).port[i]? = some p → portReady s c i p = true → p.row < 128 →
    Runs .accumulatorPortRow (.accumulatorPortRow c i) s fun t =>
      let q := p.op
      let z := q.form.z.toNat
      let r := p.row
      let old := fun j => FFmt.f32.decode (readElem s c z r j)
      let key := unitKey s c q p.units r
      let lost := (⟨some z, q.bank, q.task, causeAddrRange⟩ : TileFault) ∈ (t.core c).tileFaults
      (q.kind = .mzero → RowBecomes s t c z r (List.replicate 128 0) (fun _ => false) 0 ∧ rmaxOf t c z r = 0xFF800000 ∧ rsumOf t c z r = 0 ∧
        sideKey c z r false ∉ t.poison ∧ sideKey c z r true ∉ t.poison) ∧
      (q.kind = .mdrain →
        let es := (List.range 128).map fun j =>
          if q.form.afmt = 1 then (readElem s c z r j, Fl.none)
          else
            let e := if isB8 q.form.afmt then (b8Of q.form.afmt).encode .rne (MForm.zf q.form) (old j)
              else (fmtOf q.form.afmt).encode .rne (MForm.zf q.form) (old j)
            (e.1, (if (old j).isSnan then Fl.inv else Fl.none).or e.2)
        (key ≠ 0 → t.mem = putWords s.mem key (es.flatMap fun e => leBytes (afmtBytes q.form.afmt) e.1) (PortOp.wordsLeft p 0)) ∧
          (key = 0 → t.mem = s.mem ∧ (((s.core c).port.any fun o => o.op.id = q.id && o.bad) = false → lost)) ∧
          (t.core c).tflags.get (Fin.ofNat 4 z) = (s.core c).tflags.get (Fin.ofNat 4 z) ||| flagBits (Fl.all (es.map fun e => e.2))) ∧
      (q.kind = .mstat → t.rmax = s.rmax ∧ t.rsum = s.rsum ∧
        t.mem = (List.range (PortOp.stepRows p)).foldl (fun m d =>
          if unitKey s c q p.units (r + d) = 0 then m
          else putWords m (unitKey s c q p.units (r + d)) (leBytes 4 (rmaxOf s c z (r + d)).toNat ++ leBytes 4 (rsumOf s c z (r + d)).toNat)
            (PortOp.wordsLeft p d)) s.mem) ∧
      (q.kind = .msca →
        let ws := if r = 0 then (List.range 128).map (scaleWord s c q q.addr2) ++ (List.range p.rows).map (scaleWord s c q q.addr) else p.data
        let w := fun i => ws.getD i ([], false)
        let psn := fun j => elemPoison s c q.form.zs.toNat r j || elemPoison s c z r j || (w (128 + r)).2 || (w j).2
        let v := fun i => FFmt.f32.decode (leNat (w i).1)
        let cells := (List.range 128).map fun j =>
          FFmt.f32.roundTerms .rne [[old j], [FFmt.f32.decode (readElem s c q.form.zs.toNat r j), v (128 + r), v j]]
        (w (128 + r)).1 ≠ [] → (∀ x, x ∈ ws.take 128 → x.1 ≠ []) →
          RowBecomes s t c z r (cells.map fun e => e.1) psn
              (flagBits (Fl.all (cells.map fun e => e.2)) ||| psnBit ((List.range 128).any psn)) ∧ t.rmax = s.rmax ∧ t.rsum = s.rsum) ∧
      (q.kind = .mresc → key ≠ 0 →
        let f := FFmt.f32.decode (readNat s key 4)
        let cells := (List.range 128).map fun j => FFmt.f32.roundTerms .rne [[old j, f]]
        let sum := FFmt.f32.roundTerms .rne [[FFmt.f32.decode (rsumOf s c z r).toNat, f], [FFmt.f32.decode (readNat s (key + 4) 4)]]
        let psn := fun j => elemPoison s c z r j || poisoned s key 4
        let sp := s.poison.contains (sideKey c z r true) || poisoned s key 4 || poisoned s (key + 4) 4
        RowBecomes s t c z r (cells.map fun e => e.1) psn
            (flagBits ((Fl.all (cells.map fun e => e.2)).or sum.2) ||| psnBit (sp || (List.range 128).any psn)) ∧
          rsumOf t c z r = BitVec.ofNat 32 sum.1 ∧ t.rmax = s.rmax) ∧
      (q.kind = .mtrn →
        let n := p.data.length
        let src := fun j => aElem q.form.afmt (p.data.getD j ([], false)).1 r
        let psn := fun j => if j < n then (p.data.getD j ([], false)).2 else elemPoison s c z r j
        RowBecomes s t c z r
          ((List.range 128).map fun j => if j < n then (FFmt.f32.encode .rne false (src j)).1 else readElem s c z r j) psn
          (flagBits (Fl.all ((List.range 128).map fun j => if j < n && (src j).isSnan then Fl.inv else Fl.none)) |||
            psnBit ((List.range n).any psn))))

/-! ## The name network (14) -/

/-- R90, R336 to R338, R342, R344, R347, R350, R353, R406, R541: what routers and homes do. A crossing that its port cannot send is held there as
R347 holds a delivery: with its payload, or with its key alone and its copy pinned. -/
def Obligations.NetworkStepsComplete : Prop :=
  (∀ s m r port rest, liveLaunch s m.pat.launch = true → m.todo = (r, port) :: rest →
    Runs .install (.install m) s fun t =>
      (2048 < (s.router r).entries.length + newEntries s m r → Event.installRefusal m ∈ t.agenda) ∧
      ((s.router r).entries.length + newEntries s m r ≤ 2048 →
        (if rest.isEmpty then Event.installAcknowledgement { m with todo := rest, done := m.done ++ [(r, port)] }
          else Event.install { m with todo := rest, done := m.done ++ [(r, port)] }) ∈ t.agenda)) ∧
  (∀ s m r port rest, m.todo = (r, port) :: rest → m.done = [] → orderedHere s m r = true →
    Runs .removal (.removal m) s fun t =>
      orderedHere t m r = false ∧
        (rest ≠ [] → Event.removal { m with todo := rest, done := [(r, port)] } ∈ t.agenda)) ∧
  (∀ s p r tgt home nd pat counts homes d k x,
      (⟨pat, .loc tgt nd, counts, homes, d⟩ : MatchEntry) ∈ (s.router r).entries → kget s.tasks tgt.task = some k →
      subOf s tgt = some x →
    Runs .delivery (.delivery p r tgt home) s fun t =>
      ∃ y, subOf t tgt = some y ∧ y.arrivals = min (x.arrivals + 1) 65535) ∧
  (∀ s r tgt h k x g, heldReady s r tgt = some h → kget s.tasks tgt.task = some k → subOf s tgt = some x →
      taskRing s k x.ring = some g → h.dropped = false → g.fills (.engine 0) = false →
    Runs .heldDeliveryRelease (.heldDeliveryRelease r tgt) s fun t =>
      (t.router r).held = (s.router r).held.erase h ∧
        t.mem = Memory.setBytes s.mem ((Space.spad k.core).key (g.slotAddr g.slotNow)) h.pkt.payload) ∧
  (∀ s p r home, Runs .pinRequest (.pinRequest p r home) s fun t =>
      (t.router home).kept = (s.router home).kept.map fun (k : Kept) =>
        if copyKey k.pkt = copyKey p then { k with pins := k.pins + 1 } else k) ∧
  (∀ s h, Runs .copyExpiry (.copyExpiry h) s fun t =>
      (t.router h).kept = (s.router h).kept.map fun (k : Kept) => if k.expiry ≤ 2 * s.now then { k with expired := true } else k) ∧
  (∀ s p cover r, liveLaunch s p.launch = true →
    Runs .contribution (.contribution p cover r) s fun t =>
      (r = homeOf s p.name p.launch → t = contributeHome r p cover s) ∧
      (r ≠ homeOf s p.name p.launch → Router.granules (s.router r) + granules p ≤ 2048 → tagsOf s r < 4096 →
        (t.router r).partials = absorb 17 ⟨p, cover, s.now + 32, false⟩ (s.router r).partials)) ∧
  (∀ s r i x, (s.router r).partials[i]? = some x →
    Runs .partnerTimeout (.partnerTimeout r i) s fun t =>
      (t.router r).partials = (s.router r).partials.eraseIdx i ∧
        Event.contribution x.pkt x.cover (nextHop r (homeOf s x.pkt.name x.pkt.launch)).1 ∈ t.agenda) ∧
  (∀ s p k, liveLaunch s p.launch = true → youngest (s.router (homeOf s p.name p.launch)) p.name p.launch = some k →
    Runs .getRequest (.getRequest p) s fun t =>
      Event.getResponse { p with payload := k.pkt.payload.take p.ask, psn := k.pkt.psn, kind := 9, dstCl := p.srcCl, dstCb := p.srcCb,
                                 srcCl := homeOf s p.name p.launch, srcCb := 0 } 0 ∈ t.agenda) ∧
  (∀ s q g p pos, liveLaunch s q.launch = true → q.why = .get g →
    Runs .queryReply (.queryReply q (.tile p pos)) s fun t =>
      Event.getResponse { g with payload := p.payload.take g.ask, psn := p.psn, kind := 9, dstCl := g.srcCl, dstCb := g.srcCb,
                                 srcCl := q.home, srcCb := 0 } 0 ∈ t.agenda) ∧
  (∀ s p x, liveLaunch s p.launch = true → youngest (s.router (homeOf s p.name p.launch)) p.name p.launch = none →
      tensorOf s (nsOf p.name) (tnumOf p.name) = some x → x.pclass ≠ 0 →
    Runs .prefetchAtHome (.prefetchAtHome p) s fun t =>
      ∃ rq, t.rim = s.rim ++ [rq] ∧ rq.agent = queryAgent s p.name p.launch ∧ rq.part = partOf p.launch ∧
        rq.work = .step (.rimQuery ⟨homeOf s p.name p.launch, p.name, p.gen, p.launch, p.phase, decide (x.pclass = 2), .prefetch, s.opId,
          [], 0, false⟩)) ∧
  (∀ s l p k q, p.coll = false → crossingPort s l p = some k → holdsFor s k = [] → (s.link k).peer = some q →
    Runs .cutEdgeCrossing (.cutEdgeCrossing l p false) s fun t => t.outbox = s.outbox ++ [.forward q.1 p]) ∧
  (∀ s l p, l < 96 → crossingPort s l p = none →
    Runs .cutEdgeCrossing (.cutEdgeCrossing l p false) s fun t =>
      ∃ h, holdsFor t l = holdsFor s l ++ [h] ∧ h.pkt.name = p.name ∧ h.pkt.gen = p.gen ∧ h.home = homeOf s p.name p.launch ∧
        (h.dropped = false → h.pkt.payload = p.payload) ∧
        (h.dropped = true → h.pkt.payload = [] ∧ Event.pinRequest { p with payload := [] } (linkRouter l).1 (homeOf s p.name p.launch) ∈ t.agenda)) ∧
  (∀ s l p, p.coll = false → p.kind = 2 →
    Runs .cutEdgeCrossing (.cutEdgeCrossing l p true) s fun t =>
      Event.contribution { p with org := .peer } [p.cidx] (linkRouter l).1 ∈ t.agenda) ∧
  (∀ s l p, p.coll = false → p.kind ≠ 2 → p.kind ≠ 4 →
    Runs .cutEdgeCrossing (.cutEdgeCrossing l p true) s fun t => Event.publicationAtHome { p with org := .peer } ∈ t.agenda)

/-! ## Copy engines (15, 16) -/

/-- R88, R353, R356, R364, R367, R369, R370, R372, R376, R388, R389, R392, R396: what copy engines, rim resources and agents do. That the device's
own accesses to a parking area are judged by the access tables when they are performed, and what an access turned away does, is the model's reading
(log 42). -/
def Obligations.CopyStepsComplete : Prop :=
  (∀ s i o, kget s.ops i = some o → o.id = i → copyReady s o = true →
    Runs .copyRequest (.copyRequest i) s fun t =>
      t = flushBank o.core o.bank 64 (sendOp o s) ∧ kget (sendOp o s).ops i =
        some { o with place := .engine, after := [], req := if o.ofTask then some o.request else none }) ∧
  (∀ s i o, kget s.ops i = some o → nextToLeave s o = true → ifaceRuns s o = true → fenceDone s o = true →
    Runs .cfenceRelease (.cfenceRelease i) s fun t => t = flushBank o.core o.bank 64 (endOp o s)) ∧
  (∀ s i o p spans, kget s.ops i = some o → nextToLeave s o = true → ifaceRuns s o = true → o.rel = true → released s o = true → o.kind = .publish →
      o.pkts = [(p, spans)] → p.kind = 0 →
    Runs .releaseInjection (.releaseInjection i) s fun t =>
      t = flushBank o.core o.bank 64 (sendOp o s) ∧
        Event.publicationAtHome { p with payload := sourceBytes s spans, psn := spans.any fun x => poisoned s x.1 x.2 } ∈
          (sendOp o s).agenda) ∧
  (∀ s i r, s.rim[i]? = some r → rimFirst s i r = true → rimFits s r = true →
    Runs .rimRequestStart (.rimRequestStart i) s fun t =>
      t = startRim i r s ∧ ∀ e, r.work = .step e → (∀ q, e ≠ .rimQuery q) →
        t.rim = s.rim.eraseIdx i ∧ t.rimBusy = kset s.rimBusy (agentNow s r) (s.now + r.occ) ∧ SameMemory s t ∧
        ((∀ n lo hi, e ≠ .remoteResult n lo hi) → t.agenda = s.agenda ++ [e]) ∧
        ∀ n lo hi o, e = .remoteResult n lo hi → kget s.ops n = some o →
          (o.kind = .sumpq → t.agenda = s.agenda ++ [.remoteResult n (sumpValue s o.part o.opnd) 0]) ∧
          (o.kind = .ertq → ertAdmits s o = true → t.agenda = s.agenda ++ [.remoteResult n (ertValue s o.part o.opnd) 0])) ∧
  (∀ s i r part e l u y, s.rim[i]? = some r → rimFirst s i r = true → rimFits s r = true → r.work = .unpark part e l →
      oldestRow s part e l = some (u, y) → mayForward s part e l = true → kget s.sumps u.1 = some u.2 →
      areaAdmits s part 2 y.pkt.header false = true →
    Runs .rimRequestStart (.rimRequestStart i) s fun t =>
      kget t.sumps u.1 = some { u.2 with rows := u.2.rows.drop 1 } ∧
        ∀ x, x ∈ spread s (bindHome s part (s.ertEntry part e)) y.pkt 128 (bindHome s part (s.ertEntry part e)) →
          ∃ n, Event.delivery { y.pkt with op := n } x.1 x.2 (bindHome s part (s.ertEntry part e)) ∈ t.agenda) ∧
  (∀ s p o, kget s.ops p.op = some o → o.cancelled = false → movedUnits s (.getResponse p 0) = [] →
    Runs .getResponse (.getResponse p 0) s fun t =>
      t.mem = Memory.setBytes s.mem o.loc (p.payload.take o.len) ∧ ((t.core o.core).bank o.bank).events.getLsbD 2 = true ∧
        kget t.ops o.id = none) ∧
  (∀ s i o n, kget s.ops i = some o → o.retryAt = some n → n ≤ s.now →
    Runs .getRetryResend (.getRetryResend i) s fun t =>
      kget t.ops i = some { o with retryAt := none } ∧ ∀ e, e ∈ o.send → e ∈ t.agenda) ∧
  (∀ s q, liveLaunch s q.launch = true → q.backed = false →
    Runs .rimQuery (.rimQuery q) s fun t => ∃ a, Event.queryReply q a ∈ t.agenda) ∧
  (∀ s n o i b f u a, kget s.ops n = some o → o.id = n → walkReady s o = true → walkNext o = some i → o.boxes[i]? = some b →
      walkRefused (walkState s o b.va) o b.va = none →
      translate (walkState s o b.va) o.engine o.part o.gid b.va o.reads o.writes = .ok (f, u) → agentOf u o.part f.mtype f.pa = some a →
    Runs .pageWalk (.pageWalk n) s fun t =>
      ∃ r, r ∈ t.rim ∧ r.agent = a ∧ r.part = o.part ∧
        r.work = .step (if o.kind = .atomic then .atomicAtAgent n else .boxPerformed n i)) ∧
  (∀ s n o i b c, kget s.ops n = some o → o.id = n → walkReady s o = true → o.place = .engine → nextBox o = some i → o.boxes[i]? = some b →
      walkRefused (walkState s o b.va) o b.va = none →
      translate (walkState s o b.va) o.engine o.part o.gid b.va o.reads o.writes = .error c →
    Runs .pageWalk (.pageWalk n) s fun t => ∃ y, kget t.ops n = some y ∧ y.place = .faulted n i s.now) ∧
  (∀ s n i o b x, kget s.ops n = some o → o.id = n → o.boxes[i]? = some b → b.tr = some x → b.done = false →
      accessFault s o x o.writes o.reads = none → movedUnits s (.boxPerformed n i) = [] →
    Runs .boxPerformed (.boxPerformed n i) s fun t =>
      (o.kind = .load → t.mem = Memory.setBytes s.mem (o.loc + b.off) (readBytes s (memKey x) b.len)) ∧
      (o.kind = .store → x.mtype ≠ 2 →
        t.mem = Memory.setBytes s.mem (memKey x) (readBytes s (o.loc + b.off) b.len))) ∧
  (∀ s n o b r x, kget s.ops n = some o → o.boxes = b :: r → b.tr = some x → b.done = false → x.mtype ≠ 2 →
      accessFault s o x true true = none → poisoned s (memKey x) (if o.wide then 8 else 4) = false →
    Runs .atomicAtAgent (.atomicAtAgent n) s fun t =>
      (let w := if o.wide then 8 else 4
       let old := readNat s (memKey x) w
       Event.remoteResult o.id (old % 2 ^ 32) (old / 2 ^ 32) ∈ t.agenda ∧
         t.mem = match atomicNew o.aop (8 * w) old o.opnd o.cmp with
           | some v => Memory.setBytes s.mem (memKey x) (leBytes w v)
           | none => s.mem)) ∧
  (∀ s n lo hi o, kget s.ops n = some o → o.wide = false →
    Runs .remoteResult (.remoteResult n lo hi) s fun t =>
      (∀ r, ((t.core o.core).bank o.bank).rdS r =
        if r = BitVec.ofNat 5 o.dst ∧ r ≠ 0 then BitVec.ofNat 32 lo else ((s.core o.core).bank o.bank).rdS r) ∧
        kget t.ops o.id = none) ∧
  (∀ s part tag o, faultedOp s part tag = some o → o.id = tag → o.ofTask = true →
    Runs .faultResume (.faultResume part tag) s fun t =>
      kget t.ops tag = some { o with place := .engine, ahead := [] } ∧ ((t.core o.core).bank o.bank).events.getLsbD 7 = true) ∧
  (∀ s part tag o, faultedOp s part tag = some o → o.ofTask = true →
    Runs .faultAbort (.faultAbort part tag) s fun t =>
      t.aborts = s.aborts ++ [⟨o.launch, 0x02, trapDetail 0x28 (sourceOf o.core o.bank), s.now⟩]) ∧
  (∀ s n o, kget s.ops n = some o → faultLate s o = true → o.ofTask = true →
    Runs .faultAnswerTimeout (.faultAnswerTimeout n) s fun t =>
      t.aborts = s.aborts ++ [⟨o.launch, 0x02, trapDetail 0x28 (sourceOf o.core o.bank), s.now⟩]) ∧
  (∀ s part m, barOpen s = true → admitted s 6 (partPage part) m.cls m.part true false = true → (s.part part).invBusy = false →
    Runs .vminvGo (.vminvGo part m) s fun t =>
      (t.part part).invBusy = true ∧
        t.tlbs = s.tlbs.map fun (x : Nat × List TlbEntry) => (x.1, x.2.filter fun e => !named (s.part part) part e)) ∧
  (∀ s part, invalidated s part = true →
    Runs .invalidationDone (.invalidationDone part) s fun t =>
      t = s.modPart part fun p => { p with invBusy := false, invWait := [] })

/-! ## Expert residency (17) -/

/-- R339, R416, R418, R419, R422, R424, R425, R427 to R429: what homes and ERT agents do with bound tensors, rows, pages and hints. A parked row
leaves its sump through a rim slot; a sump that holds no row more is freed. That the write of a row is judged by the access tables is the model's
reading (log 42). -/
def Obligations.ExpertStepsComplete : Prop :=
  (∀ s p, liveLaunch s p.launch = true → boundEntry s (partOf p.launch) p.name = none → p.coll = false →
    Runs .publicationAtHome (.publicationAtHome p) s fun t =>
      ∀ x, x ∈ spread s (homeOf s p.name p.launch) p 128 (homeOf s p.name p.launch) →
        ∃ n, Event.delivery { p with op := n } x.1 x.2 (homeOf s p.name p.launch) ∈ t.agenda) ∧
  (∀ s part e v m, part < 16 → e < 65536 → barOpen s = true → admitted s 2 (part * 65536 + e) m.cls m.part true false = true →
      (s.ertEntry part e).st = 0 → bitsNat (overlay (ertImage (s.ertEntry part e)) 0 32 v) 223 192 = 0 →
    Runs .ertWrite (.ertWrite ⟨0x1000000 + part * 0x200000 + e * 32, 32, v, m, 2, true⟩) s fun t =>
      t.ertEntry part e = { s.ertEntry part e with
        bind := 0, home := bitsNat (overlay (ertImage (s.ertEntry part e)) 0 32 v) 120 64,
        tiles := bitsNat (overlay (ertImage (s.ertEntry part e)) 0 32 v) 27 17 }) ∧
  (∀ s part e m, barOpen s = true → admitted s 2 (part * 65536 + e) m.cls m.part true false = true → (s.ertEntry part e).st = 2 →
    Runs .ertcmdPrefetch (.ertcmdPrefetch part e m) s fun t => t = s.modErt part e fun x => { x with lastuse := taiNs s }) ∧
  (∀ s part e m, barOpen s = true → admitted s 2 (part * 65536 + e) m.cls m.part true false = true → (s.ertEntry part e).st = 1 →
    Runs .ertcmdPin (.ertcmdPin part e m) s fun t => t = s.modErt part e fun x => { x with pinned := true }) ∧
  (∀ s part e m, barOpen s = true → admitted s 2 (part * 65536 + e) m.cls m.part true false = true → (s.ertEntry part e).st = 1 →
    Runs .ertcmdUnpin (.ertcmdUnpin part e m) s fun t => t = s.modErt part e fun x => { x with pinned := false }) ∧
  (∀ s part e m, barOpen s = true → admitted s 2 (part * 65536 + e) m.cls m.part true false = true → evictable s part e = true →
    Runs .ertcmdRelease (.ertcmdRelease part e m) s fun t =>
      t = retryPages part (evict part e s) ∧ ((evict part e s).ertEntry part e).st = 0 ∧
        (evict part e s).slot (s.ertEntry part e).field (s.ertEntry part e).slot = .free) ∧
  (∀ s part e l ph, admitted s 2 (part * 65536 + e) 0 part true false = true → (s.ertEntry part e).st = 2 →
    Runs .hintAtErtAgent (.hintAtErtAgent part e 0 l ph) s fun t => t = s.modErt part e fun x => { x with lastuse := taiNs s }) ∧
  (∀ s p, liveLaunch s p.launch = true → boundEntry s (partOf p.launch) p.name = none →
    Runs .rowAtHome (.rowAtHome p) s fun t =>
      ∀ x, x ∈ spread s (homeOf s p.name p.launch) p 128 (homeOf s p.name p.launch) →
        ∃ n, Event.delivery { p with op := n } x.1 x.2 (homeOf s p.name p.launch) ∈ t.agenda) ∧
  (∀ s p e, liveLaunch s p.launch = true → boundEntry s (partOf p.launch) p.name = some e →
      (viewOf s (homeOf s p.name p.launch) (partOf p.launch) e).st = 4 →
    Runs .rowAtHome (.rowAtHome p) s fun t =>
      t.aborts = s.aborts ++
        [⟨p.launch, 0x04, BitVec.ofNat 32 (viewOf s (homeOf s p.name p.launch) (partOf p.launch) e).field, s.now⟩]) ∧
  (∀ s part e, sealable s part e = true →
    Runs .pageSeal (.pageSeal part e) s fun t =>
      ∃ u, t = retryPages part (noticeDistributors part e u) ∧
        u.slot (s.ertEntry part e).field (s.ertEntry part e).slot = .sealed ∧
        (u.ertEntry part e).st = if (s.ertEntry part e).pinned then 3 else 2) ∧
  (∀ s part e code, (s.ertEntry part e).st = 1 →
    Runs .pageFailure (.pageFailure part e code) s fun t =>
      (∀ u, u ∈ sumpsFor s part e none → ⟨u.2.launch, 0x02, trapDetail code aditSource, s.now⟩ ∈ t.aborts) ∧
        ∃ u, t = retryPages part (dropPage part e code u)) ∧
  (∀ s part handle a b r, policyOf s part handle = some r → (s.ertEntry part r.e).st = 0 → policyLate s r = true →
    Runs .policyAnswer (.policyAnswer part handle a b) s fun t =>
      t = answered part r.e (policyDefault r { s with policy := s.policy.erase r })) ∧
  (∀ s part handle a b r, policyOf s part handle = some r → (s.ertEntry part r.e).st = 0 → r.evict = false → policyLate s r = false →
      (pagingFields s part).contains a = true → (freeSlots s part a).contains b = true →
    Runs .policyAnswer (.policyAnswer part handle a b) s fun t =>
      t = answered part r.e (pageInto part r.e a b { s with policy := s.policy.erase r }) ∧
        (pageInto part r.e a b { s with policy := s.policy.erase r }).slot a b = .loading) ∧
  (∀ s part handle r, policyOf s part handle = some r → policyLate s r = true →
    Runs .policyTimeout (.policyTimeout part handle) s fun t =>
      t = answered r.part r.e (policyDefault r { s with policy := s.policy.erase r })) ∧
  (∀ s part e st f, (s.ertEntry part e).bind ≠ 0 → st ≠ 0 → st ≠ 4 →
    Runs .stateNotice (.stateNotice part e st f) s fun t =>
      (viewOf t (bindHome s part (s.ertEntry part e)) part e).st = st ∧
        (viewOf t (bindHome s part (s.ertEntry part e)) part e).field = f) ∧
  (∀ s part r u, liveLaunch s r.pkt.launch = true → (sumpsFor s part r.entry (some r.pkt.launch)).getLast? = some u →
      kget s.sumps u.1 = some u.2 → parkedBytes s part + r.pkt.payload.length ≤ (s.part part).parkRoom → u.2.rows.length < 4096 →
      areaAdmits s part 2 r.pkt.header true = true →
    Runs .rowParking (.rowParking part r) s fun t => kget t.sumps u.1 = some { u.2 with rows := u.2.rows ++ [r] }) ∧
  (∀ s part e f n x, kget s.tasks n = some x → x.st = .pending → partOf x.launch = part → expertEntry s x = some e →
    Runs .residencyNotice (.residencyNotice part e f) s fun t => kget t.tasks n = some { x with field := f }) ∧
  (∀ s part e l u y, drainReady s part e l = true → oldestRow s part e l = some (u, y) →
    Runs .sumpDrain (.sumpDrain part e l) s fun t =>
      ∃ r, t.rim = s.rim ++ [r] ∧ r.part = part ∧ r.agent = u.1 % 24 ∧ r.work = .unpark part e l) ∧
  (∀ s part e l, drainReady s part e l = true → oldestRow s part e l = none →
    Runs .sumpDrain (.sumpDrain part e l) s fun t =>
      ∀ u y, u ∈ sumpsFor s part e (some l) → kget t.sumps u.1 = some y → y.rows = [] ∧ y.order = 0)
/-! ## Bundle rows, decoding, steps and reset (05, 06, 09, 23) -/

/-- R123, R125, R127, R147, R167, R470: what the fetch at a header address finds; an empty bundle completes, and an image word that parses as no
bundle and an unassigned opcode take the decode traps with SR 0. That a fetch at an address which is no start position of its line is malformed is
the model's reading (log 11). -/
def Obligations.BundleRowsComplete : Prop :=
  ((∀ s x, fetchAt s s.ctx.core s.bank s.ctx.addr = .bundle x → x.slots = [] → fallsOff s.bank s.ctx.addr s.ctx.fall [] = false →
     s.ctx.bkpt = false →
     ∃ t, exec .emptyBundle s = .next t ∧ t.bank = completeBank s.ctx.addr s.ctx.fall x.stop [] (freshBank s.bank) ∧ SameMemory s t ∧
       ∀ c, c ≠ s.ctx.core → t.core c = s.core c) ∧
   (∀ s, ∃ t, exec .malformedHeader s = .next t ∧ Trapped s t causeIllegalEncoding 0) ∧
   (∀ s, ∃ t, exec .unassignedOpcode s = .next t ∧ Trapped s t causeIllegalOpcode 0)) ∧
  (∀ s c b a,
     (b.imWords ≤ a → fetchAt s c b a = .outside) ∧
     (a < b.imWords → imPoison s c b a (headWords ((lineOf s c b a).drop (a % lineWords))) = true → fetchAt s c b a = .poison) ∧
     (a < b.imWords → imPoison s c b a (headWords ((lineOf s c b a).drop (a % lineWords))) = false →
       ((startPositions (lineOf s c b a)).contains (a % lineWords) = false → fetchAt s c b a = .malformed) ∧
       ((startPositions (lineOf s c b a)).contains (a % lineWords) = true →
         fetchAt s c b a = match decodeBundle ((lineOf s c b a).drop (a % lineWords)) with
           | .ok x => .bundle x
           | .error .illegalOpcode => .unassigned
           | .error .illegalEncoding => .malformed)))

/-- R145 to R167: the decoder reads every legal encoded instruction back from its words, with every operand at every value, and takes the
extension word exactly where the instruction has one. -/
def Obligations.DecodeOfEncode : Prop :=
  ∀ i c w x, Instr.legal i = true → encode i = some (c, w, x) → takesExt c w = x.isSome ∧ decodeSlot c w x = .ok i

/-- R145 to R147: what decodes is encoded as the same words: no bit of a slot word or of its extension word is dropped. -/
def Obligations.EncodeOfDecode : Prop :=
  ∀ c w x i, decodeSlot c w x = .ok i → takesExt c w = x.isSome → encode i = some (c, w, x)

/-- R167: the unassigned opcode values of each class and their number, that a slot word with one is an illegal opcode, and that a bundle with
one takes the illegal-opcode cause. -/
def Obligations.UnassignedOpcodes : Prop :=
  (∀ op, op < 128 → (assigned .S op = false ↔
    (0x1C ≤ op ∧ op ≤ 0x1F) ∨ (0x28 ≤ op ∧ op ≤ 0x2F) ∨ (0x42 ≤ op ∧ op ≤ 0x47) ∨ op = 0x4E ∨ op = 0x4F ∨ (0x52 ≤ op ∧ op ≤ 0x5F) ∨
      0x6A ≤ op)) ∧
  (∀ op, op < 128 → (assigned .V op = false ↔
    (0x25 ≤ op ∧ op ≤ 0x27) ∨ op = 0x57 ∨ op = 0x67 ∨ op = 0x6E ∨ op = 0x6F ∨ op = 0x7F)) ∧
  (∀ op, op < 128 → (assigned .M op = false ↔ 0x10 ≤ op)) ∧
  (∀ op, op < 128 → (assigned .C op = false ↔ (0x0A ≤ op ∧ op ≤ 0x0F) ∨ (0x1B ≤ op ∧ op ≤ 0x1F) ∨ 0x23 ≤ op)) ∧
  (∀ e ∈ ([(.S, 72), (.V, 120), (.M, 16), (.C, 24)] : List (SlotClass × Nat)),
    ((List.range 128).filter fun op => assigned e.1 op).length = e.2) ∧
  (∀ c w x, assigned c (opcOf w).toNat = false → takesExt c w = false ∧ decodeSlot c w x = .error .illegalOpcode) ∧
  ∀ s, ∃ t, exec .unassignedOpcode s = .next t ∧ Trapped s t causeIllegalOpcode 0

/-- Words written out from the encodings of R145 to R164: one of each class and format, words and headers that are illegal, and the bundle that
06_encodings.md writes out word by word. -/
def Obligations.DecodeWords : Prop :=
  decodeSlot .S (0b0_0000000_000_0_00001_00010_00011_0000_0) none = .ok (.add ⟨⟨0, false⟩, 1, 2, 3, 0, none⟩) ∧
  decodeSlot .S (0b0_0011000_011_1_00100_00000000000000_1) (some 0x12345678) = .ok (.li ⟨⟨3, true⟩, 4, 0, some 0x12345678⟩) ∧
  decodeSlot .S (0b0_0110000_000_0_00101_00110_000000010_0) none = .ok (.ldw ⟨⟨0, false⟩, 5, 6, 2, none⟩) ∧
  decodeSlot .S (0b0_0100000_001_0_11111111111111110000) none = .ok (.br ⟨⟨1, false⟩, 0xFFFF0⟩) ∧
  decodeSlot .S (0b0_0100101_000_0_00111_01_0000000001100) none = .ok (.loop ⟨⟨0, false⟩, 7, 1, 12, none⟩) ∧
  decodeSlot .S (0b0_1101001_010_0_00000_00000_0000000101) none = .ok (.spause ⟨⟨2, false⟩, 0, 0, 5⟩) ∧
  decodeSlot .V (0b0_1110000_000_0_00011_010_1111111_001_1_0) none = .ok (.vld ⟨⟨0, false⟩, 3, 2, 127, 1, true, none⟩) ∧
  decodeSlot .V (0b0_1110100_000_0_00100_011_0000010_000_0_1) (some 0b01001_01_0_000000000000000000000000) =
    .ok (.vgath ⟨⟨0, false⟩, 4, 3, 2, 0, false, some 0x4A000000⟩) ∧
  decodeSlot .M (0b0_0001111_000_0_00_0000_0_0_00_0000000000) (some 0) = .ok (.mflush ⟨⟨0, false⟩, 0, 0, false, false, 0, 0, 0⟩) ∧
  decodeSlot .C (0b0_0000110_000_0_00000_00000_0101_00000_0) none = .ok (.cwait ⟨⟨0, false⟩, 0, 0, 5, 0, none⟩) ∧
  decodeSlot .V (0b0_0000000_000_0_00001_00010_00011_000_0_0) none = .ok (.vfaddF32 ⟨⟨0, false⟩, 1, 2, 3, 0, false, none⟩) ∧
  decodeSlot .S (0b1_0000000_000_0_00001_00010_00011_0000_0) none = .error .illegalEncoding ∧
  decodeSlot .S (0b0_0000000_000_1_00001_00010_00011_0000_0) none = .error .illegalEncoding ∧
  decodeBundle [0x81000000] = .ok ⟨true, false, 1, []⟩ ∧
  decodeBundle [0x80000001] = .error .illegalEncoding ∧
  decodeBundle [0xC1000000, 0x00108860] = .error .illegalEncoding ∧
  decodeBundle [0xC1000000, 0x00008860] = .ok ⟨true, false, 2, [(0, .add ⟨⟨0, false⟩, 1, 2, 3, 0, none⟩)]⟩ ∧
  decodeBundle [0xE9000000, 0x30038804, 0x0A018440, 0x03049028, 0x41014011] = .ok ⟨true, false, 5,
    [(0, .ldw ⟨⟨0, false⟩, 7, 2, 2, none⟩), (1, .vfmaBf16 ⟨⟨0, false⟩, 3, 1, 2, 0, false, none⟩),
     (3, .mma ⟨⟨0, false⟩, 1, 2, false, true, 0, 40, 0x41014011⟩)]⟩

/-- R123, R129, R131, R132, R143, R147, R470, R478: a step in which a core issues the bundle at its program counter runs the decoded instructions of
its slots in order: one slot is `exec` of its instruction, after which the next slot runs or, when the slot has trapped, none; a complete bundle completes
the bank, and time passes. A bundle that does not decode runs its row of the table; one that breaks the dependence check, one that falls off the image,
and a fetch that finds poison or nothing trap before any slot commits, with SR 0; a BRK under debug control halts the core. The members of a gang that leave a GBAR (R216) run their
bundles one after the other in one step, those that can issue then: both are the model's (logs 20, 74). A step that no word encodes is `exec` of
its row; the end of a task that is past its TEND is a step of its own. -/
def Obligations.StepRunsDecoded : Prop :=
  (∀ s c b x, pickMove s (moves s) = some (.issue c b) →
    let u := State.modBank { s with ctx := issueCtx s c b } wake
    fetchAt u c u.bank u.ctx.addr = .bundle x → conflicts u.bank x = false → brkHalts x (u.core c) u.bank = false → x.slots ≠ [] →
    (u.bank.sr = 0 → fallsOff u.bank u.ctx.addr u.ctx.fall (x.slots.map fun k => k.2) = false) →
    let v := if u.bank.sr = 0 then u.modBank freshBank else u
    ∀ t, runSlots exec (pendingSlots v.bank x) v = .next t →
      step s = .next (closeStep (dropWait c b
        (if (noteStepOps v.opId t).ctx.stopped then noteStepOps v.opId t else completeBundle x (noteStepOps v.opId t))))) ∧
  (∀ s, runSlots exec [] s = .next s) ∧
  (∀ s k i r t, s.ctx.stopped = false →
    exec i (beforeSlot i { s with ctx := { s.ctx with slot := k, later := r.map fun x => x.1 } }) = .next t →
    runSlots exec ((k, i) :: r) s = runSlots exec r (commitSlot i t)) ∧
  (∀ s k i r, s.ctx.stopped = true → runSlots exec ((k, i) :: r) s = .next s) ∧
  (∀ s c b t, pickMove s (moves s) = some (.issue c b) →
    let u := State.modBank { s with ctx := issueCtx s c b } wake
    (fetchAt u c u.bank u.ctx.addr = .malformed → exec .malformedHeader u = .next t →
      step s = .next (closeStep (dropWait c b t))) ∧
      (fetchAt u c u.bank u.ctx.addr = .unassigned → exec .unassignedOpcode u = .next t →
        step s = .next (closeStep (dropWait c b t)))) ∧
  (∀ s c b, pickMove s (moves s) = some (.issue c b) →
    let u := State.modBank { s with ctx := issueCtx s c b } wake
    let f := fetchAt u c u.bank u.ctx.addr
    let traps := fun (cause : BitVec 8) => ∃ t, step s = .next (closeStep (dropWait c b t)) ∧ Trapped u t cause 0
    (f = .outside → traps causeInstrRange) ∧ (f = .poison → traps causePoison) ∧
      ∀ x, f = .bundle x →
        (conflicts u.bank x = true → traps causeIllegalEncoding) ∧
        (conflicts u.bank x = false → brkHalts x (u.core c) u.bank = true →
          ∃ t, step s = .next (closeStep (dropWait c b t)) ∧ SameMemory u t ∧ (t.core c).dbg.halted = true ∧ (t.core c).dbg.reason = .brk ∧
            t.bank.sr = 0 ∧ t.bank.s = u.bank.s ∧
            ((u.core c).running = some b → t.bank.iaddr = BitVec.ofNat 32 (issueAddr u c u.bank))) ∧
        (conflicts u.bank x = false → brkHalts x (u.core c) u.bank = false → x.slots ≠ [] → u.bank.sr = 0 →
          fallsOff u.bank u.ctx.addr u.ctx.fall (x.slots.map fun k => k.2) = true → traps causeInstrRange)) ∧
  (∀ b x, conflicts b x = true ↔ b.sr = 0 ∧ ∃ l i r, x.slots.map (fun k => k.2) = l ++ i :: r ∧
    ((∃ w, w ∈ (Instr.uses i).writes ∧ (w ∈ b.wset ∨ ∃ j, j ∈ l ∧ w ∈ (Instr.uses j).writes)) ∨
     ∃ w, w ∈ (Instr.uses i).reads ∧ (w ∈ b.wset ∨ ∃ j, j ∈ l ∧ Instr.calls j = false ∧ w ∈ (Instr.uses j).writes))) ∧
  (∀ s g x t, pickMove s (moves s) = some (.barrier g) → kget s.gangs g = some x → issueAll exec (leavers s (g, x)) s = .next t →
    step s = .next (closeStep t)) ∧
  (∀ s c b r t, bundleStep exec c b s = .next t → issueAll exec ((c, b) :: r) s = issueAll exec r (dropWait c b t)) ∧
  (∀ s i e t, pickMove s (moves s) = some (.arrive i e) →
    exec (Event.instr e) { touchTraffic e { s with agenda := s.agenda.eraseIdx i } with ev := some e } = .next t →
    let u := notePath s e { t with early := t.early.filter fun x => x.1 ≠ e }
    step s = .next (closeStep (if s.agenda.length ≤ u.agenda.length then keepPlace e u else u))) ∧
  (∀ s e t, pickMove s (moves s) = some (.own e) → exec (Event.instr e) { s with ev := some e } = .next t →
    step s = .next (closeStep { t with early := t.early.filter fun x => x.1 ≠ e })) ∧
  (∀ s c b, pickMove s (moves s) = some (.finish c b) → step s = .next (closeStep (endStep c b s))) ∧
  ∀ s, moves s = [] → step s = .next (closeStep s)

/-- R2, R131: every step of the device answers a next state: no instruction and no step of the device faults or is refused. -/
def Obligations.EveryStepAnswers : Prop := ∀ s, Answers (step s)

/-- Every step keeps the canonical form of memory (log 1), from every state that has it. -/
def Obligations.StepKeepsMemory : Prop := ∀ s t, State.Inv s → step s = .next t → State.Inv t

/-- The device after reset has the invariant. -/
def Obligations.ResetInvariant : Prop := State.Inv State.reset

/-- R8, R121, R224, R234, R300, R487, R502: what reset leaves: every control register of every bank at its reset value, scratchpad words
empty, RMAX minus infinity, RSUM and every byte of a tile +0, MHOLDC 96, the time base at 0 counting 1.25 ns a cycle, and the measurements
zero. -/
def Obligations.ResetValues : Prop :=
  (∀ c b i, i < 0x400 → ctlListed (BitVec.ofNat 10 i) = true →
    readCtl (atBank c b State.reset) i = if i = 0x00C then 0x01000000 else if i = 0x00D then 96 else 0) ∧
  (∀ c b r, ((State.reset.core c).bank b).rdP r = decide (r = 0)) ∧
  (∀ w, isFull State.reset w = false ∧ w ∉ State.reset.poison) ∧
  (∀ c n r, kgetD State.reset.rmax (sideIdx c n r) 0xFF800000 = (0xFF800000 : Word) ∧
    kgetD State.reset.rsum (sideIdx c n r) 0 = (0 : Word)) ∧
  (∀ a, Memory.get State.reset.mem a = 0) ∧
  (∀ k, (State.reset.cluster k).mholdc = 96 ∧ (State.reset.cluster k).stat = WBank.empty ∧ (State.reset.cluster k).shad = WBank.empty) ∧
  taiNs State.reset = 0 ∧ State.reset.tb.inc = 0x01400000 ∧
  State.reset.mgmt.meas = List.replicate 8 (List.replicate 48 0) ∧
  ∀ q, (State.reset.queue q).en = false ∧ (State.reset.queue q).head = 0 ∧ (State.reset.queue q).tail = 0
end

