-- ==== Sys2Proof/Laws/KMap.lean ====
section
/-! SUPPORT. Sparse tables and byte memory: reading after writing, and the canonical form of memory. -/

namespace Sys2Proof.Machine

variable {α : Type}

/-! ### Tables -/

@[simp] theorem kget_kset_same (m : KMap α) (k : Nat) (v : α) : kget (kset m k v) k = some v := by
  induction m with
  | nil => simp [kset, kget]
  | cons e r ih =>
    obtain ⟨k', v'⟩ := e
    simp only [kset]
    split
    · simp [kget]
    · split
      · simp [kget]
      · rename_i h _
        simp [kget, h, ih]

theorem kget_kset_ne (m : KMap α) {k j : Nat} (v : α) (h : j ≠ k) : kget (kset m k v) j = kget m j := by
  induction m with
  | nil => simp [kset, kget, h]
  | cons e r ih =>
    obtain ⟨k', v'⟩ := e
    simp only [kset]
    split
    · rename_i hk
      subst hk
      simp [kget, h]
    · split
      · simp [kget, h]
      · simp only [kget, ih]

@[simp] theorem kgetD_kset_same (m : KMap α) (k : Nat) (v d : α) : kgetD (kset m k v) k d = v := by simp [kgetD]

theorem kgetD_kset_ne (m : KMap α) {k j : Nat} (v d : α) (h : j ≠ k) : kgetD (kset m k v) j d = kgetD m j d := by
  simp [kgetD, kget_kset_ne m v h]

theorem kgetD_of_kget {m : KMap α} {k : Nat} {v : α} (d : α) (h : kget m k = some v) : kgetD m k d = v := by simp [kgetD, h]

@[simp] theorem kset_kset_same (m : KMap α) (k : Nat) (v w : α) : kset (kset m k v) k w = kset m k w := by
  induction m with
  | nil => simp [kset]
  | cons e r ih =>
    obtain ⟨k', v'⟩ := e
    by_cases h : k = k'
    · simp [kset, h]
    · by_cases h' : k < k'
      · simp [kset, h, h']
      · simp [kset, h, h', ih]

theorem kget_kdel_ne (m : KMap α) {k j : Nat} (h : j ≠ k) : kget (kdel m k) j = kget m j := by
  induction m with
  | nil => rfl
  | cons e r ih =>
    obtain ⟨k', v'⟩ := e
    have ih' : kget (List.filter (fun e => decide (e.1 ≠ k)) r) j = kget r j := ih
    by_cases hk : k' = k
    · subst hk
      simpa [kdel, kget, h] using ih'
    · simp only [ne_eq, decide_not] at ih'
      simp [kdel, kget, hk, ih']

@[simp] theorem kget_kdel_same (m : KMap α) (k : Nat) : kget (kdel m k) k = none := by
  induction m with
  | nil => rfl
  | cons e r ih =>
    obtain ⟨k', v'⟩ := e
    have ih' : kget (List.filter (fun e => decide (e.1 ≠ k)) r) k = none := ih
    by_cases hk : k' = k
    · simpa [kdel, hk] using ih'
    · simpa [kdel, kget, hk, Ne.symm hk] using ih'

/-! ### Sets of keys -/

@[simp] theorem mem_sadd (m : List Nat) (k j : Nat) : j ∈ sadd m k ↔ j = k ∨ j ∈ m := by
  induction m with
  | nil => simp [sadd]
  | cons x r ih =>
    simp only [sadd]
    split
    · subst_vars; simp
    · split
      · simp
      · simp only [List.mem_cons, ih]; tauto

@[simp] theorem mem_sdel (m : List Nat) (k j : Nat) : j ∈ sdel m k ↔ j ≠ k ∧ j ∈ m := by
  simp [sdel, and_comm]

theorem mem_foldl_sadd (l m : List Nat) (j : Nat) : j ∈ l.foldl sadd m ↔ j ∈ l ∨ j ∈ m := by
  induction l generalizing m with
  | nil => simp
  | cons x r ih => simp only [List.foldl_cons, ih, mem_sadd, List.mem_cons]; tauto

theorem mem_foldl_sdel (l m : List Nat) (j : Nat) : j ∈ l.foldl sdel m ↔ j ∉ l ∧ j ∈ m := by
  induction l generalizing m with
  | nil => simp
  | cons x r ih => simp only [List.foldl_cons, ih, mem_sdel, List.mem_cons]; tauto

/-! ### Byte memory: read after write -/

theorem Memory.get_insert (m : List (Nat × BitVec 8)) (a b : Nat) (v : BitVec 8) :
    Memory.get (Memory.insert m a v) b = if b = a then v else Memory.get m b := by
  induction m with
  | nil => simp [Memory.insert, Memory.get]
  | cons e r ih =>
    obtain ⟨k, w⟩ := e
    simp only [Memory.insert]
    split
    · simp [Memory.get]
    · split
      · subst_vars
        by_cases h : b = k <;> simp [Memory.get, h]
      · simp only [Memory.get, ih]
        by_cases h : b = k
        · have : b ≠ a := by omega
          simp [h]; omega
        · simp [h]

theorem Memory.get_filter (m : List (Nat × BitVec 8)) (a b : Nat) :
    Memory.get (m.filter fun e => e.1 ≠ a) b = if b = a then Memory.default else Memory.get m b := by
  induction m with
  | nil => simp [Memory.get]
  | cons e r ih =>
    obtain ⟨k, w⟩ := e
    by_cases hk : k = a
    · subst hk
      by_cases hb : b = k <;> simp_all [Memory.get]
    · by_cases hb : b = k
      · simp [Memory.get, hk, hb]
      · simpa [Memory.get, hk, hb] using ih

/-- Reading a byte after writing one. -/
theorem Memory.get_set (m : List (Nat × BitVec 8)) (a b : Nat) (v : BitVec 8) :
    Memory.get (Memory.set m a v) b = if b = a then v else Memory.get m b := by
  unfold Memory.set
  split
  · rename_i h
    rw [Memory.get_filter, h]
  · exact Memory.get_insert m a b v

/-- A write of bytes leaves every other byte alone. -/
theorem Memory.get_setBytes_outside (bs : List (BitVec 8)) (m : List (Nat × BitVec 8)) (a b : Nat)
    (h : b < a ∨ a + bs.length ≤ b) : Memory.get (Memory.setBytes m a bs) b = Memory.get m b := by
  induction bs generalizing m a with
  | nil => rfl
  | cons x r ih =>
    simp only [List.length_cons] at h
    rw [Memory.setBytes, ih _ _ (by omega), Memory.get_set, if_neg (by omega)]

/-- A byte that was written reads as it was written. -/
theorem Memory.get_setBytes_inside (bs : List (BitVec 8)) (m : List (Nat × BitVec 8)) (a i : Nat) (h : i < bs.length) :
    Memory.get (Memory.setBytes m a bs) (a + i) = bs[i] := by
  induction bs generalizing m a i with
  | nil => simp at h
  | cons x r ih =>
    cases i with
    | zero => rw [Memory.setBytes, Memory.get_setBytes_outside _ _ _ _ (by omega), Memory.get_set]; simp
    | succ i =>
      simp only [List.length_cons] at h
      have := ih (Memory.set m a x) (a + 1) i (by omega)
      rw [Memory.setBytes, show a + (i + 1) = a + 1 + i by omega, this]
      simp

/-! ### Byte memory: the canonical form -/

theorem Memory.wfAbove_cons {b : Option Nat} {k : Nat} {v : BitVec 8} {r : List (Nat × BitVec 8)} :
    Memory.wfAbove b ((k, v) :: r) = true ↔ (∀ j, b = some j → j < k) ∧ v ≠ Memory.default ∧ Memory.wfAbove (some k) r = true := by
  cases b <;> simp [Memory.wfAbove, and_assoc]

theorem Memory.wfAbove_mono {b c : Option Nat} {m : List (Nat × BitVec 8)} (h : Memory.wfAbove b m = true)
    (hc : ∀ j, c = some j → ∃ i, b = some i ∧ j ≤ i) : Memory.wfAbove c m = true := by
  cases m with
  | nil => rfl
  | cons e r =>
    obtain ⟨k, v⟩ := e
    rw [Memory.wfAbove_cons] at h ⊢
    refine ⟨fun j hj => ?_, h.2⟩
    obtain ⟨i, hi, hji⟩ := hc j hj
    have := h.1 i hi
    omega

theorem Memory.wfAbove_insert (m : List (Nat × BitVec 8)) (b : Option Nat) (a : Nat) (v : BitVec 8)
    (h : Memory.wfAbove b m = true) (hb : ∀ j, b = some j → j < a) (hv : v ≠ Memory.default) :
    Memory.wfAbove b (Memory.insert m a v) = true := by
  induction m generalizing b with
  | nil => exact Memory.wfAbove_cons.2 ⟨hb, hv, rfl⟩
  | cons e r ih =>
    obtain ⟨k, w⟩ := e
    have hk := Memory.wfAbove_cons.1 h
    simp only [Memory.insert]
    split
    · refine Memory.wfAbove_cons.2 ⟨hb, hv, Memory.wfAbove_cons.2 ⟨?_, hk.2⟩⟩
      rintro j ⟨⟩
      assumption
    · split
      · subst_vars
        exact Memory.wfAbove_cons.2 ⟨hb, hv, hk.2.2⟩
      · refine Memory.wfAbove_cons.2 ⟨hk.1, hk.2.1, ih _ hk.2.2 ?_⟩
        rintro j ⟨⟩
        omega

theorem Memory.wfAbove_filter (m : List (Nat × BitVec 8)) (b : Option Nat) (p : Nat × BitVec 8 → Bool)
    (h : Memory.wfAbove b m = true) : Memory.wfAbove b (m.filter p) = true := by
  induction m generalizing b with
  | nil => rfl
  | cons e r ih =>
    obtain ⟨k, w⟩ := e
    have hk := Memory.wfAbove_cons.1 h
    rw [List.filter_cons]
    split
    · exact Memory.wfAbove_cons.2 ⟨hk.1, hk.2.1, ih _ hk.2.2⟩
    · exact Memory.wfAbove_mono (ih _ hk.2.2) fun j hj => ⟨k, rfl, le_of_lt (hk.1 j hj)⟩

/-- Writing a byte keeps the canonical form. -/
theorem Memory.wf_set (m : List (Nat × BitVec 8)) (a : Nat) (v : BitVec 8) (h : Memory.wf m = true) :
    Memory.wf (Memory.set m a v) = true := by
  unfold Memory.set
  split
  · exact Memory.wfAbove_filter m none _ h
  · rename_i hv
    exact Memory.wfAbove_insert m none a v h (by simp) hv

/-- Writing bytes keeps the canonical form. -/
theorem Memory.wf_setBytes (bs : List (BitVec 8)) (m : List (Nat × BitVec 8)) (a : Nat) (h : Memory.wf m = true) :
    Memory.wf (Memory.setBytes m a bs) = true := by
  induction bs generalizing m a with
  | nil => exact h
  | cons x r ih => exact ih _ _ (Memory.wf_set m a x h)

end Sys2Proof.Machine
end

