-- ==== Sys2Proof/Laws/State.lean ====
section
/-! SUPPORT. What reading the state gives after each named update, and what the frames of Safety.lean follow from. -/

namespace Sys2Proof.Machine

open Sys2Proof

variable (s : State) (c : Nat) (b : Bool)

/-! ### Cores and banks -/

@[simp] theorem Core.bank_modBank (x : Core) (f : Bank → Bank) : (x.modBank b f).bank b = f (x.bank b) := by
  cases b <;> simp [Core.modBank, Core.bank]
theorem Core.bank_modBank_ne (x : Core) (f : Bank → Bank) {d : Bool} (h : d ≠ b) : (x.modBank b f).bank d = x.bank d := by
  cases b <;> cases d <;> simp_all [Core.modBank, Core.bank]
@[simp] theorem Core.modBank_modBank (x : Core) (f g : Bank → Bank) : (x.modBank b f).modBank b g = x.modBank b fun k => g (f k) := by
  cases b <;> rfl
@[simp] theorem Core.modBank_id (x : Core) : (x.modBank b fun k => k) = x := by cases b <;> rfl

@[simp] theorem State.core_modCore (f : Core → Core) : (s.modCore c f).core c = f (s.core c) := by
  simp [State.modCore, State.core]
theorem State.core_modCore_ne (f : Core → Core) {d : Nat} (h : d ≠ c) : (s.modCore c f).core d = s.core d := by
  simp [State.modCore, State.core, kgetD_kset_ne _ _ _ h]
@[simp] theorem State.modCore_modCore (f g : Core → Core) : (s.modCore c f).modCore c g = s.modCore c fun x => g (f x) := by
  simp [State.modCore, State.core]

@[simp] theorem State.bank_modBank (f : Bank → Bank) : (s.modBank f).bank = f s.bank := by
  simp [State.modBank, State.bank, State.modCore, State.core]
@[simp] theorem State.modBank_modBank (f g : Bank → Bank) : (s.modBank f).modBank g = s.modBank fun k => g (f k) := by
  simp [State.modBank, State.modCore, State.core]

/-- An update of the issuing bank depends on what it makes of that bank only. -/
theorem State.modBank_congr {f g : Bank → Bank} (h : f s.bank = g s.bank) : s.modBank f = s.modBank g := by
  simp only [State.modBank, State.modCore, Core.modBank]
  have h' : f ((s.core s.ctx.core).bank s.ctx.bank) = g ((s.core s.ctx.core).bank s.ctx.bank) := h
  cases hb : s.ctx.bank <;> simp_all [Core.bank]

/-! ### Fields that updates leave alone -/

section
variable (f : Core → Core) (g : Bank → Bank)
@[simp] theorem State.modCore_nonce : (s.modCore c f).nonce = s.nonce := rfl
@[simp] theorem State.modCore_now : (s.modCore c f).now = s.now := rfl
@[simp] theorem State.modCore_opId : (s.modCore c f).opId = s.opId := rfl
@[simp] theorem State.modCore_ctx : (s.modCore c f).ctx = s.ctx := rfl
@[simp] theorem State.modCore_mem : (s.modCore c f).mem = s.mem := rfl
@[simp] theorem State.modCore_full : (s.modCore c f).full = s.full := rfl
@[simp] theorem State.modCore_poison : (s.modCore c f).poison = s.poison := rfl
@[simp] theorem State.modCore_gangs : (s.modCore c f).gangs = s.gangs := rfl
@[simp] theorem State.modCore_fields : (s.modCore c f).fields = s.fields := rfl
@[simp] theorem State.modCore_clusters : (s.modCore c f).clusters = s.clusters := rfl
@[simp] theorem State.modCore_rmax : (s.modCore c f).rmax = s.rmax := rfl
@[simp] theorem State.modCore_rsum : (s.modCore c f).rsum = s.rsum := rfl
@[simp] theorem State.modCore_tb : (s.modCore c f).tb = s.tb := rfl
@[simp] theorem State.modCore_traceUnits : (s.modCore c f).traceUnits = s.traceUnits := rfl
@[simp] theorem State.modCore_aborts : (s.modCore c f).aborts = s.aborts := rfl
@[simp] theorem State.modCore_changed : (s.modCore c f).changed = s.changed := rfl
@[simp] theorem State.modCore_ev : (s.modCore c f).ev = s.ev := rfl
@[simp] theorem State.modCore_agenda : (s.modCore c f).agenda = s.agenda := rfl
@[simp] theorem State.modCore_rim : (s.modCore c f).rim = s.rim := rfl
@[simp] theorem State.modCore_routers : (s.modCore c f).routers = s.routers := rfl
@[simp] theorem State.modCore_ops : (s.modCore c f).ops = s.ops := rfl
@[simp] theorem State.modCore_tlbs : (s.modCore c f).tlbs = s.tlbs := rfl
@[simp] theorem State.modCore_graphs : (s.modCore c f).graphs = s.graphs := rfl
@[simp] theorem State.modCore_tasks : (s.modCore c f).tasks = s.tasks := rfl
@[simp] theorem State.modCore_launches : (s.modCore c f).launches = s.launches := rfl
@[simp] theorem State.modCore_queues : (s.modCore c f).queues = s.queues := rfl
@[simp] theorem State.modCore_ptrs : (s.modCore c f).ptrs = s.ptrs := rfl
@[simp] theorem State.modCore_cmds : (s.modCore c f).cmds = s.cmds := rfl
@[simp] theorem State.modCore_parts : (s.modCore c f).parts = s.parts := rfl
@[simp] theorem State.modCore_ert : (s.modCore c f).ert = s.ert := rfl
@[simp] theorem State.modCore_sumps : (s.modCore c f).sumps = s.sumps := rfl
@[simp] theorem State.modCore_slots : (s.modCore c f).slots = s.slots := rfl
@[simp] theorem State.modCore_policy : (s.modCore c f).policy = s.policy := rfl
@[simp] theorem State.modCore_tail : (s.modCore c f).tail = s.tail := rfl
@[simp] theorem State.modCore_links : (s.modCore c f).links = s.links := rfl
@[simp] theorem State.modCore_mgmt : (s.modCore c f).mgmt = s.mgmt := rfl
@[simp] theorem State.modCore_hostBad : (s.modCore c f).hostBad = s.hostBad := rfl
@[simp] theorem State.modCore_msix : (s.modCore c f).msix = s.msix := rfl
@[simp] theorem State.modCore_log : (s.modCore c f).log = s.log := rfl
@[simp] theorem State.modCore_outbox : (s.modCore c f).outbox = s.outbox := rfl
@[simp] theorem State.modCore_early : (s.modCore c f).early = s.early := rfl
@[simp] theorem State.modCore_waits : (s.modCore c f).waits = s.waits := rfl
@[simp] theorem State.modCore_rimBusy : (s.modCore c f).rimBusy = s.rimBusy := rfl
@[simp] theorem State.modCore_counters : (s.modCore c f).counters = s.counters := rfl
@[simp] theorem State.modCore_passing : (s.modCore c f).passing = s.passing := rfl
@[simp] theorem State.modBank_nonce : (s.modBank g).nonce = s.nonce := rfl
@[simp] theorem State.modBank_now : (s.modBank g).now = s.now := rfl
@[simp] theorem State.modBank_opId : (s.modBank g).opId = s.opId := rfl
@[simp] theorem State.modBank_ctx : (s.modBank g).ctx = s.ctx := rfl
@[simp] theorem State.modBank_mem : (s.modBank g).mem = s.mem := rfl
@[simp] theorem State.modBank_full : (s.modBank g).full = s.full := rfl
@[simp] theorem State.modBank_poison : (s.modBank g).poison = s.poison := rfl
@[simp] theorem State.modBank_gangs : (s.modBank g).gangs = s.gangs := rfl
@[simp] theorem State.modBank_fields : (s.modBank g).fields = s.fields := rfl
@[simp] theorem State.modBank_clusters : (s.modBank g).clusters = s.clusters := rfl
@[simp] theorem State.modBank_rmax : (s.modBank g).rmax = s.rmax := rfl
@[simp] theorem State.modBank_rsum : (s.modBank g).rsum = s.rsum := rfl
@[simp] theorem State.modBank_tb : (s.modBank g).tb = s.tb := rfl
@[simp] theorem State.modBank_traceUnits : (s.modBank g).traceUnits = s.traceUnits := rfl
@[simp] theorem State.modBank_aborts : (s.modBank g).aborts = s.aborts := rfl
@[simp] theorem State.modBank_changed : (s.modBank g).changed = s.changed := rfl
@[simp] theorem State.modBank_ev : (s.modBank g).ev = s.ev := rfl
@[simp] theorem State.modBank_agenda : (s.modBank g).agenda = s.agenda := rfl
@[simp] theorem State.modBank_rim : (s.modBank g).rim = s.rim := rfl
@[simp] theorem State.modBank_routers : (s.modBank g).routers = s.routers := rfl
@[simp] theorem State.modBank_ops : (s.modBank g).ops = s.ops := rfl
@[simp] theorem State.modBank_tlbs : (s.modBank g).tlbs = s.tlbs := rfl
@[simp] theorem State.modBank_graphs : (s.modBank g).graphs = s.graphs := rfl
@[simp] theorem State.modBank_tasks : (s.modBank g).tasks = s.tasks := rfl
@[simp] theorem State.modBank_launches : (s.modBank g).launches = s.launches := rfl
@[simp] theorem State.modBank_queues : (s.modBank g).queues = s.queues := rfl
@[simp] theorem State.modBank_ptrs : (s.modBank g).ptrs = s.ptrs := rfl
@[simp] theorem State.modBank_cmds : (s.modBank g).cmds = s.cmds := rfl
@[simp] theorem State.modBank_parts : (s.modBank g).parts = s.parts := rfl
@[simp] theorem State.modBank_ert : (s.modBank g).ert = s.ert := rfl
@[simp] theorem State.modBank_sumps : (s.modBank g).sumps = s.sumps := rfl
@[simp] theorem State.modBank_slots : (s.modBank g).slots = s.slots := rfl
@[simp] theorem State.modBank_policy : (s.modBank g).policy = s.policy := rfl
@[simp] theorem State.modBank_tail : (s.modBank g).tail = s.tail := rfl
@[simp] theorem State.modBank_links : (s.modBank g).links = s.links := rfl
@[simp] theorem State.modBank_mgmt : (s.modBank g).mgmt = s.mgmt := rfl
@[simp] theorem State.modBank_hostBad : (s.modBank g).hostBad = s.hostBad := rfl
@[simp] theorem State.modBank_msix : (s.modBank g).msix = s.msix := rfl
@[simp] theorem State.modBank_log : (s.modBank g).log = s.log := rfl
@[simp] theorem State.modBank_outbox : (s.modBank g).outbox = s.outbox := rfl
@[simp] theorem State.modBank_early : (s.modBank g).early = s.early := rfl
@[simp] theorem State.modBank_waits : (s.modBank g).waits = s.waits := rfl
@[simp] theorem State.modBank_rimBusy : (s.modBank g).rimBusy = s.rimBusy := rfl
@[simp] theorem State.modBank_counters : (s.modBank g).counters = s.counters := rfl
@[simp] theorem State.modBank_passing : (s.modBank g).passing = s.passing := rfl
end

section
variable (k n : Nat) (bs : List Byte) (ws : List Nat)
@[simp] theorem writeBytes_ctx : (writeBytes s k bs).ctx = s.ctx := rfl
@[simp] theorem writeBytes_now : (writeBytes s k bs).now = s.now := rfl
@[simp] theorem writeBytes_opId : (writeBytes s k bs).opId = s.opId := rfl
@[simp] theorem writeBytes_nonce : (writeBytes s k bs).nonce = s.nonce := rfl
@[simp] theorem writeBytes_full : (writeBytes s k bs).full = s.full := rfl
@[simp] theorem writeBytes_poison : (writeBytes s k bs).poison = s.poison := rfl
@[simp] theorem writeBytes_cores : (writeBytes s k bs).cores = s.cores := rfl
@[simp] theorem writeBytes_clusters : (writeBytes s k bs).clusters = s.clusters := rfl
@[simp] theorem writeBytes_fields : (writeBytes s k bs).fields = s.fields := rfl
@[simp] theorem writeBytes_tasks : (writeBytes s k bs).tasks = s.tasks := rfl
@[simp] theorem writeBytes_launches : (writeBytes s k bs).launches = s.launches := rfl
@[simp] theorem writeBytes_gangs : (writeBytes s k bs).gangs = s.gangs := rfl
@[simp] theorem writeBytes_agenda : (writeBytes s k bs).agenda = s.agenda := rfl
@[simp] theorem writeBytes_mgmt : (writeBytes s k bs).mgmt = s.mgmt := rfl
@[simp] theorem writeBytes_bank : (writeBytes s k bs).bank = s.bank := rfl
@[simp] theorem storeBytes_ctx : (storeBytes s k bs).ctx = s.ctx := rfl
@[simp] theorem storeBytes_now : (storeBytes s k bs).now = s.now := rfl
@[simp] theorem storeBytes_opId : (storeBytes s k bs).opId = s.opId := rfl
@[simp] theorem storeBytes_nonce : (storeBytes s k bs).nonce = s.nonce := rfl
@[simp] theorem storeBytes_full : (storeBytes s k bs).full = s.full := rfl
@[simp] theorem storeBytes_cores : (storeBytes s k bs).cores = s.cores := rfl
@[simp] theorem storeBytes_clusters : (storeBytes s k bs).clusters = s.clusters := rfl
@[simp] theorem storeBytes_fields : (storeBytes s k bs).fields = s.fields := rfl
@[simp] theorem storeBytes_tasks : (storeBytes s k bs).tasks = s.tasks := rfl
@[simp] theorem storeBytes_launches : (storeBytes s k bs).launches = s.launches := rfl
@[simp] theorem storeBytes_gangs : (storeBytes s k bs).gangs = s.gangs := rfl
@[simp] theorem storeBytes_agenda : (storeBytes s k bs).agenda = s.agenda := rfl
@[simp] theorem storeBytes_mgmt : (storeBytes s k bs).mgmt = s.mgmt := rfl
@[simp] theorem storeBytes_bank : (storeBytes s k bs).bank = s.bank := rfl
@[simp] theorem setFull_ctx : (setFull s ws).ctx = s.ctx := rfl
@[simp] theorem setFull_now : (setFull s ws).now = s.now := rfl
@[simp] theorem setFull_opId : (setFull s ws).opId = s.opId := rfl
@[simp] theorem setFull_nonce : (setFull s ws).nonce = s.nonce := rfl
@[simp] theorem setFull_mem : (setFull s ws).mem = s.mem := rfl
@[simp] theorem setFull_poison : (setFull s ws).poison = s.poison := rfl
@[simp] theorem setFull_cores : (setFull s ws).cores = s.cores := rfl
@[simp] theorem setFull_clusters : (setFull s ws).clusters = s.clusters := rfl
@[simp] theorem setFull_fields : (setFull s ws).fields = s.fields := rfl
@[simp] theorem setFull_tasks : (setFull s ws).tasks = s.tasks := rfl
@[simp] theorem setFull_launches : (setFull s ws).launches = s.launches := rfl
@[simp] theorem setFull_gangs : (setFull s ws).gangs = s.gangs := rfl
@[simp] theorem setFull_agenda : (setFull s ws).agenda = s.agenda := rfl
@[simp] theorem setFull_mgmt : (setFull s ws).mgmt = s.mgmt := rfl
@[simp] theorem setFull_bank : (setFull s ws).bank = s.bank := rfl
@[simp] theorem setEmpty_ctx : (setEmpty s ws).ctx = s.ctx := rfl
@[simp] theorem setEmpty_now : (setEmpty s ws).now = s.now := rfl
@[simp] theorem setEmpty_opId : (setEmpty s ws).opId = s.opId := rfl
@[simp] theorem setEmpty_nonce : (setEmpty s ws).nonce = s.nonce := rfl
@[simp] theorem setEmpty_mem : (setEmpty s ws).mem = s.mem := rfl
@[simp] theorem setEmpty_poison : (setEmpty s ws).poison = s.poison := rfl
@[simp] theorem setEmpty_cores : (setEmpty s ws).cores = s.cores := rfl
@[simp] theorem setEmpty_clusters : (setEmpty s ws).clusters = s.clusters := rfl
@[simp] theorem setEmpty_fields : (setEmpty s ws).fields = s.fields := rfl
@[simp] theorem setEmpty_tasks : (setEmpty s ws).tasks = s.tasks := rfl
@[simp] theorem setEmpty_launches : (setEmpty s ws).launches = s.launches := rfl
@[simp] theorem setEmpty_gangs : (setEmpty s ws).gangs = s.gangs := rfl
@[simp] theorem setEmpty_agenda : (setEmpty s ws).agenda = s.agenda := rfl
@[simp] theorem setEmpty_mgmt : (setEmpty s ws).mgmt = s.mgmt := rfl
@[simp] theorem setEmpty_bank : (setEmpty s ws).bank = s.bank := rfl
@[simp] theorem markPoison_ctx : (markPoison s ws).ctx = s.ctx := rfl
@[simp] theorem markPoison_now : (markPoison s ws).now = s.now := rfl
@[simp] theorem markPoison_opId : (markPoison s ws).opId = s.opId := rfl
@[simp] theorem markPoison_nonce : (markPoison s ws).nonce = s.nonce := rfl
@[simp] theorem markPoison_mem : (markPoison s ws).mem = s.mem := rfl
@[simp] theorem markPoison_full : (markPoison s ws).full = s.full := rfl
@[simp] theorem markPoison_cores : (markPoison s ws).cores = s.cores := rfl
@[simp] theorem markPoison_clusters : (markPoison s ws).clusters = s.clusters := rfl
@[simp] theorem markPoison_fields : (markPoison s ws).fields = s.fields := rfl
@[simp] theorem markPoison_tasks : (markPoison s ws).tasks = s.tasks := rfl
@[simp] theorem markPoison_launches : (markPoison s ws).launches = s.launches := rfl
@[simp] theorem markPoison_gangs : (markPoison s ws).gangs = s.gangs := rfl
@[simp] theorem markPoison_agenda : (markPoison s ws).agenda = s.agenda := rfl
@[simp] theorem markPoison_mgmt : (markPoison s ws).mgmt = s.mgmt := rfl
@[simp] theorem markPoison_bank : (markPoison s ws).bank = s.bank := rfl
@[simp] theorem clearPoison_ctx : (clearPoison s ws).ctx = s.ctx := rfl
@[simp] theorem clearPoison_now : (clearPoison s ws).now = s.now := rfl
@[simp] theorem clearPoison_opId : (clearPoison s ws).opId = s.opId := rfl
@[simp] theorem clearPoison_nonce : (clearPoison s ws).nonce = s.nonce := rfl
@[simp] theorem clearPoison_mem : (clearPoison s ws).mem = s.mem := rfl
@[simp] theorem clearPoison_full : (clearPoison s ws).full = s.full := rfl
@[simp] theorem clearPoison_cores : (clearPoison s ws).cores = s.cores := rfl
@[simp] theorem clearPoison_clusters : (clearPoison s ws).clusters = s.clusters := rfl
@[simp] theorem clearPoison_fields : (clearPoison s ws).fields = s.fields := rfl
@[simp] theorem clearPoison_tasks : (clearPoison s ws).tasks = s.tasks := rfl
@[simp] theorem clearPoison_launches : (clearPoison s ws).launches = s.launches := rfl
@[simp] theorem clearPoison_gangs : (clearPoison s ws).gangs = s.gangs := rfl
@[simp] theorem clearPoison_agenda : (clearPoison s ws).agenda = s.agenda := rfl
@[simp] theorem clearPoison_mgmt : (clearPoison s ws).mgmt = s.mgmt := rfl
@[simp] theorem clearPoison_bank : (clearPoison s ws).bank = s.bank := rfl
@[simp] theorem writeBytes_mem : (writeBytes s k bs).mem = Memory.setBytes s.mem k bs := rfl
@[simp] theorem storeBytes_mem : (storeBytes s k bs).mem = Memory.setBytes s.mem k bs := rfl
end

/-! ### Registers of a bank -/

section
variable (k : Bank)

@[simp] theorem Bank.rdS_zero : k.rdS 0 = 0 := rfl
@[simp] theorem Bank.rdP_zero : k.rdP 0 = true := rfl
@[simp] theorem Bank.rdM_zero : k.rdM 0 = BitVec.allOnes 128 := rfl

/-- Reading a scalar register after writing one; s0 discards what is written. -/
theorem Bank.rdS_wrS (d r : BitVec 5) (v : Word) : (k.wrS d v).rdS r = if r = d ∧ d ≠ 0 then v else k.rdS r := by
  unfold Bank.wrS Bank.rdS
  by_cases hd : d = 0
  · rw [if_pos hd, if_neg (fun h : r = d ∧ d ≠ 0 => h.2 hd)]
  · rw [if_neg hd]
    by_cases hr : r = 0
    · rw [if_pos hr, if_pos hr, if_neg (fun h : r = d ∧ d ≠ 0 => hd (h.1 ▸ hr))]
    · rw [if_neg hr, if_neg hr]
      by_cases h : r = d
      · rw [if_pos ⟨h, hd⟩, h]
        exact Vector.getElem_set_self _
      · rw [if_neg (fun e : r = d ∧ d ≠ 0 => h e.1)]
        exact Vector.getElem_set_ne d.toFin.isLt _ fun e => h (BitVec.eq_of_toNat_eq e.symm)

/-- A scalar write changes nothing but the scalar registers. -/
theorem Bank.wrS_eq (d : BitVec 5) (v : Word) : k.wrS d v = { k with s := (k.wrS d v).s } := by
  unfold Bank.wrS; split <;> rfl

/-- Writing one bit of a predicate file. -/
theorem predBits_write (p : BitVec 8) (d r : BitVec 3) (v : Bool) :
    ((p &&& ~~~((1#8) <<< d.toNat)) ||| ((if v then 1#8 else 0#8) <<< d.toNat)).getLsbD r.toNat =
      if r = d then v else p.getLsbD r.toNat := by
  have hr : r.toNat < 8 := r.isLt
  rw [BitVec.getLsbD_or, BitVec.getLsbD_and, BitVec.getLsbD_not, BitVec.getLsbD_shiftLeft, BitVec.getLsbD_shiftLeft]
  by_cases h : r = d
  · subst h
    cases v <;> simp [hr]
  · have hn : r.toNat ≠ d.toNat := fun e => h (BitVec.eq_of_toNat_eq e)
    rw [if_neg h]
    by_cases hl : r.toNat < d.toNat
    · simp [hr, hl]
    · have : r.toNat - d.toNat ≠ 0 := by omega
      cases v <;> simp [hr, hl, BitVec.getLsbD_one, this]

/-- Reading a predicate after writing one; p0 discards what is written. -/
theorem Bank.rdP_wrP (d r : BitVec 3) (v : Bool) : (k.wrP d v).rdP r = if r = d ∧ d ≠ 0 then v else k.rdP r := by
  unfold Bank.wrP
  by_cases hd : d = 0
  · rw [if_pos hd, if_neg (fun h : r = d ∧ d ≠ 0 => h.2 hd)]
  · rw [if_neg hd]
    show (decide (r = 0) || _) = _
    rw [predBits_write]
    by_cases h : r = d
    · subst h
      rw [if_pos rfl, if_pos ⟨rfl, hd⟩, decide_eq_false hd, Bool.false_or]
    · simp [h, Bank.rdP]

/-- A predicate write changes nothing but the predicates. -/
theorem Bank.wrP_eq (d : BitVec 3) (v : Bool) : k.wrP d v = { k with p := (k.wrP d v).p } := by
  unfold Bank.wrP; split <;> rfl

/-- Reading a lane mask after writing one; m0 discards what is written. -/
theorem Bank.rdM_wrM (d r : BitVec 3) (v : MWord) : (k.wrM d v).rdM r = if r = d ∧ d ≠ 0 then v else k.rdM r := by
  unfold Bank.wrM Bank.rdM
  by_cases hd : d = 0
  · rw [if_pos hd, if_neg (fun h : r = d ∧ d ≠ 0 => h.2 hd)]
  · rw [if_neg hd]
    by_cases hr : r = 0
    · rw [if_pos hr, if_pos hr, if_neg (fun h : r = d ∧ d ≠ 0 => hd (h.1 ▸ hr))]
    · rw [if_neg hr, if_neg hr]
      by_cases h : r = d
      · rw [if_pos ⟨h, hd⟩, h]
        exact Vector.getElem_set_self _
      · rw [if_neg (fun e : r = d ∧ d ≠ 0 => h e.1)]
        exact Vector.getElem_set_ne d.toFin.isLt _ fun e => h (BitVec.eq_of_toNat_eq e.symm)

/-- A mask write changes nothing but the masks. -/
theorem Bank.wrM_eq (d : BitVec 3) (v : MWord) : k.wrM d v = { k with m := (k.wrM d v).m } := by
  unfold Bank.wrM; split <;> rfl

/-- Reading a vector register after writing one. -/
theorem Bank.rdV_wrV (d r : BitVec 5) (v : VWord) : (k.wrV d v).rdV r = if r = d then v else k.rdV r := by
  unfold Bank.wrV Bank.rdV
  by_cases h : r = d
  · rw [if_pos h, h]
    exact Vector.getElem_set_self _
  · rw [if_neg h]
    exact Vector.getElem_set_ne d.toFin.isLt _ fun e => h (BitVec.eq_of_toNat_eq e.symm)

/-- Reading an address register after writing one. -/
theorem Bank.rdA_wrA (d r : BitVec 3) (v : AddrReg) : (k.wrA d v).rdA r = if r = d then v else k.rdA r := by
  unfold Bank.wrA Bank.rdA
  by_cases h : r = d
  · rw [if_pos h, h]
    exact Vector.getElem_set_self _
  · rw [if_neg h]
    exact Vector.getElem_set_ne d.toFin.isLt _ fun e => h (BitVec.eq_of_toNat_eq e.symm)
end

/-! ### Frames -/

theorem SameMemory.refl (s : State) : SameMemory s s := ⟨fun _ => rfl, rfl, rfl⟩

/-- An update of the issuing bank leaves all else alone. -/
theorem onlyBank_modBank (f : Bank → Bank) : OnlyBank s (s.modBank f) := by
  refine ⟨rfl, fun c h => State.core_modCore_ne s _ _ h, ?_, SameMemory.refl _⟩
  rw [State.bank_modBank]
  simp only [State.modBank, State.core_modCore, Core.modBank, State.bank, Core.bank]
  cases s.ctx.bank <;> rfl

/-- So does no update at all. -/
theorem onlyBank_refl : OnlyBank s s := by
  refine ⟨rfl, fun _ _ => rfl, ?_, SameMemory.refl s⟩
  simp only [Core.modBank, State.bank, Core.bank]
  cases s.ctx.bank <;> rfl

/-- A scalar write of the issuing bank. -/
theorem writesScalar_wrS (d : BitVec 5) (v : Bank → Word) : WritesScalar s (s.modBank fun k => k.wrS d (v k)) d (v s.bank) := by
  refine ⟨fun r => ?_, ?_, onlyBank_modBank s _⟩
  · simp [Bank.rdS_wrS]
  · simpa using Bank.wrS_eq _ _ _

/-- A predicate write of the issuing bank. -/
theorem writesPred_wrP (d : BitVec 3) (v : Bank → Bool) : WritesPred s (s.modBank fun k => k.wrP d (v k)) d (v s.bank) := by
  refine ⟨fun r => ?_, ?_, onlyBank_modBank s _⟩
  · simp [Bank.rdP_wrP]
  · simpa using Bank.wrP_eq _ _ _

/-- A vector write of the issuing bank, with its flags. -/
theorem writesVector_wrV (d : BitVec 5) (v : Bank → VWord) (fl : Bank → Fl) :
    WritesVector s (s.modBank fun k => (k.wrV d (v k)).raise (fl k)) d (v s.bank) (fl s.bank) := by
  refine ⟨fun r => ?_, ?_, ?_, onlyBank_modBank s _⟩
  · rw [State.bank_modBank]
    exact Bank.rdV_wrV _ _ _ _
  · simp [Bank.raise, Bank.wrV]
  · simp [Bank.raise, Bank.wrV]

/-- A store of bytes. -/
theorem storesBytes_storeBytes (k : Nat) (bs : List Byte) : StoresBytes s (storeBytes s k bs) k bs := by
  refine ⟨fun i h => ?_, fun a h => ?_, fun w => ?_, rfl⟩
  · exact Memory.get_setBytes_inside bs s.mem k i h
  · exact Memory.get_setBytes_outside bs s.mem k a h
  · show w ∈ (fullWords k bs.length).foldl sdel s.poison ↔ _
    rw [mem_foldl_sdel, and_comm]

/-! ### The invariant -/

theorem writeBytes_inv (k : Nat) (bs : List Byte) (h : s.Inv) : (writeBytes s k bs).Inv := Memory.wf_setBytes bs s.mem k h
theorem storeBytes_inv (k : Nat) (bs : List Byte) (h : s.Inv) : (storeBytes s k bs).Inv := Memory.wf_setBytes bs s.mem k h

end Sys2Proof.Machine
end

