-- ==== Sys2Proof/Laws/Traps.lean ====
section
/-! SUPPORT. What taking a trap does, once: the saved registers, the status, and what it leaves alone. -/

namespace Sys2Proof.Machine

open Sys2Proof

/-! ### Emitting a trace record and posting an abort change no register and no memory -/

theorem emit_eq (s : State) (f u : Nat) (r : TraceRec) :
    emit s f u r = { s with traceUnits := (emit s f u r).traceUnits, fields := (emit s f u r).fields } := by
  unfold emit
  dsimp only
  split
  · rfl
  · split <;> rfl

@[simp] theorem emit_cores (s : State) (f u : Nat) (r : TraceRec) : (emit s f u r).cores = s.cores := by rw [emit_eq]
@[simp] theorem emit_ctx (s : State) (f u : Nat) (r : TraceRec) : (emit s f u r).ctx = s.ctx := by rw [emit_eq]
@[simp] theorem emit_mem (s : State) (f u : Nat) (r : TraceRec) : (emit s f u r).mem = s.mem := by rw [emit_eq]
@[simp] theorem emit_full (s : State) (f u : Nat) (r : TraceRec) : (emit s f u r).full = s.full := by rw [emit_eq]
@[simp] theorem emit_poison (s : State) (f u : Nat) (r : TraceRec) : (emit s f u r).poison = s.poison := by rw [emit_eq]
@[simp] theorem emit_aborts (s : State) (f u : Nat) (r : TraceRec) : (emit s f u r).aborts = s.aborts := by rw [emit_eq]
@[simp] theorem emit_now (s : State) (f u : Nat) (r : TraceRec) : (emit s f u r).now = s.now := by rw [emit_eq]

/-! ### Taking a trap -/

@[simp] theorem Core.dbg_modBank (x : Core) (b : Bool) (f : Bank → Bank) : (x.modBank b f).dbg = x.dbg := by cases b <;> rfl
@[simp] theorem Core.bank_dbg (x : Core) (b : Bool) (d : Debug) : ({ x with dbg := d } : Core).bank b = x.bank b := by cases b <;> rfl
@[simp] theorem Core.bank_stopClocks (x : Core) (b : Bool) (now : Nat) : (x.stopClocks now).bank b = (x.bank b).stopClock now := by
  cases b <;> rfl
@[simp] theorem Core.dbg_stopClocks (x : Core) (now : Nat) : (x.stopClocks now).dbg = x.dbg := rfl
theorem State.core_eq_of_cores {u v : State} (h : u.cores = v.cores) (c : Nat) : u.core c = v.core c := by simp [State.core, h]
@[simp] theorem emit_core (s : State) (f u : Nat) (r : TraceRec) (c : Nat) : (emit s f u r).core c = s.core c :=
  State.core_eq_of_cores (emit_cores s f u r) c
theorem emit_clusters (s : State) (f u : Nat) (r : TraceRec) : (emit s f u r).clusters = s.clusters := by rw [emit_eq]

/-- The bank as a trap leaves it: CAUSE, IADDR and SR are saved and the program counter names the bundle (R142, R143). -/
def trapBank (s : State) (code : BitVec 8) (sr : Nat) : Bank :=
  { s.bank with cause := code, iaddr := BitVec.ofNat 32 s.ctx.addr, sr := sr, status := .trapped, pc := BitVec.ofNat 32 s.ctx.addr }

/-- A trap leaves every other core, and memory, as they were; the bank is `trapBank`, with its clock stopped under a debugger. -/
theorem takeTrapWith_spec (s : State) (code : BitVec 8) (sr : Nat) (user : BitVec 16) :
    let t := takeTrapWith s code sr user
    ((t.bank = trapBank s code sr ∧ (s.core s.ctx.core).trapHalts = false ∧
        t.aborts = s.aborts ++ [⟨s.bank.launch.toNat, 0x02, trapDetail code (sourceOf s.ctx.core s.ctx.bank), s.now⟩]) ∨
      (t.bank = (trapBank s code sr).stopClock (s.clk s.ctx.core) ∧ (s.core s.ctx.core).trapHalts = true ∧ t.aborts = s.aborts ∧
        (t.core s.ctx.core).dbg.halted = true ∧ (t.core s.ctx.core).dbg.tcause = code ∧
        (t.core s.ctx.core).dbg.reason = .trap)) ∧
      t.ctx = { s.ctx with stopped := true } ∧ t.mem = s.mem ∧ t.full = s.full ∧ t.poison = s.poison ∧
      ∀ d, d ≠ s.ctx.core → t.core d = s.core d := by
  intro t
  let f : Bank → Bank := fun k =>
    { k with cause := code, iaddr := BitVec.ofNat 32 s.ctx.addr, sr := sr, status := .trapped, pc := BitVec.ofNat 32 s.ctx.addr }
  obtain ⟨u, hu, hux, huc, hum, huf, hup, hua, hun, huk⟩ : ∃ u : State, (if (u.core s.ctx.core).trapHalts then
      u.modCore s.ctx.core fun k => k.haltAtTrap s.ctx.bank code (u.clk s.ctx.core)
    else postAbort u ((u.core s.ctx.core).bank s.ctx.bank).launch.toNat 0x02 (trapDetail code (sourceOf s.ctx.core s.ctx.bank))) = t ∧
      u.ctx = { s.ctx with stopped := true } ∧ (∀ d, u.core d = (s.modBank f).core d) ∧ u.mem = s.mem ∧ u.full = s.full ∧
      u.poison = s.poison ∧ u.aborts = s.aborts ∧ u.now = s.now ∧ u.clusters = s.clusters :=
    ⟨_, rfl, by simp [emitCore], fun d => State.core_eq_of_cores (emit_cores (s.modBank f) _ _ _) d, by simp [emitCore], by simp [emitCore], by simp [emitCore],
      by simp [emitCore], by simp [emitCore], by simp [emitCore, emit_clusters]⟩
  have hcore : u.core s.ctx.core = (s.core s.ctx.core).modBank s.ctx.bank f := by rw [huc]; simp [State.modBank]
  have hne : ∀ d, d ≠ s.ctx.core → u.core d = s.core d := fun d hd => by
    rw [huc]; exact State.core_modCore_ne _ _ _ hd
  have hclk : u.clk s.ctx.core = s.clk s.ctx.core := by simp [State.clk, huk, hun]
  have hb : f ((s.core s.ctx.core).bank s.ctx.bank) = trapBank s code sr := rfl
  rw [← hu]
  by_cases h : (s.core s.ctx.core).trapHalts = true
  · have h' : (u.core s.ctx.core).trapHalts = true := by simpa [hcore, Core.trapHalts] using h
    rw [if_pos h']
    refine ⟨.inr ⟨?_, h, hua, ?_, ?_, ?_⟩, hux, hum, huf, hup, fun d hd => ?_⟩
    · simp only [State.bank, State.modCore_ctx, hux, State.core_modCore, hcore, Core.haltAtTrap, hclk, Core.bank_dbg,
        Core.bank_stopClocks, Core.bank_modBank, hb]
    · simp [Core.haltAtTrap]
    · simp [Core.haltAtTrap]
    · simp [Core.haltAtTrap]
    · rw [State.core_modCore_ne _ _ _ hd, hne d hd]
  · have h0 : (s.core s.ctx.core).trapHalts = false := by simpa using h
    have h' : (u.core s.ctx.core).trapHalts ≠ true := by simpa [hcore, Core.trapHalts] using h
    rw [if_neg h']
    refine ⟨.inl ⟨?_, h0, ?_⟩, hux, hum, huf, hup, fun d hd => hne d hd⟩
    · show (u.core u.ctx.core).bank u.ctx.bank = _
      rw [hux]
      simp [hcore, hb]
    · show u.aborts ++ _ = _
      rw [hua, hun, hcore]
      simp [f, State.bank]

/-- A trap is taken as Safety.lean says, whatever the cause. -/
theorem trapped_takeTrapWith (s : State) (code : BitVec 8) (sr : Nat) (user : BitVec 16) :
    Trapped s (takeTrapWith s code sr user) code sr := by
  obtain ⟨hb, hx, hm, hf, hp, hd⟩ := takeTrapWith_spec s code sr user
  obtain ⟨b, he, hb⟩ : ∃ b : Bank, (takeTrapWith s code sr user).bank = b ∧
      (b = trapBank s code sr ∨ b = (trapBank s code sr).stopClock (s.clk s.ctx.core)) :=
    ⟨_, rfl, hb.imp (fun h => h.1) fun h => h.1⟩
  have hs : SameMemory s (takeTrapWith s code sr user) := ⟨fun a => by rw [hm], hf, hp⟩
  rcases hb with rfl | rfl <;> exact ⟨by rw [he]; rfl, by rw [he]; rfl, by rw [he]; rfl, by rw [he]; rfl, by rw [hx],
    by rw [he]; rfl, by rw [he]; rfl, by rw [he]; rfl, by rw [he]; rfl, by rw [he]; rfl, by rw [he]; rfl, by rw [he]; rfl, hs, hd⟩

/-- An execution trap of a slot, and one whose rule names its slot. -/
theorem trapped_takeTrap (s : State) (code : BitVec 8) : Trapped s (takeTrap s code) code (stopSlot s) := trapped_takeTrapWith s code _ 0
theorem trapped_takeSlotTrap (s : State) (code : BitVec 8) : Trapped s (takeSlotTrap s code) code s.ctx.slot := trapped_takeTrapWith s code _ 0

end Sys2Proof.Machine
end

