-- ==== Sys2Proof/Laws/Frames.lean ====
section
/-! SUPPORT. What the shared device operations leave unchanged, and what their own field holds after: posting events, marking counters,
records, and the update of one launch, task instance, operation, queue, partition, cluster, field, router or link. -/

namespace Sys2Proof.Machine

open Sys2Proof

/-- Marking one phase counter as changed leaves everything else. -/
theorem touch_eq (s : State) (l k : Nat) : touch s l k = { s with changed := (touch s l k).changed } := rfl

/-- Marking the counter of a phase, or of the frontier, changes nothing else. -/
theorem touchPhase_eq (s : State) (l k : Nat) : touchPhase s l k = { s with changed := (touchPhase s l k).changed } := rfl

/-- Marking the counters of a launch changes nothing else. -/
theorem touchSpan_eq (s : State) (l lo hi : Nat) : touchSpan s l lo hi = { s with changed := (touchSpan s l lo hi).changed } := by
  unfold touchSpan; generalize List.foldl _ _ _ = x; rfl
theorem touchSource_eq (s : State) (l p : Nat) : touchSource s l p = { s with changed := (touchSource s l p).changed } :=
  touchSpan_eq s l _ 16

/-- Marking the counter of a message's phase changes nothing else. -/
theorem touchTraffic_eq (e : Event) (s : State) : touchTraffic e s = { s with changed := (touchTraffic e s).changed } := by
  unfold touchTraffic; split <;> rfl

/-- Posting an event puts it at the end of the agenda. -/
theorem post_eq (e : Event) (s : State) : post e s = { s with agenda := s.agenda ++ [e], changed := (post e s).changed } := by
  unfold post; rw [touchTraffic_eq]

/-- Posting a list puts its events, in their order, at the end of the agenda. -/
theorem postAll_eq (es : List Event) (s : State) :
    postAll es s = { s with agenda := s.agenda ++ es, changed := (postAll es s).changed } := by
  induction es generalizing s with
  | nil => simp [postAll]
  | cons e r ih =>
    have h : postAll (e :: r) s = postAll r (post e s) := rfl
    rw [h, ih]
    rw [post_eq]
    simp [List.append_assoc]

/-- A launch record enters the trace rings and changes nothing else. -/
theorem launchRec_eq (l : Nat) (c : BitVec 16) (p : List Byte) (s : State) :
    launchRec l c p s = { s with fields := (launchRec l c p s).fields, traceUnits := (launchRec l c p s).traceUnits } := emit_eq _ _ _ _

/-- Delivering a completion writes memory, or the interrupt and error lists, and nothing else. -/
theorem writeRecord_eq (r : Completion) (s : State) :
    writeRecord r s = { s with mem := (writeRecord r s).mem, msix := (writeRecord r s).msix, log := (writeRecord r s).log } := by
  unfold writeRecord; split
  · rfl
  · split
    · rfl
    · dsimp only; split <;> rfl

/-- Advancing past a command touches the work queues alone. -/
theorem advance_eq (c : Cmd) (s : State) : advance c s = { s with queues := (advance c s).queues } := rfl

/-- Releasing a command touches its queue and removes the commands of that queue. -/
theorem release_eq (c : Cmd) (s : State) :
    release c s = { s with queues := (release c s).queues, cmds := s.cmds.filter fun x => x.q ≠ c.q } := rfl

/-- Changing a launch touches the launches alone. -/
theorem modLaunch_eq (s : State) (l : Nat) (f : Launch → Launch) : s.modLaunch l f = { s with launches := (s.modLaunch l f).launches } := by
  unfold State.modLaunch; split <;> rfl

/-- Changing a task instance touches the task instances alone. -/
theorem modTask_eq (s : State) (l : Nat) (f : TaskInst → TaskInst) : s.modTask l f = { s with tasks := (s.modTask l f).tasks } := by
  unfold State.modTask; split <;> rfl

/-- Changing an operation touches the operations alone. -/
theorem modOp_eq (s : State) (l : Nat) (f : COp → COp) : s.modOp l f = { s with ops := (s.modOp l f).ops } := by
  unfold State.modOp; split <;> rfl

/-- A changed queue reads as changed. -/
@[simp] theorem queue_modQueue (s : State) (q : Nat) (f : WorkQueue → WorkQueue) : (s.modQueue q f).queue q = f (s.queue q) := by
  simp [State.queue, State.modQueue]

/-- A changed partition reads as changed. -/
@[simp] theorem part_modPart (s : State) (q : Nat) (f : Partition → Partition) : (s.modPart q f).part q = f (s.part q) := by
  simp [State.part, State.modPart]

/-- A changed cluster reads as changed. -/
@[simp] theorem cluster_modCluster (s : State) (q : Nat) (f : Cluster → Cluster) : (s.modCluster q f).cluster q = f (s.cluster q) := by
  simp [State.cluster, State.modCluster]

/-- A changed field reads as changed. -/
@[simp] theorem field_modField (s : State) (q : Nat) (f : FieldSt → FieldSt) : (s.modField q f).field q = f (s.field q) := by
  simp [State.field, State.modField]

/-- A changed router reads as changed. -/
@[simp] theorem router_modRouter (s : State) (q : Nat) (f : Router → Router) : (s.modRouter q f).router q = f (s.router q) := by
  simp [State.router, State.modRouter]

/-- A changed link reads as changed. -/
@[simp] theorem link_modLink (s : State) (q : Nat) (f : LinkPort → LinkPort) : (s.modLink q f).link q = f (s.link q) := by
  simp [State.link, State.modLink]

/-- A changed launch is found changed. -/
theorem kget_modLaunch {s : State} {l : Nat} {x : Launch} (h : kget s.launches l = some x) (f : Launch → Launch) :
    kget (s.modLaunch l f).launches l = some (f x) := by simp [State.modLaunch, h]

/-- A changed task instance is found changed. -/
theorem kget_modTask {s : State} {l : Nat} {x : TaskInst} (h : kget s.tasks l = some x) (f : TaskInst → TaskInst) :
    kget (s.modTask l f).tasks l = some (f x) := by simp [State.modTask, h]

/-- Another task instance is found as it was. -/
theorem kget_modTask_ne {s : State} {l m : Nat} (h : m ≠ l) (f : TaskInst → TaskInst) :
    kget (s.modTask l f).tasks m = kget s.tasks m := by
  unfold State.modTask; split
  · exact kget_kset_ne _ _ h
  · rfl

/-- A changed operation is found changed. -/
theorem kget_modOp {s : State} {l : Nat} {x : COp} (h : kget s.ops l = some x) (f : COp → COp) :
    kget (s.modOp l f).ops l = some (f x) := by simp [State.modOp, h]

/-- A pending command found for a queue is that queue's. -/
theorem pendingCmd_q {s : State} {q n : Nat} {c : Cmd} (h : pendingCmd s q n = some c) : c.q = q := by
  unfold pendingCmd at h
  cases hc : cmdOf s q with
  | none => simp [hc] at h
  | some d =>
    rw [hc, Option.filter_some] at h
    split at h
    · cases h; simpa using List.find?_some hc
    · cases h

/-- Mapping the values of a map maps what a key finds. -/
theorem kget_map {α : Type} (m : KMap α) (f : Nat × α → α) (k : Nat) (v : α) (h : kget m k = some v) :
    kget (m.map fun x => (x.1, f x)) k = some (f (k, v)) := by
  induction m with
  | nil => simp [kget] at h
  | cons e r ih =>
    obtain ⟨j, w⟩ := e
    simp only [kget, List.map_cons] at h ⊢
    split at h
    · cases h; subst_vars; simp
    · rename_i hk; simp [hk, ih h]

/-- A key that stands in a map finds a value. -/
theorem kget_of_mem {α : Type} {m : KMap α} {k : Nat} {v : α} (h : (k, v) ∈ m) : ∃ w, kget m k = some w := by
  induction m with
  | nil => simp at h
  | cons e r ih =>
    obtain ⟨j, w⟩ := e
    simp only [kget]
    split
    · exact ⟨_, rfl⟩
    · rcases List.mem_cons.mp h with h | h
      · cases h; omega
      · exact ih h

end Sys2Proof.Machine
end

