-- ==== Sys2Proof/Laws/PerInstr.lean ====
section
/-! SUPPORT. One lemma per instruction: what the decoder's reader gives at the instruction's own opcode is that instruction, whatever the other
bits of the slot word and the extension word hold; a row of the table that no word encodes has no encoding. -/

open Sys2Proof

/-- Reading a word at the opcode of an instruction gives that instruction, with some operands; a row without an opcode has no encoding. -/
def Sys2Proof.Laws.Decodes.Statement (i : Instr) : Prop :=
  match Instr.opc i with
  | some (c, op) => ∀ w x, ((readSlot c op.toNat w x).bind Instr.opc) = some (c, op)
  | none => encode i = none

/-- Both readings of a word of one opcode have that opcode. -/
theorem Sys2Proof.Laws.opc_ite (b : Bool) (i j : Instr) (c : SlotClass × BitVec 7) (hi : Instr.opc i = some c) (hj : Instr.opc j = some c) :
    ((some (if b then i else j)).bind Instr.opc) = some c := by
  cases b
  · exact hj
  · exact hi

theorem Sys2Proof.Laws.Decodes.add (f : SRForm) : Sys2Proof.Laws.Decodes.Statement (.add f) := fun _ _ => rfl
theorem Sys2Proof.Laws.Decodes.sub (f : SRForm) : Sys2Proof.Laws.Decodes.Statement (.sub f) := fun _ _ => rfl
theorem Sys2Proof.Laws.Decodes.mul (f : SRForm) : Sys2Proof.Laws.Decodes.Statement (.mul f) := fun _ _ => rfl
theorem Sys2Proof.Laws.Decodes.mulh (f : SRForm) : Sys2Proof.Laws.Decodes.Statement (.mulh f) := fun _ _ => rfl
theorem Sys2Proof.Laws.Decodes.mulhu (f : SRForm) : Sys2Proof.Laws.Decodes.Statement (.mulhu f) := fun _ _ => rfl
theorem Sys2Proof.Laws.Decodes.div (f : SRForm) : Sys2Proof.Laws.Decodes.Statement (.div f) := fun _ _ => rfl
theorem Sys2Proof.Laws.Decodes.divu (f : SRForm) : Sys2Proof.Laws.Decodes.Statement (.divu f) := fun _ _ => rfl
theorem Sys2Proof.Laws.Decodes.rem (f : SRForm) : Sys2Proof.Laws.Decodes.Statement (.rem f) := fun _ _ => rfl
theorem Sys2Proof.Laws.Decodes.remu (f : SRForm) : Sys2Proof.Laws.Decodes.Statement (.remu f) := fun _ _ => rfl
theorem Sys2Proof.Laws.Decodes.and (f : SRForm) : Sys2Proof.Laws.Decodes.Statement (.and f) := fun _ _ => rfl
theorem Sys2Proof.Laws.Decodes.or (f : SRForm) : Sys2Proof.Laws.Decodes.Statement (.or f) := fun _ _ => rfl
theorem Sys2Proof.Laws.Decodes.xor (f : SRForm) : Sys2Proof.Laws.Decodes.Statement (.xor f) := fun _ _ => rfl
theorem Sys2Proof.Laws.Decodes.andn (f : SRForm) : Sys2Proof.Laws.Decodes.Statement (.andn f) := fun _ _ => rfl
theorem Sys2Proof.Laws.Decodes.shl (f : SRForm) : Sys2Proof.Laws.Decodes.Statement (.shl f) := fun _ _ => rfl
theorem Sys2Proof.Laws.Decodes.shr (f : SRForm) : Sys2Proof.Laws.Decodes.Statement (.shr f) := fun _ _ => rfl
theorem Sys2Proof.Laws.Decodes.sra (f : SRForm) : Sys2Proof.Laws.Decodes.Statement (.sra f) := fun _ _ => rfl
theorem Sys2Proof.Laws.Decodes.min (f : SRForm) : Sys2Proof.Laws.Decodes.Statement (.min f) := fun _ _ => rfl
theorem Sys2Proof.Laws.Decodes.max (f : SRForm) : Sys2Proof.Laws.Decodes.Statement (.max f) := fun _ _ => rfl
theorem Sys2Proof.Laws.Decodes.minu (f : SRForm) : Sys2Proof.Laws.Decodes.Statement (.minu f) := fun _ _ => rfl
theorem Sys2Proof.Laws.Decodes.maxu (f : SRForm) : Sys2Proof.Laws.Decodes.Statement (.maxu f) := fun _ _ => rfl
theorem Sys2Proof.Laws.Decodes.clz (f : SRForm) : Sys2Proof.Laws.Decodes.Statement (.clz f) := fun _ _ => rfl
theorem Sys2Proof.Laws.Decodes.popc (f : SRForm) : Sys2Proof.Laws.Decodes.Statement (.popc f) := fun _ _ => rfl
theorem Sys2Proof.Laws.Decodes.bfx (f : SRForm) : Sys2Proof.Laws.Decodes.Statement (.bfx f) := fun _ _ => rfl
theorem Sys2Proof.Laws.Decodes.bfi (f : SRForm) : Sys2Proof.Laws.Decodes.Statement (.bfi f) := fun _ _ => rfl
theorem Sys2Proof.Laws.Decodes.li (f : LIForm) : Sys2Proof.Laws.Decodes.Statement (.li f) := fun _ _ => rfl
theorem Sys2Proof.Laws.Decodes.sel (f : SRForm) : Sys2Proof.Laws.Decodes.Statement (.sel f) := fun _ _ => rfl
theorem Sys2Proof.Laws.Decodes.cmp (f : SRForm) : Sys2Proof.Laws.Decodes.Statement (.cmp f) := fun _ _ => rfl
theorem Sys2Proof.Laws.Decodes.plog (f : SRForm) : Sys2Proof.Laws.Decodes.Statement (.plog f) := fun _ _ => rfl
theorem Sys2Proof.Laws.Decodes.br (f : SBForm) : Sys2Proof.Laws.Decodes.Statement (.br f) := fun _ _ => rfl
theorem Sys2Proof.Laws.Decodes.bri (f : SRForm) : Sys2Proof.Laws.Decodes.Statement (.bri f) := fun _ _ => rfl
theorem Sys2Proof.Laws.Decodes.call (f : SBForm) : Sys2Proof.Laws.Decodes.Statement (.call f) := fun _ _ => rfl
theorem Sys2Proof.Laws.Decodes.calli (f : SRForm) : Sys2Proof.Laws.Decodes.Statement (.calli f) := fun _ _ => rfl
theorem Sys2Proof.Laws.Decodes.ret (f : SRForm) : Sys2Proof.Laws.Decodes.Statement (.ret f) := fun _ _ => rfl
theorem Sys2Proof.Laws.Decodes.loop (f : SLForm) : Sys2Proof.Laws.Decodes.Statement (.loop f) := fun _ _ => rfl
theorem Sys2Proof.Laws.Decodes.loopi (f : SLForm) : Sys2Proof.Laws.Decodes.Statement (.loopi f) := fun _ _ => rfl
theorem Sys2Proof.Laws.Decodes.lexit (f : SLForm) : Sys2Proof.Laws.Decodes.Statement (.lexit f) := fun _ _ => rfl
theorem Sys2Proof.Laws.Decodes.ldw (f : SMForm) : Sys2Proof.Laws.Decodes.Statement (.ldw f) := fun _ _ => rfl
theorem Sys2Proof.Laws.Decodes.ldh (f : SMForm) : Sys2Proof.Laws.Decodes.Statement (.ldh f) := fun _ _ => rfl
theorem Sys2Proof.Laws.Decodes.ldhu (f : SMForm) : Sys2Proof.Laws.Decodes.Statement (.ldhu f) := fun _ _ => rfl
theorem Sys2Proof.Laws.Decodes.ldb (f : SMForm) : Sys2Proof.Laws.Decodes.Statement (.ldb f) := fun _ _ => rfl
theorem Sys2Proof.Laws.Decodes.ldbu (f : SMForm) : Sys2Proof.Laws.Decodes.Statement (.ldbu f) := fun _ _ => rfl
theorem Sys2Proof.Laws.Decodes.ldd (f : SMForm) : Sys2Proof.Laws.Decodes.Statement (.ldd f) := fun _ _ => rfl
theorem Sys2Proof.Laws.Decodes.stw (f : SMForm) : Sys2Proof.Laws.Decodes.Statement (.stw f) := fun _ _ => rfl
theorem Sys2Proof.Laws.Decodes.sth (f : SMForm) : Sys2Proof.Laws.Decodes.Statement (.sth f) := fun _ _ => rfl
theorem Sys2Proof.Laws.Decodes.stb (f : SMForm) : Sys2Proof.Laws.Decodes.Statement (.stb f) := fun _ _ => rfl
theorem Sys2Proof.Laws.Decodes.std (f : SMForm) : Sys2Proof.Laws.Decodes.Statement (.std f) := fun _ _ => rfl
theorem Sys2Proof.Laws.Decodes.lds (f : LDSForm) : Sys2Proof.Laws.Decodes.Statement (.lds f) := fun _ _ => rfl
theorem Sys2Proof.Laws.Decodes.stf (f : SMForm) : Sys2Proof.Laws.Decodes.Statement (.stf f) := fun _ _ => rfl
theorem Sys2Proof.Laws.Decodes.feclr (f : SMForm) : Sys2Proof.Laws.Decodes.Statement (.feclr f) := fun _ _ => rfl
theorem Sys2Proof.Laws.Decodes.aadd (f : SMForm) : Sys2Proof.Laws.Decodes.Statement (.aadd f) := fun _ _ => rfl
theorem Sys2Proof.Laws.Decodes.amax (f : SMForm) : Sys2Proof.Laws.Decodes.Statement (.amax f) := fun _ _ => rfl
theorem Sys2Proof.Laws.Decodes.aor (f : SMForm) : Sys2Proof.Laws.Decodes.Statement (.aor f) := fun _ _ => rfl
theorem Sys2Proof.Laws.Decodes.axch (f : SMForm) : Sys2Proof.Laws.Decodes.Statement (.axch f) := fun _ _ => rfl
theorem Sys2Proof.Laws.Decodes.acas (f : SMForm) : Sys2Proof.Laws.Decodes.Statement (.acas f) := fun _ _ => rfl
theorem Sys2Proof.Laws.Decodes.rpop (f : SYForm) : Sys2Proof.Laws.Decodes.Statement (.rpop f) := fun _ _ => rfl
theorem Sys2Proof.Laws.Decodes.rtry (f : SYForm) : Sys2Proof.Laws.Decodes.Statement (.rtry f) := fun _ _ => rfl
theorem Sys2Proof.Laws.Decodes.rrel (f : SYForm) : Sys2Proof.Laws.Decodes.Statement (.rrel f) := fun _ _ => rfl
theorem Sys2Proof.Laws.Decodes.rclaim (f : SYForm) : Sys2Proof.Laws.Decodes.Statement (.rclaim f) := fun _ _ => rfl
theorem Sys2Proof.Laws.Decodes.rfill (f : SYForm) : Sys2Proof.Laws.Decodes.Statement (.rfill f) := fun _ _ => rfl
theorem Sys2Proof.Laws.Decodes.rstat (f : SYForm) : Sys2Proof.Laws.Decodes.Statement (.rstat f) := fun _ _ => rfl
theorem Sys2Proof.Laws.Decodes.aset (f : SYForm) : Sys2Proof.Laws.Decodes.Statement (.aset f) := fun _ _ => rfl
theorem Sys2Proof.Laws.Decodes.ainc (f : SYForm) : Sys2Proof.Laws.Decodes.Statement (.ainc f) := fun _ _ => rfl
theorem Sys2Proof.Laws.Decodes.mfc (f : SYForm) : Sys2Proof.Laws.Decodes.Statement (.mfc f) := fun _ _ => rfl
theorem Sys2Proof.Laws.Decodes.mtc (f : SYForm) : Sys2Proof.Laws.Decodes.Statement (.mtc f) := fun _ _ => rfl
theorem Sys2Proof.Laws.Decodes.fence (f : SYForm) : Sys2Proof.Laws.Decodes.Statement (.fence f) := fun _ _ => rfl
theorem Sys2Proof.Laws.Decodes.trap (f : SYForm) : Sys2Proof.Laws.Decodes.Statement (.trap f) := fun _ _ => rfl
theorem Sys2Proof.Laws.Decodes.tend (f : SYForm) : Sys2Proof.Laws.Decodes.Statement (.tend f) := fun _ _ => rfl
theorem Sys2Proof.Laws.Decodes.waite (f : SYForm) : Sys2Proof.Laws.Decodes.Statement (.waite f) := fun _ _ => rfl
theorem Sys2Proof.Laws.Decodes.bkpt (f : SYForm) : Sys2Proof.Laws.Decodes.Statement (.bkpt f) := fun _ _ => rfl
theorem Sys2Proof.Laws.Decodes.gbar (f : SYForm) : Sys2Proof.Laws.Decodes.Statement (.gbar f) := fun _ _ => rfl
theorem Sys2Proof.Laws.Decodes.trace (f : SYForm) : Sys2Proof.Laws.Decodes.Statement (.trace f) := fun _ _ => rfl
theorem Sys2Proof.Laws.Decodes.spause (f : SYForm) : Sys2Proof.Laws.Decodes.Statement (.spause f) := fun _ _ => rfl
theorem Sys2Proof.Laws.Decodes.vfaddF32 (f : VRForm) : Sys2Proof.Laws.Decodes.Statement (.vfaddF32 f) := fun _ _ => rfl
theorem Sys2Proof.Laws.Decodes.vfaddBf16 (f : VRForm) : Sys2Proof.Laws.Decodes.Statement (.vfaddBf16 f) := fun _ _ => rfl
theorem Sys2Proof.Laws.Decodes.vfaddF16 (f : VRForm) : Sys2Proof.Laws.Decodes.Statement (.vfaddF16 f) := fun _ _ => rfl
theorem Sys2Proof.Laws.Decodes.vfsubF32 (f : VRForm) : Sys2Proof.Laws.Decodes.Statement (.vfsubF32 f) := fun _ _ => rfl
theorem Sys2Proof.Laws.Decodes.vfsubBf16 (f : VRForm) : Sys2Proof.Laws.Decodes.Statement (.vfsubBf16 f) := fun _ _ => rfl
theorem Sys2Proof.Laws.Decodes.vfsubF16 (f : VRForm) : Sys2Proof.Laws.Decodes.Statement (.vfsubF16 f) := fun _ _ => rfl
theorem Sys2Proof.Laws.Decodes.vfmulF32 (f : VRForm) : Sys2Proof.Laws.Decodes.Statement (.vfmulF32 f) := fun _ _ => rfl
theorem Sys2Proof.Laws.Decodes.vfmulBf16 (f : VRForm) : Sys2Proof.Laws.Decodes.Statement (.vfmulBf16 f) := fun _ _ => rfl
theorem Sys2Proof.Laws.Decodes.vfmulF16 (f : VRForm) : Sys2Proof.Laws.Decodes.Statement (.vfmulF16 f) := fun _ _ => rfl
theorem Sys2Proof.Laws.Decodes.vfmaF32 (f : VRForm) : Sys2Proof.Laws.Decodes.Statement (.vfmaF32 f) := fun _ _ => rfl
theorem Sys2Proof.Laws.Decodes.vfmaBf16 (f : VRForm) : Sys2Proof.Laws.Decodes.Statement (.vfmaBf16 f) := fun _ _ => rfl
theorem Sys2Proof.Laws.Decodes.vfmaF16 (f : VRForm) : Sys2Proof.Laws.Decodes.Statement (.vfmaF16 f) := fun _ _ => rfl
theorem Sys2Proof.Laws.Decodes.vfmsF32 (f : VRForm) : Sys2Proof.Laws.Decodes.Statement (.vfmsF32 f) := fun _ _ => rfl
theorem Sys2Proof.Laws.Decodes.vfmsBf16 (f : VRForm) : Sys2Proof.Laws.Decodes.Statement (.vfmsBf16 f) := fun _ _ => rfl
theorem Sys2Proof.Laws.Decodes.vfmsF16 (f : VRForm) : Sys2Proof.Laws.Decodes.Statement (.vfmsF16 f) := fun _ _ => rfl
theorem Sys2Proof.Laws.Decodes.vfnmaF32 (f : VRForm) : Sys2Proof.Laws.Decodes.Statement (.vfnmaF32 f) := fun _ _ => rfl
theorem Sys2Proof.Laws.Decodes.vfnmaBf16 (f : VRForm) : Sys2Proof.Laws.Decodes.Statement (.vfnmaBf16 f) := fun _ _ => rfl
theorem Sys2Proof.Laws.Decodes.vfnmaF16 (f : VRForm) : Sys2Proof.Laws.Decodes.Statement (.vfnmaF16 f) := fun _ _ => rfl
theorem Sys2Proof.Laws.Decodes.vfminF32 (f : VRForm) : Sys2Proof.Laws.Decodes.Statement (.vfminF32 f) := fun _ _ => rfl
theorem Sys2Proof.Laws.Decodes.vfminBf16 (f : VRForm) : Sys2Proof.Laws.Decodes.Statement (.vfminBf16 f) := fun _ _ => rfl
theorem Sys2Proof.Laws.Decodes.vfminF16 (f : VRForm) : Sys2Proof.Laws.Decodes.Statement (.vfminF16 f) := fun _ _ => rfl
theorem Sys2Proof.Laws.Decodes.vfmaxF32 (f : VRForm) : Sys2Proof.Laws.Decodes.Statement (.vfmaxF32 f) := fun _ _ => rfl
theorem Sys2Proof.Laws.Decodes.vfmaxBf16 (f : VRForm) : Sys2Proof.Laws.Decodes.Statement (.vfmaxBf16 f) := fun _ _ => rfl
theorem Sys2Proof.Laws.Decodes.vfmaxF16 (f : VRForm) : Sys2Proof.Laws.Decodes.Statement (.vfmaxF16 f) := fun _ _ => rfl
theorem Sys2Proof.Laws.Decodes.vfcmpF32 (f : VRForm) : Sys2Proof.Laws.Decodes.Statement (.vfcmpF32 f) := fun _ _ => rfl
theorem Sys2Proof.Laws.Decodes.vfcmpBf16 (f : VRForm) : Sys2Proof.Laws.Decodes.Statement (.vfcmpBf16 f) := fun _ _ => rfl
theorem Sys2Proof.Laws.Decodes.vfcmpF16 (f : VRForm) : Sys2Proof.Laws.Decodes.Statement (.vfcmpF16 f) := fun _ _ => rfl
theorem Sys2Proof.Laws.Decodes.vfclampF32 (f : VRForm) : Sys2Proof.Laws.Decodes.Statement (.vfclampF32 f) := fun _ _ => rfl
theorem Sys2Proof.Laws.Decodes.vfclampBf16 (f : VRForm) : Sys2Proof.Laws.Decodes.Statement (.vfclampBf16 f) := fun _ _ => rfl
theorem Sys2Proof.Laws.Decodes.vfclampF16 (f : VRForm) : Sys2Proof.Laws.Decodes.Statement (.vfclampF16 f) := fun _ _ => rfl
theorem Sys2Proof.Laws.Decodes.vexp2 (f : VRForm) : Sys2Proof.Laws.Decodes.Statement (.vexp2 f) := fun _ _ => rfl
theorem Sys2Proof.Laws.Decodes.vlog2 (f : VRForm) : Sys2Proof.Laws.Decodes.Statement (.vlog2 f) := fun _ _ => rfl
theorem Sys2Proof.Laws.Decodes.vrcp (f : VRForm) : Sys2Proof.Laws.Decodes.Statement (.vrcp f) := fun _ _ => rfl
theorem Sys2Proof.Laws.Decodes.vrsq (f : VRForm) : Sys2Proof.Laws.Decodes.Statement (.vrsq f) := fun _ _ => rfl
theorem Sys2Proof.Laws.Decodes.vsqrt (f : VRForm) : Sys2Proof.Laws.Decodes.Statement (.vsqrt f) := fun _ _ => rfl
theorem Sys2Proof.Laws.Decodes.vfrnd (f : VRForm) : Sys2Proof.Laws.Decodes.Statement (.vfrnd f) := fun _ _ => rfl
theorem Sys2Proof.Laws.Decodes.vfclass (f : VRForm) : Sys2Proof.Laws.Decodes.Statement (.vfclass f) := fun _ _ => rfl
theorem Sys2Proof.Laws.Decodes.vaddI32 (f : VRForm) : Sys2Proof.Laws.Decodes.Statement (.vaddI32 f) := fun _ _ => rfl
theorem Sys2Proof.Laws.Decodes.vaddI16 (f : VRForm) : Sys2Proof.Laws.Decodes.Statement (.vaddI16 f) := fun _ _ => rfl
theorem Sys2Proof.Laws.Decodes.vaddI8 (f : VRForm) : Sys2Proof.Laws.Decodes.Statement (.vaddI8 f) := fun _ _ => rfl
theorem Sys2Proof.Laws.Decodes.vsubI32 (f : VRForm) : Sys2Proof.Laws.Decodes.Statement (.vsubI32 f) := fun _ _ => rfl
theorem Sys2Proof.Laws.Decodes.vsubI16 (f : VRForm) : Sys2Proof.Laws.Decodes.Statement (.vsubI16 f) := fun _ _ => rfl
theorem Sys2Proof.Laws.Decodes.vsubI8 (f : VRForm) : Sys2Proof.Laws.Decodes.Statement (.vsubI8 f) := fun _ _ => rfl
theorem Sys2Proof.Laws.Decodes.vmulI32 (f : VRForm) : Sys2Proof.Laws.Decodes.Statement (.vmulI32 f) := fun _ _ => rfl
theorem Sys2Proof.Laws.Decodes.vmulI16 (f : VRForm) : Sys2Proof.Laws.Decodes.Statement (.vmulI16 f) := fun _ _ => rfl
theorem Sys2Proof.Laws.Decodes.vmulI8 (f : VRForm) : Sys2Proof.Laws.Decodes.Statement (.vmulI8 f) := fun _ _ => rfl
theorem Sys2Proof.Laws.Decodes.vminI32 (f : VRForm) : Sys2Proof.Laws.Decodes.Statement (.vminI32 f) := fun _ _ => rfl
theorem Sys2Proof.Laws.Decodes.vminI16 (f : VRForm) : Sys2Proof.Laws.Decodes.Statement (.vminI16 f) := fun _ _ => rfl
theorem Sys2Proof.Laws.Decodes.vminI8 (f : VRForm) : Sys2Proof.Laws.Decodes.Statement (.vminI8 f) := fun _ _ => rfl
theorem Sys2Proof.Laws.Decodes.vmaxI32 (f : VRForm) : Sys2Proof.Laws.Decodes.Statement (.vmaxI32 f) := fun _ _ => rfl
theorem Sys2Proof.Laws.Decodes.vmaxI16 (f : VRForm) : Sys2Proof.Laws.Decodes.Statement (.vmaxI16 f) := fun _ _ => rfl
theorem Sys2Proof.Laws.Decodes.vmaxI8 (f : VRForm) : Sys2Proof.Laws.Decodes.Statement (.vmaxI8 f) := fun _ _ => rfl
theorem Sys2Proof.Laws.Decodes.vcmpI32 (f : VRForm) : Sys2Proof.Laws.Decodes.Statement (.vcmpI32 f) := fun _ _ => rfl
theorem Sys2Proof.Laws.Decodes.vcmpI16 (f : VRForm) : Sys2Proof.Laws.Decodes.Statement (.vcmpI16 f) := fun _ _ => rfl
theorem Sys2Proof.Laws.Decodes.vcmpI8 (f : VRForm) : Sys2Proof.Laws.Decodes.Statement (.vcmpI8 f) := fun _ _ => rfl
theorem Sys2Proof.Laws.Decodes.vabsI32 (f : VRForm) : Sys2Proof.Laws.Decodes.Statement (.vabsI32 f) := fun _ _ => rfl
theorem Sys2Proof.Laws.Decodes.vabsI16 (f : VRForm) : Sys2Proof.Laws.Decodes.Statement (.vabsI16 f) := fun _ _ => rfl
theorem Sys2Proof.Laws.Decodes.vabsI8 (f : VRForm) : Sys2Proof.Laws.Decodes.Statement (.vabsI8 f) := fun _ _ => rfl
theorem Sys2Proof.Laws.Decodes.vshlI32 (f : VRForm) : Sys2Proof.Laws.Decodes.Statement (.vshlI32 f) := fun _ _ => Sys2Proof.Laws.opc_ite _ _ _ _ rfl rfl
theorem Sys2Proof.Laws.Decodes.vshlI32Imm (f : VRForm) : Sys2Proof.Laws.Decodes.Statement (.vshlI32Imm f) := fun _ _ => Sys2Proof.Laws.opc_ite _ _ _ _ rfl rfl
theorem Sys2Proof.Laws.Decodes.vshlI16 (f : VRForm) : Sys2Proof.Laws.Decodes.Statement (.vshlI16 f) := fun _ _ => Sys2Proof.Laws.opc_ite _ _ _ _ rfl rfl
theorem Sys2Proof.Laws.Decodes.vshlI16Imm (f : VRForm) : Sys2Proof.Laws.Decodes.Statement (.vshlI16Imm f) := fun _ _ => Sys2Proof.Laws.opc_ite _ _ _ _ rfl rfl
theorem Sys2Proof.Laws.Decodes.vshlI8 (f : VRForm) : Sys2Proof.Laws.Decodes.Statement (.vshlI8 f) := fun _ _ => Sys2Proof.Laws.opc_ite _ _ _ _ rfl rfl
theorem Sys2Proof.Laws.Decodes.vshlI8Imm (f : VRForm) : Sys2Proof.Laws.Decodes.Statement (.vshlI8Imm f) := fun _ _ => Sys2Proof.Laws.opc_ite _ _ _ _ rfl rfl
theorem Sys2Proof.Laws.Decodes.vshrI32 (f : VRForm) : Sys2Proof.Laws.Decodes.Statement (.vshrI32 f) := fun _ _ => Sys2Proof.Laws.opc_ite _ _ _ _ rfl rfl
theorem Sys2Proof.Laws.Decodes.vshrI32Imm (f : VRForm) : Sys2Proof.Laws.Decodes.Statement (.vshrI32Imm f) := fun _ _ => Sys2Proof.Laws.opc_ite _ _ _ _ rfl rfl
theorem Sys2Proof.Laws.Decodes.vshrI16 (f : VRForm) : Sys2Proof.Laws.Decodes.Statement (.vshrI16 f) := fun _ _ => Sys2Proof.Laws.opc_ite _ _ _ _ rfl rfl
theorem Sys2Proof.Laws.Decodes.vshrI16Imm (f : VRForm) : Sys2Proof.Laws.Decodes.Statement (.vshrI16Imm f) := fun _ _ => Sys2Proof.Laws.opc_ite _ _ _ _ rfl rfl
theorem Sys2Proof.Laws.Decodes.vshrI8 (f : VRForm) : Sys2Proof.Laws.Decodes.Statement (.vshrI8 f) := fun _ _ => Sys2Proof.Laws.opc_ite _ _ _ _ rfl rfl
theorem Sys2Proof.Laws.Decodes.vshrI8Imm (f : VRForm) : Sys2Proof.Laws.Decodes.Statement (.vshrI8Imm f) := fun _ _ => Sys2Proof.Laws.opc_ite _ _ _ _ rfl rfl
theorem Sys2Proof.Laws.Decodes.vsraI32 (f : VRForm) : Sys2Proof.Laws.Decodes.Statement (.vsraI32 f) := fun _ _ => Sys2Proof.Laws.opc_ite _ _ _ _ rfl rfl
theorem Sys2Proof.Laws.Decodes.vsraI32Imm (f : VRForm) : Sys2Proof.Laws.Decodes.Statement (.vsraI32Imm f) := fun _ _ => Sys2Proof.Laws.opc_ite _ _ _ _ rfl rfl
theorem Sys2Proof.Laws.Decodes.vsraI16 (f : VRForm) : Sys2Proof.Laws.Decodes.Statement (.vsraI16 f) := fun _ _ => Sys2Proof.Laws.opc_ite _ _ _ _ rfl rfl
theorem Sys2Proof.Laws.Decodes.vsraI16Imm (f : VRForm) : Sys2Proof.Laws.Decodes.Statement (.vsraI16Imm f) := fun _ _ => Sys2Proof.Laws.opc_ite _ _ _ _ rfl rfl
theorem Sys2Proof.Laws.Decodes.vsraI8 (f : VRForm) : Sys2Proof.Laws.Decodes.Statement (.vsraI8 f) := fun _ _ => Sys2Proof.Laws.opc_ite _ _ _ _ rfl rfl
theorem Sys2Proof.Laws.Decodes.vsraI8Imm (f : VRForm) : Sys2Proof.Laws.Decodes.Statement (.vsraI8Imm f) := fun _ _ => Sys2Proof.Laws.opc_ite _ _ _ _ rfl rfl
theorem Sys2Proof.Laws.Decodes.vmulh (f : VRForm) : Sys2Proof.Laws.Decodes.Statement (.vmulh f) := fun _ _ => rfl
theorem Sys2Proof.Laws.Decodes.vsaddI16 (f : VRForm) : Sys2Proof.Laws.Decodes.Statement (.vsaddI16 f) := fun _ _ => rfl
theorem Sys2Proof.Laws.Decodes.vsaddI8 (f : VRForm) : Sys2Proof.Laws.Decodes.Statement (.vsaddI8 f) := fun _ _ => rfl
theorem Sys2Proof.Laws.Decodes.vssubI16 (f : VRForm) : Sys2Proof.Laws.Decodes.Statement (.vssubI16 f) := fun _ _ => rfl
theorem Sys2Proof.Laws.Decodes.vssubI8 (f : VRForm) : Sys2Proof.Laws.Decodes.Statement (.vssubI8 f) := fun _ _ => rfl
theorem Sys2Proof.Laws.Decodes.vand (f : VRForm) : Sys2Proof.Laws.Decodes.Statement (.vand f) := fun _ _ => rfl
theorem Sys2Proof.Laws.Decodes.vor (f : VRForm) : Sys2Proof.Laws.Decodes.Statement (.vor f) := fun _ _ => rfl
theorem Sys2Proof.Laws.Decodes.vxor (f : VRForm) : Sys2Proof.Laws.Decodes.Statement (.vxor f) := fun _ _ => rfl
theorem Sys2Proof.Laws.Decodes.vandn (f : VRForm) : Sys2Proof.Laws.Decodes.Statement (.vandn f) := fun _ _ => rfl
theorem Sys2Proof.Laws.Decodes.vsel (f : VRForm) : Sys2Proof.Laws.Decodes.Statement (.vsel f) := fun _ _ => rfl
theorem Sys2Proof.Laws.Decodes.vcvt (f : VRForm) : Sys2Proof.Laws.Decodes.Statement (.vcvt f) := fun _ _ => rfl
theorem Sys2Proof.Laws.Decodes.vcvti (f : VRForm) : Sys2Proof.Laws.Decodes.Statement (.vcvti f) := fun _ _ => rfl
theorem Sys2Proof.Laws.Decodes.vcvtb8 (f : VRForm) : Sys2Proof.Laws.Decodes.Statement (.vcvtb8 f) := fun _ _ => rfl
theorem Sys2Proof.Laws.Decodes.vwideb8 (f : VRForm) : Sys2Proof.Laws.Decodes.Statement (.vwideb8 f) := fun _ _ => rfl
theorem Sys2Proof.Laws.Decodes.vhad (f : VRForm) : Sys2Proof.Laws.Decodes.Statement (.vhad f) := fun _ _ => rfl
theorem Sys2Proof.Laws.Decodes.vpack (f : VRForm) : Sys2Proof.Laws.Decodes.Statement (.vpack f) := fun _ _ => rfl
theorem Sys2Proof.Laws.Decodes.vunpack (f : VRForm) : Sys2Proof.Laws.Decodes.Statement (.vunpack f) := fun _ _ => rfl
theorem Sys2Proof.Laws.Decodes.vdotBf16 (f : VRForm) : Sys2Proof.Laws.Decodes.Statement (.vdotBf16 f) := fun _ _ => rfl
theorem Sys2Proof.Laws.Decodes.vdotI8 (f : VRForm) : Sys2Proof.Laws.Decodes.Statement (.vdotI8 f) := fun _ _ => rfl
theorem Sys2Proof.Laws.Decodes.vmov (f : VRForm) : Sys2Proof.Laws.Decodes.Statement (.vmov f) := fun _ _ => rfl
theorem Sys2Proof.Laws.Decodes.vbcst (f : VRForm) : Sys2Proof.Laws.Decodes.Statement (.vbcst f) := fun _ _ => rfl
theorem Sys2Proof.Laws.Decodes.vins (f : VRForm) : Sys2Proof.Laws.Decodes.Statement (.vins f) := fun _ _ => rfl
theorem Sys2Proof.Laws.Decodes.vext (f : VRForm) : Sys2Proof.Laws.Decodes.Statement (.vext f) := fun _ _ => rfl
theorem Sys2Proof.Laws.Decodes.vperm (f : VRForm) : Sys2Proof.Laws.Decodes.Statement (.vperm f) := fun _ _ => rfl
theorem Sys2Proof.Laws.Decodes.vzip (f : VRForm) : Sys2Proof.Laws.Decodes.Statement (.vzip f) := fun _ _ => rfl
theorem Sys2Proof.Laws.Decodes.vunzip (f : VRForm) : Sys2Proof.Laws.Decodes.Statement (.vunzip f) := fun _ _ => rfl
theorem Sys2Proof.Laws.Decodes.vslide (f : VRForm) : Sys2Proof.Laws.Decodes.Statement (.vslide f) := fun _ _ => rfl
theorem Sys2Proof.Laws.Decodes.vradd (f : VRForm) : Sys2Proof.Laws.Decodes.Statement (.vradd f) := fun _ _ => rfl
theorem Sys2Proof.Laws.Decodes.vrmax (f : VRForm) : Sys2Proof.Laws.Decodes.Statement (.vrmax f) := fun _ _ => rfl
theorem Sys2Proof.Laws.Decodes.vrmin (f : VRForm) : Sys2Proof.Laws.Decodes.Statement (.vrmin f) := fun _ _ => rfl
theorem Sys2Proof.Laws.Decodes.vraddi (f : VRForm) : Sys2Proof.Laws.Decodes.Statement (.vraddi f) := fun _ _ => rfl
theorem Sys2Proof.Laws.Decodes.vpsum (f : VRForm) : Sys2Proof.Laws.Decodes.Statement (.vpsum f) := fun _ _ => rfl
theorem Sys2Proof.Laws.Decodes.vtopk (f : VRForm) : Sys2Proof.Laws.Decodes.Statement (.vtopk f) := fun _ _ => rfl
theorem Sys2Proof.Laws.Decodes.vmergek (f : VRForm) : Sys2Proof.Laws.Decodes.Statement (.vmergek f) := fun _ _ => rfl
theorem Sys2Proof.Laws.Decodes.vcntm (f : VRForm) : Sys2Proof.Laws.Decodes.Statement (.vcntm f) := fun _ _ => rfl
theorem Sys2Proof.Laws.Decodes.vtld (f : VRForm) : Sys2Proof.Laws.Decodes.Statement (.vtld f) := fun _ _ => rfl
theorem Sys2Proof.Laws.Decodes.vtli (f : VRForm) : Sys2Proof.Laws.Decodes.Statement (.vtli f) := fun _ _ => rfl
theorem Sys2Proof.Laws.Decodes.vtlu (f : VRForm) : Sys2Proof.Laws.Decodes.Statement (.vtlu f) := fun _ _ => rfl
theorem Sys2Proof.Laws.Decodes.vld (f : VMForm) : Sys2Proof.Laws.Decodes.Statement (.vld f) := fun _ _ => rfl
theorem Sys2Proof.Laws.Decodes.vst (f : VMForm) : Sys2Proof.Laws.Decodes.Statement (.vst f) := fun _ _ => rfl
theorem Sys2Proof.Laws.Decodes.vldt (f : VMForm) : Sys2Proof.Laws.Decodes.Statement (.vldt f) := fun _ _ => rfl
theorem Sys2Proof.Laws.Decodes.vstt (f : VMForm) : Sys2Proof.Laws.Decodes.Statement (.vstt f) := fun _ _ => rfl
theorem Sys2Proof.Laws.Decodes.vgath (f : VMForm) : Sys2Proof.Laws.Decodes.Statement (.vgath f) := fun _ _ => rfl
theorem Sys2Proof.Laws.Decodes.vscat (f : VMForm) : Sys2Proof.Laws.Decodes.Statement (.vscat f) := fun _ _ => rfl
theorem Sys2Proof.Laws.Decodes.vlds (f : VMForm) : Sys2Proof.Laws.Decodes.Statement (.vlds f) := fun _ _ => rfl
theorem Sys2Proof.Laws.Decodes.vldb (f : VMForm) : Sys2Proof.Laws.Decodes.Statement (.vldb f) := fun _ _ => rfl
theorem Sys2Proof.Laws.Decodes.vmlog (f : VRForm) : Sys2Proof.Laws.Decodes.Statement (.vmlog f) := fun _ _ => rfl
theorem Sys2Proof.Laws.Decodes.vmset (f : VRForm) : Sys2Proof.Laws.Decodes.Statement (.vmset f) := fun _ _ => rfl
theorem Sys2Proof.Laws.Decodes.vmfirst (f : VRForm) : Sys2Proof.Laws.Decodes.Statement (.vmfirst f) := fun _ _ => rfl
theorem Sys2Proof.Laws.Decodes.vlerpF32 (f : VRForm) : Sys2Proof.Laws.Decodes.Statement (.vlerpF32 f) := fun _ _ => rfl
theorem Sys2Proof.Laws.Decodes.vlerpBf16 (f : VRForm) : Sys2Proof.Laws.Decodes.Statement (.vlerpBf16 f) := fun _ _ => rfl
theorem Sys2Proof.Laws.Decodes.vfsgn (f : VRForm) : Sys2Proof.Laws.Decodes.Statement (.vfsgn f) := fun _ _ => rfl
theorem Sys2Proof.Laws.Decodes.vfscale (f : VRForm) : Sys2Proof.Laws.Decodes.Statement (.vfscale f) := fun _ _ => rfl
theorem Sys2Proof.Laws.Decodes.mwld (f : MForm) : Sys2Proof.Laws.Decodes.Statement (.mwld f) := fun _ _ => rfl
theorem Sys2Proof.Laws.Decodes.mwlds (f : MForm) : Sys2Proof.Laws.Decodes.Statement (.mwlds f) := fun _ _ => rfl
theorem Sys2Proof.Laws.Decodes.mwpre (f : MForm) : Sys2Proof.Laws.Decodes.Statement (.mwpre f) := fun _ _ => rfl
theorem Sys2Proof.Laws.Decodes.mma (f : MForm) : Sys2Proof.Laws.Decodes.Statement (.mma f) := fun _ _ => rfl
theorem Sys2Proof.Laws.Decodes.mmao (f : MForm) : Sys2Proof.Laws.Decodes.Statement (.mmao f) := fun _ _ => rfl
theorem Sys2Proof.Laws.Decodes.mzero (f : MForm) : Sys2Proof.Laws.Decodes.Statement (.mzero f) := fun _ _ => rfl
theorem Sys2Proof.Laws.Decodes.mdrain (f : MForm) : Sys2Proof.Laws.Decodes.Statement (.mdrain f) := fun _ _ => rfl
theorem Sys2Proof.Laws.Decodes.msca (f : MForm) : Sys2Proof.Laws.Decodes.Statement (.msca f) := fun _ _ => rfl
theorem Sys2Proof.Laws.Decodes.mstat (f : MForm) : Sys2Proof.Laws.Decodes.Statement (.mstat f) := fun _ _ => rfl
theorem Sys2Proof.Laws.Decodes.mresc (f : MForm) : Sys2Proof.Laws.Decodes.Statement (.mresc f) := fun _ _ => rfl
theorem Sys2Proof.Laws.Decodes.mtrn (f : MForm) : Sys2Proof.Laws.Decodes.Statement (.mtrn f) := fun _ _ => rfl
theorem Sys2Proof.Laws.Decodes.mwait (f : MForm) : Sys2Proof.Laws.Decodes.Statement (.mwait f) := fun _ _ => rfl
theorem Sys2Proof.Laws.Decodes.mprog (f : MForm) : Sys2Proof.Laws.Decodes.Statement (.mprog f) := fun _ _ => rfl
theorem Sys2Proof.Laws.Decodes.mflags (f : MForm) : Sys2Proof.Laws.Decodes.Statement (.mflags f) := fun _ _ => rfl
theorem Sys2Proof.Laws.Decodes.mhold (f : MForm) : Sys2Proof.Laws.Decodes.Statement (.mhold f) := fun _ _ => rfl
theorem Sys2Proof.Laws.Decodes.mflush (f : MForm) : Sys2Proof.Laws.Decodes.Statement (.mflush f) := fun _ _ => rfl
theorem Sys2Proof.Laws.Decodes.cld (f : CForm) : Sys2Proof.Laws.Decodes.Statement (.cld f) := fun _ _ => rfl
theorem Sys2Proof.Laws.Decodes.cst (f : CForm) : Sys2Proof.Laws.Decodes.Statement (.cst f) := fun _ _ => rfl
theorem Sys2Proof.Laws.Decodes.cld2d (f : CForm) : Sys2Proof.Laws.Decodes.Statement (.cld2d f) := fun _ _ => rfl
theorem Sys2Proof.Laws.Decodes.cst2d (f : CForm) : Sys2Proof.Laws.Decodes.Statement (.cst2d f) := fun _ _ => rfl
theorem Sys2Proof.Laws.Decodes.cldr (f : CForm) : Sys2Proof.Laws.Decodes.Statement (.cldr f) := fun _ _ => rfl
theorem Sys2Proof.Laws.Decodes.catom (f : CForm) : Sys2Proof.Laws.Decodes.Statement (.catom f) := fun _ _ => rfl
theorem Sys2Proof.Laws.Decodes.cwait (f : CForm) : Sys2Proof.Laws.Decodes.Statement (.cwait f) := fun _ _ => rfl
theorem Sys2Proof.Laws.Decodes.cpoll (f : CForm) : Sys2Proof.Laws.Decodes.Statement (.cpoll f) := fun _ _ => rfl
theorem Sys2Proof.Laws.Decodes.cfence (f : CForm) : Sys2Proof.Laws.Decodes.Statement (.cfence f) := fun _ _ => rfl
theorem Sys2Proof.Laws.Decodes.ccancel (f : CForm) : Sys2Proof.Laws.Decodes.Statement (.ccancel f) := fun _ _ => rfl
theorem Sys2Proof.Laws.Decodes.cget (f : CForm) : Sys2Proof.Laws.Decodes.Statement (.cget f) := fun _ _ => rfl
theorem Sys2Proof.Laws.Decodes.pub (f : CForm) : Sys2Proof.Laws.Decodes.Statement (.pub f) := fun _ _ => rfl
theorem Sys2Proof.Laws.Decodes.pubr (f : CForm) : Sys2Proof.Laws.Decodes.Statement (.pubr f) := fun _ _ => rfl
theorem Sys2Proof.Laws.Decodes.pubred (f : CForm) : Sys2Proof.Laws.Decodes.Statement (.pubred f) := fun _ _ => rfl
theorem Sys2Proof.Laws.Decodes.pip (f : CForm) : Sys2Proof.Laws.Decodes.Statement (.pip f) := fun _ _ => rfl
theorem Sys2Proof.Laws.Decodes.subscribe (f : CForm) : Sys2Proof.Laws.Decodes.Statement (.subscribe f) := fun _ _ => rfl
theorem Sys2Proof.Laws.Decodes.unsub (f : CForm) : Sys2Proof.Laws.Decodes.Statement (.unsub f) := fun _ _ => rfl
theorem Sys2Proof.Laws.Decodes.cpref (f : CForm) : Sys2Proof.Laws.Decodes.Statement (.cpref f) := fun _ _ => rfl
theorem Sys2Proof.Laws.Decodes.phase (f : CForm) : Sys2Proof.Laws.Decodes.Statement (.phase f) := fun _ _ => rfl
theorem Sys2Proof.Laws.Decodes.pubc (f : CForm) : Sys2Proof.Laws.Decodes.Statement (.pubc f) := fun _ _ => rfl
theorem Sys2Proof.Laws.Decodes.subq (f : CForm) : Sys2Proof.Laws.Decodes.Statement (.subq f) := fun _ _ => rfl
theorem Sys2Proof.Laws.Decodes.ertq (f : CForm) : Sys2Proof.Laws.Decodes.Statement (.ertq f) := fun _ _ => rfl
theorem Sys2Proof.Laws.Decodes.erth (f : CForm) : Sys2Proof.Laws.Decodes.Statement (.erth f) := fun _ _ => rfl
theorem Sys2Proof.Laws.Decodes.sumpq (f : CForm) : Sys2Proof.Laws.Decodes.Statement (.sumpq f) := fun _ _ => rfl
theorem Sys2Proof.Laws.Decodes.powerOnReset : Sys2Proof.Laws.Decodes.Statement (.powerOnReset) := rfl
theorem Sys2Proof.Laws.Decodes.recoveryGo : Sys2Proof.Laws.Decodes.Statement (.recoveryGo) := rfl
theorem Sys2Proof.Laws.Decodes.measurementExtend : Sys2Proof.Laws.Decodes.Statement (.measurementExtend) := rfl
theorem Sys2Proof.Laws.Decodes.registerWrite : Sys2Proof.Laws.Decodes.Statement (.registerWrite) := rfl
theorem Sys2Proof.Laws.Decodes.qtailWrite : Sys2Proof.Laws.Decodes.Statement (.qtailWrite) := rfl
theorem Sys2Proof.Laws.Decodes.qctlWrite : Sys2Proof.Laws.Decodes.Statement (.qctlWrite) := rfl
theorem Sys2Proof.Laws.Decodes.queueSelection : Sys2Proof.Laws.Decodes.Statement (.queueSelection) := rfl
theorem Sys2Proof.Laws.Decodes.nop : Sys2Proof.Laws.Decodes.Statement (.nop) := rfl
theorem Sys2Proof.Laws.Decodes.load : Sys2Proof.Laws.Decodes.Statement (.load) := rfl
theorem Sys2Proof.Laws.Decodes.unload : Sys2Proof.Laws.Decodes.Statement (.unload) := rfl
theorem Sys2Proof.Laws.Decodes.launch : Sys2Proof.Laws.Decodes.Statement (.launch) := rfl
theorem Sys2Proof.Laws.Decodes.abort : Sys2Proof.Laws.Decodes.Statement (.abort) := rfl
theorem Sys2Proof.Laws.Decodes.commandFenceRelease : Sys2Proof.Laws.Decodes.Statement (.commandFenceRelease) := rfl
theorem Sys2Proof.Laws.Decodes.launchAcceptance : Sys2Proof.Laws.Decodes.Statement (.launchAcceptance) := rfl
theorem Sys2Proof.Laws.Decodes.waferAcknowledgement : Sys2Proof.Laws.Decodes.Statement (.waferAcknowledgement) := rfl
theorem Sys2Proof.Laws.Decodes.gateTimeout : Sys2Proof.Laws.Decodes.Statement (.gateTimeout) := rfl
theorem Sys2Proof.Laws.Decodes.peerAbort : Sys2Proof.Laws.Decodes.Statement (.peerAbort) := rfl
theorem Sys2Proof.Laws.Decodes.firmwareAbort : Sys2Proof.Laws.Decodes.Statement (.firmwareAbort) := rfl
theorem Sys2Proof.Laws.Decodes.controlPip : Sys2Proof.Laws.Decodes.Statement (.controlPip) := rfl
theorem Sys2Proof.Laws.Decodes.firmwarePriorityChange : Sys2Proof.Laws.Decodes.Statement (.firmwarePriorityChange) := rfl
theorem Sys2Proof.Laws.Decodes.firmwareFault : Sys2Proof.Laws.Decodes.Statement (.firmwareFault) := rfl
theorem Sys2Proof.Laws.Decodes.preemptionRequest : Sys2Proof.Laws.Decodes.Statement (.preemptionRequest) := rfl
theorem Sys2Proof.Laws.Decodes.tenantSwitch : Sys2Proof.Laws.Decodes.Statement (.tenantSwitch) := rfl
theorem Sys2Proof.Laws.Decodes.homeTableRebuild : Sys2Proof.Laws.Decodes.Statement (.homeTableRebuild) := rfl
theorem Sys2Proof.Laws.Decodes.rimRequestStart : Sys2Proof.Laws.Decodes.Statement (.rimRequestStart) := rfl
theorem Sys2Proof.Laws.Decodes.taskHandoff : Sys2Proof.Laws.Decodes.Statement (.taskHandoff) := rfl
theorem Sys2Proof.Laws.Decodes.distributorSelection : Sys2Proof.Laws.Decodes.Statement (.distributorSelection) := rfl
theorem Sys2Proof.Laws.Decodes.passOverEnd : Sys2Proof.Laws.Decodes.Statement (.passOverEnd) := rfl
theorem Sys2Proof.Laws.Decodes.entryHandover : Sys2Proof.Laws.Decodes.Statement (.entryHandover) := rfl
theorem Sys2Proof.Laws.Decodes.taskFire : Sys2Proof.Laws.Decodes.Statement (.taskFire) := rfl
theorem Sys2Proof.Laws.Decodes.gangFire : Sys2Proof.Laws.Decodes.Statement (.gangFire) := rfl
theorem Sys2Proof.Laws.Decodes.budgetExhausted : Sys2Proof.Laws.Decodes.Statement (.budgetExhausted) := rfl
theorem Sys2Proof.Laws.Decodes.thermalSample : Sys2Proof.Laws.Decodes.Statement (.thermalSample) := rfl
theorem Sys2Proof.Laws.Decodes.powerCheck : Sys2Proof.Laws.Decodes.Statement (.powerCheck) := rfl
theorem Sys2Proof.Laws.Decodes.coolantFault : Sys2Proof.Laws.Decodes.Statement (.coolantFault) := rfl
theorem Sys2Proof.Laws.Decodes.coolantTrip : Sys2Proof.Laws.Decodes.Statement (.coolantTrip) := rfl
theorem Sys2Proof.Laws.Decodes.clusterRetirement : Sys2Proof.Laws.Decodes.Statement (.clusterRetirement) := rfl
theorem Sys2Proof.Laws.Decodes.clusterFailure : Sys2Proof.Laws.Decodes.Statement (.clusterFailure) := rfl
theorem Sys2Proof.Laws.Decodes.fieldLoss : Sys2Proof.Laws.Decodes.Statement (.fieldLoss) := rfl
theorem Sys2Proof.Laws.Decodes.bankSwitch : Sys2Proof.Laws.Decodes.Statement (.bankSwitch) := rfl
theorem Sys2Proof.Laws.Decodes.switchDrainEnd : Sys2Proof.Laws.Decodes.Statement (.switchDrainEnd) := rfl
theorem Sys2Proof.Laws.Decodes.correctableError : Sys2Proof.Laws.Decodes.Statement (.correctableError) := rfl
theorem Sys2Proof.Laws.Decodes.freezeEnd : Sys2Proof.Laws.Decodes.Statement (.freezeEnd) := rfl
theorem Sys2Proof.Laws.Decodes.uncorrectableError : Sys2Proof.Laws.Decodes.Statement (.uncorrectableError) := rfl
theorem Sys2Proof.Laws.Decodes.refreshWindow : Sys2Proof.Laws.Decodes.Statement (.refreshWindow) := rfl
theorem Sys2Proof.Laws.Decodes.refreshWindowEnd : Sys2Proof.Laws.Decodes.Statement (.refreshWindowEnd) := rfl
theorem Sys2Proof.Laws.Decodes.stagingDequeue : Sys2Proof.Laws.Decodes.Statement (.stagingDequeue) := rfl
theorem Sys2Proof.Laws.Decodes.segmentAdmission : Sys2Proof.Laws.Decodes.Statement (.segmentAdmission) := rfl
theorem Sys2Proof.Laws.Decodes.holdLimitReached : Sys2Proof.Laws.Decodes.Statement (.holdLimitReached) := rfl
theorem Sys2Proof.Laws.Decodes.arraySelection : Sys2Proof.Laws.Decodes.Statement (.arraySelection) := rfl
theorem Sys2Proof.Laws.Decodes.weightLoadGrant : Sys2Proof.Laws.Decodes.Statement (.weightLoadGrant) := rfl
theorem Sys2Proof.Laws.Decodes.weightLoadEnd : Sys2Proof.Laws.Decodes.Statement (.weightLoadEnd) := rfl
theorem Sys2Proof.Laws.Decodes.positionFire : Sys2Proof.Laws.Decodes.Statement (.positionFire) := rfl
theorem Sys2Proof.Laws.Decodes.rowResultWrite : Sys2Proof.Laws.Decodes.Statement (.rowResultWrite) := rfl
theorem Sys2Proof.Laws.Decodes.selectWrites : Sys2Proof.Laws.Decodes.Statement (.selectWrites) := rfl
theorem Sys2Proof.Laws.Decodes.install : Sys2Proof.Laws.Decodes.Statement (.install) := rfl
theorem Sys2Proof.Laws.Decodes.installAcknowledgement : Sys2Proof.Laws.Decodes.Statement (.installAcknowledgement) := rfl
theorem Sys2Proof.Laws.Decodes.installRefusal : Sys2Proof.Laws.Decodes.Statement (.installRefusal) := rfl
theorem Sys2Proof.Laws.Decodes.removal : Sys2Proof.Laws.Decodes.Statement (.removal) := rfl
theorem Sys2Proof.Laws.Decodes.publicationAtHome : Sys2Proof.Laws.Decodes.Statement (.publicationAtHome) := rfl
theorem Sys2Proof.Laws.Decodes.delivery : Sys2Proof.Laws.Decodes.Statement (.delivery) := rfl
theorem Sys2Proof.Laws.Decodes.heldDeliveryRelease : Sys2Proof.Laws.Decodes.Statement (.heldDeliveryRelease) := rfl
theorem Sys2Proof.Laws.Decodes.pinRequest : Sys2Proof.Laws.Decodes.Statement (.pinRequest) := rfl
theorem Sys2Proof.Laws.Decodes.copyExpiry : Sys2Proof.Laws.Decodes.Statement (.copyExpiry) := rfl
theorem Sys2Proof.Laws.Decodes.contribution : Sys2Proof.Laws.Decodes.Statement (.contribution) := rfl
theorem Sys2Proof.Laws.Decodes.partnerTimeout : Sys2Proof.Laws.Decodes.Statement (.partnerTimeout) := rfl
theorem Sys2Proof.Laws.Decodes.getRequest : Sys2Proof.Laws.Decodes.Statement (.getRequest) := rfl
theorem Sys2Proof.Laws.Decodes.getResponse : Sys2Proof.Laws.Decodes.Statement (.getResponse) := rfl
theorem Sys2Proof.Laws.Decodes.getRetryResend : Sys2Proof.Laws.Decodes.Statement (.getRetryResend) := rfl
theorem Sys2Proof.Laws.Decodes.rimQuery : Sys2Proof.Laws.Decodes.Statement (.rimQuery) := rfl
theorem Sys2Proof.Laws.Decodes.queryReply : Sys2Proof.Laws.Decodes.Statement (.queryReply) := rfl
theorem Sys2Proof.Laws.Decodes.prefetchAtHome : Sys2Proof.Laws.Decodes.Statement (.prefetchAtHome) := rfl
theorem Sys2Proof.Laws.Decodes.copyRequest : Sys2Proof.Laws.Decodes.Statement (.copyRequest) := rfl
theorem Sys2Proof.Laws.Decodes.pageWalk : Sys2Proof.Laws.Decodes.Statement (.pageWalk) := rfl
theorem Sys2Proof.Laws.Decodes.boxPerformed : Sys2Proof.Laws.Decodes.Statement (.boxPerformed) := rfl
theorem Sys2Proof.Laws.Decodes.atomicAtAgent : Sys2Proof.Laws.Decodes.Statement (.atomicAtAgent) := rfl
theorem Sys2Proof.Laws.Decodes.remoteResult : Sys2Proof.Laws.Decodes.Statement (.remoteResult) := rfl
theorem Sys2Proof.Laws.Decodes.faultResume : Sys2Proof.Laws.Decodes.Statement (.faultResume) := rfl
theorem Sys2Proof.Laws.Decodes.faultAbort : Sys2Proof.Laws.Decodes.Statement (.faultAbort) := rfl
theorem Sys2Proof.Laws.Decodes.faultAnswerTimeout : Sys2Proof.Laws.Decodes.Statement (.faultAnswerTimeout) := rfl
theorem Sys2Proof.Laws.Decodes.vminvGo : Sys2Proof.Laws.Decodes.Statement (.vminvGo) := rfl
theorem Sys2Proof.Laws.Decodes.invalidationDone : Sys2Proof.Laws.Decodes.Statement (.invalidationDone) := rfl
theorem Sys2Proof.Laws.Decodes.cfenceRelease : Sys2Proof.Laws.Decodes.Statement (.cfenceRelease) := rfl
theorem Sys2Proof.Laws.Decodes.releaseInjection : Sys2Proof.Laws.Decodes.Statement (.releaseInjection) := rfl
theorem Sys2Proof.Laws.Decodes.ertWrite : Sys2Proof.Laws.Decodes.Statement (.ertWrite) := rfl
theorem Sys2Proof.Laws.Decodes.ertcmdPrefetch : Sys2Proof.Laws.Decodes.Statement (.ertcmdPrefetch) := rfl
theorem Sys2Proof.Laws.Decodes.ertcmdPin : Sys2Proof.Laws.Decodes.Statement (.ertcmdPin) := rfl
theorem Sys2Proof.Laws.Decodes.ertcmdUnpin : Sys2Proof.Laws.Decodes.Statement (.ertcmdUnpin) := rfl
theorem Sys2Proof.Laws.Decodes.ertcmdRelease : Sys2Proof.Laws.Decodes.Statement (.ertcmdRelease) := rfl
theorem Sys2Proof.Laws.Decodes.hintAtErtAgent : Sys2Proof.Laws.Decodes.Statement (.hintAtErtAgent) := rfl
theorem Sys2Proof.Laws.Decodes.rowAtHome : Sys2Proof.Laws.Decodes.Statement (.rowAtHome) := rfl
theorem Sys2Proof.Laws.Decodes.pageSeal : Sys2Proof.Laws.Decodes.Statement (.pageSeal) := rfl
theorem Sys2Proof.Laws.Decodes.pageFailure : Sys2Proof.Laws.Decodes.Statement (.pageFailure) := rfl
theorem Sys2Proof.Laws.Decodes.policyAnswer : Sys2Proof.Laws.Decodes.Statement (.policyAnswer) := rfl
theorem Sys2Proof.Laws.Decodes.policyTimeout : Sys2Proof.Laws.Decodes.Statement (.policyTimeout) := rfl
theorem Sys2Proof.Laws.Decodes.stateNotice : Sys2Proof.Laws.Decodes.Statement (.stateNotice) := rfl
theorem Sys2Proof.Laws.Decodes.rowParking : Sys2Proof.Laws.Decodes.Statement (.rowParking) := rfl
theorem Sys2Proof.Laws.Decodes.residencyNotice : Sys2Proof.Laws.Decodes.Statement (.residencyNotice) := rfl
theorem Sys2Proof.Laws.Decodes.sumpDrain : Sys2Proof.Laws.Decodes.Statement (.sumpDrain) := rfl
theorem Sys2Proof.Laws.Decodes.sweepStart : Sys2Proof.Laws.Decodes.Statement (.sweepStart) := rfl
theorem Sys2Proof.Laws.Decodes.sweepEnd : Sys2Proof.Laws.Decodes.Statement (.sweepEnd) := rfl
theorem Sys2Proof.Laws.Decodes.phaseCloseNotice : Sys2Proof.Laws.Decodes.Statement (.phaseCloseNotice) := rfl
theorem Sys2Proof.Laws.Decodes.launchRetirement : Sys2Proof.Laws.Decodes.Statement (.launchRetirement) := rfl
theorem Sys2Proof.Laws.Decodes.launchAbort : Sys2Proof.Laws.Decodes.Statement (.launchAbort) := rfl
theorem Sys2Proof.Laws.Decodes.traceWrite : Sys2Proof.Laws.Decodes.Statement (.traceWrite) := rfl
theorem Sys2Proof.Laws.Decodes.tbstepWrite : Sys2Proof.Laws.Decodes.Statement (.tbstepWrite) := rfl
theorem Sys2Proof.Laws.Decodes.tbnslRead : Sys2Proof.Laws.Decodes.Statement (.tbnslRead) := rfl
theorem Sys2Proof.Laws.Decodes.timeLockChange : Sys2Proof.Laws.Decodes.Statement (.timeLockChange) := rfl
theorem Sys2Proof.Laws.Decodes.ptpEventMessage : Sys2Proof.Laws.Decodes.Statement (.ptpEventMessage) := rfl
theorem Sys2Proof.Laws.Decodes.ppsEdge : Sys2Proof.Laws.Decodes.Statement (.ppsEdge) := rfl
theorem Sys2Proof.Laws.Decodes.linkPortFailure : Sys2Proof.Laws.Decodes.Statement (.linkPortFailure) := rfl
theorem Sys2Proof.Laws.Decodes.debugHalt : Sys2Proof.Laws.Decodes.Statement (.debugHalt) := rfl
theorem Sys2Proof.Laws.Decodes.debugStep : Sys2Proof.Laws.Decodes.Statement (.debugStep) := rfl
theorem Sys2Proof.Laws.Decodes.stepEnd : Sys2Proof.Laws.Decodes.Statement (.stepEnd) := rfl
theorem Sys2Proof.Laws.Decodes.debugRun : Sys2Proof.Laws.Decodes.Statement (.debugRun) := rfl
theorem Sys2Proof.Laws.Decodes.dbgdataAccess : Sys2Proof.Laws.Decodes.Statement (.dbgdataAccess) := rfl
theorem Sys2Proof.Laws.Decodes.waiteTimeout : Sys2Proof.Laws.Decodes.Statement (.waiteTimeout) := rfl
theorem Sys2Proof.Laws.Decodes.linkPortFails : Sys2Proof.Laws.Decodes.Statement (.linkPortFails) := rfl
theorem Sys2Proof.Laws.Decodes.linkPortRetrained : Sys2Proof.Laws.Decodes.Statement (.linkPortRetrained) := rfl
theorem Sys2Proof.Laws.Decodes.linkCrcReplay : Sys2Proof.Laws.Decodes.Statement (.linkCrcReplay) := rfl
theorem Sys2Proof.Laws.Decodes.routerFailure : Sys2Proof.Laws.Decodes.Statement (.routerFailure) := rfl
theorem Sys2Proof.Laws.Decodes.cutEdgeInstalled : Sys2Proof.Laws.Decodes.Statement (.cutEdgeInstalled) := rfl
theorem Sys2Proof.Laws.Decodes.peerSweepResult : Sys2Proof.Laws.Decodes.Statement (.peerSweepResult) := rfl
theorem Sys2Proof.Laws.Decodes.launchFirmwareReload : Sys2Proof.Laws.Decodes.Statement (.launchFirmwareReload) := rfl
theorem Sys2Proof.Laws.Decodes.emptyBundle : Sys2Proof.Laws.Decodes.Statement (.emptyBundle) := rfl
theorem Sys2Proof.Laws.Decodes.malformedHeader : Sys2Proof.Laws.Decodes.Statement (.malformedHeader) := rfl
theorem Sys2Proof.Laws.Decodes.unassignedOpcode : Sys2Proof.Laws.Decodes.Statement (.unassignedOpcode) := rfl
theorem Sys2Proof.Laws.Decodes.accumulatorPortRow : Sys2Proof.Laws.Decodes.Statement (.accumulatorPortRow) := rfl
theorem Sys2Proof.Laws.Decodes.cutEdgeCrossing : Sys2Proof.Laws.Decodes.Statement (.cutEdgeCrossing) := rfl
end

