-- ==== Sys2Proof/Laws/Vector.lean ====
section
/-! SUPPORT. Lanes of vector registers: reading a lane of a register that was built from lanes, and lane-wise writes. -/

namespace Sys2Proof.Machine

open Sys2Proof

theorem ofLanes_lt (w : Nat) (l : List Nat) : ofLanes w l < 2 ^ (w * l.length) := by
  induction l with
  | nil => simp [ofLanes]
  | cons x r ih =>
    have hx : x % 2 ^ w < 2 ^ w := Nat.mod_lt _ (Nat.two_pow_pos w)
    have : ofLanes w r + 1 ≤ 2 ^ (w * r.length) := ih
    have hm := Nat.mul_le_mul_left (2 ^ w) this
    rw [← pow_add] at hm
    rw [ofLanes, List.length_cons, Nat.mul_succ, Nat.add_comm (w * r.length)]
    rw [Nat.mul_add] at hm
    omega

/-- Lane `i` of a number made of lanes. -/
theorem ofLanes_lane (w : Nat) (l : List Nat) (i : Nat) (h : i < l.length) :
    ofLanes w l / 2 ^ (w * i) % 2 ^ w = l[i] % 2 ^ w := by
  induction l generalizing i with
  | nil => simp at h
  | cons x r ih =>
    have hp := Nat.two_pow_pos w
    have hx : x % 2 ^ w < 2 ^ w := Nat.mod_lt _ hp
    cases i with
    | zero => simp [ofLanes, Nat.add_mul_mod_self_left]
    | succ i =>
      have hd : ofLanes w (x :: r) / 2 ^ w = ofLanes w r := by
        rw [ofLanes, Nat.add_mul_div_left _ _ hp, Nat.div_eq_of_lt hx, Nat.zero_add]
      rw [Nat.mul_succ, Nat.add_comm, pow_add, ← Nat.div_div_eq_div_mul, hd]
      exact ih i (by simpa using h)

/-- A lane of a register that was built from lanes. -/
theorem lane_buildLanes (n w : Nat) (f : Nat → Nat) (i : Nat) (hi : i < n) (hw : w * n ≤ 1024) :
    lane (buildLanes n w f) i w = f i % 2 ^ w := by
  unfold lane buildLanes
  have hl := ofLanes_lt w ((List.range n).map f)
  rw [List.length_map, List.length_range] at hl
  rw [BitVec.toNat_ofNat, Nat.mod_eq_of_lt (lt_of_lt_of_le hl (Nat.pow_le_pow_right (by omega) hw)),
    ofLanes_lane _ _ _ (by simpa using hi)]
  simp

/-- A lane of a masked write (R244). -/
theorem lane_writeLanes (w : Nat) (mask : MWord) (old : VWord) (f : Nat → Nat) (i : Nat) (h : i < 1024 / w) :
    lane (writeLanes w mask old f) i w = if laneOn mask w i then f i % 2 ^ w else lane old i w := by
  unfold writeLanes
  rw [lane_buildLanes _ _ _ _ h (Nat.mul_div_le 1024 w)]
  split
  · rfl
  · simp [lane]

/-- A lane-wise write of the issuing bank, with its flags. -/
theorem writesLanes (s : State) (d : BitVec 5) (w : Nat) (mask : Bank → MWord) (f : Bank → Nat → Nat) (fl : Bank → Fl) :
    WritesLanes s (s.modBank fun k => (k.wrV d (writeLanes w (mask k) (k.rdV d) (f k))).raise (fl k)) d w (mask s.bank) (f s.bank)
      (fl s.bank) := by
  have h := writesVector_wrV s d (fun k => writeLanes w (mask k) (k.rdV d) (f k)) fl
  have hd := h.1 d
  rw [if_pos rfl] at hd
  refine ⟨by rw [hd]; exact h, fun i hi => ?_⟩
  rw [hd]
  exact lane_writeLanes _ _ _ _ _ hi

/-- A lane-wise write without flags. -/
theorem writesLanes_noFlags (s : State) (d : BitVec 5) (w : Nat) (mask : Bank → MWord) (f : Bank → Nat → Nat) :
    WritesLanes s (s.modBank fun k => k.wrV d (writeLanes w (mask k) (k.rdV d) (f k))) d w (mask s.bank) (f s.bank) Fl.none := by
  have h := writesLanes s d w mask f fun _ => Fl.none
  have e : (s.modBank fun k => (k.wrV d (writeLanes w (mask k) (k.rdV d) (f k))).raise Fl.none) =
      s.modBank fun k => k.wrV d (writeLanes w (mask k) (k.rdV d) (f k)) := by
    refine State.modBank_congr s ?_
    have : Fl.none.bits = 0 := rfl
    simp [Bank.raise, this]
  rwa [e] at h

end Sys2Proof.Machine
end

