-- ==== Sys2Proof/Tests/Slice0.lean ====
section
/-! SUPPORT. Tests: ill-formed terms that each check refuses, words written out from the spec's encodings, single steps with results from
the spec's rules, and a witness of the hypotheses of every obligation. -/

namespace Sys2Proof.Tests

set_option Elab.async false

open Sys2Proof Sys2Proof.Machine

/-! ### Legal and ill-formed terms (R134, R147 to R149, R155, R159 to R165) -/

abbrev g0 : Guard := ⟨0, false⟩
/-- Fields that most rows of their format accept. -/
abbrev sr : SRForm := ⟨g0, 1, 2, 3, 0, none⟩
abbrev sm : SMForm := ⟨g0, 4, 5, 0, none⟩
abbrev sy : SYForm := ⟨g0, 0, 0, 0⟩
abbrev vr : VRForm := ⟨g0, 1, 2, 3, 0, false, none⟩
abbrev vm : VMForm := ⟨g0, 1, 2, 0, 0, false, none⟩
abbrev mf : MForm := ⟨g0, 0, 0, false, false, 0, 0, 0⟩
abbrev cf : CForm := ⟨g0, 0, 0, 0, 0, none⟩
/-- A VX word of its fields RM, SAT, TA, TB, CND, IMM (R157). -/
abbrev vx (rm sat ta tb cnd imm : Nat) : Word :=
  BitVec.ofNat 32 (rm * 2 ^ 29 + sat * 2 ^ 28 + ta * 2 ^ 22 + tb * 2 ^ 16 + cnd * 2 ^ 12 + imm)
/-- An MX word of its fields AFMT, BFMT, SLOT, TILE (R162). -/
abbrev mx (afmt bfmt slot tile : Nat) : Word := BitVec.ofNat 32 (afmt * 2 ^ 26 + bfmt * 2 ^ 20 + slot * 2 ^ 14 + tile)
/-- A CX word of its fields LEN and PITCH (R164). -/
abbrev cx (len pitch : Nat) : Word := BitVec.ofNat 32 (len * 2 ^ 11 + pitch)

/-- One term of each format that its row accepts. -/
theorem test_wf_accepts :
    ([.add sr, .li ⟨g0, 1, 5, none⟩, .ldw sm, .lds ⟨g0, 1, 2, 0, true, none⟩, .br ⟨g0, 7⟩, .loopi ⟨g0, 0, 1, 4, some 9⟩,
      .fence { sy with imm := 4 }, .vfaddF32 vr, .vld vm, .mma { mf with x := mx 2 2 47 1023 },
      .cld { cf with ca := 30, x := some (cx 1048576 0) }, .cld2d { cf with cb := 29, x := some (cx 128 1) }] : List Instr).all Instr.legal = true := by
  decide +kernel

/-- Guards, and the fields of the scalar rows. -/
theorem test_wf_scalar_refused :
    ([.add { sr with g := ⟨0, true⟩ }, .add { sr with fn := 1 }, .add { sr with x := some 1 }, .clz sr, .clz { sr with b := 0, x := some 1 },
      .bfx { sr with fn := 2 }, .li ⟨g0, 1, 1, some 5⟩, .cmp { sr with d := 8 }, .cmp { sr with fn := 10 }, .plog { sr with d := 8 },
      .plog { sr with a := 8 }, .plog { sr with b := 8 }, .plog { sr with x := some 0 }, .bri { sr with b := 0 },
      .bri { sr with d := 0 }, .ret { sr with d := 0, b := 0 }, .loop ⟨g0, 1, 0, 1, some 1⟩, .loopi ⟨g0, 1, 0, 1, some 1⟩, .loopi ⟨g0, 0, 0, 1, none⟩,
      .lexit ⟨g0, 1, 0, 0, none⟩, .lexit ⟨g0, 0, 0, 1, none⟩, .ldw { sm with off := 1, x := some 4 }, .ldd { sm with d := 5 },
      .std { sm with d := 5 }, .acas { sm with d := 5 }, .feclr sm, .rpop { sy with imm := 16 }, .rpop { sy with a := 1 }, .rrel { sy with d := 1 },
      .aset { sy with d := 8 }, .aset { sy with imm := 4 }, .ainc { sy with imm := 1 }, .mfc { sy with imm := 0x00F }, .mfc { sy with imm := 0x02C },
      .mfc { sy with imm := 0x080 }, .mfc { sy with a := 1 }, .mtc { sy with d := 1 }, .fence { sy with imm := 5 }, .trap { sy with d := 1 },
      .tend { sy with imm := 1 }, .waite { sy with imm := 16 }, .trace { sy with a := 30 }, .trace { sy with d := 1 }] : List Instr).all
      (fun i => !Instr.legal i) = true := by
  decide +kernel

/-- The fields of the vector rows. -/
theorem test_wf_vector_refused :
    ([.vfaddF32 { vr with g := ⟨0, true⟩ }, .vfaddF32 { vr with q := true }, .vfaddF32 { vr with x := some (vx 6 0 0 0 0 0) },
      .vfaddF32 { vr with x := some (vx 0 1 0 0 0 0) }, .vfaddF32 { vr with x := some (vx 0 0 1 0 0 0) }, .vfaddF32 { vr with x := some (vx 0 0 0 1 0 0) },
      .vfaddF32 { vr with x := some (vx 0 0 0 0 1 0) }, .vfaddF32 { vr with x := some (vx 0 0 0 0 0 1) }, .vfminF32 { vr with x := some 0 },
      .vfcmpF32 vr, .vfcmpF32 { vr with x := some (vx 0 0 0 0 8 0) }, .vfcmpF32 { vr with d := 8, x := some (vx 0 0 0 0 1 0) },
      .vexp2 vr, .vcmpI32 { vr with x := some (vx 0 0 0 0 6 0) }, .vshlI32Imm { vr with b := 0, q := true, x := some (vx 0 0 0 0 0 32) },
      .vshlI8Imm { vr with b := 0, q := true, x := some (vx 0 0 0 0 0 8) }, .vcvt { vr with b := 0, x := some (vx 0 0 1 1 0 0) },
      .vcvt { vr with b := 0, x := some (vx 0 0 4 1 0 0) }, .vcvti { vr with b := 0, x := some (vx 0 0 1 2 0 0) },
      .vcvtb8 { vr with x := some (vx 0 0 0 3 0 0) }, .vwideb8 { vr with b := 0, x := some (vx 0 0 0x20 1 0 0) },
      .vhad { vr with b := 0, x := some (vx 0 0 0 0 0 9) }, .vhad { vr with d := 1, b := 0, x := some (vx 0 0 0 0 0 6) },
      .vhad { vr with d := 2, a := 4, b := 0, msk := 1, x := some (vx 0 0 0 0 0 6) }, .vpack { vr with x := some (vx 0 0 0x21 0x20 0 0) },
      .vunpack { vr with b := 0, x := some (vx 0 0 0x20 0x21 0 0) }, .vbcst { vr with b := 0, x := some 0 },
      .vins { vr with b := 0, x := some (vx 0 0 0 0x20 0 32) }, .vext { vr with b := 0, msk := 1, x := some (vx 0 0 0x20 0 0 0) },
      .vperm { vr with x := some (vx 0 0 0x24 0 0 0) }, .vslide { vr with x := some (vx 0 0 1 0 0 32) }, .vradd { vr with b := 0, x := some (vx 0 0 0x20 0 0 0) },
      .vraddi { vr with b := 0, x := some (vx 0 0 1 0 0 0) }, .vpsum { vr with b := 0, x := some (vx 0 0 0x23 0 0 0) },
      .vtopk { vr with a := 8, x := some 0 }, .vtopk { vr with x := some (vx 0 0 0 0 0 32) }, .vmergek { vr with x := some (vx 0 0 0 0 0 16) },
      .vcntm { vr with a := 8, b := 0 }, .vtli { vr with x := some (vx 0 0 0 1 0 3) }, .vtli { vr with x := some (vx 0 0 0 1 0 12) },
      .vtlu { vr with x := some 0 }, .vld { vm with x := some 0 }, .vldt { vm with x := some (2 * 2 ^ 25) }, .vldt { vm with x := some 1 },
      .vldt { vm with x := some (2 ^ 27) }, .vldt { vm with x := some (2 ^ 24) }, .vgath { vm with x := some (3 * 2 ^ 25) }, .vlds { vm with x := some (2 ^ 25) },
      .vldb { vm with x := some (3 * 2 ^ 25) }, .vmlog { vr with x := some (vx 0 0 0 0 0 16) }, .vmset { vr with d := 8, b := 0 },
      .vfsgn { vr with x := some (vx 0 0 4 0 0 0) }] : List Instr).all (fun i => !Instr.legal i) = true := by
  decide +kernel

/-- The fields of the matrix rows. -/
theorem test_wf_matrix_refused :
    ([.mwld { mf with x := mx 0 1 0 0 }, .mwld { mf with x := mx 0 2 48 0 }, .mwld { mf with z := 1, x := mx 0 2 0 0 }, .mwld { mf with as := 1, x := mx 0 2 0 0 },
      .mwld { mf with mrg := true, x := mx 0 2 0 0 }, .mwld { mf with x := mx 0 2 0 0 + 1024 }, .mwlds { mf with x := mx 0 2 47 0 },
      .mwlds { mf with asrc := true, as := 8, x := mx 0 2 63 0 }, .mma { mf with x := mx 2 3 0 0 }, .mma { mf with rows := 128, x := mx 2 2 0 0 },
      .mma { mf with mrg := true, x := mx 2 2 63 0 }, .mzero { mf with x := 1 }, .mdrain { mf with opt := 2, x := mx 1 0 0 0 },
      .mdrain { mf with x := mx 0x20 0 0 0 }, .msca { mf with as := 4 }, .msca { mf with x := 1 }, .mtrn { mf with x := mx 1 0 0 0 },
      .mwait { mf with opt := 1, z := 1 }, .mwait { mf with opt := 2 }, .mprog { mf with x := 1 }, .mhold { mf with z := 1 },
      .mflush { mf with rows := 1 }] : List Instr).all (fun i => !Instr.legal i) = true := by
  decide +kernel

/-- The fields of the copy rows. -/
theorem test_wf_copy_refused :
    ([.cld { cf with x := none }, .cld { cf with x := some (cx 0 0) }, .cld { cf with x := some (cx 1048577 0) }, .cld { cf with x := some (cx 64 1) },
      .cld { cf with x := some (cx 64 0 + 256) }, .cld { cf with ca := 1, x := some (cx 64 0) }, .cld { cf with opt := 1, x := some (cx 64 0) },
      .cld2d { cf with x := some (cx 64 0) }, .cld2d { cf with x := some (cx 129 1) }, .cld2d { cf with cb := 30, x := some (cx 64 1) },
      .cldr { cf with ca := 16, x := some (cx 64 0) }, .catom { cf with cb := 30 }, .catom { cf with opt := 5 }, .catom { cf with opt := 16 },
      .cwait { cf with ca := 1 }, .cpoll { cf with cb := 1 }, .cfence { cf with opt := 5 }, .pub { cf with ca := 31, opt := 2, x := some (cx 64 0) },
      .pub { cf with opt := 4, x := some (cx 64 0) }, .pubr { cf with x := some (cx 63 0) }, .pubr { cf with x := some (cx 4096 0) },
      .pubr { cf with ca := 30, x := some (cx 64 0) }, .pubred { cf with opt := 20, x := some (cx 64 0) }, .pip { cf with ca := 1 },
      .pip { cf with grp := 1 }, .subscribe { cf with cb := 30 }, .unsub { cf with ca := 1 }, .cpref { cf with opt := 1 }, .phase { cf with opt := 16 },
      .subq { cf with cb := 1 }, .ertq { cf with grp := 1 }, .erth { cf with opt := 3 }] : List Instr).all (fun i => !Instr.legal i) = true := by
  decide +kernel

/-! ### Words written out field by field (R145, R150 to R165) -/

/-- SR: SUB s3, s4, s5 under !p2; BFX with FN 1; SEL of p3 negated with an extension word. -/
theorem test_decode_sr :
    decodeSlot .S (0b0_0000001_010_1_00011_00100_00101_0000_0) none = .ok (.sub ⟨⟨2, true⟩, 3, 4, 5, 0, none⟩) ∧
    decodeSlot .S (0b0_0010110_000_0_00001_00010_00011_0001_0) none = .ok (.bfx ⟨g0, 1, 2, 3, 1, none⟩) ∧
    decodeSlot .S (0b0_0011001_000_0_00001_00010_00000_1011_1) (some 7) = .ok (.sel ⟨g0, 1, 2, 0, 11, some 7⟩) := by
  decide +kernel

/-- SM: STD of s6 at s7 − 8; LDS with E; ACAS with an extension word. -/
theorem test_decode_sm :
    decodeSlot .S (0b0_0111001_000_0_00110_00111_111111111_0) none = .ok (.std ⟨g0, 6, 7, 0x1FF, none⟩) ∧
    decodeSlot .S (0b0_0111010_000_0_00001_00010_00000100_1_0) none = .ok (.lds ⟨g0, 1, 2, 4, true, none⟩) ∧
    decodeSlot .S (0b0_1000001_000_0_00010_00100_000000000_1) (some 0xFFFFFFFC) = .ok (.acas ⟨g0, 2, 4, 0, some 0xFFFFFFFC⟩) := by
  decide +kernel

/-- SB and SL: CALL 3 words back; LOOP on level 2 by s9 over 40 words; LOOPI by 1000; LEXIT of level 3. -/
theorem test_decode_control :
    decodeSlot .S (0b0_0100010_000_0_11111111111111111101) none = .ok (.call ⟨g0, 0xFFFFD⟩) ∧
    decodeSlot .S (0b0_0100101_000_0_01001_10_0000000101000) none = .ok (.loop ⟨g0, 9, 2, 40, none⟩) ∧
    decodeSlot .S (0b0_0100110_000_0_00000_01_0000000000100) (some 1000) = .ok (.loopi ⟨g0, 0, 1, 4, some 1000⟩) ∧
    decodeSlot .S (0b0_0100111_000_0_00000_11_0000000000000) none = .ok (.lexit ⟨g0, 0, 3, 0, none⟩) := by
  decide +kernel

/-- SY: RPOP of ring 5 into s8; ASET of STRIDE of a2; MFC of TIMEL; FENCE 4; TRAP 1023. -/
theorem test_decode_sy :
    decodeSlot .S (0b0_1001000_000_0_01000_00000_0000000101) none = .ok (.rpop ⟨g0, 8, 0, 5⟩) ∧
    decodeSlot .S (0b0_1010000_000_0_00010_00011_0000000001) none = .ok (.aset ⟨g0, 2, 3, 1⟩) ∧
    decodeSlot .S (0b0_1100000_000_0_00001_00000_0000001010) none = .ok (.mfc ⟨g0, 1, 0, 0x00A⟩) ∧
    decodeSlot .S (0b0_1100010_000_0_00000_00000_0000000100) none = .ok (.fence ⟨g0, 0, 0, 4⟩) ∧
    decodeSlot .S (0b0_1100011_000_0_00000_00000_1111111111) none = .ok (.trap ⟨g0, 0, 0, 1023⟩) := by
  decide +kernel

/-- VR: an add of BF16 under m3 with RM 0b101 in VX; the two forms of the shift left of I16; VCVT from FP32 to BF16 with SAT. -/
theorem test_decode_vr :
    decodeSlot .V (0b0_0000001_000_0_00001_00010_00011_011_0_1) (some 0b101_0_000000_000000_0000_000000000000) =
      .ok (.vfaddBf16 ⟨g0, 1, 2, 3, 3, false, some 0xA0000000⟩) ∧
    decodeSlot .V (0b0_0111110_000_0_00001_00010_00011_000_0_0) none = .ok (.vshlI16 ⟨g0, 1, 2, 3, 0, false, none⟩) ∧
    decodeSlot .V (0b0_0111110_000_0_00001_00010_00000_000_1_1) (some 15) = .ok (.vshlI16Imm ⟨g0, 1, 2, 0, 0, true, some 15⟩) ∧
    decodeSlot .V (0b0_1010000_000_0_00001_00010_00000_000_0_1) (some 0b000_1_000001_000010_0000_000000000000) =
      .ok (.vcvt ⟨g0, 1, 2, 0, 0, false, some 0x10420000⟩) := by
  decide +kernel

/-- VM: VLD of v9 at a7, 128 bytes back, with post-increment; VGATH of bytes by v31. -/
theorem test_decode_vm :
    decodeSlot .V (0b0_1110000_000_0_01001_111_1111111_000_1_0) none = .ok (.vld ⟨g0, 9, 7, 0x7F, 0, true, none⟩) ∧
    decodeSlot .V (0b0_1110100_000_0_00001_000_0000000_000_0_1) (some 0b11111_10_0_000000000000000000000000) =
      .ok (.vgath ⟨g0, 1, 0, 0, 0, false, some 0xFC000000⟩) := by
  decide +kernel

/-- M: MMA of ring 2, merged, 16 rows, BF16 by BF16 of tile 5 of slot 3 into z1; MSCA with its two scale registers. -/
theorem test_decode_m :
    decodeSlot .M (0b0_0000011_000_0_01_0010_0_1_00_0000010000) (some 0b000010_000010_000011_0000_0000000101) =
      .ok (.mma ⟨g0, 1, 2, false, true, 0, 16, 0x0820C005⟩) ∧
    decodeSlot .M (0b0_0000111_000_0_00_0011_0_0_00_0000000000) (some 0b101_110_00000000000000000000000000) =
      .ok (.msca ⟨g0, 0, 3, false, false, 0, 0, 0xB8000000⟩) := by
  decide +kernel

/-- C: CST of 256 bytes in group 9; a 64-bit CATOM MAX; PUB with REL and GREG; PHASE 7; ERTQ. -/
theorem test_decode_c :
    decodeSlot .C (0b0_0000001_000_0_00010_00100_1001_00000_1) (some 0b000000000000100000000_000_00000000) =
      .ok (.cst ⟨g0, 2, 4, 9, 0, some 0x80000⟩) ∧
    decodeSlot .C (0b0_0000101_000_0_00010_00100_0000_01001_0) none = .ok (.catom ⟨g0, 2, 4, 0, 9, none⟩) ∧
    decodeSlot .C (0b0_0010001_000_0_00010_00100_0001_00011_1) (some 0b000000000000001000000_000_00000000) =
      .ok (.pub ⟨g0, 2, 4, 1, 3, some 0x20000⟩) ∧
    decodeSlot .C (0b0_0011000_000_0_00000_00000_0000_00111_0) none = .ok (.phase ⟨g0, 0, 0, 0, 7, none⟩) ∧
    decodeSlot .C (0b0_0100000_000_0_00001_00010_0000_00000_0) none = .ok (.ertq ⟨g0, 1, 2, 0, 0, none⟩) := by
  decide +kernel

/-- Encoding gives the same words back (R145 to R164). -/
theorem test_encode :
    encode (.std ⟨g0, 6, 7, 0x1FF, none⟩) = some (.S, 0b0_0111001_000_0_00110_00111_111111111_0, none) ∧
    encode (.vgath ⟨g0, 1, 0, 0, 0, false, some 0xFC000000⟩) = some (.V, 0b0_1110100_000_0_00001_000_0000000_000_0_1, some 0xFC000000) ∧
    encode (.mma ⟨g0, 1, 2, false, true, 0, 16, 0x0820C005⟩) = some (.M, 0b0_0000011_000_0_01_0010_0_1_00_0000010000, some 0x0820C005) ∧
    encode (.cst ⟨g0, 2, 4, 9, 0, some 0x80000⟩) = some (.C, 0b0_0000001_000_0_00010_00100_1001_00000_1, some 0x80000) ∧
    encode .nop = none := by
  decide +kernel

/-- The bundle of 06, "A bundle, word by word", and its variants: an extension of S before that of M, three extension words, SLOT 63. -/
theorem test_decode_bundle :
    decodeBundle [0xE9000000, 0x30038804, 0x0A018440, 0x03049028, 0x41014011] =
      .ok ⟨true, false, 5, [(0, .ldw ⟨g0, 7, 2, 2, none⟩), (1, .vfmaBf16 ⟨g0, 3, 1, 2, 0, false, none⟩),
        (3, .mma ⟨g0, 1, 2, false, true, 0, 40, 0x41014011⟩)]⟩ ∧
    (decodeBundle [0xE9000000, 0x30038801, 0x0A018440, 0x03049028, 0x1000, 0x41014011]).toOption.map (fun b => b.slots.map fun x => x.1) =
      some [0, 1, 3] ∧
    decodeBundle [0xE9000000, 0x30038801, 0x0A018441, 0x03049028, 0x1000, 0, 0x41014011] = .error .illegalEncoding ∧
    decodeBundle [0xE9000000, 0x30038804, 0x0A018440, 0x03049028, 0x410FC011] = .error .illegalEncoding := by
  decide +kernel

/-- Words that the spec writes out: `vfadd.f32 v4, v5, v6, m2` (R252), `vldt.f16 v1, [a2+256], m3` (R247), `vcvtb8.rne.sat.b8p4sf v7, v2, v3`
(R264), `vtopk v5, a3, s9, 3` (R270), `vtli.bf16.rne v4, v2, s10, 0, 1` (R277). -/
theorem test_decode_spec_words :
    decodeSlot .V 0x000214C8 none = .ok (.vfaddF32 ⟨g0, 4, 5, 6, 2, false, none⟩) ∧
    decodeSlot .V 0x7200A04D (some 0x02000000) = .ok (.vldt ⟨g0, 1, 2, 2, 3, false, some 0x02000000⟩) ∧
    decodeSlot .V 0x52038861 (some 0x30100000) = .ok (.vcvtb8 ⟨g0, 7, 2, 3, 0, false, some 0x30100000⟩) ∧
    decodeSlot .V 0x68028D21 (some 2) = .ok (.vtopk ⟨g0, 5, 3, 9, 0, false, some 2⟩) ∧
    decodeSlot .V 0x6C020941 (some 0x20020001) = .ok (.vtli ⟨g0, 4, 2, 10, 0, false, some 0x20020001⟩) := by
  decide +kernel

/-! ### Single steps -/

/-- A live bank: s2 = 2^31, s3 = 2^32 − 1, s4 = 64, s5 = −7, s6 = 1, two rings of four slots of 128 bytes (the first with a held, a FILLED
and a claimed slot), an image of 8 words, tables of 256 bytes. -/
def tb : Bank :=
  { Bank.reset with
    status := .live, task := 5, taskid := 7, launch := 0x10000001, gangSize := 1, budget := 1000
    s := (((((Vector.replicate 32 (0 : Word)).set 2 0x80000000).set 3 0xFFFFFFFF).set 4 64).set 5 0xFFFFFFF9).set 6 1
    rings := [⟨0x1000, 0, 2, 0, [⟨.task, false⟩], [⟨.task, true⟩, ⟨.task, false⟩], [], []⟩, ⟨0x2000, 0, 2, 0, [], [], [], []⟩]
    imLen := 32, tblLen := 256 }

/-- Core 0 runs that bank. Its image holds eight empty bundles (R125), scratchpad byte 64 on holds 80 FF 01 7F 11 22 33 44. -/
def ts : State :=
  writeBytes (writeBytes
    { State.reset with
      ctx := ⟨0, false, 0, 0, 1, [], [], false, false, true⟩
      cores := [(0, { Core.reset with b0 := tb, running := some false })] }
    ((Space.imem 0).key 0) ((List.range 8).flatMap fun _ => leBytes 4 0x81000000))
    ((Space.spad 0).key 64) [0x80, 0xFF, 0x01, 0x7F, 0x11, 0x22, 0x33, 0x44]

/-- The state after an instruction. -/
def after (i : Instr) (s : State) : State :=
  match exec i s with
  | .next t => t
  | _ => s

/-- s_1 after an instruction. -/
def s1 (i : Instr) : Word := (after i ts).bank.rdS 1

/-- R188 at a = −2^31, b = −1: overflow of DIV, the high halves of the products, shifts by 31, signed and unsigned order. -/
theorem test_scalar_extremes :
    ([(.add, 0x7FFFFFFF), (.sub, 0x80000001), (.mul, 0x80000000), (.mulh, 0), (.mulhu, 0x7FFFFFFF), (.div, 0x80000000), (.divu, 0), (.rem, 0),
      (.remu, 0x80000000), (.and, 0x80000000), (.or, 0xFFFFFFFF), (.xor, 0x7FFFFFFF), (.andn, 0), (.shl, 0), (.shr, 1), (.sra, 0xFFFFFFFF),
      (.min, 0x80000000), (.max, 0xFFFFFFFF), (.minu, 0x80000000), (.maxu, 0xFFFFFFFF)] : List ((SRForm → Instr) × Word)).all
      (fun e => s1 (e.1 sr) = e.2) = true := by
  decide +kernel

/-- R188 at a = −7: rounding toward zero, the sign of the remainder, a shift count of 34, division by zero. -/
theorem test_scalar_signs :
    ([(.div, 2, 0xFFFFFFFD), (.rem, 2, 0xFFFFFFFF), (.mulh, 2, 0xFFFFFFFF), (.sra, 34, 0xFFFFFFFE), (.shl, 34, 0xFFFFFFE4), (.div, 0, 0xFFFFFFFF),
      (.divu, 0, 0xFFFFFFFF), (.rem, 0, 0xFFFFFFF9), (.remu, 0, 0xFFFFFFF9)] : List ((SRForm → Instr) × Word × Word)).all
      (fun e => s1 (e.1 { sr with a := 5, b := 0, x := some e.2.1 }) = e.2.2) = true := by
  decide +kernel

/-- R189 to R192: counts; the examples of R191; SEL by an inverted predicate; LI. -/
theorem test_scalar_fields :
    s1 (.clz { sr with a := 6 }) = 31 ∧ s1 (.clz { sr with a := 0 }) = 32 ∧ s1 (.popc { sr with a := 5 }) = 30 ∧
    ((after (.bfx { sr with a := 1, b := 0, fn := 1, x := some 0x104 }) (ts.modBank fun b => b.wrS 1 0xF80)).bank.rdS 1) = 0xFFFFFFF8 ∧
    ((after (.bfi { sr with d := 3, a := 1, b := 0, x := some 0x104 }) (ts.modBank fun b => b.wrS 1 0xAB)).bank.rdS 3) = 0xFFFFFABF ∧
    s1 (.sel { sr with fn := 9 }) = 0x80000000 ∧ s1 (.sel { sr with fn := 1 }) = 0xFFFFFFFF ∧ s1 (.li ⟨g0, 1, 0x3FFF, none⟩) = 0xFFFFFFFF := by
  decide +kernel

/-- R193, R194: signed and unsigned compares of −2^31 with −1; the truth table of AND. -/
theorem test_predicates :
    (after (.cmp { sr with fn := 2 }) ts).bank.rdP 1 = true ∧ (after (.cmp { sr with d := 0, fn := 3 }) ts).bank.rdP 0 = true ∧
    (after (.plog { sr with d := 3, a := 0, b := 0, fn := 8 }) ts).bank.rdP 3 = true ∧
    (after (.plog { sr with d := 3, a := 0, b := 1, fn := 8 }) ts).bank.rdP 3 = false := by
  decide +kernel

/-- R135, R195, R196: a taken branch to word 3; a CALL leaves the fall-through address; BRI beyond the image traps. -/
theorem test_transfers :
    (after (.br ⟨g0, 3⟩) ts).bank.taken = some 3 ∧ (after (.call ⟨g0, 3⟩) ts).bank.link = some 1 ∧
    (after (.calli { sr with a := 6 }) ts).bank.taken = some 1 ∧ (after (.bri { sr with a := 4 }) ts).bank.cause = 0x04 ∧
    (after (.ret sr) ts).bank.taken = some 0 := by
  decide +kernel

/-- R137, R197, R198: LOOPI of 5 over words 1 to 2; no trip; LEXIT; a LEND at the LOOP bundle itself. -/
theorem test_loops :
    (after (.loopi ⟨g0, 0, 1, 2, some 5⟩) ts).bank.loop 1 = ⟨true, 5, 1, 2⟩ ∧
    (after (.loopi ⟨g0, 0, 1, 2, some 0⟩) ts).bank.taken = some 3 ∧
    ((after (.loop ⟨g0, 6, 0, 2, none⟩) ts).bank.loop 0).lc = 1 ∧
    (after (.loop ⟨g0, 6, 0, 0, none⟩) ts).bank.cause = 0x03 ∧
    ((after (.lexit ⟨g0, 0, 1, 0, none⟩) (ts.modBank fun b => b.setLoop 1 ⟨true, 5, 1, 2⟩)).bank.loop 1) = ⟨false, 0, 1, 2⟩ := by
  decide +kernel

/-- R200 at address 64 (s4): little-endian, sign and zero extension; LDD takes both words. -/
theorem test_loads :
    ([(.ldw, 0x7F01FF80), (.ldh, 0xFFFFFF80), (.ldhu, 0xFF80), (.ldb, 0xFFFFFF80), (.ldbu, 0x80)] : List ((SMForm → Instr) × Word)).all
      (fun e => s1 (e.1 { sm with d := 1, base := 4 }) = e.2) = true ∧
    (after (.ldd { sm with d := 8, base := 4 }) ts).bank.rdS 9 = 0x44332211 ∧
    s1 (.lds ⟨g0, 1, 4, 0, true, none⟩) = 0x7F01FF80 := by
  decide +kernel

/-- R201 and R203: what stores write at address 64; STF sets its word full, FECLR and LDS with E empty it. -/
theorem test_stores :
    ([(.stw, 4, 0xFFFFFFF9), (.sth, 4, 0x7F01FFF9), (.stb, 4, 0x7F01FFF9), (.stf, 4, 0xFFFFFFF9)] : List ((SMForm → Instr) × Nat × Nat)).all
      (fun e => readNat (after (e.1 { sm with d := 5, base := 4 }) ts) ((Space.spad 0).key 64) e.2.1 = e.2.2) = true ∧
    readNat (after (.std { sm with d := 4, base := 4 }) ts) ((Space.spad 0).key 64) 8 = 0xFFFFFFF900000040 ∧
    isFull (after (.stf { sm with d := 5, base := 4 }) ts) ((Space.spad 0).key 64) = true ∧
    isFull (after (.feclr { sm with d := 0, base := 4 }) (after (.stf { sm with d := 5, base := 4 }) ts)) ((Space.spad 0).key 64) = false ∧
    isFull (after (.lds ⟨g0, 1, 4, 0, true, none⟩) (after (.stf { sm with d := 5, base := 4 }) ts)) ((Space.spad 0).key 64) = false := by
  decide +kernel

/-- R204 on the word 0x7F01FF80 with d = −7: the new words; ACAS writes where the old word equals s_D. -/
theorem test_atomics :
    ([(.aadd, 0x7F01FF79), (.amax, 0x7F01FF80), (.aor, 0xFFFFFFF9), (.axch, 0xFFFFFFF9)] : List ((SMForm → Instr) × Nat)).all
      (fun e => readNat (after (e.1 { sm with d := 5, base := 4 }) ts) ((Space.spad 0).key 64) 4 = e.2 &&
        (after (e.1 { sm with d := 5, base := 4 }) ts).bank.rdS 5 = 0x7F01FF80) = true ∧
    readNat (after (.acas { sm with d := 8, base := 4 }) (ts.modBank fun b => (b.wrS 8 0x7F01FF80).wrS 9 3)) ((Space.spad 0).key 64) 4 = 3 ∧
    readNat (after (.acas { sm with d := 8, base := 4 }) ts) ((Space.spad 0).key 64) 4 = 0x7F01FF80 := by
  decide +kernel

/-- R199: misaligned before out of range. -/
theorem test_access_traps :
    (after (.ldw { sm with d := 1, base := 6 }) ts).bank.cause = 0x08 ∧ (after (.ldw { sm with d := 1, base := 2 }) ts).bank.cause = 0x09 ∧
    (after (.ldw { sm with d := 1, base := 4 }) { ts with poison := [(Space.spad 0).key 64] }).bank.cause = 0x0E ∧
    (after (.ldw { sm with d := 1, base := 6 }) ts).aborts = [⟨0x10000001, 0x02, 0x00080000, 0⟩] := by
  decide +kernel

/-- R206: addresses are base + index · size; RTRY of an empty ring; the underflow and range causes; RSTAT. -/
theorem test_rings :
    (after (.rpop { sy with d := 1 }) ts).bank.rdS 1 = 0x1080 ∧ (after (.rtry { sy with d := 1, imm := 1 }) ts).bank.rdS 1 = 0xFFFFFFFF ∧
    (after (.rclaim { sy with d := 1 }) ts).bank.rdS 1 = 0x1180 ∧ (after (.rstat { sy with d := 1 }) ts).bank.rdS 1 = 0x00040201 ∧
    ((after (.rrel sy) ts).bank.rings.map fun r => (r.rel, r.held.length)) = [(1, 0), (0, 0)] ∧
    ((after (.rfill sy) ts).bank.rings.map fun r => r.filled) = [2, 0] ∧
    (after (.rrel { sy with imm := 1 }) ts).bank.cause = 0x0C ∧ (after (.rstat { sy with imm := 2 }) ts).bank.cause = 0x0B := by
  decide +kernel

/-- R207: AINC by −7 with MODULO 16 from ORG 64; ASET of BASE sets ORG. -/
theorem test_address_registers :
    ((after (.ainc { sy with d := 2, a := 5 }) (ts.modBank fun b => b.wrA 2 ⟨64, 0, 16, false, 64⟩)).bank.rdA 2).base = 73 ∧
    (after (.aset { sy with d := 2, a := 4 }) ts).bank.rdA 2 = ⟨64, 0, 0, false, 64⟩ := by
  decide +kernel

/-- R121, R208: MFC of TASKID and of TSW; MTC of RND refuses mode 5; a mailbox takes a word. -/
theorem test_control_registers :
    (after (.mfc { sy with d := 1, imm := 1 }) ts).bank.rdS 1 = 7 ∧
    (after (.mfc { sy with d := 1, imm := 0 }) (ts.modBank fun b => b.setLoop 3 ⟨true, 1, 0, 0⟩)).bank.rdS 1 = 0x8000 ∧
    (after (.mtc { sy with a := 5, imm := 6 }) ts).bank.rnd = 1 ∧ (after (.mtc { sy with a := 3, imm := 6 }) ts).bank.rnd = 0 ∧
    (after (.mtc { sy with a := 5, imm := 0x01F }) ts).bank.mbx.get 15 = 0xFFFFFFF9 ∧
    (after (.mfc { sy with d := 1, imm := 1 }) (ts.modBank fun b => { b with psn := [1] })).bank.cause = 0x0E := by
  decide +kernel

/-- R210 to R218: TEND, TRAP, WAITE, GBAR alone, SPAUSE, TRACE; FENCE and BKPT without a debugger change nothing. -/
theorem test_system :
    (after (.tend sy) ts).bank.status = .ending ∧ (after (.trap { sy with imm := 9 }) ts).bank.cause = 0x06 ∧
    (after (.waite { sy with imm := 3 }) (ts.modBank fun b => { b with events := 0x18 })).bank.events = 0x10 ∧
    (after (.gbar sy) ts).bank.gbars = 1 ∧ (after (.spause { sy with imm := 9 }) ts).bank.pauseUntil = 10 ∧
    ((after (.trace { sy with a := 4, imm := 2 }) ts).core 0).traceQ.map (fun r => (r.code, r.payload.take 5)) = [(0x8002, [64, 0, 0, 0, 0xF9])] ∧
    after (.fence sy) ts = ts ∧ after (.bkpt sy) ts = ts := by
  decide +kernel

/-! ### Vector steps -/

/-- v1 of 32-bit lanes `a` in lane 0 and `b` in lane 31 (and a copy shifted for other widths is never needed). -/
def lanes2 (w : Nat) (a b : Nat) : VWord := BitVec.ofNat 1024 (a + b * 2 ^ (1024 - w))

/-- v2 and v3 hold one value in their first and one in their last lane. -/
def vs (w a2 b2 a3 b3 : Nat) : State := ts.modBank fun b => (b.wrV 2 (lanes2 w a2 b2)).wrV 3 (lanes2 w a3 b3)

/-- The first and last lane of v1 after an instruction. -/
def v1 (w : Nat) (i : Instr) (s : State) : Nat × Nat :=
  (lane ((after i s).bank.rdV 1) 0 w, lane ((after i s).bank.rdV 1) (1024 / w - 1) w)

/-- R250 to R252 at 1.0, 3.0 and 2.0, 0.5 in FP32; the quotient 1 ÷ 3 rounded in FLAGS (R55). -/
theorem test_float :
    v1 32 (.vfaddF32 vr) (vs 32 0x3F800000 0x40400000 0x40000000 0x3F000000) = (0x40400000, 0x40600000) ∧
    v1 32 (.vfsubF32 vr) (vs 32 0x3F800000 0x40400000 0x40000000 0x3F000000) = (0xBF800000, 0x40200000) ∧
    v1 32 (.vfmulF32 vr) (vs 32 0x3F800000 0x40400000 0x40000000 0x3F000000) = (0x40000000, 0x3FC00000) ∧
    v1 32 (.vfmaF32 vr) (vs 32 0x3F800000 0x40400000 0x40000000 0x3F000000) = (0x40000000, 0x3FC00000) ∧
    v1 16 (.vfaddBf16 vr) (vs 16 0x3F80 0x7F80 0x3F80 0xFF80) = (0x4000, 0x7FC0) ∧
    v1 16 (.vfmulF16 vr) (vs 16 0x3C00 0x7BFF 0x4000 0x4000) = (0x4000, 0x7C00) ∧
    v1 32 (.vfminF32 vr) (vs 32 0x80000000 0x7FC00000 0 0x3F800000) = (0x80000000, 0x7FC00000) ∧
    v1 32 (.vfmaxF32 vr) (vs 32 0x80000000 0x3F800000 0 0x40000000) = (0, 0x40000000) ∧
    (after (.vfaddBf16 vr) (vs 16 0x3F80 0x7F80 0x3F80 0xFF80)).bank.flags = 0x10 := by
  decide +kernel

/-- R254: exact powers, roots and reciprocals; NV of log2 of a negative value, DZ of 1 ÷ 0. -/
theorem test_transcendentals :
    v1 32 (.vexp2 { vr with b := 0 }) (vs 32 0x40400000 0xFF800000 0 0) = (0x41000000, 0) ∧
    v1 32 (.vlog2 { vr with b := 0 }) (vs 32 0x41000000 0xBF800000 0 0) = (0x40400000, 0x7FC00000) ∧
    v1 32 (.vrcp { vr with b := 0 }) (vs 32 0x40000000 0x80000000 0 0) = (0x3F000000, 0xFF800000) ∧
    v1 32 (.vrsq { vr with b := 0 }) (vs 32 0x40800000 0x7F800000 0 0) = (0x3F000000, 0) ∧
    v1 32 (.vsqrt { vr with b := 0 }) (vs 32 0x40800000 0x80000000 0 0) = (0x40000000, 0x80000000) := by
  decide +kernel

/-- R256 to R258: wraps, signs, and the examples of R258. -/
theorem test_integer_lanes :
    v1 8 (.vaddI8 vr) (vs 8 0xFF 0x7F 2 1) = (1, 0x80) ∧ v1 16 (.vsubI16 vr) (vs 16 0 5 1 3) = (0xFFFF, 2) ∧
    v1 32 (.vmulI32 vr) (vs 32 0xFFFFFFFF 3 0xFFFFFFFF 4) = (1, 12) ∧ v1 8 (.vminI8 vr) (vs 8 0x80 1 0x7F 2) = (0x80, 1) ∧
    v1 8 (.vminI8 { vr with q := true }) (vs 8 0x80 1 0x7F 2) = (0x7F, 1) ∧ v1 8 (.vabsI8 { vr with b := 0 }) (vs 8 0x80 0xFF 0 0) = (0x80, 1) ∧
    v1 16 (.vsraI16 vr) (vs 16 0x8000 0x8000 15 16) = (0xFFFF, 0x8000) ∧
    v1 32 (.vshlI32Imm { vr with b := 0, q := true, x := some 31 }) (vs 32 3 1 0 0) = (0x80000000, 0x80000000) ∧
    v1 8 (.vsaddI8 vr) (vs 8 100 0x80 50 0xFF) = (127, 0x80) ∧ v1 8 (.vsaddI8 { vr with q := true }) (vs 8 200 1 100 2) = (255, 3) ∧
    v1 8 (.vssubI8 { vr with q := true }) (vs 8 1 5 2 3) = (0, 2) ∧ v1 32 (.vmulh vr) (vs 32 0x80000000 2 0x80000000 3) = (0x40000000, 0) := by
  decide +kernel

/-- R243, R259, R283: an integer compare under m0, the mask logic, and the first set bit. -/
theorem test_masks :
    ((after (.vcmpI32 { vr with x := some (vx 0 0 0 0 2 0) }) (vs 32 5 0x80000000 6 1)).bank.rdM 1).getLsbD 0 = true ∧
    ((after (.vcmpI32 { vr with x := some (vx 0 0 0 0 2 0) }) (vs 32 5 0x80000000 6 1)).bank.rdM 1).getLsbD 127 = true ∧
    (after (.vmset { vr with a := 6, b := 0 }) ts).bank.rdM 1 = 1 ∧
    (after (.vmlog { vr with a := 0, b := 2, x := some 4 }) ts).bank.rdM 1 = 0 ∧
    (after (.vmlog { vr with a := 0, b := 2, x := some 2 }) ts).bank.rdM 1 = BitVec.allOnes 128 ∧
    (after (.vmfirst { vr with a := 2, b := 0 }) ts).bank.rdS 1 = 128 ∧ (after (.vcntm { vr with a := 0, b := 0 }) ts).bank.rdS 1 = 128 := by
  decide +kernel

/-- R261 to R265: FP32 to BF16 rounds to even; FP32 to I8 saturates; widening of UI8; packing. -/
theorem test_conversions :
    lane ((after (.vcvt { vr with b := 0, x := some (vx 0 0 1 2 0 0) }) (vs 32 0x3F808000 0 0 0)).bank.rdV 1) 0 16 = 0x3F80 ∧
    lane ((after (.vcvt { vr with b := 0, x := some (vx 0 0 1 2 0 0) }) (vs 32 0x3F818000 0 0 0)).bank.rdV 1) 0 16 = 0x3F82 ∧
    lane ((after (.vcvti { vr with b := 0, x := some (vx 0 0 1 0x22 0 0) }) (vs 32 0x43480000 0 0 0)).bank.rdV 1) 0 8 = 0x7F ∧
    lane ((after (.vunpack { vr with b := 0, x := some (vx 0 0 0x23 0x20 0 0) }) (vs 8 0xFF 0 0 0)).bank.rdV 1) 0 32 = 0xFF ∧
    lane ((after (.vpack { vr with x := some (vx 0 1 0x20 0x22 0 0) }) (vs 32 0xFFFFFF00 0 0 0)).bank.rdV 1) 0 8 = 0x80 := by
  decide +kernel

/-- R260, R282: a broadcast, a slide by one lane, a zip, an extract with sign. -/
theorem test_permutes :
    v1 32 (.vbcst { vr with a := 5, b := 0 }) ts = (0xFFFFFFF9, 0xFFFFFFF9) ∧
    v1 32 (.vslide { vr with x := some (vx 0 0 1 0 0 1) }) (vs 32 1 2 3 4) = (0, 3) ∧
    v1 32 (.vzip { vr with x := some (vx 0 0 1 0 0 0) }) (vs 32 1 2 3 4) = (1, 0) ∧
    (after (.vext { vr with b := 0, x := some (vx 0 0 0x22 0 0 127) }) (vs 8 1 0x80 0 0)).bank.rdS 1 = 0xFFFFFF80 := by
  decide +kernel

/-- R279 to R281: the float sum of 1 and 3, the maximum, the integer dot product. -/
theorem test_reductions :
    lane ((after (.vradd { vr with b := 0, x := some (vx 0 0 1 0 0 0) }) (vs 32 0x3F800000 0x40400000 0 0)).bank.rdV 1) 0 32 = 0x40800000 ∧
    lane ((after (.vrmax { vr with b := 0, x := some (vx 0 0 0x20 0 0 0) }) (vs 32 5 0xFFFFFFFF 0 0)).bank.rdV 1) 0 32 = 5 ∧
    v1 32 (.vdotI8 vr) (vs 8 0xFF 3 2 4) = (0xFFFFFFFE, 12) := by
  decide +kernel

/-- R245 to R248: a row of 128 bytes through a0 with post-increment; a store of it. -/
theorem test_vector_memory :
    lane ((after (.vld { vm with ar := 0, pi := true }) (ts.modBank fun b => b.wrA 0 ⟨0, 128, 0, false, 0⟩)).bank.rdV 1) 16 32 = 0x7F01FF80 ∧
    ((after (.vld { vm with ar := 0, pi := true }) (ts.modBank fun b => b.wrA 0 ⟨0, 128, 0, false, 0⟩)).bank.rdA 0).base = 128 ∧
    readNat (after (.vst { vm with d := 2, ar := 0 }) (vs 8 0xAB 0xCD 0 0)) ((Space.spad 0).key 127) 1 = 0xCD ∧
    (after (.vld { vm with ar := 0 }) (ts.modBank fun b => b.wrA 0 ⟨64, 0, 0, false, 0⟩)).bank.cause = 0x08 := by
  decide +kernel

/-! ### Examples that the spec works out -/

/-- A vector register from its low 32-bit lanes. -/
def low32 (l : List Nat) : VWord := BitVec.ofNat 1024 (l.foldr (fun x r => x + r * 2 ^ 32) 0)

/-- The example of R264: bytes 4C 7F 00 00 and OF, UF, NX. -/
theorem test_vcvtb8 :
    let t := after (.vcvtb8 ⟨g0, 7, 2, 3, 0, false, some 0x30100000⟩)
      (ts.modBank fun b => (b.wrV 2 (low32 [0x3FC00000, 0x43960000, 0x3A000000, 0x80000000])).wrV 3
        (low32 [0x40000000, 0x3F800000, 0x3F800000, 0x3F800000]))
    (List.range 4).map (fun i => lane (t.bank.rdV 7) i 8) = [0x4C, 0x7F, 0, 0] ∧ t.bank.flags = 0x07 := by
  decide +kernel

/-- The table of R277's example at offset 0, and its lanes 1.5, 2.0, −0.5, 3.0 and a quiet NaN. -/
theorem test_vtli :
    let s := writeBytes (ts.modBank fun b => b.wrV 2 (low32 [0x3FC00000, 0x40000000, 0xBF000000, 0x40400000, 0x7FC00000])) (tableKey ts 0)
      ([0x3F800000, 0, 3, 0, 0, 0x3F800000, 0x3F800000, 0x40400000, 0x40800000, 0].flatMap fun x => leBytes 4 x)
    let t := after (.vtli ⟨g0, 4, 2, 10, 0, false, some (vx 1 0 0 1 0 2)⟩) s
    (List.range 5).map (fun i => lane (t.bank.rdV 4) i 32) = [0x40200000, 0x40800000, 0, 0, 0x7FC00000] ∧ t.bank.flags = 0 := by
  decide +kernel

/-- The example of R271: R = 5, C = 2, k = 3, IBASE = 100. -/
theorem test_vtopk :
    let s := (List.range 5).foldl (fun s r => writeBytes s ((Space.spad 0).key (0x1000 + 128 * r))
        (leBytes 4 ([0x40000000, 0x40E00000, 0xBF800000, 0x40E00000, 0x7FC00000].getD r 0) ++
          leBytes 4 ([0x80000000, 0, 0xFF800000, 0x40600000, 0x40600000].getD r 0)))
      (ts.modBank fun b => (b.wrS 9 0x00640104).wrA 3 ⟨0x1000, 0x1000, 0, false, 0x1000⟩)
    let t := after (.vtopk ⟨g0, 5, 3, 9, 0, false, some 2⟩) s
    ((t.core 0).sel.map fun x => x.writes) =
      [[((Space.spad 0).key 0x2000, [0x40E00000, 101, 0x40E00000, 103, 0x40000000, 100].flatMap fun x => leBytes 4 x),
        ((Space.spad 0).key 0x2100, [0x40600000, 103, 0x40600000, 104, 0x80000000, 100].flatMap fun x => leBytes 4 x)]] ∧
    ((t.core 0).sel.map fun x => (x.dst, (List.range 3).map fun i => lane x.result i 32)) = [(5, [0x40000000, 0x80000000, 0xFF800000])] ∧ t.bank.flags = 0 := by
  decide +kernel

/-- The example of R282: VSLIDE by 30 and VZIP.HI of 0 to 31 and 100 to 131. -/
theorem test_slide_zip :
    let s := ts.modBank fun b => (b.wrV 2 (low32 (List.range 32))).wrV 3 (low32 ((List.range 32).map fun i => 100 + i))
    (List.range 32).map (fun i => lane ((after (.vslide { vr with x := some (vx 0 0 0x20 0 0 30) }) s).bank.rdV 1) i 32) =
      [30, 31] ++ (List.range 30).map (fun i => 100 + i) ∧
    (List.range 4).map (fun i => lane ((after (.vzip { vr with q := true, x := some (vx 0 0 0x20 0 0 0) }) s).bank.rdV 1) i 32) = [16, 116, 17, 117] := by
  decide +kernel

/-- The example of R238: REFWIN at cycle 10,650, window 10 over. -/
theorem test_refwin :
    refwin { ts with now := 10650, fields := [(0, { FieldSt.reset with refCur := 10, refNext := 11 })] } 0 = 0xAB000266 := by
  decide +kernel

/-- The scalar instructions and the operations of R296: an MMA from ring 0 whose slots are too small, an MZERO that enters the queue. -/
theorem test_matrix :
    (after (.mma ⟨g0, 1, 0, false, true, 0, 40, 0x41014011⟩) ts).bank.cause = 0x0D ∧
    ((after (.mzero ⟨g0, 2, 0, false, false, 0, 40, 0⟩) ts).core 0).queue.map (fun q => (q.kind, q.form.z, q.bank)) = [(.mzero, 2, false)] ∧
    (after (.mprog { mf with x := 3 * 2 ^ 27 }) ts).bank.pending = [⟨3, 1⟩] := by
  decide +kernel

/-- R385, R390, R391, R407: a CST of 256 bytes waits at its engine interface and counts in its group; CPOLL; PHASE below the register. -/
theorem test_copies :
    let t := after (.cst { cf with ca := 6, cb := 4, grp := 9, x := some (cx 256 0) }) { ts with ctx := { ts.ctx with slot := 4 } }
    (t.ops.map fun o => (o.2.loc, o.2.len, o.2.boxes.map fun b => (b.va, b.len))) = [((Space.spad 0).key 64, 256, [(1, 256)])] ∧
    (t.bank.group 9).out = 1 ∧ (after (.cpoll { cf with ca := 1, grp := 9 }) t).bank.rdS 1 = 1 ∧
    (after (.phase { cf with opt := 3 }) ts).bank.phase = 3 ∧
    (after (.phase { cf with opt := 2 }) (after (.phase { cf with opt := 3 }) ts)).bank.cause = 0x18 ∧
    (after (.ertq { cf with ca := 1, cb := 3 }) ts).bank.cause = 0x16 := by
  decide +kernel

/-! ### Witnesses of the hypotheses of the obligations -/

theorem wit_FalseGuardDoesNothing :
    Instr.guardOf (.add { sr with g := ⟨1, false⟩ }) = some ⟨1, false⟩ ∧ guardTrue ⟨1, false⟩ ts.bank = false := by decide +kernel

/-- For every statement over a form whose only hypothesis is its guard. -/
theorem wit_guard : guardTrue g0 ts.bank = true := by decide +kernel

theorem wit_BitFieldBits : (31 : Nat) < 32 ∧ 0 < fieldWidth 0x104 ∧ fieldWidth 0x7FF = 1 := by decide +kernel

/-- At word 0, the image's last word, a word below it, beyond it, and a word that is no bundle position. -/
theorem wit_Transfers :
    7 < ts.bank.imWords ∧ bundlePosition ts 0 ts.bank 7 = true ∧ (ts.ctx.addr : Int) + (7#20).toInt = 7 ∧
    (ts.ctx.addr : Int) + (0xFFFFF#20).toInt < 0 ∧ (ts.bank.imWords : Int) ≤ ts.ctx.addr + (8#20).toInt ∧
    (let s := writeBytes ts ((Space.imem 0).key 8) (leBytes 4 0)
     (3 < s.bank.imWords ∧ bundlePosition s 0 s.bank 3 = false)) := by decide +kernel

theorem wit_Transfers_registers :
    (ts.bank.rdS 6).toNat = 1 ∧ bundlePosition ts 0 ts.bank 1 = true ∧ (ts.bank.rdS 31).toNat = 0 ∧ bundlePosition ts 0 ts.bank 0 = true ∧
    ts.bank.imWords ≤ (ts.bank.rdS 4).toNat ∧
    (let s := (writeBytes ts ((Space.imem 0).key 0) (leBytes 4 0)).modBank fun b => b.wrS 31 1
     (s.bank.rdS 6).toNat < s.bank.imWords ∧ (s.bank.rdS 31).toNat = 1 ∧ bundlePosition s 0 s.bank 1 = false) := by decide +kernel

theorem wit_LoopsComplete :
    0 < (7#13).toNat ∧ bundlePosition ts 0 ts.bank (ts.ctx.addr + 7) = true ∧ levelBusy ts.bank 3 = false ∧
    beyondOuter (ts.bank.setLoop 0 ⟨true, 2, 0, 7⟩) 3 7 = false ∧ ts.bank.rdS 6 ≠ 0 ∧ ts.bank.rdS 0 = 0 ∧
    fallThrough ts 0 ts.bank (ts.ctx.addr + 6) < ts.bank.imWords := by decide +kernel

/-- Level 1 takes the back-edge after level 3 has ended there; no level goes back; a taken transfer. -/
theorem wit_LoopBackEdge :
    (let b := (tb.setLoop 1 ⟨true, 2, 0, 5⟩).setLoop 3 ⟨true, 1, 0, 5⟩
     (b.loop 1).active = true ∧ (b.loop 1).lend.toNat = 5 ∧ (b.loop 1).lc ≠ 1 ∧
       (∀ k : BitVec 2, 1 < k.toNat → ((b.loop k).active = true ∧ (b.loop k).lend.toNat = 5) → (b.loop k).lc = 1)) ∧
    (let b := tb.setLoop 3 ⟨true, 1, 0, 5⟩
     ∀ k : BitVec 2, ((b.loop k).active = true ∧ (b.loop k).lend.toNat = 5) → (b.loop k).lc = 1) ∧
    tb.status ≠ .ending ∧ tb.link = none ∧ tb.taken = none ∧ ({ tb with taken := some 3 }).taken = some 3 := by decide +kernel

/-- An aligned address in range for each size, up to the last word, unpoisoned. -/
theorem wit_scalar_access :
    smFormAddr { sm with base := 4 } ts.bank 4 = 64 ∧ localKey ts 0 ts.bank 64 = some ((Space.spad 0).key 64) ∧
    poisoned ts ((Space.spad 0).key 64) 8 = false ∧ localKey ts 0 ts.bank 0x17FFF8 = some ((Space.spad 0).key 0x17FFF8) ∧
    ldsAddr ⟨g0, 1, 4, 0, true, none⟩ ts.bank = 64 ∧ (4#5).toNat % 2 = 0 := by decide +kernel

/-- Misaligned; beyond the scratchpad; poisoned. -/
theorem wit_ScalarAccessesTrap :
    smFormAddr { sm with base := 6 } ts.bank 2 % 2 ≠ 0 ∧ smFormAddr { sm with base := 2 } ts.bank 8 % 8 = 0 ∧
    localKey ts 0 ts.bank (smFormAddr { sm with base := 2 } ts.bank 8) = none ∧ localKey ts 0 ts.bank 0x180000 = none ∧
    poisoned { ts with poison := [(Space.spad 0).key 64] } ((Space.spad 0).key 64) 1 = true := by decide +kernel

theorem wit_RingsComplete :
    (ts.bank.ring 0).map (fun r => (r.canPop, r.canTake .task, r.holds .task, r.fills .task)) = some (true, true, true, true) ∧
    (ts.bank.ring 1).map (fun r => (r.canPop, r.canTake .task, r.holds .task, r.fills .task)) = some (false, true, false, false) ∧
    (ts.bank.ring 0).map (fun r => (r.canRead .task, Ring.canRead { r with readers := [.engine 3] } .task)) = some (true, false) ∧
    ts.bank.ring 2 = none := by decide +kernel

theorem wit_RingPositions :
    let r : Ring := ⟨0, 0, 0, 0, [], [⟨.task, true⟩], [], []⟩
    r.rel < r.count ∧ r.canPop = true := by decide +kernel

theorem wit_AddressRegisterResults : (⟨0, 0, 0, false, 0⟩ : AddrReg).modulo = 0 ∧ (⟨0, 0, 1, false, 0⟩ : AddrReg).modulo ≠ 0 := by decide +kernel

/-- Each clause of MTC at the ends of its range. -/
theorem wit_ControlRegisterAccesses :
    (0x00D#10 ≠ 0x00A#10 ∧ 0x00D#10 ≠ 0x00B#10) ∧ (1023#32).toNat ≤ 1023 ∧ 1023 < (1024#32).toNat ∧
    (0x010#10).toNat = 0x010 + (0 : Fin 16).val ∧ (0x01F#10).toNat = 0x010 + (15 : Fin 16).val ∧ (0x00F#10).toNat < 0x010 ∧ 0x01F < (0x020#10).toNat ∧
    ts.bank.rdS 0 = 0 := by decide +kernel

/-- Without and with a debugger; a task alone and a member of a whole gang; tracing on with room, and off. -/
theorem wit_SystemInstructionsComplete :
    (ts.core 0).dbg.den = false ∧ ts.bank.gangSize.toNat ≤ 1 ∧
    (Gang.broken ⟨[0, 4], [0, 0], [true, true]⟩ 1) = false ∧
    (ts.field (fieldOf 0)).trace.clen.getLsbD 0 = true ∧ (ts.core 0).traceQ.length < 4 ∧
    (({ ts with fields := [(0, { FieldSt.reset with trace := { TraceBuf.reset with clen := 0 } })] } : State).field (fieldOf 0)).trace.clen.getLsbD 0 = false := by
  decide +kernel

/-- A gang of two whose second member ended before its first GBAR; a ring beyond NRING; nothing to release or mark. -/
theorem wit_SystemTraps :
    (let s : State := { ts.modBank (fun b => { b with gangSize := 2, gangId := 3 }) with gangs := [(3, ⟨[0, 4], [0, 0], [true, false]⟩)] }
     1 < s.bank.gangSize.toNat ∧ kget s.gangs s.bank.gangId = some ⟨[0, 4], [0, 0], [true, false]⟩ ∧
       (Gang.broken ⟨[0, 4], [0, 0], [true, false]⟩ (s.bank.gbars + 1)) = true) ∧
    ts.bank.ring 2 = none ∧ (ts.bank.ring 1).map (fun r => (r.holds .task, r.fills .task)) = some (false, false) := by decide +kernel

theorem wit_TrapEntry :
    ((ts.core 0).dbg.den && (ts.core 0).dbg.traphalt) = false ∧
    (let s := ts.modCore 0 fun c => { c with dbg := { c.dbg with den := true, traphalt := true } }
     ((s.core 0).dbg.den && (s.core 0).dbg.traphalt) = true) := by decide +kernel

theorem wit_FloatValues : (FFmt.f32.decode 0x7FC00000).isNan = true ∧ (FFmt.bf16.decode 0x7F81).isSnan = true ∧
    (FFmt.f16.decode 0xFC01).isNan = true := by decide +kernel

/-- Finite operands of FP16: 1 + 65504, which overflows nowhere; 65504 + 65504, which does; the smallest subnormal times itself, which is tiny; and
the exact zero 1 + (−1). -/
theorem wit_FloatValues_finite :
    (let one := FFmt.f16.decode 0x3C00
     let max := FFmt.f16.decode 0x7BFF
     let sub := FFmt.f16.decode 0x0001
     one.isFin = true ∧ max.isFin = true ∧ sub.isFin = true ∧ one.rat + max.rat ≠ 0 ∧ max.rat + max.rat ≠ 0 ∧ sub.rat * sub.rat ≠ 0 ∧
       one.rat + (FFmt.f16.decode 0xBC00).rat = 0) := by decide +kernel

theorem wit_SaturatingLanes : 1 < 8 ∧ 255 < 2 ^ 8 ∧ 127 < 2 ^ 8 := by decide +kernel

/-- An integer and a float type code. -/
theorem wit_ReductionResults : isFloat (0x21 : BitVec 6) = false ∧ isFloat (3 : BitVec 6) = true := by decide +kernel

/-- Tables of 256 bytes: VTLD at the last row, misaligned, one row beyond; VTLU of 64 words, misaligned, of none, of 65; VTLI of the
table of R277, misaligned, with one point, and beyond. -/
theorem wit_TableResults :
    (128 % 128 = 0 ∧ 128 + 128 ≤ ts.bank.tblLen ∧ poisoned ts (tableKey ts 128) 128 = false) ∧ 64 % 128 ≠ 0 ∧ ts.bank.tblLen < 256 + 128 ∧
    (let d := 64 * 2 ^ 14
     bitsNat d 13 0 % 4 = 0 ∧ 0 < bitsNat d 27 14 ∧ bitsNat d 13 0 + bitsNat d 27 14 * 4 ≤ ts.bank.tblLen ∧
       (∀ i, i < 32 → laneOn (ts.bank.rdM 0) 32 i = true → lane (ts.bank.rdV 2) i 32 < bitsNat d 27 14 →
         poisoned ts (tableKey ts (bitsNat d 13 0 + lane (ts.bank.rdV 2) i 32 * 4)) 4 = false)) ∧
    bitsNat (64 * 2 ^ 14 + 2) 13 0 % 4 ≠ 0 ∧ bitsNat 0 27 14 = 0 ∧ ts.bank.tblLen < bitsNat (65 * 2 ^ 14) 13 0 + bitsNat (65 * 2 ^ 14) 27 14 * 4 ∧
    (let s := writeBytes ts (tableKey ts 0) ([0x3F800000, 0, 2].flatMap fun x => leBytes 4 x)
     readNat s (tableKey s 8) 4 = 2 ∧ 0 + 16 + 8 * 2 ≤ s.bank.tblLen ∧ poisoned s (tableKey s 0) 12 = false ∧
       (vtliLane s 0 2 0 0 (FFmt.f32.decode 0)).2.2 = some 0 ∧ poisoned s (tableKey s 16) 8 = false) ∧
    8 % 16 ≠ 0 ∧ readNat ts (tableKey ts 8) 4 < 2 := by decide +kernel

/-- VTOPK without an active column, with its checks passed, and with a misaligned source. -/
theorem wit_SelectionResults :
    (let s := ts.modBank fun b => (b.wrS 9 0x00640104).wrA 3 ⟨0x1000, 0x1000, 0, false, 0x1000⟩
     let f : VRForm := ⟨g0, 5, 3, 9, 0, false, some 2⟩
     TopK.columns (topkOf f s.bank) (s.bank.rdM 0) = [0, 1] ∧ TopK.columns (topkOf f s.bank) (s.bank.rdM 1) = [] ∧
       (topkOf f s.bank).check s = .ok ((0, 0x1000), (Space.spad 0).key 0x2000) ∧
       (∀ j ∈ [0, 1], ∀ r, r < (topkOf f s.bank).rows → poisoned s ((topkOf f s.bank).scoreKey 0 0x1000 r j) 4 = false)) ∧
    (let s := ts.modBank fun b => (b.wrS 9 0x00640104).wrA 3 ⟨0x1040, 0x1000, 0, false, 0x1000⟩
     (topkOf ⟨g0, 5, 3, 9, 0, false, some 2⟩ s.bank).check s = .error causeMisaligned) := by decide +kernel

theorem wit_RankOrder :
    (FFmt.f32.decode 0x3F800000).isNan = false ∧ 0 < (FFmt.f32.decode 0x3F800000).cmp (FFmt.f32.decode 0) ∧
    (FFmt.f32.decode 0).cmp (FFmt.f32.decode 0x80000000) = 0 ∧ (FFmt.f32.decode 0).cmp (FFmt.f32.decode 0x3F800000) < 0 ∧
    (FFmt.f32.decode 0x7FC00000).isNan = true := by decide +kernel

/-- The keys of `n` elements of `size` bytes, none of them poisoned. -/
def clean (s : State) (n size : Nat) : Except (BitVec 8) (List (Nat × Nat)) → Bool
  | .ok ks => ks.length = n && ks.all fun k => !poisoned s k.2 size
  | .error _ => false

/-- A row, columns and indexed elements of words, aligned, in range, unpoisoned; the row's words full; no active lane for VLDB. -/
theorem wit_vector_access :
    clean ts 128 1 (elemKeys ts false 128 (vmLa vm ts.bank) true (rowElems vm ts.bank)) = true ∧
    clean ts 32 4 (elemKeys ts false 4 (vmLa vm ts.bank) false (columnElems { vm with x := some 0 } ts.bank)) = true ∧
    clean ts 32 4 (elemKeys ts false 4 (vmLa vm ts.bank) false (indexElems { vm with x := some 0 } ts.bank)) = true ∧
    (match elemKeys ts false 128 (vmLa vm ts.bank) true (rowElems vm ts.bank) with
     | .ok ks => watchedFull { ts with full := (List.range 32).map fun i => (Space.spad 0).key 0 + 4 * i } ks
     | .error _ => false) = true ∧
    activeLanes (ts.bank.rdM 1) 32 = [] ∧ activeLanes (ts.bank.rdM 0) 32 ≠ [] ∧
    elemKey ts false 4 (vmLa vm ts.bank) = .ok ((Space.spad 0).key 0) := by decide +kernel

/-- A misaligned row, a row beyond the scratchpad, and a poisoned element. -/
theorem wit_VectorAccessesTrap :
    elemKeys ts false 128 64 true (rowElems vm ts.bank) = .error causeMisaligned ∧
    elemKeys ts false 128 0x180000 true (rowElems vm ts.bank) = .error causeAddrRange ∧
    poisoned { ts with poison := [(Space.spad 0).key 0] } ((Space.spad 0).key 3) 1 = true := by decide +kernel

/-- Operands in own scratchpad for each M-class instruction that has one; a staged source; no recorded fault. -/
theorem wit_MatrixInstructionsStage :
    ([.mwlds, .mdrain, .mstat, .mresc, .mtrn, .mma, .mmao] : List MKind).all (fun k =>
      operandFault k ⟨g0, 0, 0, true, false, 0, 0, mx 2 0 0 0⟩ ts = none) = true ∧
    scaleFault mf ts = none ∧ mf.slot ≠ 63 ∧ (ts.core 0).tileFaults = [] := by decide +kernel

/-- MSCA's sources misaligned and beyond the scratchpad; a fault of tile 2 and an older one of tile 1, which an MWAIT finds first. -/
theorem wit_MatrixOperandsTrap_more :
    (let s := ts.modBank fun b => (b.wrA 1 ⟨64, 0, 0, false, 0⟩).wrA 2 ⟨0x17FF80, 0, 0, false, 0⟩
     (s.bank.rdA 1).base.toNat % 128 ≠ 0 ∧ (s.bank.rdA 2).base.toNat % 128 = 0 ∧ localSpan s 0 s.bank 0x17FF80 512 = none) ∧
    (let s := ts.modCore 0 fun c => { c with tileFaults := [⟨some 2, false, 5, 0x22⟩, ⟨some 1, false, 5, 0x23⟩] }
     firstFault ((s.core 0).tileFaults.filter (faultMatches false 5 [1, 2] false)) = some ⟨some 1, false, 5, 0x23⟩) := by decide +kernel

/-- A misaligned operand, one beyond the scratchpad, ring 2, ring 0 with slots too small, one with too few, SLOT 63 without a source. -/
theorem wit_MatrixOperandsTrap :
    (let s := ts.modBank fun b => (b.wrA 1 ⟨64, 0, 0, false, 0⟩).wrA 2 ⟨0x17FF80, 0, 0, false, 0⟩
     (s.bank.rdA 1).base.toNat % 128 ≠ 0 ∧ (s.bank.rdA 2).base.toNat % 128 = 0 ∧
       ([.mwlds, .mdrain, .mstat, .mresc, .mtrn, .mma, .mmao] : List MKind).all (fun k =>
         (localSpan s 0 s.bank 0x17FF80 (unitCount k mf * unitSize k mf)).isNone) = true) ∧
    ts.bank.ring 2 = none ∧ (ts.bank.ring 0).map (fun r => decide (r.slotSize < 256)) = some true ∧
    slotsNeeded ⟨0, 0, 2, 0, [], [], [], []⟩ 8 128 = 8 ∧ (⟨g0, 0, 0, true, false, 0, 0, mx 2 2 63 0⟩ : MForm).slot = 63 ∧
    operandFault .mma ⟨g0, 0, 0, true, false, 0, 0, mx 2 2 63 0⟩ ts = none ∧ ts.bank.staged = none := by decide +kernel

/-- Copies of one row and of 65,535 rows of 1 byte each within their pages; a ring copy; a 64-bit atomic. -/
theorem wit_CopiesComplete :
    (ts.bank.group 0).faulted = 0 ∧ vaBad 1 0 1 256 = false ∧ localSpan ts 0 ts.bank 64 (localLen 1 256 0) = some ((Space.spad 0).key 64) ∧
    boxCount 1 0 1 256 ≤ 256 ∧ vaBad 0 4096 256 1 = false ∧ boxCount 0 4096 256 1 ≤ 256 ∧
    (ts.bank.ring 1).map (fun r => decide (slotsFor r 512 ≤ r.count)) = some true ∧ 2 ^ 57 - 8 < vaEnd ∧ (2 ^ 57 - 8) % 8 = 0 := by decide +kernel

/-- What `after` leaves of a CST: a request that meets the hypotheses. -/
theorem wit_RequestEnters :
    let o : COp := { newOp ts .store 1 (some 9) with loc := 0, len := 256, boxes := copyBoxes 0 0 1 256 0 }
    o.toEngine = true ∧ o.id = ts.opId ∧ o.core = ts.ctx.core ∧ o.bank = ts.ctx.bank ∧ o.place = .queued ∧ kget ts.ops o.id = none ∧ ts.ops = [] := by
  decide +kernel

/-- A launch of graph 1 with one tensor of 64 FP32 values, and the task that runs it. -/
def tensor1 : Tensor := ⟨0x301, 1, 1, 1, 1, 10, 2, [64], [640], [4], 256, 0⟩
def task5 : TaskInst := ⟨0x10000001, 0, 0, 0, 0, .running, 0, 0, false, 0, 0, none, none, 0, false, [], [], 0, 0, [], 0, false, false, 0⟩
def launch1 : Launch where
  part := 1
  ns := 1
  gen := 0
  queue := 0
  seq := 0
  cpl := 0
  irq := false
  args := []
  tstart := 0
  accepted := 0
  tasks := 0
  todo := 0
  frontier := 0
  closed := []
  sweeping := none
  last := none
  closedLast := false
  nextSweep := 0
  moved := 0
  nwaf := 1
  wafidx := 0
  group := 0
  told := false
  acks := []
  edges := []
  edgesIn := true
  peerViews := []
  retiring := false
  abort := none
  discarded := false
  discardClean := 0
def tg : State :=
  { ts with
    graphs := [(1, ⟨1, 4096, [tensor1], [⟨32, 0, 0, 0⟩], [], false⟩)], launches := [(0x10000001, launch1)], tasks := [(5, task5)]
    parts := [(1, { Partition.reset with fields := [0], homes := [0, 1, 2, 3] })] }

/-- A page fault in the group; an address beyond 57 bits; a local span beyond the scratchpad; more than 256 boxes; no such tensor. -/
theorem wit_CopiesTrapOrWait :
    (let s := modGroup 0 false 9 (fun g => { g with faulted := 1 }) ts
     (s.bank.group 9).faulted ≠ 0) ∧ vaBad (2 ^ 57) 0 1 1 = true ∧ localSpan ts 0 ts.bank 0x17FF00 512 = none ∧ 256 < boxCount 1 0 1 1048576 ∧
    (localSpan ts 0 ts.bank 64 1048576).isSome = true ∧ vaBad 1 0 1 1048576 = false ∧
    namedTensor tg (nameAt tg 8) = none ∧ (tg.bank.rdS 4).toNat % 4 = 0 := by decide +kernel

/-- No fault; a recorded fault; an empty group; a group with an operation; no operation at all. -/
theorem wit_CopyControlCompletes :
    (ts.bank.group 0).fault = none ∧ ((modGroup 0 false 0 (fun g => { g with fault := some 0x21 }) ts).bank.group 0).fault = some 0x21 ∧
    groupOps ts 0 = [] ∧ groupOps { ts with ops := [(1, newOp ts .store 1 (some 0))] } 0 ≠ [] ∧ ts.ops = [] ∧ (ts.bank.group 0).out = 0 := by
  decide +kernel

/-- The tensor is named by the pair s8:s9; 256 bytes at 64; 64 rows of 252 bytes with their tags; a contribution of FP32 with two in all. -/
theorem wit_PublicationsComplete :
    let s := tg.modBank fun b => (b.wrS 8 3).wrS 9 0x301
    namedTensor s (nameAt s 8) = some tensor1 ∧ (s.bank.rdS 4).toNat % 4 = 0 ∧ localSpan s 0 s.bank 64 256 = some ((Space.spad 0).key 64) ∧
      tensor1.tileSize = 256 ∧ badContribution { cf with opt := 4 } tensor1 1 = false ∧ 1 ≤ (64 : Nat) ∧
      localSpan s 0 s.bank 64 (64 * 252) = some ((Space.spad 0).key 64) ∧ localSpan s 0 s.bank 0 (4 * 64) = some ((Space.spad 0).key 0) ∧
      252 + 4 ≤ tensor1.tileSize := by decide +kernel

/-- SUB of tensor 0x301 into ring 1 (slots of 128 bytes are too small: NODATA); a bad parameter; UNSUB with and without a match. -/
theorem wit_SubscriptionsComplete :
    curTask tg = some task5 ∧
    subCause tg task5 0x100 (mkName 0 0x301 0) (BitVec.ofNat 64 0xFFFFFFFF00000000) = false ∧
    subCause tg task5 0x1000 0 0 = true ∧
    lowest (task5.subs.filter fun y => y.dynamic && y.isFor 0 0) = none ∧
    (let y : Sub := ⟨0, 0, ⟨0, 0, 0, 0, 0⟩, 0, 0, true, true, .active, 0, 0, false, [], 0⟩
     lowest ([y].filter fun y => y.dynamic && y.isFor 0 0) = some y) ∧
    (tg.router 0).held = [] ∧ tg.early = [] ∧ task5.st = .running ∧ tg.bank.phase.toNat ≤ ((15#5).extractLsb' 0 4).toNat ∧
    (let s := tg.modBank fun b => { b with phase := 1 }
     ((0#5).extractLsb' 0 4).toNat < s.bank.phase.toNat) ∧ (0xFFFF : Nat) < 2 ^ 16 ∧ 1023 < 1024 ∧ 1024 ≤ (tg.bank.rdS 2).toNat ∧ 2 ^ 16 ≤ (tg.bank.rdS 2).toNat := by decide +kernel

/-- No bundle position at LEND, or LEND not beyond the LOOP; a level that is busy, or below a busy one; one that reaches beyond an outer level;
count 0 at the image's last bundle. -/
theorem wit_LoopsComplete_traps :
    (let s := writeBytes ts ((Space.imem 0).key 8) (leBytes 4 0)
     bundlePosition s 0 s.bank (s.ctx.addr + (3#13).toNat) = false) ∧ (0#13).toNat = 0 ∧
    bundlePosition ts 0 ts.bank (ts.ctx.addr + (7#13).toNat) = true ∧
    ((1 ≤ (2#2).toNat ∧ ((ts.bank.setLoop 2 ⟨true, 2, 0, 7⟩).loop 2).active = true) ∧
      (let b := ts.bank.setLoop 0 ⟨true, 2, 0, 5⟩
       (0#2).toNat < (2#2).toNat ∧ (b.loop 0).active = true ∧ (b.loop 0).lend.toNat < ts.ctx.addr + (7#13).toNat ∧
         ∀ j : BitVec 2, 0 < j.toNat → j.toNat < 2 → (b.loop j).active = false)) ∧
    ((∀ k : BitVec 2, (ts.bank.loop k).active = false) ∧ ts.bank.imWords ≤ fallThrough ts 0 ts.bank (ts.ctx.addr + (7#13).toNat)) := by
  decide +kernel

/-- A bundle with a taken CALL, and one with a TEND. -/
theorem wit_LoopBackEdge_ends :
    ({ tb with link := some 3, taken := some 5 }).link = some 3 ∧ tb.tended = false ∧ ({ tb with tended := true }).tended = true := by
  decide +kernel

/-- LDS at a misaligned address, beyond the scratchpad, and at a poisoned word. -/
theorem wit_LdsTraps :
    ldsAddr ⟨g0, 1, 6, 0, true, none⟩ ts.bank % 4 ≠ 0 ∧
    (ldsAddr ⟨g0, 1, 2, 0, true, none⟩ ts.bank % 4 = 0 ∧ localKey ts 0 ts.bank (ldsAddr ⟨g0, 1, 2, 0, true, none⟩ ts.bank) = none) ∧
    (ldsAddr ⟨g0, 1, 4, 0, true, none⟩ ts.bank = 64 ∧ localKey ts 0 ts.bank 64 = some ((Space.spad 0).key 64) ∧
      poisoned { ts with poison := [(Space.spad 0).key 64] } ((Space.spad 0).key 64) 4 = true) := by decide +kernel

/-- What holds a bundle: a store before a FENCE, no event, a gang member not yet at the GBAR, no slot to pop or to claim, an empty
word, a group or a tile that is busy, and no response slot; a WAITE as the next bundle of core 0 that is held. -/
theorem wit_hold_fence :
    fenceWaits 4 { ts with ops := [(1, { newOp ts .store 1 (some 3) with id := 1 })] } = true ∧
    fenceWaits 2 { ts with ops := [(1, { newOp ts .store 1 (some 3) with id := 1 })] } = false ∧
    fenceWaits 1 { ts with ops := [(1, { newOp ts .store 1 (some 3) with id := 1, kind := .ring })] } = true := by decide +kernel

theorem wit_holds :
    (ts.bank.events.getLsbD 3 = false ∧ ts.bank.waitOver = false) ∧
    (let s : State := { ts.modBank (fun b => { b with gangSize := 2, gangId := 3 }) with gangs := [(3, ⟨[0, 4], [0, 0], [true, true]⟩)] }
     1 < s.bank.gangSize.toNat ∧ kget s.gangs s.bank.gangId = some ⟨[0, 4], [0, 0], [true, true]⟩ ∧
       Gang.broken ⟨[0, 4], [0, 0], [true, true]⟩ (s.bank.gbars + 1) = false ∧ Gang.reach ⟨[0, 4], [0, 0], [true, true]⟩ 1 < s.bank.gbars + 1) ∧
    (ts.bank.ring 1).map (fun r => (r.canPop, Ring.canTake { r with asks := [.engine 3] } .task)) = some (false, false) ∧
    (ldsAddr ⟨g0, 1, 4, 0, true, none⟩ ts.bank % 4 = 0 ∧ localKey ts 0 ts.bank 64 = some ((Space.spad 0).key 64) ∧ isFull ts ((Space.spad 0).key 64) = false) ∧
    ((Space.spad 0).key 0 ∈ vldsWords vm ts ∧ isFull ts ((Space.spad 0).key 0) = false) ∧
    ((modGroup 0 false 5 (fun g => { g with out := 2 }) ts).bank.group 5).out ≠ 0 := by decide +kernel

theorem wit_hold_tile :
    matrixBusy (ts.modCore 0 fun c => { c with queue := [⟨1, .mzero, false, 5, 0x10000001, 0, { mf with z := 2 }, 0, 0⟩] }) 0 false
      (fun q => (MOp.names q).any (waitTiles { mf with z := 2 }).contains || (MForm.zf { mf with z := 2 } && MOp.loads q)) = true := by decide +kernel

/-- A WAITE with a limit of 64 cycles in s4 that its bundle waits at since cycle 0, at both sides of the limit. -/
theorem wit_hold_waite :
    let s := (writeBytes ts ((Space.imem 0).key 0) (leBytes 4 0xC1000000 ++ leBytes 4 0x65001003)).modBank fun b => { b with blockedSince := some 0 }
    (heldWaite s 0 false).map (fun f => (f.a, f.imm)) = some (4, 3) ∧ ((s.core 0).bank false).blockedSince = some 0 ∧
      (s.bank.rdS 4).toNat = 64 ∧ waiteOver s 0 false = false ∧
      waiteOver (s.modBank fun b => { b with cycHeld := 63 }) 0 false = false ∧ waiteOver (s.modBank fun b => { b with cycHeld := 64 }) 0 false = true := by decide +kernel

theorem wit_hold_get :
    freeRun (slotsInUse { ts with ops := [(1, { newOp ts .get 0 (some 3) with id := 1, gslots := List.range 8 })] } 0 false) 1 = none := by decide +kernel

theorem wit_held_bundle :
    issueHold 0 false (writeBytes ts ((Space.imem 0).key 0) (leBytes 4 0xC1000000 ++ leBytes 4 0x65000400)) ≠ .go ∧
    bankEnds (ts.modBank fun b => { b with status := .ending }) 0 false = true := by decide +kernel

/-- BKPT under a debugger, before another slot and as the last. -/
theorem wit_BkptHalts :
    (let s := ts.modCore 0 fun c => { c with dbg := { c.dbg with den := true, brken := true } }
     (s.core s.ctx.core).dbg.den = true ∧ (s.core s.ctx.core).dbg.brken = true ∧ s.ctx.later = [] ∧
       ({ s.ctx with later := [1, 4] }).later = 1 :: [4]) := by decide +kernel

/-- A group with an operation in the queue, one in the network before its retry, and one at its engine whose one box is on its way. -/
theorem wit_CancelOutstanding :
    let o : COp := { newOp ts .store 1 (some 3) with id := 1 }
    let p : COp := { newOp ts .get 1 (some 3) with id := 2, place := .network, retryAt := some 9 }
    let q : COp := { newOp ts .store 1 (some 3) with id := 4, place := .engine, boxes := [⟨0x1000, 8, 0, some ⟨0, 0x200000, 8, 12⟩, false⟩] }
    let s : State := modGroup 0 false 3 (fun g => { g with out := 3 }) { ts with ops := [(1, o), (2, p), (4, q)] }
    (∀ x ∈ s.ops, kget s.ops x.1 = some x.2 ∧ x.2.id = x.1) ∧ groupOps s 3 = [o, p, q] ∧ (s.bank.group 3).out = (groupOps s 3).length ∧
      (q.boxes.any fun b => b.tr.isSome && !b.done) = true ∧
      (∀ x ∈ s.ops, x.2.place = .queued → x.2.grp = some 3) := by decide +kernel

/-- Poisoned rows, elements and segments of the tables of `wit_TableResults`. -/
theorem wit_TableResults_poison :
    poisoned { ts with poison := [tableKey ts 64] } (tableKey ts 0) 128 = true ∧
    (let d := 64 * 2 ^ 14
     bitsNat d 13 0 % 4 = 0 ∧ bitsNat d 13 0 + bitsNat d 27 14 * 4 ≤ ts.bank.tblLen ∧ laneOn (ts.bank.rdM 0) 32 31 = true ∧
       lane (ts.bank.rdV 2) 31 32 < bitsNat d 27 14 ∧ poisoned { ts with poison := [tableKey ts 0] } (tableKey ts 0) 4 = true) ∧
    (let s := writeBytes ts (tableKey ts 0) ([0x3F800000, 0, 2].flatMap fun x => leBytes 4 x)
     poisoned { s with poison := [tableKey s 8] } (tableKey s 0) 12 = true ∧
       0 ∈ activeLanes (s.bank.rdM 0) 32 ∧ (vtliLane s 0 2 0 0 (FFmt.f32.decode 0)).2.2 = some 0 ∧
       poisoned { s with poison := [tableKey s 20] } (tableKey s 16) 8 = true) := by decide +kernel

/-- The number of stages of VHAD at both ends, and a poisoned score of VTOPK. -/
theorem wit_SelectionResults_more :
    (1 ≤ (8#7).toNat ∧ (8#7).toNat ≤ 8 ∧ 1 ≤ (1#7).toNat) ∧
    (let s := ts.modBank fun b => (b.wrS 9 0x00640104).wrA 3 ⟨0x1000, 0x1000, 0, false, 0x1000⟩
     let k := topkOf ⟨g0, 5, 3, 9, 0, false, some 2⟩ s.bank
     k.check s = .ok ((0, 0x1000), (Space.spad 0).key 0x2000) ∧ 1 ∈ TopK.columns k (s.bank.rdM 0) ∧ 4 < k.rows ∧
       poisoned { s with poison := [k.scoreKey 0 0x1000 4 1] } (k.scoreKey 0 0x1000 4 1) 4 = true) := by decide +kernel

/-- The one element of VLDB: misaligned, beyond the scratchpad, poisoned. -/
theorem wit_VldbTraps :
    activeLanes (ts.bank.rdM 0) 32 ≠ [] ∧ elemKey ts false 4 2 = .error causeMisaligned ∧ elemKey ts false 4 0x180000 = .error causeAddrRange ∧
    elemKey ts false 4 0 = .ok ((Space.spad 0).key 0) ∧
    poisoned { ts with poison := [(Space.spad 0).key 0] } ((Space.spad 0).key 0) 4 = true := by decide +kernel

/-- The trapping operands of the copies: addresses beyond 57 bits, a span beyond the scratchpad, no row, too many rows and boxes; a ring that
is absent, and one that is too small; a misaligned atomic. -/
theorem wit_CopyTraps :
    vaBad (2 ^ 57) (ts.bank.rdS 5).toInt 2 128 = true ∧ localSpan ts 0 ts.bank 0x17FF80 (localLen 2 128 128) = none ∧
    (vaBad 1 0 0 128 = false ∧ (localSpan ts 0 ts.bank 64 (localLen 0 128 128)).isSome = true ∧ (0 : Nat) < 1) ∧
    (vaBad 1 0 65536 1 = false ∧ (65535 : Nat) < 65536) ∧ (256 < boxCount 1 0 1 1048576) ∧
    (ts.bank.ring 2 = none ∧ (ts.bank.ring 1).map (fun r => decide (r.count < slotsFor r 1024)) = some true) ∧
    (vaEnd ≤ 2 ^ 57 ∧ (2 : Nat) < vaEnd ∧ 2 % 4 ≠ 0 ∧ 4 % 8 ≠ 0) ∧
    ((modGroup 0 false 0 (fun g => { g with faulted := 1 }) ts).bank.group 0).faulted ≠ 0 := by decide +kernel

/-- Names and tiles that fail: a misaligned or missing source, a GET that is too long, another tile size, a bad contribution; rows of PUBR. -/
theorem wit_PublicationTraps :
    let s := tg.modBank fun b => (((b.wrS 8 3).wrS 9 0x301).wrS 6 66).wrS 7 0x180000
    (s.bank.rdS 6).toNat % 4 ≠ 0 ∧ (s.bank.rdS 7).toNat % 4 = 0 ∧ localSpan s 0 s.bank (s.bank.rdS 7).toNat 256 = none ∧
    (localSpan s 0 s.bank 64 4097).isSome = true ∧ namedTensor s (nameAt s 8) = some tensor1 ∧ namedTensor tg (nameAt tg 8) = none ∧
    tensor1.tileSize ≠ 64 ∧ badContribution { cf with opt := 4 } tensor1 0x00010001 = true ∧ redOf { cf with opt := 4 } (some tensor1) ≠ 0 ∧
    ((0 : Nat) < 1 ∧ 4096 < 4097 ∧ (localSpan s 0 s.bank 64 (1 * 256)).isSome = true ∧ (localSpan s 0 s.bank 0x180000 4) = none ∧
      tensor1.tileSize < 256 + 4) := by decide +kernel

/-- A GET in the first free run of response slots; an ordinary PUBC. -/
theorem wit_GetRuns :
    freeRun (tg.ctx.gets ++ slotsInUse tg 0 false) 8 = some [0, 1, 2, 3, 4, 5, 6, 7] ∧ freeRun [0, 2] 2 = some [3, 4] ∧
    redOf cf (some { tensor1 with redop := 0 }) = 0 := by decide +kernel

/-! ### Witnesses for the steps of the device -/

/-- A running device at cycle 4,096: every access table admits every master, every rim slot is partition 1's, cluster 0 is enabled, work queue
3 of partition 1 has one command. -/
def dv : State :=
  { tg with
    now := 4096
    mgmt := { Mgmt.reset with
      boot := .running, tables := (List.range 8).map fun k => (k * 64, 0xFFFFFF000000FF07), rim := List.replicate 64 (true, 1) }
    clusters := [(0, { Cluster.reset with enabled := true })]
    fields := [(0, FieldSt.reset)]
    queues := [(3, { WorkQueue.reset with en := true, asg := true, part := 1, tail := 1 })] }

/-- The device with a step in hand. -/
def on (e : Event) (s : State) : State := { s with ev := some e }

/-- A command of queue 3: opcode, launch identity, namespace, ARGLEN, address. -/
def cmd (opc ident ns arg addr : Nat) : Cmd :=
  ⟨3, opc + ident * 2 ^ 96 + ns * 2 ^ 128 + arg * 2 ^ 224 + addr * 2 ^ 320 + 0x4000 * 2 ^ 384, 1, 0, false, none, [], none, 0⟩
def dvc (c : Cmd) : State := { dv with cmds := [c] }

/-- A graph object of one task and one code object, at host address 0x10000 (R28 to R33). -/
def obj : State :=
  writeBytes (dvc (cmd 1 0 0 0 0x10000)) (hostKey 0 0x10000)
    (leBytes 4 0x50484731 ++ leBytes 4 1 ++ leBytes 4 0 ++ leBytes 2 1 ++ leBytes 2 1 ++ leBytes 4 64 ++ leBytes 4 64 ++ leBytes 4 128 ++
      leBytes 4 704 ++ List.replicate 32 0 ++ leBytes 4 64 ++ leBytes 4 640 ++ List.replicate 56 0 ++
      List.replicate 8 0 ++ leBytes 4 1 ++ List.replicate 500 0 ++ (List.range 16).flatMap fun _ => leBytes 4 0x81000000)

theorem wit_CommandsComplete :
    (on (.qtailWrite 3 5 1 0) dv).ev = some (.qtailWrite 3 5 1 0) ∧ barOpen dv = true ∧ (16383 : Nat) < 16384 ∧
    admitted dv 3 16383 4 1 true false = true ∧ 15 < 2 ^ (dv.queue 3).log2 ∧ 2 ^ (dv.queue 3).log2 ≤ 16 ∧
    ((dv.queue 5).en = false ∧ (dv.queue 3).asg = true) ∧
    arbiterSelects dv = true ∧ (arbiterPick dv).map (fun x => x.1) = some 3 ∧
    (pendingCmd (dvc (cmd 0 0 0 0 0)) 3 0 = some (cmd 0 0 0 0 0) ∧ (cmd 0 0 0 0 0).badField = none ∧ (cmd 0 0 0 0 0).cplAddr % 32 = 0 ∧
      hostOk (dvc (cmd 0 0 0 0 0)) (queuePort 3) (cmd 0 0 0 0 0).cplAddr 32 = true) ∧
    (pendingCmd obj 3 1 = some (cmd 1 0 0 0 0x10000) ∧ (cmd 1 0 0 0 0x10000).badField = none ∧
      (readHeader (hostObject obj 0 0x10000)).total = 704 ∧ hostOk obj 0 0x10000 704 = true ∧ loadChecks (hostObject obj 0 0x10000) = none ∧
      freeNs obj = some 2) ∧
    (let s : State := { obj with parts := [(1, { Partition.reset with devRoom := 8192 })] }
     deviceUsed s 1 + 704 ≤ (s.part 1).devRoom) := by decide +kernel

theorem wit_CommandsComplete_launches :
    (pendingCmd (dvc (cmd 2 0 1 0 0)) 3 2 = some (cmd 2 0 1 0 0) ∧ (cmd 2 0 1 0 0).badField = none ∧ nsLoaded dv 3 1 = true ∧
      (kget dv.graphs 1).isSome = true ∧ dv.launches.any (fun x => x.2.ns = 1) = true ∧ nsInUse { dv with launches := [] } 1 = false) ∧
    (let c := cmd 3 0x10000002 1 8 0x5000
     launchCmd (dvc c) 3 = some c ∧ c.badField = none ∧ nsLoaded (dvc c) 3 c.ns = true ∧ partOf c.ident = (dv.queue 3).part ∧
       kget dv.launches c.ident = none ∧ hostOk dv (queuePort 3) c.addr c.argLen = true ∧ c.nwaf ≤ 1) ∧
    (let c := cmd 4 0x10000001 0 0 0
     pendingCmd (dvc c) 3 4 = some c ∧ c.badField = none ∧ partOf c.ident = (dv.queue 3).part ∧ abortable dv c.ident = true ∧
       abortable { dv with launches := [] } c.ident = false) ∧
    fenceOver (dvc { cmd 0 0 0 0 0 with held := true }) 3 = true ∧
    (checkedCmd (dvc { cmd 3 0x10000002 1 8 0x5000 with args := some [1, 2] }) 3).isSome = true := by decide +kernel

/-- A launch over two wafers, and a device on which it has waited 2^28 cycles. -/
def wafers : Launch := { launch1 with nwaf := 2, wafidx := 0, group := 9, edgesIn := false, accepted := 0 }
def dvw : State := { dv with launches := [(0x10000001, wafers)], now := 2 ^ 28 }

theorem wit_LaunchesProgress :
    groupLaunch dvw 9 = some (0x10000001, wafers) ∧ (wafers.nwaf ≠ 3 ∧ wafers.wafidx = 0 ∧ (1 : Nat) ∉ wafers.acks) ∧
    gateLate dvw 0x10000001 = true ∧ partOf 0x10000001 = 1 ∧ abortable dv 0x10000001 = true ∧ (kget dv.launches 0x10000001).isSome = true ∧
    sweepDue dv 0x10000001 = true ∧
    (let x : Launch := { launch1 with sweeping := some (sweepView dv 0x10000001) }
     x.sweeping.isSome = true ∧ peerReports x = some [] ∧ x.discarded = false) ∧
    (((dv.core 0).bank false).status ≠ .empty ∧ ((dv.core 0).bank false).launch.toNat = 0x10000001 ∧ 0 ∈ coresOf 0) ∧
    retirable { dv with launches := [(0x10000001, { launch1 with retiring := true })] } 0x10000001 = true ∧
    firstAbort { dv with aborts := [⟨0x10000001, 5, 3, 4000⟩] } 0x10000001 = some ⟨0x10000001, 5, 3, 4000⟩ ∧
    (launch1.retiring = false ∧ launch1.discarded = false) ∧ edgesToInstall dvw 0x10000001 = true := by decide +kernel

/-- A graph of one task of two rings' worth of nothing, and a pending instance 6 of it. -/
def desc1 : TaskDesc := ⟨0, 0, 0, 1, false, 3, [], 1000, 0, 0, [], []⟩
def pend6 : TaskInst := { task5 with st := .pending }
def dt (ts : KMap TaskInst) : State :=
  { dv with
    graphs := [(1, ⟨1, 4096, [tensor1], [⟨64, 0, 0, 0⟩], [desc1], false⟩)]
    launches := [(0x10000001, { launch1 with nextSweep := 2 ^ 40 })], tasks := ts, cores := [] }

theorem wit_TaskStepsComplete_pool :
    (kget (dt [(6, pend6)]).tasks 6 = some pend6 ∧ pend6.launch = 0x10000001 ∧ partOf 0x10000001 = 1 ∧ pend6.st = .pending) ∧
    (preempted (dt [(5, task5)]) 1 false 5 = [(5, task5)] ∧ task5.st = .running ∧ descOf (dt [(5, task5)]) task5 = some desc1 ∧
      desc1.restart = false ∧ ({ desc1 with restart := true }).restart = true ∧ isEnding (dt [(5, task5)]) task5 = false) ∧
    (handoff (dt []) 0x10000001).map (fun h => (h.2.1, h.2.2)) = some (desc1, 0) ∧
    selecting (dt [(6, pend6)]) 0 = true ∧ selection (dt [(6, pend6)]) 0 = some (6, pend6) ∧
    (placement (dt [(6, pend6)]) 0 (membersOf (dt [(6, pend6)]) 6).length pend6).isSome = true ∧
    (let s : State := { dt [(6, pend6)] with clusters := [] }
     selecting s 0 = true ∧ selection s 0 = some (6, pend6) ∧ placement s 0 (membersOf s 6).length pend6 = none) ∧
    passedOver dv { pend6 with passUntil := some 4096 } = true ∧
    (let s : State := { dt [(6, { pend6 with noElig := some 0 })] with now := 65536 }
     stranded s { pend6 with noElig := some 0 } = true ∧ (membersOf s 6).map (fun m => m.1) = [6] ∧ (kget s.tasks 6).isSome = true) ∧
    (descOf (dt [(6, pend6)]) pend6 = some desc1 ∧ (codeOf (dt [(6, pend6)]) pend6).isSome = true ∧ eligible (dt [(6, pend6)]) pend6 0 = true ∧
      ((ranked (dt [(6, pend6)]) pend6 0).map fun a => a.1) = [0, 1, 2, 3] ∧ placement (dt [(6, pend6)]) 0 1 pend6 = some [0]) := by decide +kernel

/-- An entry of priority 0 that has waited longer than the threshold goes before a younger one of priority 3; alone it does not before its time. -/
theorem wit_TaskStepsComplete_order :
    let old : TaskInst := { pend6 with queuePrio := 0, joined := 0, queued := 0 }
    let young : TaskInst := { pend6 with queuePrio := 3, joined := 5000, queued := 5000, rank := 0, gang := 7 }
    let s : State := { dt [(6, { old with gang := 6 }), (7, young)] with now := 2 ^ 20 + 2 }
    let e : State := { s with now := 2 ^ 20 }
    aged s 0 old = true ∧ aged e 0 old = false ∧ (selection s 0).map (fun x => x.1) = some 6 ∧ (selection e 0).map (fun x => x.1) = some 7 := by
  decide +kernel

/-- Ready instances of core 0, alone and in a gang of two on cores 0 and 1. -/
def ready (rank gang core : Nat) : TaskInst := { pend6 with st := .ready, rank := rank, gang := gang, core := core, readySeq := 1 }

theorem wit_TaskStepsComplete_firing :
    (fireReady (dt [(6, ready 0 6 0)]) 6).isSome = true ∧ (codeOf (dt [(6, ready 0 6 0)]) (ready 0 6 0)).isSome = true ∧
    (kget (dt [(6, ready 0 6 0)]).launches 0x10000001).isSome = true ∧
    (gangFires (dt [(6, ready 0 6 0), (7, ready 1 6 1)]) 6).isSome = true ∧
    (let s : State := { dt [(5, task5)] with cores := [(0, { Core.reset with b0 := { tb with since := some 0 }, running := some false })] }
     overrun s 0 false = true ∧ (kget s.tasks ((s.core 0).bank false).task).isSome = true ∧ 3 ≤ ({ task5 with overruns := 3 }).overruns) := by
  decide +kernel

/-- A task with one installing subscription at one home, static or dynamic. -/
def sub0 (dynamic : Bool) : Sub := ⟨0, 0, ⟨0, 0, 0, 0, 0x10000001⟩, 1, 0, false, dynamic, .installing, 0, 0, false, [0], 0⟩
def tgt0 : Target := ⟨5, 0, 0⟩
def msg0 : PathMsg := ⟨⟨0, 0, 0, 0, 0x10000001⟩, ⟨5, 0, 0⟩, false, 0, [(0, 4)], [], 0⟩
def dsub (dynamic : Bool) (st : PoolState) : State := { dv with tasks := [(5, { task5 with st := st, subs := [sub0 dynamic] })] }

theorem wit_TaskStepsComplete_subscriptions :
    subOf (dsub true .running) ⟨5, 0, 0⟩ = some (sub0 true) ∧ (sub0 true).st = .installing ∧ (sub0 true).homes.length ≤ (sub0 true).acks + 1 ∧
    subOf (dsub false .arming) ⟨5, 0, 0⟩ = some (sub0 false) ∧ (sub0 false).dynamic = false := by decide +kernel

/-- A bank in page wait beside a parked one that can issue; a drain that has ended; a WAITE of 100 cycles held for 101. -/
theorem wit_TaskStepsComplete_banks :
    (let s : State := { dv with cores := [(0, { Core.reset with
        b0 := { tb with since := some 0, blockedSince := some 1, status := .pageWait 0, groups := tb.groups.set 0 ⟨1, none, 1, false, false⟩ }
        b1 := tb, running := some false, senior := some true })] }
     switching s 0 = [0] ∧ (s.core 0).running = some false) ∧
    (let s : State := { dv with cores := [(0, { Core.reset with b1 := tb, drain := some ⟨false, 4000⟩ })] }
     drainEnds s 0 = some ⟨false, 4000⟩ ∧ ((s.core 0).bank true).status ≠ .empty) ∧
    (let s := writeBytes { dv with cores := [(0, { Core.reset with
        b0 := { tb with since := some 0, blockedSince := some 1, s := tb.s.set 1 100 }, running := some false })] }
        ((Space.imem 0).key 0) (leBytes 4 0xC1000000 ++ leBytes 4 0x65000400)
     waiteOver s 0 false = true) := by decide +kernel

/-- R73, R477, R506, R507, R514, R518: what reads of registers answer at reset, and the capability list's first and last records. -/
theorem test_register_reads :
    regValue State.reset 0x68 = 0x4000 ∧ regValue State.reset 0x401000 = 0x73695F30 ∧ regValue State.reset 0x401008 = 0x438000 ∧
    regValue State.reset 0x30000C = 0x01400000 ∧ (capList State.reset).take 2 = [0x06010001, 0x58] ∧
    (capList State.reset).drop 174 = [0x10010005, 0, 0x500000, 0x500800, 0x501000, 0x501800, 0x502000, 0x502800, 0x503000, 0x503800,
      0x504000, 0x504800, 0x505000, 0x505800, 0x506000, 0x506800] := by
  decide +kernel

theorem wit_ManagementStepsComplete :
    ({ dv with mgmt := { dv.mgmt with boot := .recovery } }).mgmt.boot = .recovery ∧ (3 ≤ (7 : Nat) ∧ (7 : Nat) ≤ 7) ∧
    (barOpen dv = true ∧ admitted dv 6 (0x401000 / 4096) 6 1 true false = true ∧ (2 ^ 32 - 1 : Nat) < 2 ^ 32) ∧
    (admitted dv 6 (0x401000 / 4096) 6 1 false true = true ∧ admitted dv 3 0 4 1 false true = true ∧
      barOpen { dv with mgmt := { dv.mgmt with boot := .recovery } } = false) ∧
    admitted dv 6 (0x300010 / 4096) 6 0 true false = true ∧
    (let s : State := { dv with traceUnits := [(unitLaunch, [(0, ⟨5, 0x10, 0, 0, 0, []⟩)])] }
     (traceNext s 0).isSome = true ∧ (s.field 0).trace.gaps.toList.all (fun n => n = 0) = true ∧ (s.field 0).trace.unread < 2 ^ 18) ∧
    nextThermal dv.mgmt (dv.cluster 0).tstate (95 % 256 - 1) = (dv.cluster 0).tstate ∧
    (let s := dv.modCluster 0 fun x => { x with tstate := 1 }
     nextThermal s.mgmt (s.cluster 0).tstate (105 % 256) = 2 ∧ (s.cluster 0).tstate = 1) ∧ (kget dv.fields 0).isSome = true := by decide +kernel

theorem wit_FaultStepsComplete :
    (dv.launches.filter fun x => x.2.part = 2) = [] ∧
    rebuildDue { dv with launches := [], parts := [(1, { Partition.reset with stale := true })] } 1 = true ∧
    ((dv.cluster 0).mapped = false ∧ (dv.cluster 0).stopped = false ∧ (dv.cluster 0).freeze = none ∧ (dv.cluster 0).ce < 2 ^ 24 - 1) ∧
    (83 < 84 ∧ (dv.field 83).lost = false) ∧ frozenOver (dv.modCluster 0 fun x => { x with freeze := some 4096 }) 0 = true ∧
    windowDue dv 0 = true ∧ windowOver ({ dv with now := 4144 }.modField 0 fun x => { x with refAct := true }) 0 = true ∧
    portLost { dv with now := 2 ^ 24, links := [(2, { LinkPort.reset with up := false, peer := some (1, 0) })] } 2 = true ∧
    (dv.link 2).up = true ∧ (LinkPort.peer { LinkPort.reset with peer := some (1, 0) }).isSome = true ∧
    haltDue (dv.modCore 0 fun c => { c with dbg := { c.dbg with den := true, halt := true } }) 0 = true ∧
    (let s := dv.modCore 0 fun c => { c with dbg := { c.dbg with den := true, halted := true, item := 0x41F } }
     (s.core 0).dbg.den = true ∧ (s.core 0).dbg.halted = true ∧ (s.core 0).running = some false ∧
       (s.core 0).dbg.item.toNat = 0x400 + (31#5).toNat ∧ (31#5) ≠ 0) ∧
    stepOver (dv.modCore 0 fun c => { c with dbg := { c.dbg with den := true, stepping := true, retired := true } }) 0 = true := by decide +kernel

/-! A matrix operation of core 0 in the queue, in an entry, in the array and at the accumulator port. -/
def mop (k : MKind) (f : MForm) : MOp := ⟨1, k, false, 5, 0x10000001, 0, f, 0, 0⟩
def qd (q : MOp) : State := dv.modCore 0 fun c => { c with queue := [q] }
def mmaForm : MForm := ⟨g0, 1, 0, true, false, 0, 2, mx 2 2 5 17⟩
def key5 : WKey := ⟨5, 17, 2, none⟩
def seg5 : Seg := ⟨mop .mma mmaForm, 0, 2, 4000, 96, [(Space.spad 0).key 0, (Space.spad 0).key 256], 0, false, 0, false, none⟩
def entry5 (kind : EntryKind) (ready selected : Bool) : MEntry := ⟨2, kind, key5, 2, true, 4000, ready, selected, [seg5], 0, [], 0, if selected then some 3 else none, 0⟩
def cl (f : Cluster → Cluster) : State := ({ dv with slots := [(5, .sealed)] }).modCluster 0 f

theorem wit_MatrixStepsComplete :
    (dequeuable (qd (mop .mwait mf)) 0 = true ∧ dequeuable (qd (mop .mhold { mf with rows := 1023 })) 0 = true ∧ dequeuable (qd (mop .mzero mf)) 0 = true) ∧
    (let s : State := { qd (mop .mma mmaForm) with slots := [(5, .sealed)] }
     admissible s 0 = true ∧ admissionFault s 0 (mop .mma mmaForm) = none ∧ mmaForm.mrg = false ∧ freeEntry (s.cluster 0) = some 0) ∧
    (let s := cl fun x => { x with entries := [entry5 .product false false] }
     holdReached s 0 (entry5 .product false false) = true ∧ (entry5 .product false false).num = 2) ∧
    (let s := cl fun x => { x with entries := [entry5 .product true false], stat := ⟨some key5, some 3⟩ }
     bestEntry s 0 = some (entry5 .product true false) ∧ (entry5 .product true false).isLoad = false) ∧
    (let s := cl fun x => { x with entries := [{ entry5 .load true false with segs := [] }], stat := ⟨some key5, some 3⟩ }
     (bestEntry s 0).map (fun e => (e.isLoad, (s.cluster 0).stat.has e.key)) = some (true, true)) ∧
    (let j : LoadJob := ⟨2, key5, 0, false, none, 3, false⟩
     grantable (cl fun x => { x with job := some j }) 0 j = true) ∧
    (let j : LoadJob := ⟨2, key5, 0, true, none, 3, false⟩
     ((cl fun x => { x with job := some j }).cluster 0).job = some j ∧ loadEnds (cl fun x => { x with job := some j }) 0 j = true ∧ j.bad = none ∧ j.stale = false) ∧
    (let s := cl fun x => { x with entries := [entry5 .product true true], stat := ⟨some key5, some 3⟩, next := some 2 }
     (firing s 0).map (fun e => e.num) = some 2) ∧
    (let s := dv.modCore 0 fun c => { c with flights := [⟨mop .mma mmaForm, 1, [], false, 3⟩] }
     (nextResult s 0).map (fun r => (r.1, r.2.row + 1)) = some (0, 2) ∧ MForm.n mmaForm = 2) ∧
    (let s := dv.modCore 0 fun c => { c with sel := [⟨1, false, 5, 6, 7, []⟩] }
     (s.core 0).sel = ⟨1, false, 5, 6, 7, []⟩ :: []) ∧
    (let p : PortOp := ⟨mop .mzero { mf with rows := 2 }, [], [], 0, 2, false, []⟩
     portReady (dv.modCore 0 fun c => { c with port := [p] }) 0 0 p = true ∧ p.row + PortOp.stepRows p < p.rows ∧
       ¬ ({ p with row := 1 }).row + PortOp.stepRows { p with row := 1 } < p.rows) := by decide +kernel

/-- The shadow tile serves the next operation; a position reads its A row from its address, or finds it outside every range; a real row, and padding. -/
theorem wit_MatrixStepsComplete_fires :
    let fs := fun (g : Seg) => cl fun x =>
      { x with entries := [{ entry5 .product true true with segs := [g] }], stat := ⟨some key5, some 9⟩, shad := ⟨some key5, some 3⟩, next := some 2 }
    let far : Seg := { seg5 with op := { seg5.op with addr := 2 ^ 30 } }
    (((fs seg5).cluster 0).current = none ∧ ((fs seg5).cluster 0).next = some 2 ∧ (((fs seg5).cluster 0).entry 2).any canStart = true ∧
      ((fs seg5).cluster 0).stat.load = some 9) ∧
    ((firing (fs seg5) 0).bind fun e => nextPosition (startNext 0 (fs seg5)) e) = some (some seg5) ∧ seg5.aborted = false ∧
    (unitKey (fs seg5) 0 seg5.op seg5.units 0 ≠ 0 ∧ unitKey (fs far) 0 far.op far.units 0 = 0 ∧ segCore seg5 = 0) ∧
    ((firing (fs far) 0).bind fun e => nextPosition (startNext 0 (fs far)) e) = some (some far) := by decide +kernel

/-- Each kind of an accumulator port's operation is ready at row 1 of 2; a unit it can reach, and one it cannot; the words that MSCA has read. -/
theorem wit_MatrixStepsComplete_rows :
    (∀ k ∈ ([.mzero, .mdrain, .mstat, .msca, .mresc, .mtrn] : List MKind),
      let p : PortOp := ⟨mop k { mmaForm with rows := 2 }, [], (List.range 130).map fun _ => ([0, 0, 0x80, 0x3F], false), 1, 2, false, []⟩
      portReady (dv.modCore 0 fun c => { c with port := [p] }) 0 0 p = true ∧ p.row < 128 ∧ (p.data.getD (128 + p.row) ([], false)).1 ≠ [] ∧
        (p.data.take 128).all (fun x => x.1 ≠ []) = true) ∧
    unitKey dv 0 (mop .mdrain mmaForm) [] 1 ≠ 0 ∧ unitKey dv 0 { mop .mdrain mmaForm with addr := 2 ^ 30 } [] 1 = 0 := by decide +kernel

/-! Packets of launch 0x10000001, whose homes are routers 0 to 3. -/
def pkt : Packet := { Packet.zero with name := mkName 1 0x301 5, launch := 0x10000001, payload := [1, 2, 3, 4] }
def kept0 : Kept := ⟨pkt, 0, 1, 1, false, 0⟩
def home : Nat := homeOf dv pkt.name pkt.launch
def rt (f : Router → Router) : State := (dsub true .running).modRouter home f

theorem wit_NetworkStepsComplete :
    (liveLaunch dv 0x10000001 = true ∧ msg0.todo = (0, 4) :: [] ∧ msg0.done = [] ∧ (dv.router 0).entries.length + newEntries dv msg0 0 ≤ 2048) ∧
    orderedHere (dv.modRouter 0 fun r => { r with entries := [⟨msg0.pat, .loc tgt0 false, [0, 0, 0, 0, 1], [0], 0⟩] }) msg0 0 = true ∧
    ((rt fun r => { r with entries := [⟨msg0.pat, .loc tgt0 false, [0, 0, 0, 0, 1], [0], 0⟩] }).router home).entries =
      [⟨msg0.pat, .loc tgt0 false, [0, 0, 0, 0, 1], [0], 0⟩] ∧ subOf (dsub true .running) tgt0 = some (sub0 true) ∧
    (let s := (dsub true .running).modRouter 0 fun r => { r with held := [⟨pkt, tgt0, home, false, false, false⟩] }
     heldReady s 0 tgt0 = some ⟨pkt, tgt0, home, false, false, false⟩ ∧
       (taskRing s { task5 with subs := [sub0 true] } 0).map (fun g => g.fills (.engine 0)) = some false) ∧
    (home ≠ home + 1 ∧ Router.granules (dv.router 9) + granules pkt ≤ 2048 ∧ tagsOf dv 9 < 4096) ∧
    (let s := rt fun r => { r with partials := [⟨pkt, [0], 32, false⟩] }
     (s.router home).partials[0]? = some ⟨pkt, [0], 32, false⟩) ∧
    youngest ((rt fun r => { r with kept := [kept0] }).router home) pkt.name pkt.launch = some kept0 ∧
    youngest ((rt fun r => r).router home) pkt.name pkt.launch = none ∧ tensorOf dv (nsOf pkt.name) (tnumOf pkt.name) = some tensor1 ∧
    tensor1.pclass ≠ 0 ∧ pkt.coll = false ∧ pkt.kind ≠ 2 ∧
    (let s : State := { dv with links := [(2, { LinkPort.reset with peer := some (1, 0) })] }
     crossingPort s 2 pkt = some 2 ∧ (s.link 2).peer = some (1, 0)) := by decide +kernel

/-! Operation 1 of core 0: a store of 8 bytes at VA 0x1000, at its engine, with a translation at hand; an atomic beside it. -/
def tlb1 : TlbEntry := ⟨1, 12, 1, 0x200000, 0, 1, true, true, true⟩
def op1 (kind : OpKind) (place : OpPlace) : COp :=
  { newOp ts kind 1 (some 0) with
    id := 1, launch := 0x10000001, part := 1, gid := 1, place := place, len := 8, boxes := [⟨0x1000, 8, 0, none, false⟩], engine := 0 }
def dop (o : COp) : State := { dv with ops := [(1, o)], tlbs := [(0, [tlb1])] }

theorem wit_CopyStepsComplete :
    (kget (dop (op1 .store .queued)).ops 1 = some (op1 .store .queued) ∧ copyReady (dop (op1 .store .queued)) (op1 .store .queued) = true) ∧
    (let o : COp := { op1 .control .queued with opc := 8, after := [9] }
     nextToLeave (dop o) o = true ∧ ifaceRuns (dop o) o = true ∧ fenceDone (dop o) o = true) ∧
    (let o : COp := { op1 .publish .queued with rel := true, before := [9], pkts := [(pkt, [(0, 4)])] }
     nextToLeave (dop o) o = true ∧ ifaceRuns (dop o) o = true ∧ released (dop o) o = true ∧ o.kind = .publish ∧ pkt.kind = 0) ∧
    (let r : RimReq := ⟨0, 1, 16, .step (.boxPerformed 1 0)⟩
     let s : State := { dv with rim := [r] }
     rimFirst s 0 r = true ∧ rimFits s r = true) ∧ movedUnits dv (.getResponse pkt 0) = [] ∧
    movedUnits (dop (op1 .store .engine)) (.boxPerformed 1 0) = [] ∧
    (op1 .get .network).cancelled = false ∧ ({ op1 .get .network with retryAt := some 4096 }).retryAt = some 4096 ∧
    (let o := op1 .store .engine
     o.id = 1 ∧
     walkReady (dop o) o = true ∧ walkNext o = some 0 ∧ nextBox o = some 0 ∧ o.boxes[0]? = some ⟨0x1000, 8, 0, none, false⟩ ∧
       walkRefused (walkState (dop o) o 0x1000) o 0x1000 = none ∧ walkRefused (walkState { dop o with tlbs := [] } o 0x1000) o 0x1000 = none ∧
       ((translate (walkState (dop o) o 0x1000) o.engine o.part o.gid 0x1000 o.reads o.writes).toOption.bind fun x => agentOf x.2 o.part x.1.mtype x.1.pa) = some 8 ∧
       (translate (walkState { dop o with tlbs := [] } o 0x1000) o.engine o.part o.gid 0x1000 o.reads o.writes).toOption.isNone = true) ∧
    (let x : Trans := ⟨0, 0x200000, 8, 12⟩
     accessFault (dop (op1 .store .engine)) (op1 .store .engine) x true false = none ∧
       accessFault (dop (op1 .atomic .engine)) (op1 .atomic .engine) x true true = none ∧ poisoned dv (memKey x) 8 = false) ∧
    (op1 .atomic .network).wide = false ∧ (faultedOp (dop (op1 .store (.faulted 1 0 0))) 1 1).isSome = true ∧
    faultLate { dv with now := 2 ^ 28 } (op1 .store (.faulted 1 0 0)) = true ∧
    (admitted dv 6 (partPage 1) 6 1 true false = true ∧ (dv.part 1).invBusy = false) ∧
    invalidated (dv.modPart 1 fun p => { p with invBusy := true }) 1 = true := by decide +kernel

/-! Entry 2 of partition 1's residency table. -/
def er (st : Nat) (bind : Nat) : State :=
  { dv with ert := [(65536 + 2, { ErtEntry.reset with st := st, bind := bind, field := 0, slot := 5 })], policy := [⟨1, 7, 2, false, 0⟩] }
def sump0 : Sump := ⟨1, 0x10000001, 2, [], 1, false⟩

theorem wit_ExpertStepsComplete :
    boundEntry dv 1 pkt.name = none ∧
    ((15 < 16 ∧ 65535 < 65536) ∧ admitted dv 2 (1 * 65536 + 2) 6 1 true false = true ∧ ((er 0 0).ertEntry 1 2).st = 0 ∧
      bitsNat (overlay (ertImage ((er 0 0).ertEntry 1 2)) 0 32 (2 ^ 64)) 223 192 = 0) ∧
    (((er 2 0).ertEntry 1 2).st = 2 ∧ ((er 1 0).ertEntry 1 2).st = 1) ∧ evictable (er 2 0) 1 2 = true ∧
    boundEntry (er 4 (pkt.name.toNat / 2 ^ 32)) 1 pkt.name = some 2 ∧
    (viewOf ((er 4 0).modRouter home fun r => { r with experts := [⟨1, 2, 4, 0, [], none⟩] }) home 1 2).st = 4 ∧ sealable (er 1 0) 1 2 = true ∧
    (policyOf (er 0 0) 1 7 = some ⟨1, 7, 2, false, 0⟩ ∧ (pagingFields (er 0 0) 1).contains 0 = true) ∧
    (let s : State := { er 0 0 with mgmt := { dv.mgmt with tables := [(5 * 64, 0xFFFFFF000000FF07)] } }
     (freeSlots s 1 0).contains 5 = true) ∧
    policyLate { er 0 0 with now := 2 ^ 20 } ⟨1, 7, 2, false, 0⟩ = true ∧ ((er 0 0x1301).ertEntry 1 2).bind ≠ 0 ∧
    (let s : State := { er 0 0 with sumps := [(3, sump0)], parts := [(1, { Partition.reset with parkRoom := 4096, homes := [0] })] }
     (sumpsFor s 1 2 (some 0x10000001)).getLast? = some (3, sump0) ∧ kget s.sumps 3 = some sump0 ∧
       parkedBytes s 1 + pkt.payload.length ≤ (s.part 1).parkRoom ∧ sump0.rows.length < 4096) := by decide +kernel

/-- A pending task subscribed to a bound tensor, and a sump of one row to drain into a task's subscription. -/
theorem wit_ExpertStepsComplete_notices :
    let y : Sub := { sub0 false with pat := ⟨mkName 1 0x301 0, BitVec.ofNat 64 0xFFFFFFFF00000000, 0, 0, 0x10000001⟩ }
    let x : TaskInst := { pend6 with subs := [y] }
    expertEntry { er 2 0x100301 with tasks := [(6, x)] } x = some 2 ∧
    (let s0 : State := { er 2 0x100301 with sumps := [(3, { sump0 with rows := [⟨pkt, 2⟩] })] }
     let h := bindHome s0 1 (s0.ertEntry 1 2)
     let s := s0.modRouter h fun r => { r with
       experts := [⟨1, 2, 2, 0, [], none⟩], entries := [⟨y.pat, .loc tgt0 false, [0, 0, 0, 0, 1], [h], 0⟩, ⟨y.pat, .home, [0, 0, 0, 0, 1], [], 1⟩] }
     drainReady s 1 2 0x10000001 = true) := by decide +kernel

/-- Wafers that abort, and firmware that reloads. -/
theorem wit_LaunchesProgress_more :
    groupPart dvw 9 = some (0x10000001, wafers) ∧ (wafers.discarded = false ∧ wafers.retiring = false) ∧
    (({ wafers with discarded := true }).discarded = true) ∧ dv.mgmt.boot = .running ∧ ({ dv.mgmt with boot := .recovery }).boot ≠ .running := by
  decide +kernel

/-- A task past its TEND: with a fault of its group that no CWAIT has reported, with one recorded against a tile, and with none; a running task
that a kill finds. -/
theorem wit_TaskEnds :
    (let s := (dt [(5, task5)]).modCore 0 fun k => { k with
        b0 := { tb with status := .ending, groups := tb.groups.set 3 ⟨0, some 0x21, 0, false, false⟩ }, running := some false }
     (endFault s 0 false).map (fun x => x.1) = some 0x21) ∧
    (let s := (dt [(5, task5)]).modCore 0 fun k => { k with
        b0 := { tb with status := .ending }, running := some false, tileFaults := [⟨some 2, false, 5, 0x22⟩] }
     (endFault s 0 false).map (fun x => x.1) = some 0x22) ∧
    (let s := (dt [(5, task5)]).modCore 0 fun k => { k with b0 := { tb with status := .ending }, running := some false }
     (endFault s 0 false).isNone = true ∧ bankEnds s 0 false = true ∧ ((s.core 0).bank false).task = 5 ∧ kget s.tasks 5 = some task5 ∧
       (kget s.launches task5.launch).isSome = true ∧ isEnding s task5 = true) ∧
    (let s := (dt [(5, task5)]).modCore 0 fun k => { k with b0 := tb, running := some false }
     membersOf s 5 = [(5, task5)] ∧ task5.st = .running ∧ isEnding s task5 = false) := by decide +kernel

/-- An image in flash, and none; a master of another class; the BARs in recovery; an access table that admits a read of the queues. -/
theorem wit_ManagementMore :
    (State.reset.mgmt.flash = none ∧ ({ dv.mgmt with flash := some ⟨[1], [], [], [], []⟩ }).flash = some ⟨[1], [], [], [], []⟩) ∧
    ((⟨5, 1, 0⟩ : Master).cls ≠ 6 ∧ barOpen dv = true ∧ admitted dv 3 7 6 1 false true = true) ∧
    (barOpen { dv with mgmt := { dv.mgmt with boot := .recovery } } = false ∧ dv.mgmt.boot = .running) := by decide +kernel

/-- A load's slot in each state, a staged tile, and a poisoned one. -/
theorem wit_LoadVerdicts :
    let j : LoadJob := ⟨2, key5, 0, false, none, 3, false⟩
    let staged : LoadJob := { j with key := { key5 with slot := 63, staged := some (0, false, 1) }, src := (Space.spad 0).key 0 }
    (dv.slot 0 5 = .free ∧ ({ dv with slots := [(5, .loading)] }).slot 0 5 = .loading ∧ (cl id).slot 0 5 = .sealed ∧ j.key.slot = 5) ∧
    (stagedHeld dv staged.key staged.src = true ∧ stagedHeld dv staged.key 0 = false ∧ grantable (cl fun x => { x with job := some staged }) 0 staged = true) ∧
    (let k := wtileKey (fieldOfCluster 0) 5 17
     poisoned { cl id with poison := [k] } k 32768 = true ∧ poisoned (cl id) k 32768 = false) := by decide +kernel

/-- A port that is down, one with nothing held, and a device that was not the origin of what enters. -/
theorem wit_PortHolds :
    crossingPort { dv with links := [(2, { LinkPort.reset with up := false, peer := some (1, 0) })] } 2 pkt = none ∧ (2 : Nat) < 96 ∧
    holdsFor dv 2 = [] ∧ pkt.coll = false ∧ pkt.kind ≠ 2 ∧ pkt.kind ≠ 4 ∧ ({ pkt with kind := 2 }).kind = 2 ∧
    liveLaunch dv pkt.launch = true ∧ (⟨home, pkt.name, 0, pkt.launch, 0, false, .get pkt, 0, [], 0, true⟩ : Query).why = .get pkt := by decide +kernel

/-- A publication of a task over a cut edge of its launch. -/
theorem wit_CutEdgeFence :
    let p : Packet := { pkt with org := .task 5 none }
    let s : State := { dv with launches := [(0x10000001, { launch1 with edges := [⟨1, false, 0x301⟩] })], agenda := [.publicationAtHome p] }
    p.org = .task 5 none ∧ p.kind ≠ 2 ∧ p.kind ≠ 3 ∧ cutPeers s p ≠ [] ∧ Event.publicationAtHome p ∈ s.agenda := by decide +kernel

/-- Rim requests of an ERTQ and a SUMPQ, and of a parked row. -/
theorem wit_RimReads :
    (let o : COp := { op1 .ertq .network with opnd := 2 }
     let r : RimReq := ⟨0, 1, 16, .step (.remoteResult 1 0 0)⟩
     let s : State := { dop o with rim := [r] }
     rimFirst s 0 r = true ∧ rimFits s r = true ∧ kget s.ops 1 = some o ∧ o.kind = .ertq ∧ ertAdmits s o = true ∧
       ({ o with kind := .sumpq }).kind = .sumpq) ∧
    movedUnits dv (.boxPerformed 1 0) = [] := by decide +kernel

/-- A debugger's access from outside that the debug table of `dv` admits, one of another class, one inside an admitted write. -/
theorem wit_DebugAccesses :
    debugMay dv 0 ⟨5, 1, 0⟩ false true ∧ debugMay dv 0 ⟨5, 1, 0⟩ false false ∧ ¬ debugMay dv 0 ⟨4, 1, 0⟩ false true ∧
      debugMay dv 0 ⟨4, 1, 0⟩ true true ∧ barOpen dv = true := by unfold debugMay; decide +kernel

/-- A policy's answer that is late, and one in time. -/
theorem wit_PolicyTimes :
    policyLate { er 0 0 with now := 2 ^ 20 } ⟨1, 7, 2, false, 0⟩ = true ∧ policyLate (er 0 0) ⟨1, 7, 2, false, 0⟩ = false := by decide +kernel

/-- The drain of a launch's parked rows: one is left, its rim request, none is left. -/
def drained (rows : List ParkedRow) : State :=
  let y : Sub := { sub0 false with pat := ⟨mkName 1 0x301 0, BitVec.ofNat 64 0xFFFFFFFF00000000, 0, 0, 0x10000001⟩ }
  let s0 : State := { er 2 0x100301 with tasks := [(6, { pend6 with subs := [y] })], sumps := [(3, { sump0 with rows := rows })] }
  let h := bindHome s0 1 (s0.ertEntry 1 2)
  s0.modRouter h fun r => { r with
    experts := [⟨1, 2, 2, 0, [], none⟩], entries := [⟨y.pat, .loc tgt0 false, [0, 0, 0, 0, 1], [h], 0⟩, ⟨y.pat, .home, [0, 0, 0, 0, 1], [], 1⟩] }

theorem wit_SumpDrains :
    (let s := drained [⟨pkt, 2⟩]
     drainReady s 1 2 0x10000001 = true ∧ (oldestRow s 1 2 0x10000001).map (fun x => (x.1.1, x.2)) = some (3, ⟨pkt, 2⟩)) ∧
    (let r : RimReq := ⟨3, 1, 16, .unpark 1 2 0x10000001⟩
     let s : State := { drained [⟨pkt, 2⟩] with rim := [r] }
     rimFirst s 0 r = true ∧ rimFits s r = true ∧ mayForward s 1 2 0x10000001 = true ∧ (kget s.sumps 3).isSome = true) ∧
    (let s := drained []
     drainReady s 1 2 0x10000001 = true ∧ (oldestRow s 1 2 0x10000001).isNone = true) := by decide +kernel

/-- The tables of `dv` admit every access to the areas of a partition. -/
theorem wit_AreaAccesses (part area n : Nat) (wr : Bool) : areaAdmits (drained [⟨pkt, 2⟩]) part area n wr = true := by
  have h : Config.areaUnit part area n % 2 ^ 24 ≤ 0xFFFFFF := by omega
  unfold areaAdmits admitted
  rw [List.any_eq_true]
  refine ⟨0, by decide, ?_⟩
  have e : kgetD (drained [⟨pkt, 2⟩]).mgmt.tables (0 * 64 + 0) 0 = 0xFFFFFF000000FF07 := by decide +kernel
  rw [e]
  cases wr <;> simp [tableAdmits, bitsNat] <;> omega

/-! The rows of a bundle as a whole, decoding, steps, reset -/

/-- An empty bundle, a malformed word, a word inside a bundle, a poisoned line, beyond the image. -/
theorem wit_BundleRowsComplete :
    fetchAt ts 0 ts.bank 0 = .bundle ⟨true, false, 1, []⟩ ∧ fallsOff ts.bank 0 1 [] = false ∧ ts.ctx.bkpt = false ∧
    ts.bank.imWords ≤ 8 ∧ 7 < ts.bank.imWords ∧
    imPoison { ts with poison := [(Space.imem 0).key 0] } 0 ts.bank 0 (headWords ((lineOf ts 0 ts.bank 0).drop 0)) = true ∧
    imPoison ts 0 ts.bank 7 (headWords ((lineOf ts 0 ts.bank 7).drop 7)) = false ∧
    (startPositions (lineOf ts 0 ts.bank 7)).contains 7 = true ∧
    (let s := writeBytes ts ((Space.imem 0).key 0) (leBytes 4 0xC1000000)
     (startPositions (lineOf s 0 s.bank 0)).contains 1 = false) := by decide +kernel

theorem wit_encoding :
    Instr.legal (.add sr) = true ∧ encode (.add sr) = some (.S, 0b0_0000000_000_0_00001_00010_00011_0000_0, none) ∧
    decodeSlot .S 0b0_0000000_000_0_00001_00010_00011_0000_0 none = .ok (.add sr) ∧
    takesExt .S 0b0_0000000_000_0_00001_00010_00011_0000_0 = false ∧ assigned .S 0x1C = false ∧ (0x1C000000#32).getLsbD 31 = false := by
  decide +kernel

/-! A step of a device with one thing to do. -/

/-- Core 0 of `ts`, running in cluster 0, with these words as its image. -/
def img (ws : List Nat) : State :=
  { writeBytes ts ((Space.imem 0).key 0) (ws.flatMap fun w => leBytes 4 w) with clusters := [(0, { Cluster.reset with enabled := true })] }

/-- Whether the model answers a next state. -/
def goesOn (r : Host.Outcome State Fault Refusal) : Bool := match r with | .next _ => true | _ => false

/-- A bundle of ADD, one that is malformed, one of an unassigned opcode, as the only move. -/
theorem wit_StepRunsDecoded :
    (let s := img [0xC1000000, 0x00008860]
     let u := State.modBank { s with ctx := issueCtx s 0 false } wake
     let v := u.modBank freshBank
     let i : List (Nat × Instr) := [(0, .add ⟨g0, 1, 2, 3, 0, none⟩)]
     pickMove s (moves s) = some (.issue 0 false) ∧ fetchAt u 0 u.bank u.ctx.addr = .bundle ⟨true, false, 2, i⟩ ∧
       conflicts u.bank ⟨true, false, 2, i⟩ = false ∧ brkHalts ⟨true, false, 2, i⟩ (u.core 0) u.bank = false ∧
       u.bank.sr = 0 ∧ fallsOff u.bank u.ctx.addr u.ctx.fall [.add ⟨g0, 1, 2, 3, 0, none⟩] = false ∧
       goesOn (runSlots exec (pendingSlots v.bank ⟨true, false, 2, i⟩) v) = true) ∧
    (let s := img [0]
     let u := State.modBank { s with ctx := issueCtx s 0 false } wake
     pickMove s (moves s) = some (.issue 0 false) ∧ fetchAt u 0 u.bank u.ctx.addr = .malformed) ∧
    (let s := img [0xC1000000, 0x1C000000]
     let u := State.modBank { s with ctx := issueCtx s 0 false } wake
     pickMove s (moves s) = some (.issue 0 false) ∧ fetchAt u 0 u.bank u.ctx.addr = .unassigned) := by decide +kernel

/-- A fetch beyond the image, one of a poisoned word, an ADD that writes what its group has written, a BRK under a debugger, and a bundle at the
image's last words. -/
theorem wit_StepRunsDecoded_stops :
    let at' := fun (s : State) => State.modBank { s with ctx := issueCtx s 0 false } wake
    let add : Bundle := ⟨true, false, 2, [(0, .add ⟨g0, 1, 2, 3, 0, none⟩)]⟩
    (let s := (img []).modBank fun b => { b with pc := 8 }
     pickMove s (moves s) = some (.issue 0 false) ∧ fetchAt (at' s) 0 (at' s).bank (at' s).ctx.addr = .outside) ∧
    (let s : State := { img [0x81000000] with poison := [(Space.imem 0).key 0] }
     pickMove s (moves s) = some (.issue 0 false) ∧ fetchAt (at' s) 0 (at' s).bank (at' s).ctx.addr = .poison) ∧
    (let s := (img [0xC1000000, 0x00008860]).modBank fun b => { b with wset := [.s 1] }
     pickMove s (moves s) = some (.issue 0 false) ∧ fetchAt (at' s) 0 (at' s).bank (at' s).ctx.addr = .bundle add ∧ conflicts (at' s).bank add = true) ∧
    (let s := (img [0x81800000]).modCore 0 fun c => { c with dbg := { c.dbg with den := true, brken := true } }
     pickMove s (moves s) = some (.issue 0 false) ∧ fetchAt (at' s) 0 (at' s).bank (at' s).ctx.addr = .bundle ⟨true, true, 1, []⟩ ∧
       conflicts (at' s).bank ⟨true, true, 1, []⟩ = false ∧ brkHalts ⟨true, true, 1, []⟩ ((at' s).core 0) (at' s).bank = true ∧
       ((at' s).core 0).running = some false) ∧
    (let s := (img ((List.range 6).map (fun _ => 0x81000000) ++ [0xC1000000, 0x00008860])).modBank fun b => { b with pc := 6 }
     pickMove s (moves s) = some (.issue 0 false) ∧ fetchAt (at' s) 0 (at' s).bank (at' s).ctx.addr = .bundle add ∧
       conflicts (at' s).bank add = false ∧ brkHalts add ((at' s).core 0) (at' s).bank = false ∧ (at' s).bank.sr = 0 ∧
       fallsOff (at' s).bank (at' s).ctx.addr (at' s).ctx.fall (add.slots.map fun k => k.2) = true) := by decide +kernel

/-- An arrival, a step of the device's own, the end of a task, and nothing to do, as the only move. -/
theorem wit_StepRunsDecoded_moves :
    (let s : State := { State.reset with agenda := [.ppsEdge] }
     pickMove s (moves s) = some (.arrive 0 .ppsEdge) ∧
       goesOn (exec (Event.instr .ppsEdge) { touchTraffic .ppsEdge { s with agenda := [] } with ev := some .ppsEdge }) = true) ∧
    (let s : State := { State.reset with fields := [(0, FieldSt.reset)], now := 4096 }
     pickMove s (moves s) = some (.own (.refreshWindow 0)) ∧ goesOn (exec (Event.instr (.refreshWindow 0)) { s with ev := some (.refreshWindow 0) }) = true) ∧
    (let s := (img [0x81000000]).modBank fun b => { b with status := .ending }
     pickMove s (moves s) = some (.finish 0 false)) ∧
    moves State.reset = [] := by decide +kernel

/-- Both members of a gang on core 0 and core 1 have reached a GBAR. -/
theorem wit_StepRunsDecoded_barrier :
    let s : State := { (img [0xC1000000, 0x67000000]).modBank (fun b => { b with gangSize := 2, gangId := 3 }) with gangs := [(3, ⟨[0, 1], [1, 1], [true, true]⟩)] }
    pickMove s (moves s) = some (.barrier 3) ∧ (kget s.gangs 3).isSome = true ∧
      goesOn (issueAll exec (leavers s (3, ⟨[0, 1], [1, 1], [true, true]⟩)) s) = true ∧ goesOn (bundleStep exec 0 false s) = true := by decide +kernel

/-- From the state that `withFetchWord` sets up, a step runs the word. -/
theorem test_step_runs_word :
    (match step (State.reset.withFetchWord 32 0x30000000) with
     | .next _ => true
     | _ => false) = true := by decide +kernel

theorem test_decode_table_word :
    decodeTableWord 32 0x30000000 = some (.vmulI8 { vr with d := 0, a := 0, b := 0 }) := by
  decide +kernel

theorem wit_StepKeepsMemory : Memory.wf State.reset.mem = true ∧ Memory.wf ts.mem = true := by decide +kernel

theorem wit_ResetValues : ctlListed (BitVec.ofNat 10 0x00C) = true ∧ ctlListed (BitVec.ofNat 10 0x07F) = true ∧ (0x07F : Nat) < 0x400 := by
  decide +kernel

end Sys2Proof.Tests
end

section
/-! The ranking of (score, index) pairs (R69): a pair has a key in a linear order, `ranksBefore` is the strict order of the keys, and an
insertion keeps a list in the order of its keys. -/

namespace Sys2Proof.Machine

open Sys2Proof

/-! ### Scores: the exact value of a score in a linear order -/

/-- The place of a score in the order of R69: a NaN at the bottom, then −∞, the exact finite values, and +∞. -/
def FVal.rankScore : FVal → WithBot (WithBot (WithTop ℚ))
  | .nan _ => ⊥
  | .inf true => ((⊥ : WithBot (WithTop ℚ)) : WithBot (WithBot (WithTop ℚ)))
  | .inf false => (((⊤ : WithTop ℚ) : WithBot (WithTop ℚ)) : WithBot (WithBot (WithTop ℚ)))
  | .fin n m e => ((((FVal.fin n m e).rat : WithTop ℚ) : WithBot (WithTop ℚ)) : WithBot (WithBot (WithTop ℚ)))

theorem FVal.rankScore_of_nan (x : FVal) (h : x.isNan = true) : x.rankScore = ⊥ := by
  cases x with
  | nan _ => rfl
  | inf _ => cases h
  | fin _ _ _ => cases h

theorem FVal.bot_lt_rankScore (x : FVal) (h : x.isNan = false) : ⊥ < x.rankScore := by
  match x with
  | .inf true => exact WithBot.bot_lt_coe _
  | .inf false => exact WithBot.bot_lt_coe _
  | .fin _ _ _ => exact WithBot.bot_lt_coe _

/-- A finite value is its integer at any exponent that does not exceed its own. -/
theorem FVal.at_mul_zpow (n : Bool) (m : Nat) (e q : Int) (h : m = 0 ∨ q ≤ e) :
    ((FVal.fin n m e).at q : ℚ) * 2 ^ q = (FVal.fin n m e).rat := by
  rcases h with rfl | h
  · simp [FVal.at, FVal.rat]
  · have hpow : (2 : ℚ) ^ (e - q).toNat * 2 ^ q = 2 ^ e := by
      rw [← zpow_natCast, Int.toNat_of_nonneg (by omega), ← zpow_add₀ two_ne_zero, Int.sub_add_cancel]
    simp only [FVal.at, FVal.rat]
    push_cast
    rw [mul_assoc, mul_assoc, hpow, mul_assoc]

/-- `expOr` bounds the exponent of a value, unless the value is zero. -/
theorem FVal.expOr_le (n : Bool) (m : Nat) (e d : Int) : m = 0 ∨ (FVal.fin n m e).expOr d ≤ e := by
  by_cases h : m = 0
  · exact .inl h
  · exact .inr (by simp [FVal.expOr, h])

/-- At a common exponent the integers of two finite values lie as the values do. -/
theorem FVal.at_lt_at_iff (n n' : Bool) (m m' : Nat) (e e' q : Int) (h : m = 0 ∨ q ≤ e) (h' : m' = 0 ∨ q ≤ e') :
    (FVal.fin n m e).at q < (FVal.fin n' m' e').at q ↔ (FVal.fin n m e).rat < (FVal.fin n' m' e').rat := by
  rw [← FVal.at_mul_zpow n m e q h, ← FVal.at_mul_zpow n' m' e' q h', mul_lt_mul_iff_left₀ (zpow_pos two_pos q), Int.cast_lt]

/-- The comparison of two finite values is the sign of the difference of their integers at a common exponent. -/
theorem FVal.cmp_fin (n n' : Bool) (m m' : Nat) (e e' : Int) :
    ∃ q : Int, (m = 0 ∨ q ≤ e) ∧ (m' = 0 ∨ q ≤ e') ∧
      (FVal.fin n m e).cmp (FVal.fin n' m' e') = ((FVal.fin n m e).at q - (FVal.fin n' m' e').at q).sign := by
  refine ⟨min ((FVal.fin n m e).expOr 0) ((FVal.fin n' m' e').expOr 0), ?_, ?_, ?_⟩
  · exact (FVal.expOr_le n m e 0).imp_right (le_trans (min_le_left _ _))
  · exact (FVal.expOr_le n' m' e' 0).imp_right (le_trans (min_le_right _ _))
  · simp only [FVal.cmp]
    split
    · next h => rw [Int.sign_eq_neg_one_of_neg h]
    · split
      · next h => rw [h, Int.sign_zero]
      · next h => rw [Int.sign_eq_one_of_pos (by omega)]

/-- `cmp` is 1 exactly where the second score lies below the first. -/
theorem FVal.cmp_pos_iff (x y : FVal) (hx : x.isNan = false) (hy : y.isNan = false) : 0 < x.cmp y ↔ y.rankScore < x.rankScore := by
  match x, y with
  | .fin n m e, .fin n' m' e' =>
    obtain ⟨q, hq, hq', hcmp⟩ := FVal.cmp_fin n n' m m' e e'
    rw [hcmp, Int.sign_pos_iff, Int.sub_pos, FVal.at_lt_at_iff n' n m' m e' e q hq' hq]
    simp [FVal.rankScore]
  | .inf n, .inf n' => cases n <;> cases n' <;> simp [FVal.cmp, FVal.rankScore, lt_top_iff_ne_top]
  | .inf n, .fin _ _ _ => cases n <;> simp [FVal.cmp, FVal.rankScore, lt_top_iff_ne_top]
  | .fin _ _ _, .inf n => cases n <;> simp [FVal.cmp, FVal.rankScore]

/-- Exchanging the operands negates the comparison. -/
theorem FVal.cmp_swap (x y : FVal) (hx : x.isNan = false) (hy : y.isNan = false) : y.cmp x = -x.cmp y := by
  match x, y with
  | .fin n m e, .fin n' m' e' =>
    simp only [FVal.cmp, min_comm ((FVal.fin n' m' e').expOr 0)]
    split_ifs <;> omega
  | .inf n, .inf n' => cases n <;> cases n' <;> rfl
  | .inf n, .fin _ _ _ => cases n <;> rfl
  | .fin _ _ _, .inf n => cases n <;> rfl

/-- `cmp` is −1 exactly where the first score lies below the second. -/
theorem FVal.cmp_neg_iff (x y : FVal) (hx : x.isNan = false) (hy : y.isNan = false) : x.cmp y < 0 ↔ x.rankScore < y.rankScore := by
  rw [← FVal.cmp_pos_iff y x hy hx, FVal.cmp_swap x y hx hy, neg_pos]

/-- `cmp` is 0 exactly where the scores are equal. -/
theorem FVal.cmp_eq_zero_iff (x y : FVal) (hx : x.isNan = false) (hy : y.isNan = false) : x.cmp y = 0 ↔ x.rankScore = y.rankScore := by
  simp only [le_antisymm_iff, ← not_lt, FVal.cmp_pos_iff x y hx hy, FVal.cmp_neg_iff x y hx hy]

/-! ### `ranksBefore`, case by case -/

/-- Two scores that are numbers: the higher first, then the lower index. -/
theorem ranksBefore_of_numbers (a b : Pair) (ha : (FFmt.f32.decode a.1).isNan = false) (hb : (FFmt.f32.decode b.1).isNan = false) :
    ranksBefore a b = (decide (0 < (FFmt.f32.decode a.1).cmp (FFmt.f32.decode b.1)) ||
      (decide ((FFmt.f32.decode a.1).cmp (FFmt.f32.decode b.1) = 0) && decide (a.2 < b.2))) := by
  simp only [ranksBefore, ha, hb, Bool.false_eq_true, if_false]
  rcases lt_trichotomy ((FFmt.f32.decode a.1).cmp (FFmt.f32.decode b.1)) 0 with h | h | h
  · simp [h, h.ne, h.not_gt]
  · simp [h]
  · simp [h]

/-- A NaN against a number: the number is first. -/
theorem ranksBefore_of_number_nan (a b : Pair) (ha : (FFmt.f32.decode a.1).isNan = false) (hb : (FFmt.f32.decode b.1).isNan = true) :
    ranksBefore a b = true ∧ ranksBefore b a = false := by
  simp [ranksBefore, ha, hb]

/-- Two NaNs: the lower index first. -/
theorem ranksBefore_of_nans (a b : Pair) (ha : (FFmt.f32.decode a.1).isNan = true) (hb : (FFmt.f32.decode b.1).isNan = true) :
    ranksBefore a b = decide (a.2 < b.2) := by
  simp [ranksBefore, ha, hb]

/-! ### The key of a pair -/

/-- The key of a pair: its score, higher first, then its index, lower first. -/
def rankKey (p : Pair) : (WithBot (WithBot (WithTop ℚ)))ᵒᵈ ×ₗ ℕ := toLex (OrderDual.toDual (FFmt.f32.decode p.1).rankScore, p.2)

theorem rankKey_lt_iff (a b : Pair) : rankKey a < rankKey b ↔
    (FFmt.f32.decode b.1).rankScore < (FFmt.f32.decode a.1).rankScore ∨
      (FFmt.f32.decode a.1).rankScore = (FFmt.f32.decode b.1).rankScore ∧ a.2 < b.2 := by
  simp [rankKey, Prod.Lex.toLex_lt_toLex]

/-- `ranksBefore` is the strict order of the keys. -/
theorem ranksBefore_iff_rankKey_lt (a b : Pair) : ranksBefore a b = true ↔ rankKey a < rankKey b := by
  rw [rankKey_lt_iff]
  cases ha : (FFmt.f32.decode a.1).isNan <;> cases hb : (FFmt.f32.decode b.1).isNan
  case false.false =>
    rw [ranksBefore_of_numbers a b ha hb, ← FVal.cmp_pos_iff _ _ ha hb, ← FVal.cmp_eq_zero_iff _ _ ha hb]
    simp
  case false.true =>
    simp [(ranksBefore_of_number_nan a b ha hb).1, FVal.rankScore_of_nan _ hb, FVal.bot_lt_rankScore _ ha]
  case true.false =>
    simp [(ranksBefore_of_number_nan b a hb ha).2, FVal.rankScore_of_nan _ ha, (FVal.bot_lt_rankScore _ hb).ne]
  case true.true =>
    simp [ranksBefore_of_nans a b ha hb, FVal.rankScore_of_nan _ ha, FVal.rankScore_of_nan _ hb]

theorem not_ranksBefore_iff_rankKey_le (a b : Pair) : ranksBefore b a = false ↔ rankKey a ≤ rankKey b := by
  rw [← not_lt, ← ranksBefore_iff_rankKey_lt, Bool.not_eq_true]

/-- Pairs that only the order of the two zeros separates have one key. -/
theorem rankKey_eq_of_tiedBefore (a b : Pair) (h : tiedBefore a b = true) : rankKey a = rankKey b := by
  simp only [tiedBefore, Bool.and_eq_true, Bool.not_eq_true', decide_eq_true_eq] at h
  obtain ⟨⟨⟨⟨⟨hidx, -⟩, ha⟩, hb⟩, hcmp⟩, -⟩ := h
  rw [rankKey, rankKey, (FVal.cmp_eq_zero_iff _ _ ha hb).mp hcmp, hidx]

/-! ### SortByRank -/

/-- The list stands in the order of its keys. -/
abbrev RankSorted (l : List Pair) : Prop := l.Pairwise fun a b => rankKey a ≤ rankKey b

theorem insertRank_perm (p : Pair) (l : List Pair) : (insertRank p l).Perm (p :: l) := by
  induction l with
  | nil => exact .refl _
  | cons q r ih =>
    rw [insertRank]
    split
    · exact (ih.cons q).trans (.swap p q r)
    · exact .refl _

theorem insertRank_sorted (p : Pair) (l : List Pair) (hl : RankSorted l) : RankSorted (insertRank p l) := by
  induction l with
  | nil => exact List.pairwise_singleton _ p
  | cons q r ih =>
    obtain ⟨hqr, hr⟩ := List.pairwise_cons.mp hl
    rw [insertRank]
    split
    · next h =>
      have hqp : rankKey q ≤ rankKey p := by
        rcases (Bool.or_eq_true _ _).mp h with h | h
        · exact ((ranksBefore_iff_rankKey_lt q p).mp h).le
        · exact (rankKey_eq_of_tiedBefore q p h).le
      refine List.pairwise_cons.mpr ⟨fun x hx => ?_, ih hr⟩
      rcases List.mem_cons.mp ((insertRank_perm p r).mem_iff.mp hx) with rfl | hx
      · exact hqp
      · exact hqr x hx
    · next h =>
      have hpq : rankKey p ≤ rankKey q := by
        rw [← not_ranksBefore_iff_rankKey_le]
        simp only [Bool.or_eq_true, not_or, Bool.not_eq_true] at h
        exact h.1
      refine List.pairwise_cons.mpr ⟨fun x hx => ?_, hl⟩
      rcases List.mem_cons.mp hx with rfl | hx
      · exact hpq
      · exact hpq.trans (hqr x hx)

/-- SortByRank keeps every pair of a list. -/
theorem sortByRank_perm (l : List Pair) : (sortByRank l).Perm l := by
  induction l with
  | nil => exact .refl _
  | cons p r ih => exact (insertRank_perm p _).trans (ih.cons p)

/-- SortByRank puts a list into rank order. -/
theorem sortByRank_sorted (l : List Pair) : RankSorted (sortByRank l) := by
  induction l with
  | nil => exact .nil
  | cons p r ih => exact insertRank_sorted p _ ih

/-! ### Written scores and unfilled entries -/

theorem writtenScore_of_nan (v : Nat) (h : (FFmt.f32.decode v).isNan = true) : writtenScore v = 0x7FC00000 := by
  rw [writtenScore, if_pos h]
  rfl

/-- Settles O30: `ranksBefore` is read off case by case, and SortByRank is an insertion in the order of the keys. -/
theorem rankOrder : Obligations.RankOrder := by
  unfold Obligations.RankOrder
  refine ⟨fun a b => ⟨fun ha hb => ?_, ranksBefore_of_number_nan a b, ranksBefore_of_nans a b⟩, by decide, writtenScore_of_nan,
    by decide, rfl, fun l => ⟨sortByRank_perm l, (sortByRank_sorted l).imp fun {a b} h => (not_ranksBefore_iff_rankKey_le a b).mpr h⟩⟩
  rw [ranksBefore_of_numbers a b ha hb]
  refine ⟨fun h => ?_, fun h => ?_, fun h => ?_⟩
  · simp [h]
  · simp [h]
  · simp [h.ne, h.not_gt]

end Sys2Proof.Machine
end

section
/-! The unassigned opcode values (R167): whether an opcode names an instruction depends on its class alone, not on the other bits of the slot
word, so the decoder refuses every word of an opcode that the class leaves out. -/

namespace Sys2Proof.Machine

open Sys2Proof

/-! ### The opcode maps -/

theorem isSome_readS (op : Nat) (w : Word) (x : Option Word) : (readS op w x).isSome = assigned .S op := by
  unfold assigned readSlot readS
  split <;> rfl

theorem isSome_readV (op : Nat) (w : Word) (x : Option Word) : (readV op w x).isSome = assigned .V op := by
  unfold assigned readSlot readV
  split <;> rfl

theorem isSome_readM (op : Nat) (w : Word) (x : Option Word) : (readM op w x).isSome = assigned .M op := by
  unfold assigned readSlot readM
  split <;> rfl

theorem isSome_readC (op : Nat) (w : Word) (x : Option Word) : (readC op w x).isSome = assigned .C op := by
  unfold assigned readSlot readC
  split <;> rfl

/-- The zero words by which `assigned` asks the map stand for all words. -/
theorem isSome_readSlot (c : SlotClass) (op : Nat) (w : Word) (x : Option Word) : (readSlot c op w x).isSome = assigned c op :=
  match c with
  | .S => isSome_readS op w x
  | .V => isSome_readV op w x
  | .M => isSome_readM op w x
  | .C => isSome_readC op w x

/-! ### A slot word of an unassigned opcode -/

theorem readSlot_eq_none_iff (c : SlotClass) (op : Nat) (w : Word) (x : Option Word) : readSlot c op w x = none ↔ assigned c op = false := by
  rw [← isSome_readSlot c op w x, Option.isSome_eq_false_iff, Option.isNone_iff_eq_none]

/-- An unassigned opcode takes no extension word, whatever bit 0 of its word holds (R146). -/
theorem takesExt_of_unassigned (c : SlotClass) (w : Word) (h : assigned c (opcOf w).toNat = false) : takesExt c w = false := by
  simp [takesExt, h]

/-- The opcode is checked before the fields (R147 step 3). -/
theorem decodeSlot_of_unassigned (c : SlotClass) (w : Word) (x : Option Word) (h : assigned c (opcOf w).toNat = false) :
    decodeSlot c w x = .error .illegalOpcode := by
  rw [decodeSlot, (readSlot_eq_none_iff c _ w x).mpr h]

/-! ### The trap -/

theorem exec_unassignedOpcode_trapped (s : State) : ∃ t, exec .unassignedOpcode s = .next t ∧ Trapped s t causeIllegalOpcode 0 :=
  ⟨takeTrapWith s causeIllegalOpcode 0 0, rfl, trapped_takeTrapWith s causeIllegalOpcode 0 0⟩

/-- Settles O54: the values and their numbers are read off the opcode maps, 128 values for each class; a slot word with an unassigned one is refused
before its fields are looked at. -/
theorem unassignedOpcodes : Obligations.UnassignedOpcodes := by
  unfold Obligations.UnassignedOpcodes
  refine ⟨?valuesS, ?valuesV, ?valuesM, ?valuesC, ?counts, fun c w x h => ⟨takesExt_of_unassigned c w h, decodeSlot_of_unassigned c w x h⟩,
    exec_unassignedOpcode_trapped⟩
  case valuesS => decide
  case valuesV => decide
  case valuesM => decide
  case valuesC => decide
  case counts => decide +kernel

end Sys2Proof.Machine
end

section
/-! Encoding and decoding (R145 to R165): the fields of each slot format stand in bits of its word that do not overlap and leave none out, so the
decoder reads back what the encoder wrote, and the encoder writes what the decoder read. -/

namespace Sys2Proof

/-! ### SR (R150) -/

theorem SRForm.getLsbD_word (f : SRForm) (op : BitVec 7) (i : Nat) : (f.word op).getLsbD i =
    (0#1 ++ op ++ f.g.p ++ BitVec.ofBool f.g.neg ++ f.d ++ f.a ++ f.b ++ f.fn ++ BitVec.ofBool f.x.isSome).getLsbD i := rfl

theorem SRForm.read_word (f : SRForm) (op : BitVec 7) : SRForm.read (f.word op) f.x = f := by
  obtain ⟨⟨p, n⟩, _⟩ := f
  simp only [SRForm.read, Guard.read, SRForm.mk.injEq, Guard.mk.injEq, BitVec.eq_of_getLsbD_eq_iff, SRForm.getLsbD_word, BitVec.getLsbD_append,
    BitVec.getLsbD_extractLsb', BitVec.getLsbD_ofBool]
  grind

theorem SRForm.frame_word (f : SRForm) (op : BitVec 7) :
    opcOf (f.word op) = op ∧ (f.word op).getLsbD 31 = false ∧ (f.word op).getLsbD 0 = f.x.isSome := by
  simp only [opcOf, BitVec.eq_of_getLsbD_eq_iff, SRForm.getLsbD_word, BitVec.getLsbD_append, BitVec.getLsbD_extractLsb', BitVec.getLsbD_ofBool]
  grind

@[simp] theorem SRForm.read_x (w : Word) (x : Option Word) : (SRForm.read w x).x = x := rfl

theorem SRForm.word_read (w : Word) (x : Option Word) {op : BitVec 7} (hop : (opcOf w).toNat = op.toNat) (h31 : w.getLsbD 31 = false)
    (h0 : w.getLsbD 0 = x.isSome) : (SRForm.read w x).word op = w := by
  obtain rfl := BitVec.eq_of_toNat_eq hop
  refine BitVec.eq_of_getLsbD_eq fun i hi => ?_
  simp only [SRForm.getLsbD_word, SRForm.read, Guard.read, opcOf, BitVec.getLsbD_append, BitVec.getLsbD_extractLsb', BitVec.getLsbD_ofBool]
  grind

/-! ### LI (R150) -/

theorem LIForm.getLsbD_word (f : LIForm) (op : BitVec 7) (i : Nat) : (f.word op).getLsbD i =
    (0#1 ++ op ++ f.g.p ++ BitVec.ofBool f.g.neg ++ f.d ++ f.imm14 ++ BitVec.ofBool f.x.isSome).getLsbD i := rfl

theorem LIForm.read_word (f : LIForm) (op : BitVec 7) : LIForm.read (f.word op) f.x = f := by
  obtain ⟨⟨p, n⟩, _⟩ := f
  simp only [LIForm.read, Guard.read, LIForm.mk.injEq, Guard.mk.injEq, BitVec.eq_of_getLsbD_eq_iff, LIForm.getLsbD_word, BitVec.getLsbD_append,
    BitVec.getLsbD_extractLsb', BitVec.getLsbD_ofBool]
  grind

theorem LIForm.frame_word (f : LIForm) (op : BitVec 7) :
    opcOf (f.word op) = op ∧ (f.word op).getLsbD 31 = false ∧ (f.word op).getLsbD 0 = f.x.isSome := by
  simp only [opcOf, BitVec.eq_of_getLsbD_eq_iff, LIForm.getLsbD_word, BitVec.getLsbD_append, BitVec.getLsbD_extractLsb', BitVec.getLsbD_ofBool]
  grind

@[simp] theorem LIForm.read_x (w : Word) (x : Option Word) : (LIForm.read w x).x = x := rfl

theorem LIForm.word_read (w : Word) (x : Option Word) {op : BitVec 7} (hop : (opcOf w).toNat = op.toNat) (h31 : w.getLsbD 31 = false)
    (h0 : w.getLsbD 0 = x.isSome) : (LIForm.read w x).word op = w := by
  obtain rfl := BitVec.eq_of_toNat_eq hop
  refine BitVec.eq_of_getLsbD_eq fun i hi => ?_
  simp only [LIForm.getLsbD_word, LIForm.read, Guard.read, opcOf, BitVec.getLsbD_append, BitVec.getLsbD_extractLsb', BitVec.getLsbD_ofBool]
  grind

/-! ### SM (R151) -/

theorem SMForm.getLsbD_word (f : SMForm) (op : BitVec 7) (i : Nat) : (f.word op).getLsbD i =
    (0#1 ++ op ++ f.g.p ++ BitVec.ofBool f.g.neg ++ f.d ++ f.base ++ f.off ++ BitVec.ofBool f.x.isSome).getLsbD i := rfl

theorem SMForm.read_word (f : SMForm) (op : BitVec 7) : SMForm.read (f.word op) f.x = f := by
  obtain ⟨⟨p, n⟩, _⟩ := f
  simp only [SMForm.read, Guard.read, SMForm.mk.injEq, Guard.mk.injEq, BitVec.eq_of_getLsbD_eq_iff, SMForm.getLsbD_word, BitVec.getLsbD_append,
    BitVec.getLsbD_extractLsb', BitVec.getLsbD_ofBool]
  grind

theorem SMForm.frame_word (f : SMForm) (op : BitVec 7) :
    opcOf (f.word op) = op ∧ (f.word op).getLsbD 31 = false ∧ (f.word op).getLsbD 0 = f.x.isSome := by
  simp only [opcOf, BitVec.eq_of_getLsbD_eq_iff, SMForm.getLsbD_word, BitVec.getLsbD_append, BitVec.getLsbD_extractLsb', BitVec.getLsbD_ofBool]
  grind

@[simp] theorem SMForm.read_x (w : Word) (x : Option Word) : (SMForm.read w x).x = x := rfl

theorem SMForm.word_read (w : Word) (x : Option Word) {op : BitVec 7} (hop : (opcOf w).toNat = op.toNat) (h31 : w.getLsbD 31 = false)
    (h0 : w.getLsbD 0 = x.isSome) : (SMForm.read w x).word op = w := by
  obtain rfl := BitVec.eq_of_toNat_eq hop
  refine BitVec.eq_of_getLsbD_eq fun i hi => ?_
  simp only [SMForm.getLsbD_word, SMForm.read, Guard.read, opcOf, BitVec.getLsbD_append, BitVec.getLsbD_extractLsb', BitVec.getLsbD_ofBool]
  grind

/-! ### LDS (R151) -/

theorem LDSForm.getLsbD_word (f : LDSForm) (op : BitVec 7) (i : Nat) : (f.word op).getLsbD i =
    (0#1 ++ op ++ f.g.p ++ BitVec.ofBool f.g.neg ++ f.d ++ f.base ++ f.off ++ BitVec.ofBool f.e ++ BitVec.ofBool f.x.isSome).getLsbD i := rfl

theorem LDSForm.read_word (f : LDSForm) (op : BitVec 7) : LDSForm.read (f.word op) f.x = f := by
  obtain ⟨⟨p, n⟩, _⟩ := f
  simp only [LDSForm.read, Guard.read, LDSForm.mk.injEq, Guard.mk.injEq, BitVec.eq_of_getLsbD_eq_iff, LDSForm.getLsbD_word, BitVec.getLsbD_append,
    BitVec.getLsbD_extractLsb', BitVec.getLsbD_ofBool]
  grind

theorem LDSForm.frame_word (f : LDSForm) (op : BitVec 7) :
    opcOf (f.word op) = op ∧ (f.word op).getLsbD 31 = false ∧ (f.word op).getLsbD 0 = f.x.isSome := by
  simp only [opcOf, BitVec.eq_of_getLsbD_eq_iff, LDSForm.getLsbD_word, BitVec.getLsbD_append, BitVec.getLsbD_extractLsb', BitVec.getLsbD_ofBool]
  grind

@[simp] theorem LDSForm.read_x (w : Word) (x : Option Word) : (LDSForm.read w x).x = x := rfl

theorem LDSForm.word_read (w : Word) (x : Option Word) {op : BitVec 7} (hop : (opcOf w).toNat = op.toNat) (h31 : w.getLsbD 31 = false)
    (h0 : w.getLsbD 0 = x.isSome) : (LDSForm.read w x).word op = w := by
  obtain rfl := BitVec.eq_of_toNat_eq hop
  refine BitVec.eq_of_getLsbD_eq fun i hi => ?_
  simp only [LDSForm.getLsbD_word, LDSForm.read, Guard.read, opcOf, BitVec.getLsbD_append, BitVec.getLsbD_extractLsb', BitVec.getLsbD_ofBool]
  grind

/-! ### SB (R152) -/

theorem SBForm.getLsbD_word (f : SBForm) (op : BitVec 7) (i : Nat) : (f.word op).getLsbD i =
    (0#1 ++ op ++ f.g.p ++ BitVec.ofBool f.g.neg ++ f.off).getLsbD i := rfl

theorem SBForm.read_word (f : SBForm) (op : BitVec 7) (x : Option Word) : SBForm.read (f.word op) x = f := by
  obtain ⟨⟨p, n⟩, _⟩ := f
  simp only [SBForm.read, Guard.read, SBForm.mk.injEq, Guard.mk.injEq, BitVec.eq_of_getLsbD_eq_iff, SBForm.getLsbD_word, BitVec.getLsbD_append,
    BitVec.getLsbD_extractLsb', BitVec.getLsbD_ofBool]
  grind

theorem SBForm.frame_word (f : SBForm) (op : BitVec 7) :
    opcOf (f.word op) = op ∧ (f.word op).getLsbD 31 = false := by
  simp only [opcOf, BitVec.eq_of_getLsbD_eq_iff, SBForm.getLsbD_word, BitVec.getLsbD_append, BitVec.getLsbD_extractLsb', BitVec.getLsbD_ofBool]
  grind

theorem SBForm.word_read (w : Word) (x : Option Word) {op : BitVec 7} (hop : (opcOf w).toNat = op.toNat) (h31 : w.getLsbD 31 = false) :
    (SBForm.read w x).word op = w := by
  obtain rfl := BitVec.eq_of_toNat_eq hop
  refine BitVec.eq_of_getLsbD_eq fun i hi => ?_
  simp only [SBForm.getLsbD_word, SBForm.read, Guard.read, opcOf, BitVec.getLsbD_append, BitVec.getLsbD_extractLsb', BitVec.getLsbD_ofBool]
  grind

/-! ### SL (R153) -/

theorem SLForm.getLsbD_word (f : SLForm) (op : BitVec 7) (i : Nat) : (f.word op).getLsbD i =
    (0#1 ++ op ++ f.g.p ++ BitVec.ofBool f.g.neg ++ f.cnt ++ f.lvl ++ f.endOff).getLsbD i := rfl

theorem SLForm.read_word (f : SLForm) (op : BitVec 7) : SLForm.read (f.word op) f.x = f := by
  obtain ⟨⟨p, n⟩, _⟩ := f
  simp only [SLForm.read, Guard.read, SLForm.mk.injEq, Guard.mk.injEq, BitVec.eq_of_getLsbD_eq_iff, SLForm.getLsbD_word, BitVec.getLsbD_append,
    BitVec.getLsbD_extractLsb', BitVec.getLsbD_ofBool]
  grind

theorem SLForm.frame_word (f : SLForm) (op : BitVec 7) :
    opcOf (f.word op) = op ∧ (f.word op).getLsbD 31 = false := by
  simp only [opcOf, BitVec.eq_of_getLsbD_eq_iff, SLForm.getLsbD_word, BitVec.getLsbD_append, BitVec.getLsbD_extractLsb', BitVec.getLsbD_ofBool]
  grind

@[simp] theorem SLForm.read_x (w : Word) (x : Option Word) : (SLForm.read w x).x = x := rfl

theorem SLForm.word_read (w : Word) (x : Option Word) {op : BitVec 7} (hop : (opcOf w).toNat = op.toNat) (h31 : w.getLsbD 31 = false) :
    (SLForm.read w x).word op = w := by
  obtain rfl := BitVec.eq_of_toNat_eq hop
  refine BitVec.eq_of_getLsbD_eq fun i hi => ?_
  simp only [SLForm.getLsbD_word, SLForm.read, Guard.read, opcOf, BitVec.getLsbD_append, BitVec.getLsbD_extractLsb', BitVec.getLsbD_ofBool]
  grind

/-! ### SY (R154) -/

theorem SYForm.getLsbD_word (f : SYForm) (op : BitVec 7) (i : Nat) : (f.word op).getLsbD i =
    (0#1 ++ op ++ f.g.p ++ BitVec.ofBool f.g.neg ++ f.d ++ f.a ++ f.imm).getLsbD i := rfl

theorem SYForm.read_word (f : SYForm) (op : BitVec 7) (x : Option Word) : SYForm.read (f.word op) x = f := by
  obtain ⟨⟨p, n⟩, _⟩ := f
  simp only [SYForm.read, Guard.read, SYForm.mk.injEq, Guard.mk.injEq, BitVec.eq_of_getLsbD_eq_iff, SYForm.getLsbD_word, BitVec.getLsbD_append,
    BitVec.getLsbD_extractLsb', BitVec.getLsbD_ofBool]
  grind

theorem SYForm.frame_word (f : SYForm) (op : BitVec 7) :
    opcOf (f.word op) = op ∧ (f.word op).getLsbD 31 = false := by
  simp only [opcOf, BitVec.eq_of_getLsbD_eq_iff, SYForm.getLsbD_word, BitVec.getLsbD_append, BitVec.getLsbD_extractLsb', BitVec.getLsbD_ofBool]
  grind

theorem SYForm.word_read (w : Word) (x : Option Word) {op : BitVec 7} (hop : (opcOf w).toNat = op.toNat) (h31 : w.getLsbD 31 = false) :
    (SYForm.read w x).word op = w := by
  obtain rfl := BitVec.eq_of_toNat_eq hop
  refine BitVec.eq_of_getLsbD_eq fun i hi => ?_
  simp only [SYForm.getLsbD_word, SYForm.read, Guard.read, opcOf, BitVec.getLsbD_append, BitVec.getLsbD_extractLsb', BitVec.getLsbD_ofBool]
  grind

/-! ### VR (R156) -/

theorem VRForm.getLsbD_word (f : VRForm) (op : BitVec 7) (i : Nat) : (f.word op).getLsbD i =
    (0#1 ++ op ++ f.g.p ++ BitVec.ofBool f.g.neg ++ f.d ++ f.a ++ f.b ++ f.msk ++ BitVec.ofBool f.q ++ BitVec.ofBool f.x.isSome).getLsbD i := rfl

theorem VRForm.read_word (f : VRForm) (op : BitVec 7) : VRForm.read (f.word op) f.x = f := by
  obtain ⟨⟨p, n⟩, _⟩ := f
  simp only [VRForm.read, Guard.read, VRForm.mk.injEq, Guard.mk.injEq, BitVec.eq_of_getLsbD_eq_iff, VRForm.getLsbD_word, BitVec.getLsbD_append,
    BitVec.getLsbD_extractLsb', BitVec.getLsbD_ofBool]
  grind

theorem VRForm.frame_word (f : VRForm) (op : BitVec 7) :
    opcOf (f.word op) = op ∧ (f.word op).getLsbD 31 = false ∧ (f.word op).getLsbD 0 = f.x.isSome := by
  simp only [opcOf, BitVec.eq_of_getLsbD_eq_iff, VRForm.getLsbD_word, BitVec.getLsbD_append, BitVec.getLsbD_extractLsb', BitVec.getLsbD_ofBool]
  grind

@[simp] theorem VRForm.read_x (w : Word) (x : Option Word) : (VRForm.read w x).x = x := rfl

theorem VRForm.word_read (w : Word) (x : Option Word) {op : BitVec 7} (hop : (opcOf w).toNat = op.toNat) (h31 : w.getLsbD 31 = false)
    (h0 : w.getLsbD 0 = x.isSome) : (VRForm.read w x).word op = w := by
  obtain rfl := BitVec.eq_of_toNat_eq hop
  refine BitVec.eq_of_getLsbD_eq fun i hi => ?_
  simp only [VRForm.getLsbD_word, VRForm.read, Guard.read, opcOf, BitVec.getLsbD_append, BitVec.getLsbD_extractLsb', BitVec.getLsbD_ofBool]
  grind

/-! ### VM (R158) -/

theorem VMForm.getLsbD_word (f : VMForm) (op : BitVec 7) (i : Nat) : (f.word op).getLsbD i =
    (0#1 ++ op ++ f.g.p ++ BitVec.ofBool f.g.neg ++ f.d ++ f.ar ++ f.off ++ f.msk ++ BitVec.ofBool f.pi ++ BitVec.ofBool f.x.isSome).getLsbD i := rfl

theorem VMForm.read_word (f : VMForm) (op : BitVec 7) : VMForm.read (f.word op) f.x = f := by
  obtain ⟨⟨p, n⟩, _⟩ := f
  simp only [VMForm.read, Guard.read, VMForm.mk.injEq, Guard.mk.injEq, BitVec.eq_of_getLsbD_eq_iff, VMForm.getLsbD_word, BitVec.getLsbD_append,
    BitVec.getLsbD_extractLsb', BitVec.getLsbD_ofBool]
  grind

theorem VMForm.frame_word (f : VMForm) (op : BitVec 7) :
    opcOf (f.word op) = op ∧ (f.word op).getLsbD 31 = false ∧ (f.word op).getLsbD 0 = f.x.isSome := by
  simp only [opcOf, BitVec.eq_of_getLsbD_eq_iff, VMForm.getLsbD_word, BitVec.getLsbD_append, BitVec.getLsbD_extractLsb', BitVec.getLsbD_ofBool]
  grind

@[simp] theorem VMForm.read_x (w : Word) (x : Option Word) : (VMForm.read w x).x = x := rfl

theorem VMForm.word_read (w : Word) (x : Option Word) {op : BitVec 7} (hop : (opcOf w).toNat = op.toNat) (h31 : w.getLsbD 31 = false)
    (h0 : w.getLsbD 0 = x.isSome) : (VMForm.read w x).word op = w := by
  obtain rfl := BitVec.eq_of_toNat_eq hop
  refine BitVec.eq_of_getLsbD_eq fun i hi => ?_
  simp only [VMForm.getLsbD_word, VMForm.read, Guard.read, opcOf, BitVec.getLsbD_append, BitVec.getLsbD_extractLsb', BitVec.getLsbD_ofBool]
  grind

/-! ### M (R161) -/

theorem MForm.getLsbD_word (f : MForm) (op : BitVec 7) (i : Nat) : (f.word op).getLsbD i =
    (0#1 ++ op ++ f.g.p ++ BitVec.ofBool f.g.neg ++ f.z ++ f.as ++ BitVec.ofBool f.asrc ++ BitVec.ofBool f.mrg ++ f.opt ++ f.rows).getLsbD i := rfl

theorem MForm.read_word (f : MForm) (op : BitVec 7) : MForm.read (f.word op) f.x = f := by
  obtain ⟨⟨p, n⟩, _⟩ := f
  simp only [MForm.read, Guard.read, MForm.mk.injEq, Guard.mk.injEq, BitVec.eq_of_getLsbD_eq_iff, MForm.getLsbD_word, BitVec.getLsbD_append,
    BitVec.getLsbD_extractLsb', BitVec.getLsbD_ofBool]
  grind

theorem MForm.frame_word (f : MForm) (op : BitVec 7) :
    opcOf (f.word op) = op ∧ (f.word op).getLsbD 31 = false := by
  simp only [opcOf, BitVec.eq_of_getLsbD_eq_iff, MForm.getLsbD_word, BitVec.getLsbD_append, BitVec.getLsbD_extractLsb', BitVec.getLsbD_ofBool]
  grind

@[simp] theorem MForm.read_x (w : Word) (x : Word) : (MForm.read w x).x = x := rfl

theorem MForm.word_read (w : Word) (x : Word) {op : BitVec 7} (hop : (opcOf w).toNat = op.toNat) (h31 : w.getLsbD 31 = false) :
    (MForm.read w x).word op = w := by
  obtain rfl := BitVec.eq_of_toNat_eq hop
  refine BitVec.eq_of_getLsbD_eq fun i hi => ?_
  simp only [MForm.getLsbD_word, MForm.read, Guard.read, opcOf, BitVec.getLsbD_append, BitVec.getLsbD_extractLsb', BitVec.getLsbD_ofBool]
  grind

/-! ### C (R164) -/

theorem CForm.getLsbD_word (f : CForm) (op : BitVec 7) (i : Nat) : (f.word op).getLsbD i =
    (0#1 ++ op ++ f.g.p ++ BitVec.ofBool f.g.neg ++ f.ca ++ f.cb ++ f.grp ++ f.opt ++ BitVec.ofBool f.x.isSome).getLsbD i := rfl

theorem CForm.read_word (f : CForm) (op : BitVec 7) : CForm.read (f.word op) f.x = f := by
  obtain ⟨⟨p, n⟩, _⟩ := f
  simp only [CForm.read, Guard.read, CForm.mk.injEq, Guard.mk.injEq, BitVec.eq_of_getLsbD_eq_iff, CForm.getLsbD_word, BitVec.getLsbD_append,
    BitVec.getLsbD_extractLsb', BitVec.getLsbD_ofBool]
  grind

theorem CForm.frame_word (f : CForm) (op : BitVec 7) :
    opcOf (f.word op) = op ∧ (f.word op).getLsbD 31 = false ∧ (f.word op).getLsbD 0 = f.x.isSome := by
  simp only [opcOf, BitVec.eq_of_getLsbD_eq_iff, CForm.getLsbD_word, BitVec.getLsbD_append, BitVec.getLsbD_extractLsb', BitVec.getLsbD_ofBool]
  grind

@[simp] theorem CForm.read_x (w : Word) (x : Option Word) : (CForm.read w x).x = x := rfl

theorem CForm.word_read (w : Word) (x : Option Word) {op : BitVec 7} (hop : (opcOf w).toNat = op.toNat) (h31 : w.getLsbD 31 = false)
    (h0 : w.getLsbD 0 = x.isSome) : (CForm.read w x).word op = w := by
  obtain rfl := BitVec.eq_of_toNat_eq hop
  refine BitVec.eq_of_getLsbD_eq fun i hi => ?_
  simp only [CForm.getLsbD_word, CForm.read, Guard.read, opcOf, BitVec.getLsbD_append, BitVec.getLsbD_extractLsb', BitVec.getLsbD_ofBool]
  grind

/-! ### A slot word and its instruction -/

open Sys2Proof.Machine

/-- The rule of R146 for the extension word of an assigned opcode. -/
def extBit (c : SlotClass) (op : Nat) (w : Word) : Bool :=
  match c with
  | .S => (sHasX op && w.getLsbD 0) || decide (op = 0x26)
  | .V => w.getLsbD 0
  | .M => true
  | .C => w.getLsbD 0

theorem extBit_of_sHasX {op : Nat} (h : sHasX op = true) (w : Word) : extBit .S op w = w.getLsbD 0 := by
  have hne : op ≠ 0x26 := by
    rintro rfl
    cases h
  simp [extBit, h, hne]

theorem takesExt_of_readSlot {c : SlotClass} {w : Word} {x : Option Word} {i : Instr} (h : readSlot c (opcOf w).toNat w x = some i) :
    takesExt c w = extBit c (opcOf w).toNat w := by
  have ha : assigned c (opcOf w).toNat = true := by rw [← isSome_readSlot c _ w x, h, Option.isSome_some]
  cases c <;> simp [takesExt, extBit, ha]

/-- The words of an instruction decode to it again, and the slot word takes an extension word where there is one. -/
def Instr.ReadsBack (i : Instr) : Prop := ∀ c w x, encode i = some (c, w, x) → takesExt c w = x.isSome ∧ decodeSlot c w x = .ok i

theorem readsBack_of_readSlot {c : SlotClass} {op : BitVec 7} {w : Word} {x : Option Word} {i : Instr} (henc : encode i = some (c, w, x))
    (hop : opcOf w = op) (h31 : w.getLsbD 31 = false) (hread : readSlot c op.toNat w x = some i) (hext : extBit c op.toNat w = x.isSome)
    (hlegal : i.legal = true) : i.ReadsBack := by
  subst hop
  intro c' w' x' h
  obtain ⟨rfl, rfl, rfl⟩ : c = c' ∧ w = w' ∧ x = x' := by simpa [henc] using h
  refine ⟨(takesExt_of_readSlot hread).trans hext, ?_⟩
  rw [decodeSlot, hread]
  simp only [h31, hlegal, Bool.not_false, Bool.and_self, if_true]

/-! ### Decoding what was encoded, format by format -/

section
variable {c : SlotClass} {op : BitVec 7}

theorem SRForm.readsBack {mk : SRForm → Instr} {f : SRForm} (henc : encode (mk f) = some (c, f.word op, f.x))
    (hread : ∀ w x, readSlot c op.toNat w x = some (mk (.read w x))) (hX : ∀ w, extBit c op.toNat w = w.getLsbD 0)
    (h : (mk f).legal = true) : (mk f).ReadsBack := by
  obtain ⟨hop, h31, h0⟩ := f.frame_word op
  exact readsBack_of_readSlot henc hop h31 (by rw [hread, f.read_word]) (by rw [hX, h0]) h

theorem LIForm.readsBack {mk : LIForm → Instr} {f : LIForm} (henc : encode (mk f) = some (c, f.word op, f.x))
    (hread : ∀ w x, readSlot c op.toNat w x = some (mk (.read w x))) (hX : ∀ w, extBit c op.toNat w = w.getLsbD 0)
    (h : (mk f).legal = true) : (mk f).ReadsBack := by
  obtain ⟨hop, h31, h0⟩ := f.frame_word op
  exact readsBack_of_readSlot henc hop h31 (by rw [hread, f.read_word]) (by rw [hX, h0]) h

theorem SMForm.readsBack {mk : SMForm → Instr} {f : SMForm} (henc : encode (mk f) = some (c, f.word op, f.x))
    (hread : ∀ w x, readSlot c op.toNat w x = some (mk (.read w x))) (hX : ∀ w, extBit c op.toNat w = w.getLsbD 0)
    (h : (mk f).legal = true) : (mk f).ReadsBack := by
  obtain ⟨hop, h31, h0⟩ := f.frame_word op
  exact readsBack_of_readSlot henc hop h31 (by rw [hread, f.read_word]) (by rw [hX, h0]) h

theorem LDSForm.readsBack {mk : LDSForm → Instr} {f : LDSForm} (henc : encode (mk f) = some (c, f.word op, f.x))
    (hread : ∀ w x, readSlot c op.toNat w x = some (mk (.read w x))) (hX : ∀ w, extBit c op.toNat w = w.getLsbD 0)
    (h : (mk f).legal = true) : (mk f).ReadsBack := by
  obtain ⟨hop, h31, h0⟩ := f.frame_word op
  exact readsBack_of_readSlot henc hop h31 (by rw [hread, f.read_word]) (by rw [hX, h0]) h

theorem VRForm.readsBack {mk : VRForm → Instr} {f : VRForm} (henc : encode (mk f) = some (c, f.word op, f.x))
    (hread : ∀ w x, readSlot c op.toNat w x = some (mk (.read w x))) (hX : ∀ w, extBit c op.toNat w = w.getLsbD 0)
    (h : (mk f).legal = true) : (mk f).ReadsBack := by
  obtain ⟨hop, h31, h0⟩ := f.frame_word op
  exact readsBack_of_readSlot henc hop h31 (by rw [hread, f.read_word]) (by rw [hX, h0]) h

theorem VMForm.readsBack {mk : VMForm → Instr} {f : VMForm} (henc : encode (mk f) = some (c, f.word op, f.x))
    (hread : ∀ w x, readSlot c op.toNat w x = some (mk (.read w x))) (hX : ∀ w, extBit c op.toNat w = w.getLsbD 0)
    (h : (mk f).legal = true) : (mk f).ReadsBack := by
  obtain ⟨hop, h31, h0⟩ := f.frame_word op
  exact readsBack_of_readSlot henc hop h31 (by rw [hread, f.read_word]) (by rw [hX, h0]) h

theorem CForm.readsBack {mk : CForm → Instr} {f : CForm} (henc : encode (mk f) = some (c, f.word op, f.x))
    (hread : ∀ w x, readSlot c op.toNat w x = some (mk (.read w x))) (hX : ∀ w, extBit c op.toNat w = w.getLsbD 0)
    (h : (mk f).legal = true) : (mk f).ReadsBack := by
  obtain ⟨hop, h31, h0⟩ := f.frame_word op
  exact readsBack_of_readSlot henc hop h31 (by rw [hread, f.read_word]) (by rw [hX, h0]) h

theorem VRForm.readsBack_of_q {mk mkImm : VRForm → Instr} {f : VRForm}
    (hread : ∀ w x, readSlot .V op.toNat w x = some (if w.getLsbD 1 then mkImm (.read w x) else mk (.read w x))) :
    (f.q = false → encode (mk f) = some (.V, f.word op, f.x) → (mk f).legal = true → (mk f).ReadsBack) ∧
      (f.q = true → encode (mkImm f) = some (.V, f.word op, f.x) → (mkImm f).legal = true → (mkImm f).ReadsBack) := by
  obtain ⟨hop, h31, h0⟩ := f.frame_word op
  have hq : (f.word op).getLsbD 1 = f.q := congrArg VRForm.q (f.read_word op)
  constructor
  · intro hf henc h
    exact readsBack_of_readSlot henc hop h31 (by simp only [hread, hq, hf, f.read_word, Bool.false_eq_true, if_false]) h0 h
  · intro hf henc h
    exact readsBack_of_readSlot henc hop h31 (by simp only [hread, hq, hf, f.read_word, if_true]) h0 h

theorem SBForm.readsBack {mk : SBForm → Instr} {f : SBForm} (henc : encode (mk f) = some (.S, f.word op, none))
    (hread : ∀ w x, readSlot .S op.toNat w x = some (mk (.read w x))) (hX : ∀ w, extBit .S op.toNat w = false)
    (h : (mk f).legal = true) : (mk f).ReadsBack := by
  obtain ⟨hop, h31⟩ := f.frame_word op
  exact readsBack_of_readSlot henc hop h31 (by rw [hread, f.read_word]) (hX _) h

theorem SYForm.readsBack {mk : SYForm → Instr} {f : SYForm} (henc : encode (mk f) = some (.S, f.word op, none))
    (hread : ∀ w x, readSlot .S op.toNat w x = some (mk (.read w x))) (hX : ∀ w, extBit .S op.toNat w = false)
    (h : (mk f).legal = true) : (mk f).ReadsBack := by
  obtain ⟨hop, h31⟩ := f.frame_word op
  exact readsBack_of_readSlot henc hop h31 (by rw [hread, f.read_word]) (hX _) h

theorem SLForm.readsBack {mk : SLForm → Instr} {f : SLForm} (henc : encode (mk f) = some (.S, f.word op, f.x))
    (hread : ∀ w x, readSlot .S op.toNat w x = some (mk (.read w x))) (hX : ∀ w, extBit .S op.toNat w = f.x.isSome)
    (h : (mk f).legal = true) : (mk f).ReadsBack := by
  obtain ⟨hop, h31⟩ := f.frame_word op
  exact readsBack_of_readSlot henc hop h31 (by rw [hread, f.read_word]) (hX _) h

theorem MForm.readsBack {mk : MForm → Instr} {f : MForm} (henc : encode (mk f) = some (.M, f.word op, some f.x))
    (hread : ∀ w x, readSlot .M op.toNat w x = some (mk (.read w (x.getD 0)))) (h : (mk f).legal = true) : (mk f).ReadsBack := by
  obtain ⟨hop, h31⟩ := f.frame_word op
  exact readsBack_of_readSlot henc hop h31 (by rw [hread, Option.getD_some, f.read_word]) rfl h
end

/-- Every legal instruction is read back from its words: the format of its row decides how. -/
theorem Instr.readsBack_of_legal (i : Instr) (h : i.legal = true) : i.ReadsBack := by
  cases i with
  | add f | sub f | mul f | mulh f | mulhu f | div f | divu f | rem f | remu f | and f | or f | xor f | andn f | shl f | shr f | sra f
    | min f | max f | minu f | maxu f | clz f | popc f | bfx f | bfi f | sel f | cmp f | plog f | bri f | calli f | ret f =>
    exact SRForm.readsBack rfl (fun _ _ => rfl) (fun _ => extBit_of_sHasX rfl _) h
  | li f =>
    exact LIForm.readsBack rfl (fun _ _ => rfl) (fun _ => extBit_of_sHasX rfl _) h
  | ldw f | ldh f | ldhu f | ldb f | ldbu f | ldd f | stw f | sth f | stb f | std f | stf f | feclr f | aadd f | amax f | aor f | axch f
    | acas f =>
    exact SMForm.readsBack rfl (fun _ _ => rfl) (fun _ => extBit_of_sHasX rfl _) h
  | lds f =>
    exact LDSForm.readsBack rfl (fun _ _ => rfl) (fun _ => extBit_of_sHasX rfl _) h
  | br f | call f =>
    exact SBForm.readsBack rfl (fun _ _ => rfl) (fun _ => rfl) h
  | rpop f | rtry f | rrel f | rclaim f | rfill f | rstat f | aset f | ainc f | mfc f | mtc f | fence f | trap f | tend f | waite f
    | bkpt f | gbar f | trace f | spause f =>
    exact SYForm.readsBack rfl (fun _ _ => rfl) (fun _ => rfl) h
  | loop f | lexit f =>
    have hx : f.x = none := by simp [Instr.legal] at h; tauto
    exact SLForm.readsBack rfl (fun _ _ => rfl) (fun _ => by rw [hx]; rfl) h
  | loopi f =>
    have hx : f.x.isSome = true := by simp [Instr.legal] at h; tauto
    exact SLForm.readsBack rfl (fun _ _ => rfl) (fun _ => by rw [hx]; rfl) h
  | vfaddF32 f | vfaddBf16 f | vfaddF16 f | vfsubF32 f | vfsubBf16 f | vfsubF16 f | vfmulF32 f | vfmulBf16 f | vfmulF16 f | vfmaF32 f
    | vfmaBf16 f | vfmaF16 f | vfmsF32 f | vfmsBf16 f | vfmsF16 f | vfnmaF32 f | vfnmaBf16 f | vfnmaF16 f | vfminF32 f | vfminBf16 f
    | vfminF16 f | vfmaxF32 f | vfmaxBf16 f | vfmaxF16 f | vfcmpF32 f | vfcmpBf16 f | vfcmpF16 f | vfclampF32 f | vfclampBf16 f
    | vfclampF16 f | vexp2 f | vlog2 f | vrcp f | vrsq f | vsqrt f | vfrnd f | vfclass f | vaddI32 f | vaddI16 f | vaddI8 f | vsubI32 f
    | vsubI16 f | vsubI8 f | vmulI32 f | vmulI16 f | vmulI8 f | vminI32 f | vminI16 f | vminI8 f | vmaxI32 f | vmaxI16 f | vmaxI8 f
    | vcmpI32 f | vcmpI16 f | vcmpI8 f | vabsI32 f | vabsI16 f | vabsI8 f | vmulh f | vsaddI16 f | vsaddI8 f | vssubI16 f | vssubI8 f
    | vand f | vor f | vxor f | vandn f | vsel f | vcvt f | vcvti f | vcvtb8 f | vwideb8 f | vhad f | vpack f | vunpack f | vdotBf16 f
    | vdotI8 f | vmov f | vbcst f | vins f | vext f | vperm f | vzip f | vunzip f | vslide f | vradd f | vrmax f | vrmin f | vraddi f
    | vpsum f | vtopk f | vmergek f | vcntm f | vtld f | vtli f | vtlu f | vmlog f | vmset f | vmfirst f | vlerpF32 f | vlerpBf16 f
    | vfsgn f | vfscale f =>
    exact VRForm.readsBack rfl (fun _ _ => rfl) (fun _ => rfl) h
  | vshlI32 f | vshlI16 f | vshlI8 f | vshrI32 f | vshrI16 f | vshrI8 f | vsraI32 f | vsraI16 f | vsraI8 f =>
    exact (VRForm.readsBack_of_q fun _ _ => rfl).1 (by simp [Instr.legal] at h; tauto) rfl h
  | vshlI32Imm f | vshlI16Imm f | vshlI8Imm f | vshrI32Imm f | vshrI16Imm f | vshrI8Imm f | vsraI32Imm f | vsraI16Imm f | vsraI8Imm f =>
    exact (VRForm.readsBack_of_q fun _ _ => rfl).2 (by simp [Instr.legal] at h; tauto) rfl h
  | vld f | vst f | vldt f | vstt f | vgath f | vscat f | vlds f | vldb f =>
    exact VMForm.readsBack rfl (fun _ _ => rfl) (fun _ => rfl) h
  | cld f | cst f | cld2d f | cst2d f | cldr f | catom f | cwait f | cpoll f | cfence f | ccancel f | cget f | pub f | pubr f | pubred f
    | pip f | subscribe f | unsub f | cpref f | phase f | pubc f | subq f | ertq f | erth f | sumpq f =>
    exact CForm.readsBack rfl (fun _ _ => rfl) (fun _ => rfl) h
  | mwld f | mwlds f | mwpre f | mma f | mmao f | mzero f | mdrain f | msca f | mstat f | mresc f | mtrn f | mwait f | mprog f | mflags f
    | mhold f | mflush f =>
    exact MForm.readsBack rfl (fun _ _ => rfl) h
  | _ =>
    intro _ _ _ henc
    cases henc

/-- Settles O52: format by format, the fields of a slot word are read back, and the opcode names the row. -/
theorem decodeOfEncode : Obligations.DecodeOfEncode := by
  unfold Obligations.DecodeOfEncode
  exact fun i c w x h => i.readsBack_of_legal h c w x

/-! ### Encoding what was decoded -/

theorem encode_of_readS {w : Word} {x : Option Word} {i : Instr} (h : readS (opcOf w).toNat w x = some i) (h31 : w.getLsbD 31 = false)
    (hext : extBit .S (opcOf w).toNat w = x.isSome) : encode i = some (.S, w, x) := by
  unfold readS at h
  split at h <;> cases h
  all_goals
    rename_i hop
    simp_all [encode, extBit, sHasX, SRForm.word_read, LIForm.word_read, SMForm.word_read, LDSForm.word_read, SBForm.word_read,
      SLForm.word_read, SYForm.word_read]

theorem encode_of_readV {w : Word} {x : Option Word} {i : Instr} (h : readV (opcOf w).toNat w x = some i) (h31 : w.getLsbD 31 = false)
    (h0 : w.getLsbD 0 = x.isSome) : encode i = some (.V, w, x) := by
  have hVR : ∀ (op : BitVec 7) (mk : VRForm → Instr), (opcOf w).toNat = op.toNat → (∀ f, encode (mk f) = some (.V, f.word op, f.x)) →
      encode (mk (VRForm.read w x)) = some (.V, w, x) := fun op mk hop henc => by rw [henc, VRForm.word_read w x hop h31 h0, VRForm.read_x]
  have hVM : ∀ (op : BitVec 7) (mk : VMForm → Instr), (opcOf w).toNat = op.toNat → (∀ f, encode (mk f) = some (.V, f.word op, f.x)) →
      encode (mk (VMForm.read w x)) = some (.V, w, x) := fun op mk hop henc => by rw [henc, VMForm.word_read w x hop h31 h0, VMForm.read_x]
  unfold readV at h
  split at h <;> cases h
  all_goals
    first
    | exact hVR _ _ ‹_› fun _ => rfl
    | exact hVM _ _ ‹_› fun _ => rfl
    | split
      · exact hVR _ _ ‹_› fun _ => rfl
      · exact hVR _ _ ‹_› fun _ => rfl

theorem encode_of_readM {w : Word} {x : Option Word} {i : Instr} (h : readM (opcOf w).toNat w x = some i) (h31 : w.getLsbD 31 = false)
    (hx : x.isSome = true) : encode i = some (.M, w, x) := by
  obtain ⟨v, rfl⟩ := Option.isSome_iff_exists.mp hx
  unfold readM at h
  split at h <;> cases h
  all_goals
    rename_i hop
    simp_all [encode, MForm.word_read]

theorem encode_of_readC {w : Word} {x : Option Word} {i : Instr} (h : readC (opcOf w).toNat w x = some i) (h31 : w.getLsbD 31 = false)
    (h0 : w.getLsbD 0 = x.isSome) : encode i = some (.C, w, x) := by
  unfold readC at h
  split at h <;> cases h
  all_goals
    rename_i hop
    simp_all [encode, CForm.word_read]

/-- What a word decodes to is what the opcode map reads from it, and bit 31 of the word is 0. -/
theorem readSlot_of_decodeSlot {c : SlotClass} {w : Word} {x : Option Word} {i : Instr} (h : decodeSlot c w x = .ok i) :
    readSlot c (opcOf w).toNat w x = some i ∧ w.getLsbD 31 = false := by
  unfold decodeSlot at h
  split at h
  · cases h
  · next hread =>
    split at h
    · next hok =>
      cases h
      exact ⟨hread, by simpa using ((Bool.and_eq_true _ _).mp hok).1⟩
    · cases h

/-- Settles O53: class by class, each row's fields are all the bits of its words. -/
theorem encodeOfDecode : Obligations.EncodeOfDecode := by
  unfold Obligations.EncodeOfDecode
  intro c w x i h hx
  obtain ⟨hread, h31⟩ := readSlot_of_decodeSlot h
  rw [takesExt_of_readSlot hread] at hx
  cases c with
  | S => exact encode_of_readS hread h31 hx
  | V => exact encode_of_readV hread h31 hx
  | M => exact encode_of_readM hread h31 hx.symm
  | C => exact encode_of_readC hread h31 hx

end Sys2Proof
end

section
/-! Which steps of the device leave memory alone. Almost every named update does: what it does to the state, and what the updates that it calls do,
leaves the field of memory as it was. The updates that write memory follow in the next section. -/

namespace Sys2Proof.Machine

open Sys2Proof

/-- A fold of steps that leave memory alone leaves it alone. -/
@[simp] theorem mem_foldl {α : Type} (g : State → α → State) (h : ∀ s a, (g s a).mem = s.mem) (l : List α) (s : State) :
    (l.foldl g s).mem = s.mem := by
  induction l generalizing s with
  | nil => rfl
  | cons x r ih => rw [List.foldl_cons, ih, h]

/-! ### The state -/

/-! ### Registers, marks, traps, events -/

@[simp] theorem State.modField_mem (s : State) (f : Nat) (g : FieldSt → FieldSt) : (State.modField s f g).mem = s.mem := by rfl

@[simp] theorem emitCore_mem (s : State) (c : Nat) (b : Bool) (code : BitVec 16) (payload : List Byte) :
    (emitCore s c b code payload).mem = s.mem := by simp [emitCore]

@[simp] theorem postAbort_mem (s : State) (launch : Nat) (cause : BitVec 8) (detail : Word) : (postAbort s launch cause detail).mem = s.mem := by rfl

@[simp] theorem takeTrapWith_mem (s : State) (code : BitVec 8) (sr : Nat) (user : BitVec 16) : (takeTrapWith s code sr user).mem = s.mem := by
  unfold takeTrapWith
  dsimp only
  split <;> simp

@[simp] theorem takeTrap_mem (s : State) (code : BitVec 8) : (takeTrap s code).mem = s.mem := by simp [takeTrap]

@[simp] theorem takeSlotTrap_mem (s : State) (code : BitVec 8) : (takeSlotTrap s code).mem = s.mem := by simp [takeSlotTrap]

@[simp] theorem takePageWait_mem (s : State) (grp : Nat) : (takePageWait s grp).mem = s.mem := by rfl

@[simp] theorem pauseSlot_mem (s : State) : (pauseSlot s).mem = s.mem := by rfl

@[simp] theorem State.modCluster_mem (s : State) (k : Nat) (f : Cluster → Cluster) : (State.modCluster s k f).mem = s.mem := by rfl

@[simp] theorem raiseEvent_mem (s : State) (core : Nat) (b : Bool) (e : Nat) : (raiseEvent s core b e).mem = s.mem := by rfl

@[simp] theorem engineFull_mem (s : State) (ws : List Nat) : (engineFull s ws).mem = s.mem := by
  unfold engineFull
  repeat' split <;> simp

@[simp] theorem touch_mem (s : State) (launch counter : Nat) : (touch s launch counter).mem = s.mem := by rfl

@[simp] theorem touchSpan_mem (s : State) (launch lo hi : Nat) : (touchSpan s launch lo hi).mem = s.mem := by rfl

@[simp] theorem touchSource_mem (s : State) (launch p : Nat) : (touchSource s launch p).mem = s.mem := by rfl

@[simp] theorem touchPhase_mem (s : State) (launch p : Nat) : (touchPhase s launch p).mem = s.mem := by rfl

@[simp] theorem passOn_mem (launch p reporter : Nat) (s : State) : (passOn launch p reporter s).mem = s.mem := by rfl

@[simp] theorem settlePassing_mem (s : State) : (settlePassing s).mem = s.mem := by simp [settlePassing]

/-! ### Vector lanes -/

@[simp] theorem laneBody_mem (f : VRForm) (w : Nat) (op : Nat → Nat → Nat → Nat) (s : State) : (laneBody f w op s).mem = s.mem := by rfl

@[simp] theorem floatBody_mem (f : VRForm) (t : FFmt) (op : RMode → Nat → Nat → Nat → Nat × Fl) (s : State) :
    (floatBody f t op s).mem = s.mem := by rfl

@[simp] theorem fCmpBody_mem (f : VRForm) (t : FFmt) (s : State) : (fCmpBody f t s).mem = s.mem := by rfl

@[simp] theorem iCmpBody_mem (f : VRForm) (w : Nat) (s : State) : (iCmpBody f w s).mem = s.mem := by rfl

/-! ### Conversions -/

@[simp] theorem convBody_mem (f : VRForm) (n wd : Nat) (op : Bank → Nat → Nat × Fl) (s : State) : (convBody f n wd op s).mem = s.mem := by rfl

/-! ### Transfers and loops -/

@[simp] theorem transfer_mem (s : State) (t : Int) (link : Option Word) : (transfer s t link).mem = s.mem := by
  unfold transfer
  repeat' split <;> simp

@[simp] theorem setLoop_mem (f : SLForm) (n : Word) (s : State) : (setLoop f n s).mem = s.mem := by
  unfold setLoop
  dsimp only
  split_ifs <;> simp

/-! ### Operations outside the cores -/

@[simp] theorem State.modRouter_mem (s : State) (r : Nat) (f : Router → Router) : (State.modRouter s r f).mem = s.mem := by rfl

@[simp] theorem State.modPart_mem (s : State) (p : Nat) (f : Partition → Partition) : (State.modPart s p f).mem = s.mem := by rfl

@[simp] theorem State.modQueue_mem (s : State) (q : Nat) (f : WorkQueue → WorkQueue) : (State.modQueue s q f).mem = s.mem := by rfl

@[simp] theorem State.modTask_mem (s : State) (t : Nat) (f : TaskInst → TaskInst) : (State.modTask s t f).mem = s.mem := by
  unfold State.modTask
  split <;> rfl

@[simp] theorem State.modLaunch_mem (s : State) (l : Nat) (f : Launch → Launch) : (State.modLaunch s l f).mem = s.mem := by
  unfold State.modLaunch
  split <;> rfl

@[simp] theorem State.modOp_mem (s : State) (o : Nat) (f : COp → COp) : (State.modOp s o f).mem = s.mem := by
  unfold State.modOp
  split <;> rfl

@[simp] theorem State.modErt_mem (s : State) (p e : Nat) (f : ErtEntry → ErtEntry) : (State.modErt s p e f).mem = s.mem := by rfl

@[simp] theorem State.setSlot_mem (s : State) (f k : Nat) (v : SlotState) : (State.setSlot s f k v).mem = s.mem := by rfl

@[simp] theorem State.modLink_mem (s : State) (p : Nat) (f : LinkPort → LinkPort) : (State.modLink s p f).mem = s.mem := by rfl

@[simp] theorem State.modBankAt_mem (s : State) (c : Nat) (b : Bool) (f : Bank → Bank) : (State.modBankAt s c b f).mem = s.mem := by rfl

@[simp] theorem State.note_mem (s : State) (kind detail : Nat) : (State.note s kind detail).mem = s.mem := by rfl

@[simp] theorem State.bump_mem (s : State) : (State.bump s).mem = s.mem := by rfl

@[simp] theorem touchTraffic_mem (e : Event) (s : State) : (touchTraffic e s).mem = s.mem := by
  unfold touchTraffic
  split <;> rfl

@[simp] theorem takeOff_mem (e : Event) (s : State) : (takeOff e s).mem = s.mem := by simp [takeOff]

@[simp] theorem post_mem (e : Event) (s : State) : (post e s).mem = s.mem := by simp [post]

@[simp] theorem postAll_mem (es : List Event) (s : State) : (postAll es s).mem = s.mem := by simp [postAll]

@[simp] theorem rimQueue_mem (agent part : Nat) (w : RimWork) (s : State) : (rimQueue agent part w s).mem = s.mem := by rfl

@[simp] theorem rimWait_mem (agent part : Nat) (e : Event) (s : State) : (rimWait agent part e s).mem = s.mem := by simp [rimWait]

@[simp] theorem violate_mem (s : State) (k unit cls part : Nat) (wr : Bool) : (violate s k unit cls part wr).mem = s.mem := by rfl

theorem checked_mem (s : State) (k unit cls part : Nat) (wr rd : Bool) {yes no : State → State} (hy : ∀ s, (yes s).mem = s.mem)
    (hn : ∀ s, (no s).mem = s.mem) : (checked s k unit cls part wr rd yes no).mem = s.mem := by
  unfold checked
  split
  · exact hy s
  · rw [hn, violate_mem]

@[simp] theorem noteCounters_mem (s : State) : (noteCounters s).mem = s.mem := by rfl

@[simp] theorem noteWay_mem (l : Nat) (p : Option Nat) (rs : List Nat) (s : State) : (noteWay l p rs s).mem = s.mem := by
  unfold noteWay
  split <;> rfl

@[simp] theorem notePath_mem (s0 : State) (e : Event) (s : State) : (notePath s0 e s).mem = s.mem := by
  unfold notePath
  split <;> simp

@[simp] theorem freeCounters_mem (l : Nat) (s : State) : (freeCounters l s).mem = s.mem := by rfl

@[simp] theorem dropCounters_mem (l : Nat) (s : State) : (dropCounters l s).mem = s.mem := by rfl

theorem onBar_mem {f : State → State} (hf : ∀ s, (f s).mem = s.mem) (s : State) : (onBar f s).mem = s.mem := by
  unfold onBar
  split
  · exact hf s
  · rfl

/-! ### Scalar results -/

@[simp] theorem aluBody_mem (f : SRForm) (op : Word → Word → Word) (s : State) : (aluBody f op s).mem = s.mem := by rfl

/-! ### Vector accesses -/

@[simp] theorem postInc_mem (f : VMForm) (s : State) : (postInc f s).mem = s.mem := by
  unfold postInc
  split <;> rfl

theorem vAccess_mem (f : VMForm) (align : Nat) (whole reads : Bool) (size : Nat) (es : List Elem) {act : List (Nat × Nat) → State → State}
    (h : ∀ ks s, (act ks s).mem = s.mem) (s : State) : (vAccess f align whole reads size es act s).mem = s.mem := by
  unfold vAccess
  (repeat' split) <;> simp [h]

@[simp] theorem loadElems_mem (f : VMForm) (size : Nat) (ks : List (Nat × Nat)) (s : State) : (loadElems f size ks s).mem = s.mem := by rfl

/-! ### Selection, tables, reductions -/

@[simp] theorem startSelect_mem (f : VRForm) (v : VWord) (fl : Fl) (writes : List (Nat × List Byte)) (s : State) :
    (startSelect f v fl writes s).mem = s.mem := by rfl

@[simp] theorem topkBody_mem (f : VRForm) (s : State) : (topkBody f s).mem = s.mem := by
  unfold topkBody
  dsimp only
  (repeat' split) <;> simp

@[simp] theorem vtliBody_mem (f : VRForm) (s : State) : (vtliBody f s).mem = s.mem := by
  unfold vtliBody
  dsimp only
  split_ifs <;> simp

@[simp] theorem reduceMinMax_mem (f : VRForm) (isMax : Bool) (s : State) : (reduceMinMax f isMax s).mem = s.mem := by rfl

@[simp] theorem permBody_mem (f : VRForm) (w : Nat) (src : Bank → Nat → Nat) (s : State) : (permBody f w src s).mem = s.mem := by rfl

/-! ### The name network -/

@[simp] theorem abortCode_mem (l : Nat) (code : BitVec 8) (src : BitVec 16) (s : State) : (abortCode l code src s).mem = s.mem := by rfl

theorem areaAccess_mem (part area n l : Nat) (wr : Bool) {yes : State → State} (hy : ∀ s, (yes s).mem = s.mem) (s : State) :
    (areaAccess part area n l wr yes s).mem = s.mem := checked_mem s _ _ _ _ _ _ hy (by simp)

@[simp] theorem stepRecord_mem (r : Nat) (code : BitVec 16) (p : Packet) (s : State) : (stepRecord r code p s).mem = s.mem := by simp [stepRecord]

@[simp] theorem modTaskRing_mem (n k : Nat) (f : Ring → Ring) (s : State) : (modTaskRing n k f s).mem = s.mem := by
  unfold modTaskRing
  (repeat' split) <;> simp

@[simp] theorem taskEvent_mem (n e : Nat) (s : State) : (taskEvent n e s).mem = s.mem := by
  unfold taskEvent
  (repeat' split) <;> simp

@[simp] theorem checkReady_mem (n : Nat) (s : State) : (checkReady n s).mem = s.mem := by
  unfold checkReady
  repeat' split <;> simp

@[simp] theorem modSub_mem (tgt : Target) (f : Sub → Sub) (s : State) : (modSub tgt f s).mem = s.mem := by simp [modSub]

@[simp] theorem mapKept_mem (h : Nat) (f : Kept → Kept) (s : State) : (mapKept h f s).mem = s.mem := by rfl

@[simp] theorem mapEntries_mem (h : Nat) (f : MatchEntry → MatchEntry) (s : State) : (mapEntries h f s).mem = s.mem := by rfl

@[simp] theorem listKey_mem (h : Nat) (p : Packet) (s : State) : (listKey h p s).mem = s.mem := by rfl

@[simp] theorem evictAs_mem (h n : Nat) (p : Packet) (s : State) : (evictAs h n p s).mem = s.mem := by
  unfold evictAs
  dsimp only
  split_ifs <;> simp

@[simp] theorem evictCopy_mem (h : Nat) (v : Kept) (s : State) : (evictCopy h v s).mem = s.mem := by simp [evictCopy]

@[simp] theorem makeRoom_mem (h g fuel : Nat) (s : State) : (makeRoom h g fuel s).2.mem = s.mem := by
  induction fuel generalizing s with
  | zero => rfl
  | succ fuel ih =>
    unfold makeRoom
    dsimp only
    split
    · rfl
    · split
      · rfl
      · rw [ih, evictCopy_mem]

@[simp] theorem trimTags_mem (h fuel : Nat) (s : State) : (trimTags h fuel s).mem = s.mem := by
  induction fuel generalizing s with
  | zero => rfl
  | succ fuel ih =>
    unfold trimTags
    split
    · rfl
    · split
      · rfl
      · rw [ih, evictCopy_mem]

@[simp] theorem trimAll_mem (s : State) : (trimAll s).mem = s.mem := mem_foldl _ (fun _ _ => trimTags_mem _ _ _) _ s

@[simp] theorem retainAt_mem (h n : Nat) (p : Packet) (s : State) : (retainAt h n p s).mem = s.mem := by
  unfold retainAt
  dsimp only
  split_ifs <;> simp

@[simp] theorem retain_mem (h : Nat) (p : Packet) (s : State) : (retain h p s).mem = s.mem := by simp [retain]

@[simp] theorem noteServed_mem (h : Nat) (key : CopyKey) (s : State) : (noteServed h key s).mem = s.mem := by rfl

@[simp] theorem addTransit_mem (id : Nat) (p : Packet) (s : State) (r : Nat) : (addTransit id p s r).mem = s.mem := by simp [addTransit]

@[simp] theorem drainTransit_mem (p : Packet) (s : State) : (drainTransit p s).mem = s.mem := by
  unfold drainTransit
  split <;> rfl

@[simp] theorem forward_mem (h : Nat) (p : Packet) (s : State) : (forward h p s).mem = s.mem := by
  unfold forward
  dsimp only
  split <;> simp

@[simp] theorem countUp_mem (m : PathMsg) (r port : Nat) (s : State) : (countUp m r port s).mem = s.mem := by rfl

@[simp] theorem countDown_mem (m : PathMsg) (r port : Nat) (s : State) : (countDown m r port s).mem = s.mem := by rfl

@[simp] theorem addLocal_mem (m : PathMsg) (r : Nat) (s : State) : (addLocal m r s).mem = s.mem := by rfl

@[simp] theorem dropLocal_mem (m : PathMsg) (r : Nat) (s : State) : (dropLocal m r s).mem = s.mem := by rfl

@[simp] theorem lateServe_mem (m : PathMsg) (p : Packet) (s : State) : (lateServe m p s).mem = s.mem := by rfl

@[simp] theorem meetListed_mem (m : PathMsg) (served : List CopyKey) (mine : DWord → Bool) (s : State) :
    (meetListed m served mine s).mem = s.mem := by
  unfold meetListed
  split <;> rfl

@[simp] theorem askRim_mem (q : Query) (s : State) : (askRim q s).mem = s.mem := by rfl

@[simp] theorem askFor_mem (m : PathMsg) (t : Tensor) (upTo : Nat) (served : List CopyKey) (k : Nat) (s : State) :
    (askFor m t upTo served k s).mem = s.mem := by
  unfold askFor
  dsimp only
  (repeat' split) <;> simp

@[simp] theorem fallThroughFor_mem (m : PathMsg) (served : List CopyKey) (t : Tensor) (s : State) :
    (fallThroughFor m served t s).mem = s.mem := by
  unfold fallThroughFor
  dsimp only
  split_ifs <;> simp

@[simp] theorem orderInstall_mem (m : PathMsg) (r0 : Nat) (s : State) : (orderInstall m r0 s).mem = s.mem := by
  unfold orderInstall
  split <;> simp

@[simp] theorem applyInstall_mem (m : PathMsg) (s : State) : (applyInstall m s).mem = s.mem := by
  unfold applyInstall
  split
  · rfl
  · split
    · dsimp only
      rw [post_mem]
      split
      · split <;> simp
      · simp
    · dsimp only
      split <;> split <;> split <;> simp

@[simp] theorem countArrival_mem (tgt : Target) (p : Packet) (s : State) : (countArrival tgt p s).mem = s.mem := by simp [countArrival]

@[simp] theorem takeTag_mem (r : Nat) (s : State) : (takeTag r s).mem = s.mem := makeRoom_mem _ _ _ s

@[simp] theorem takeHeld_mem (r : Nat) (p : Packet) (s : State) : (takeHeld r p s).2.mem = s.mem := by
  unfold takeHeld
  split
  · dsimp only
    split <;> simp
  · simp

@[simp] theorem holdDelivery_mem (r : Nat) (tgt : Target) (home k : Nat) (p : Packet) (s : State) :
    (holdDelivery r tgt home k p s).mem = s.mem := by
  unfold holdDelivery
  dsimp only
  split_ifs <;> simp

@[simp] theorem unpin_mem (home : Nat) (p : Packet) (s : State) : (unpin home p s).mem = s.mem := by rfl

theorem fetchLost_mem (home : Nat) (p : Packet) (why : QueryFor) {fetching : State → State} (h : ∀ s, (fetching s).mem = s.mem) (s : State) :
    (fetchLost home p why fetching s).mem = s.mem := by
  unfold fetchLost
  (repeat' split) <;> simp [h]

@[simp] theorem pinKey_mem (h : Nat) (key : CopyKey) (s : State) : (pinKey h key s).mem = s.mem := by rfl

@[simp] theorem answerGet_mem (h : Nat) (g p : Packet) (s : State) : (answerGet h g p s).mem = s.mem := by rfl

@[simp] theorem answerParked_mem (h : Nat) (p : Packet) (s : State) : (answerParked h p s).mem = s.mem := by simp [answerParked]

@[simp] theorem crossOut_mem (p : Packet) (s : State) : (crossOut p s).mem = s.mem := by simp [crossOut]

@[simp] theorem publishHome_mem (h : Nat) (p : Packet) (s : State) : (publishHome h p s).mem = s.mem := by simp [publishHome]

@[simp] theorem askJoin_mem (h : Nat) (p : Packet) (s : State) : (askJoin h p s).mem = s.mem := by
  unfold askJoin
  dsimp only
  split <;> simp

@[simp] theorem releaseWhole_mem (h : Nat) (x : Partial) (s : State) : (releaseWhole h x s).mem = s.mem := by
  unfold releaseWhole
  split <;> simp

@[simp] theorem settleReduction_mem (h : Nat) (p : Packet) (s : State) : (settleReduction h p s).mem = s.mem := by
  unfold settleReduction
  repeat' split <;> simp

@[simp] theorem joinAt_mem (h : Nat) (p : Packet) (s : State) : (joinAt h p s).mem = s.mem := by
  unfold joinAt
  repeat' split <;> simp

@[simp] theorem contributeHome.accept_mem (cover : List Nat) (h : Nat) (p : Packet) (arrived : List Nat) (s : State) :
    (contributeHome.accept cover h p arrived s).mem = s.mem := by
  unfold contributeHome.accept
  dsimp only
  split_ifs <;> simp

@[simp] theorem contributeHome_mem (h : Nat) (p : Packet) (cover : List Nat) (s : State) : (contributeHome h p cover s).mem = s.mem := by
  unfold contributeHome
  dsimp only
  (repeat' split) <;> simp

@[simp] theorem contributeRouter_mem (r : Nat) (p : Packet) (cover : List Nat) (s : State) : (contributeRouter r p cover s).mem = s.mem := by simp [contributeRouter]

@[simp] theorem parkGet_mem (h : Nat) (g : Packet) (s : State) : (parkGet h g s).mem = s.mem := by
  unfold parkGet
  dsimp only
  split_ifs <;> simp

@[simp] theorem getHome_mem (h : Nat) (g : Packet) (s : State) : (getHome h g s).mem = s.mem := by
  unfold getHome
  (repeat' split) <;> simp

@[simp] theorem reserveFor_mem (q : Query) (s : State) : (reserveFor q s).mem = s.mem := by simp [reserveFor]

@[simp] theorem unreserve_mem (q : Query) (s : State) : (unreserve q s).mem = s.mem := by
  unfold unreserve
  split <;> rfl

@[simp] theorem retainReply_mem (q : Query) (p : Packet) (pos : Nat) (s : State) : (retainReply q p pos s).mem = s.mem := by
  unfold retainReply
  split <;> simp

@[simp] theorem fetchOver_mem (r : Nat) (tgt : Target) (key : CopyKey) (s : State) : (fetchOver r tgt key s).mem = s.mem := by rfl

@[simp] theorem portFetchOver_mem (r : Nat) (key : CopyKey) (s : State) : (portFetchOver r key s).mem = s.mem := by rfl

@[simp] theorem askNext_mem (q : Query) (m : PathMsg) (pos : Nat) (s : State) : (askNext q m pos s).mem = s.mem := by
  unfold askNext
  (repeat' split) <;> simp

@[simp] theorem serveReply_mem (q : Query) (a : QueryAns) (s : State) : (serveReply q a s).mem = s.mem := by
  unfold serveReply
  repeat' split <;> simp

@[simp] theorem linkRecord_mem (l : Nat) (code : BitVec 16) (p : Packet) (s : State) : (linkRecord l code p s).mem = s.mem := by simp [linkRecord]

@[simp] theorem noteStep_mem (l : Nat) (p : Packet) (s : State) : (noteStep l p s).mem = s.mem := by
  unfold noteStep
  dsimp only
  split_ifs <;> simp

@[simp] theorem enterAt_mem (l : Nat) (p : Packet) (s : State) : (enterAt l p s).mem = s.mem := by
  unfold enterAt
  (repeat' split) <;> simp

@[simp] theorem holdAtPort_mem (l : Nat) (p : Packet) (s : State) : (holdAtPort l p s).mem = s.mem := by
  unfold holdAtPort
  dsimp only
  split_ifs <;> simp

@[simp] theorem sendAcross_mem (k : Nat) (p : Packet) (s : State) : (sendAcross k p s).mem = s.mem := by simp [sendAcross]

@[simp] theorem crossHeld_mem (k : Nat) (h : PortHold) (s : State) : (crossHeld k h s).mem = s.mem := by
  unfold crossHeld
  dsimp only
  split
  · simp
  · split
    · simp
    · exact fetchLost_mem _ _ _ (fun _ => by rfl) s

@[simp] theorem dropNetwork_mem (l : Nat) (s : State) : (dropNetwork l s).mem = s.mem := by rfl

/-! ### Sumps -/

@[simp] theorem modView_mem (h part e : Nat) (f : ExpertView → ExpertView) (s : State) : (modView h part e f s).mem = s.mem := by rfl

@[simp] theorem setEntry_mem (part e st : Nat) (f : ErtEntry → ErtEntry) (s : State) : (setEntry part e st f s).mem = s.mem := by
  unfold setEntry
  dsimp only
  split <;> simp

@[simp] theorem modSump_mem (i : Nat) (f : Sump → Sump) (s : State) : (modSump i f s).mem = s.mem := by
  unfold modSump
  split <;> rfl

@[simp] theorem refreshSump_mem (part e : Nat) (s : State) : (refreshSump part e s).mem = s.mem := by rfl

@[simp] theorem devicePip_mem (tnum coord : Nat) (gen : BitVec 16) (launch phase : Nat) (rel : Bool) (s : State) :
    (devicePip tnum coord gen launch phase rel s).mem = s.mem := by rfl

@[simp] theorem sumpPip_mem (i code : Nat) (s : State) : (sumpPip i code s).mem = s.mem := by
  unfold sumpPip
  split <;> simp

@[simp] theorem freeSump_mem (code : Nat) (s : State) (u : Nat × Sump) : (freeSump code s u).mem = s.mem := by simp [freeSump]

@[simp] theorem dropSumps_mem (l : Nat) (s : State) : (dropSumps l s).mem = s.mem := by simp [dropSumps]

@[simp] theorem forwardRow_mem (h part e : Nat) (p : Packet) (s : State) : (forwardRow h part e p s).mem = s.mem := by
  unfold forwardRow
  dsimp only
  repeat' split <;> simp

@[simp] theorem freeEmptied_mem (part e l : Nat) (s : State) : (freeEmptied part e l s).mem = s.mem := by
  unfold freeEmptied
  split <;> simp

@[simp] theorem unparkRow_mem (part e l : Nat) (s : State) : (unparkRow part e l s).mem = s.mem := by
  unfold unparkRow
  split
  · rfl
  · split
    · rfl
    · exact areaAccess_mem _ _ _ _ _ (fun _ => by simp) s

/-! ### Copy engines -/

@[simp] theorem modGroup_mem (c : Nat) (b : Bool) (g : Nat) (f : CopyGroup → CopyGroup) (s : State) : (modGroup c b g f s).mem = s.mem := by rfl

@[simp] theorem leaveGroup_mem (o : COp) (s : State) : (leaveGroup o s).mem = s.mem := by
  unfold leaveGroup
  repeat' split <;> simp

@[simp] theorem touchOp_mem (o : COp) (s : State) : (touchOp o s).mem = s.mem := by
  unfold touchOp
  (repeat' split) <;> simp

@[simp] theorem endOp_mem (o : COp) (s : State) : (endOp o s).mem = s.mem := by simp [endOp]

@[simp] theorem notePf_mem (o : COp) (up : Bool) (s : State) : (notePf o up s).mem = s.mem := by
  unfold notePf
  split <;> rfl

@[simp] theorem inject_mem (s : State) (p : Packet) (spans : List (Nat × Nat)) : (inject s p spans).mem = s.mem := by
  unfold inject
  dsimp only
  split_ifs <;> simp

@[simp] theorem sendOp_mem (o : COp) (s : State) : (sendOp o s).mem = s.mem := by
  unfold sendOp
  split <;> simp

@[simp] theorem flushBank_mem (c : Nat) (b : Bool) (fuel : Nat) (s : State) : (flushBank c b fuel s).mem = s.mem := by
  induction fuel generalizing s with
  | zero => rfl
  | succ fuel ih =>
    unfold flushBank
    split
    · split
      · rw [ih, sendOp_mem]
      · rfl
    · rfl

@[simp] theorem tlbPut_mem (k n : Nat) (t : TlbEntry) (s : State) : (tlbPut k n t s).mem = s.mem := by rfl

@[simp] theorem holdAgent_mem (agent occ : Nat) (s : State) : (holdAgent agent occ s).mem = s.mem := by rfl

@[simp] theorem holdWalk_mem (o : COp) (va : Nat) (s : State) : (holdWalk o va s).mem = s.mem := by simp [holdWalk]

@[simp] theorem pageFault_mem (o : COp) (i : Nat) (b : Box) (cause : FCause) (s : State) : (pageFault o i b cause s).mem = s.mem := by simp [pageFault]

@[simp] theorem failPage_mem (o : COp) (code : BitVec 8) (s : State) : (failPage o code s).mem = s.mem := by rfl

@[simp] theorem failBox_mem (o : COp) (code : BitVec 8) (s : State) : (failBox o code s).mem = s.mem := by
  unfold failBox
  (repeat' split) <;> simp

@[simp] theorem askSlots_mem (o : COp) (s : State) : (askSlots o s).mem = s.mem := by
  unfold askSlots
  split <;> rfl

@[simp] theorem sendBox_mem (o : COp) (i a : Nat) (f : Found) (s : State) : (sendBox o i a f s).mem = s.mem := by simp [sendBox]

@[simp] theorem noteRefusal_mem (cls part : Nat) (t : Trans) (wr rd : Bool) (s : State) : (noteRefusal cls part t wr rd s).mem = s.mem := by
  unfold noteRefusal
  repeat' split <;> simp

@[simp] theorem noteAccess_mem (o : COp) (t : Trans) (s : State) : (noteAccess o t s).mem = s.mem := by simp [noteAccess]

@[simp] theorem takeSlot_mem (o : COp) (s : State) : (takeSlot o s).mem = s.mem := by
  unfold takeSlot
  repeat' split <;> simp

@[simp] theorem takeSlots_mem (s : State) : (takeSlots s).mem = s.mem :=
  mem_foldl _ (fun _ _ => mem_foldl _ (fun _ _ => by split <;> simp) _ _) _ s

@[simp] theorem noteErtq_mem (e : Event) (s : State) : (noteErtq e s).mem = s.mem := by
  unfold noteErtq
  (repeat' split) <;> simp

@[simp] theorem roomFor_mem (e : Event) (s : State) : (roomFor e s).mem = s.mem := by
  unfold roomFor
  (repeat' split) <;> simp

@[simp] theorem tailWrite_mem (n : Nat) (p : Packet) (s : State) : (tailWrite n p s).mem = s.mem := by rfl

@[simp] theorem resend_mem (e : Event) (s : State) : (resend e s).mem = s.mem := by
  unfold resend
  split <;> simp

@[simp] theorem startRim_mem (i : Nat) (r : RimReq) (s : State) : (startRim i r s).mem = s.mem := by
  unfold startRim
  dsimp only
  split
  · simp
  · rw [areaAccess_mem _ _ _ _ _ fun _ => by simp]; simp
  · rw [areaAccess_mem _ _ _ _ _ fun _ => by simp]; simp
  · rw [areaAccess_mem _ _ _ _ _ fun _ => by simp]; simp
  · simp

@[simp] theorem fillDone_mem (o : COp) (s : State) : (fillDone o s).mem = s.mem := by
  unfold fillDone
  split
  · rfl
  · refine mem_foldl _ (fun t j => ?_) _ s
    dsimp only
    rw [apply_ite State.mem]
    split_ifs <;> simp

@[simp] theorem takeUnit_mem (o : COp) (b : Box) (t : Trans) (s : State) (u : Nat) : (takeUnit o b t s u).mem = s.mem := by simp [takeUnit]

@[simp] theorem takeUnits_mem (o : COp) (b : Box) (t : Trans) (x : Nat × Nat) (s : State) : (takeUnits o b t x s).mem = s.mem := by simp [takeUnits, apply_ite State.mem]

@[simp] theorem dropGot_mem (o : COp) (b : Box) (s : State) : (dropGot o b s).mem = s.mem := by simp [dropGot]

@[simp] theorem markDone_mem (o : COp) (i : Nat) (s : State) : (markDone o i s).mem = s.mem := by simp [markDone]

@[simp] theorem readSpan_mem (o : COp) (b : Box) (t : Trans) (s : State) (x : Nat × Nat) : (readSpan o b t s x).mem = s.mem := by simp [readSpan]

@[simp] theorem performFetch_mem (o : COp) (i : Nat) (b : Box) (t : Trans) (s : State) : (performFetch o i b t s).mem = s.mem := by
  unfold performFetch
  dsimp only
  (repeat' split) <;> simp

@[simp] theorem answerAbort_mem (o : COp) (s : State) : (answerAbort o s).mem = s.mem := by
  unfold answerAbort
  repeat' split <;> simp

@[simp] theorem startInval_mem (part : Nat) (s : State) : (startInval part s).mem = s.mem := by
  unfold startInval
  dsimp only
  split <;> simp

@[simp] theorem fetchTile_mem (q : Query) (t : Tensor) (l : Nat) (s : State) : (fetchTile q t l s).mem = s.mem := by rfl

@[simp] theorem answerQuery_mem (q : Query) (s : State) : (answerQuery q s).mem = s.mem := by
  unfold answerQuery
  split
  · split
    · split
      · simp
      · rw [post_mem]
        exact areaAccess_mem _ _ _ _ _ (fun _ => rfl) s
    · simp
  · (repeat' split) <;> simp

@[simp] theorem sinkReply_mem (mine : COp → Bool) (s : State) (e : Event) : (sinkReply mine s e).mem = s.mem := by
  unfold sinkReply
  (repeat' split) <;> simp

/-! ### The copy interface -/

@[simp] theorem submit_mem (o : COp) (s : State) : (submit o s).mem = s.mem := by
  unfold submit
  dsimp only
  rw [flushBank_mem]
  split <;> split <;> simp

@[simp] theorem pend_mem (r : Nat) (s : State) : (pend r s).mem = s.mem := by
  unfold pend
  split <;> rfl

@[simp] theorem requested_mem (cause : Option (BitVec 8)) (o : COp) (s : State) : (requested cause o s).mem = s.mem := by
  unfold requested
  split <;> simp

@[simp] theorem copyRequested_mem (cause : Option (BitVec 8)) (f : CForm) (o : COp) (s : State) : (copyRequested cause f o s).mem = s.mem := by
  unfold copyRequested
  repeat' split <;> simp

@[simp] theorem directCopy_mem (f : CForm) (kind : OpKind) (opc : Nat) (st : Int) (nr pitch : Nat) (s : State) :
    (directCopy f kind opc st nr pitch s).mem = s.mem := by simp [directCopy]

@[simp] theorem copy2d_mem (f : CForm) (kind : OpKind) (opc : Nat) (s : State) : (copy2d f kind opc s).mem = s.mem := by simp [copy2d]

@[simp] theorem cancelOp_mem (o : COp) (s : State) : (cancelOp o s).mem = s.mem := by
  unfold cancelOp
  dsimp only
  (repeat' split) <;> simp

@[simp] theorem publish_mem (cause : Option (BitVec 8)) (f : CForm) (grp : Option Nat) (pkts : List (Packet × List (Nat × Nat))) (s : State) :
    (publish cause f grp pkts s).mem = s.mem := by simp [publish]

@[simp] theorem contribute_mem (f : CForm) (coll : Bool) (step run : Nat) (s : State) : (contribute f coll step run s).mem = s.mem := by simp [contribute]

@[simp] theorem unhold_mem (r : Nat) (h : HeldDelivery) (s : State) : (unhold r h s).mem = s.mem := by
  unfold unhold
  (repeat' split) <;> simp

@[simp] theorem dropHeld_mem (r : Nat) (tgt : Target) (s : State) : (dropHeld r tgt s).mem = s.mem := by simp [dropHeld]

@[simp] theorem unask_mem (task : Nat) (x : Sub) (s : State) : (unask task x s).mem = s.mem := by simp [unask]

@[simp] theorem remoteQuery_mem (f : CForm) (kind : OpKind) (bad : Bool) (cause : BitVec 8) (s : State) :
    (remoteQuery f kind bad cause s).mem = s.mem := by
  unfold remoteQuery
  split <;> simp

/-! ### Experts -/

@[simp] theorem parkIn_mem (i : Nat) (r : ParkedRow) (s : State) : (parkIn i r s).mem = s.mem := by simp [parkIn]

@[simp] theorem parkRow.take_mem (r : ParkedRow) (i : Nat) (s : State) : (parkRow.take r i s).mem = s.mem := by simp [parkRow.take]

@[simp] theorem parkRow_mem (part : Nat) (r : ParkedRow) (s : State) : (parkRow part r s).mem = s.mem := by
  unfold parkRow
  dsimp only
  (repeat' split) <;> simp

@[simp] theorem freeSlot_mem (f k : Nat) (s : State) : (freeSlot f k s).mem = s.mem := by simp [freeSlot, apply_ite State.mem]

@[simp] theorem evict_mem (part e : Nat) (s : State) : (evict part e s).mem = s.mem := by simp [evict]

@[simp] theorem pageInto_mem (part e f k : Nat) (s : State) : (pageInto part e f k s).mem = s.mem := by
  unfold pageInto
  dsimp only
  split <;> simp

@[simp] theorem askPolicy_mem (part e : Nat) (ev : Bool) (s : State) : (askPolicy part e ev s).mem = s.mem := by rfl

@[simp] theorem pageHardware_mem (part e : Nat) (s : State) : (pageHardware part e s).mem = s.mem := by
  unfold pageHardware
  split <;> simp

@[simp] theorem evictHardware_mem (part e : Nat) (s : State) : (evictHardware part e s).mem = s.mem := by
  unfold evictHardware
  dsimp only
  (repeat' split) <;> simp

@[simp] theorem evictFor_mem (part e : Nat) (s : State) : (evictFor part e s).mem = s.mem := by
  unfold evictFor
  split <;> simp

@[simp] theorem pageStart_mem (part e : Nat) (s : State) : (pageStart part e s).mem = s.mem := by
  unfold pageStart
  dsimp only
  split_ifs <;> simp

@[simp] theorem retryPages_mem (part : Nat) (s : State) : (retryPages part s).mem = s.mem := by simp [retryPages]

@[simp] theorem startPage_mem (part e : Nat) (s : State) : (startPage part e s).mem = s.mem := by
  unfold startPage
  dsimp only
  split <;> simp

@[simp] theorem noticeDistributors_mem (part e : Nat) (s : State) : (noticeDistributors part e s).mem = s.mem := by rfl

@[simp] theorem dropPage_mem (part e : Nat) (code : BitVec 8) (s : State) : (dropPage part e code s).mem = s.mem := by
  unfold dropPage
  split <;> simp

@[simp] theorem policyDefault_mem (r : PolicyReq) (s : State) : (policyDefault r s).mem = s.mem := by
  unfold policyDefault
  (repeat' split) <;> simp

@[simp] theorem answered_mem (part e : Nat) (s : State) : (answered part e s).mem = s.mem := by
  unfold answered
  split <;> simp

@[simp] theorem hintAt_mem (part e hint : Nat) (s : State) : (hintAt part e hint s).mem = s.mem := by
  unfold hintAt
  dsimp only
  split_ifs <;> simp

theorem atErt_mem (part e : Nat) (m : Master) {f : State → State} (hf : ∀ s, (f s).mem = s.mem) (s : State) :
    (atErt part e m f s).mem = s.mem := checked_mem s _ _ _ _ _ _ hf (by simp)

@[simp] theorem releaseEntry_mem (part e : Nat) (s : State) : (releaseEntry part e s).mem = s.mem := by
  unfold releaseEntry
  split_ifs <;> simp

@[simp] theorem bindView_mem (part e : Nat) (s : State) : (bindView part e s).mem = s.mem := by
  unfold bindView
  dsimp only
  split <;> simp

@[simp] theorem refuseErt_mem (part e : Nat) (m : Master) (s : State) : (refuseErt part e m s).mem = s.mem := by rfl

@[simp] theorem writeErt_mem (part e o n v : Nat) (m : Master) (s : State) : (writeErt part e o n v m s).mem = s.mem := by
  unfold writeErt
  dsimp only
  split_ifs <;> simp

@[simp] theorem ertAccess_mem (a : RegAccess) (s : State) : (ertAccess a s).mem = s.mem := by
  unfold ertAccess
  dsimp only
  split
  · rfl
  · exact checked_mem s _ _ _ _ _ _ (by simp) (by simp)

@[simp] theorem sendToSump_mem (h part e : Nat) (p : Packet) (s : State) : (sendToSump h part e p s).mem = s.mem := by simp [sendToSump]

@[simp] theorem rowAtHome_mem (h part e : Nat) (p : Packet) (s : State) : (rowAtHome h part e p s).mem = s.mem := by
  unfold rowAtHome
  dsimp only
  split_ifs <;> simp

@[simp] theorem moveViews_mem (part : Nat) (s : State) : (moveViews part s).mem = s.mem := by simp [moveViews]

/-! ### The staging queue -/

@[simp] theorem stage_mem (k : MKind) (f : MForm) (addr addr2 : Nat) (s : State) : (stage k f addr addr2 s).mem = s.mem := by rfl

@[simp] theorem stageOperand_mem (k : MKind) (f : MForm) (s : State) : (stageOperand k f s).mem = s.mem := by
  unfold stageOperand
  split <;> simp

@[simp] theorem stageProduct_mem (k : MKind) (f : MForm) (s : State) : (stageProduct k f s).mem = s.mem := by
  unfold stageProduct
  repeat' split <;> simp

@[simp] theorem stageSample_mem (k : MKind) (f : MForm) (s : State) : (stageSample k f s).mem = s.mem := by rfl

/-! ### The matrix array -/

@[simp] theorem popSource_mem (c : Nat) (q : MOp) (s : State) : (popSource c q s).mem = s.mem := by
  unfold popSource
  (repeat' split) <;> simp

@[simp] theorem releaseSlot_mem (c : Nat) (q : MOp) (s : State) : (releaseSlot c q s).mem = s.mem := by rfl

@[simp] theorem readUnit_mem (c : Nat) (q : MOp) (i : Nat) (s : State) : (readUnit c q i s).mem = s.mem := by
  unfold readUnit
  dsimp only
  (repeat' split) <;> simp

@[simp] theorem releaseAll_mem (c : Nat) (q : MOp) (s : State) : (releaseAll c q s).mem = s.mem := by
  unfold releaseAll
  split <;> rfl

@[simp] theorem orFlags_mem (c z : Nat) (bits : BitVec 8) (s : State) : (orFlags c z bits s).mem = s.mem := by rfl

@[simp] theorem progress_mem (c z id : Nat) (f : RowProg → RowProg) (s : State) : (progress c z id f s).mem = s.mem := by rfl

@[simp] theorem recordFault_mem (c : Nat) (q : MOp) (tile : Option Nat) (code : BitVec 8) (s : State) :
    (recordFault c q tile code s).mem = s.mem := by rfl

@[simp] theorem recordOnce_mem (c : Nat) (p : PortOp) (code : BitVec 8) (s : State) : (recordOnce c p code s).mem = s.mem := by
  unfold recordOnce
  split <;> rfl

@[simp] theorem notePsn_mem (c z : Nat) (any : Bool) (s : State) : (notePsn c z any s).mem = s.mem := by
  unfold notePsn
  split <;> rfl

@[simp] theorem modEntry_mem (k num : Nat) (f : MEntry → MEntry) (s : State) : (modEntry k num f s).mem = s.mem := by rfl

@[simp] theorem settleEntry_mem (k num : Nat) (s : State) : (settleEntry k num s).mem = s.mem := by
  unfold settleEntry
  dsimp only
  repeat' split <;> simp

@[simp] theorem modSeg_mem (k num id : Nat) (f : Seg → Seg) (s : State) : (modSeg k num id f s).mem = s.mem := by rfl

@[simp] theorem abortSeg_mem (k num : Nat) (g : Seg) (code : Option (BitVec 8)) (wflt : Bool) (s : State) :
    (abortSeg k num g code wflt s).mem = s.mem := by
  unfold abortSeg
  dsimp only
  split <;> simp

@[simp] theorem endLoadEntry_mem (k : Nat) (e : MEntry) (bad : Option (BitVec 8)) (s : State) : (endLoadEntry k e bad s).mem = s.mem := by
  unfold endLoadEntry
  repeat' split <;> simp

@[simp] theorem abortEntry_mem (k num : Nat) (code : BitVec 8) (wflt : Bool) (s : State) : (abortEntry k num code wflt s).mem = s.mem := by
  unfold abortEntry
  split
  · rfl
  · split
    · simp
    · exact mem_foldl _ (fun _ _ => by split <;> simp) _ s

@[simp] theorem finishRows_mem (c : Nat) (q : MOp) (s : State) : (finishRows c q s).mem = s.mem := by rfl

@[simp] theorem unqueue_mem (c : Nat) (s : State) : (unqueue c s).mem = s.mem := by rfl

@[simp] theorem noteSlotViolation_mem (c : Nat) (q : MOp) (code : BitVec 8) (s : State) : (noteSlotViolation c q code s).mem = s.mem := by
  unfold noteSlotViolation
  split <;> rfl

@[simp] theorem startProgress_mem (c : Nat) (q : MOp) (s : State) : (startProgress c q s).mem = s.mem := by rfl

@[simp] theorem admitHead_mem (c : Nat) (q : MOp) (s : State) : (admitHead c q s).mem = s.mem := by
  unfold admitHead
  dsimp only
  (repeat' split) <;> simp

@[simp] theorem openLoad_mem (c : Nat) (q : MOp) (kind : EntryKind) (key : WKey) (units : List Nat) (s : State) :
    (openLoad c q kind key units s).mem = s.mem := by
  unfold openLoad
  split <;> rfl

@[simp] theorem stageSource_mem (c : Nat) (q : MOp) (s : State) : (stageSource c q s).mem = s.mem := by
  unfold stageSource
  (repeat' split) <;> simp

@[simp] theorem drainHead_mem (c : Nat) (q : MOp) (s : State) : (drainHead c q s).mem = s.mem := by
  unfold drainHead
  dsimp only
  (repeat' split) <;> simp

@[simp] theorem sampleTo_mem (c : Nat) (q : MOp) (v : Word) (s : State) : (sampleTo c q v s).mem = s.mem := by rfl

@[simp] theorem flushCore_mem (c : Nat) (s : State) : (flushCore c s).mem = s.mem := by rfl

@[simp] theorem toPort_mem (c : Nat) (q : MOp) (s : State) : (toPort c q s).mem = s.mem := by
  unfold toPort
  dsimp only
  split <;> simp

@[simp] theorem dequeue_mem (c : Nat) (q : MOp) (s : State) : (dequeue c q s).mem = s.mem := by
  unfold dequeue
  (repeat' split) <;> simp

@[simp] theorem beginLoad_mem (k : Nat) (e : MEntry) (s : State) : (beginLoad k e s).mem = s.mem := by rfl

@[simp] theorem bindTile_mem (k : Nat) (e : MEntry) (s : State) : (bindTile k e s).mem = s.mem := by
  unfold bindTile
  repeat' split <;> simp

@[simp] theorem selectEntry_mem (k : Nat) (e : MEntry) (s : State) : (selectEntry k e s).mem = s.mem := by
  unfold selectEntry
  repeat' split <;> simp

@[simp] theorem endLoad_mem (k : Nat) (j : LoadJob) (s : State) : (endLoad k j s).mem = s.mem := by
  unfold endLoad
  dsimp only
  (repeat' split) <;> simp

@[simp] theorem startNext_mem (k : Nat) (s : State) : (startNext k s).mem = s.mem := by rfl

@[simp] theorem fireRow_mem (k : Nat) (e : MEntry) (g : Seg) (s : State) : (fireRow k e g s).mem = s.mem := by
  unfold fireRow
  repeat' split <;> simp

@[simp] theorem endTranspose_mem (k : Nat) (e : MEntry) (s : State) : (endTranspose k e s).mem = s.mem := by
  unfold endTranspose
  repeat' split <;> simp

@[simp] theorem firePosition_mem (k : Nat) (e : MEntry) (s : State) : (firePosition k e s).mem = s.mem := by
  unfold firePosition
  dsimp only
  (repeat' split) <;> simp

@[simp] theorem fillSlots_mem (c : Nat) (p : PortOp) (from' to' : Nat) (s : State) : (fillSlots c p from' to' s).mem = s.mem := by
  unfold fillSlots
  dsimp only
  (repeat' split) <;> simp

@[simp] theorem freeTransposed_mem (c : Nat) (q : MOp) (s : State) : (freeTransposed c q s).mem = s.mem := by
  unfold freeTransposed
  (repeat' split) <;> simp

/-! ### Tasks -/

@[simp] theorem notePending_mem (l : Nat) (s : State) : (notePending l s).mem = s.mem := by
  unfold notePending
  split <;> simp

@[simp] theorem noteImage_mem (c : Nat) (i : CodeImage) (s : State) : (noteImage c i s).mem = s.mem := by rfl

@[simp] theorem dropImages_mem (ns : Nat) (s : State) : (dropImages ns s).mem = s.mem := by rfl

@[simp] theorem emptyRing_mem (c : Nat) (s : State) (r : Ring) : (emptyRing c s r).mem = s.mem := by rfl

@[simp] theorem noteArmed_mem (n : Nat) (s : State) : (noteArmed n s).mem = s.mem := by
  unfold noteArmed
  repeat' split <;> simp

@[simp] theorem removeSubs_mem (n : Nat) (t : TaskInst) (s : State) : (removeSubs n t s).mem = s.mem := by
  unfold removeSubs
  split <;> simp

@[simp] theorem requeue_mem (n : Nat) (f : TaskInst → TaskInst) (s : State) : (requeue n f s).mem = s.mem := by
  unfold requeue
  repeat' split <;> simp

@[simp] theorem undoArming_mem (n : Nat) (s : State) : (undoArming n s).mem = s.mem := by simp [undoArming]

theorem times_mem (n : Nat) {f : State → State} (h : ∀ s, (f s).mem = s.mem) (s : State) : (times n f s).mem = s.mem := by
  induction n generalizing s with
  | zero => rfl
  | succ n ih => simp [times, ih, h]

@[simp] theorem returnSlots_mem (c : Nat) (b : Bool) (s : State) : (returnSlots c b s).mem = s.mem := times_mem _ (by simp) s

@[simp] theorem emptyBank_mem (c : Nat) (b : Bool) (s : State) : (emptyBank c b s).mem = s.mem := by rfl

@[simp] theorem leaveGang_mem (t : TaskInst) (s : State) : (leaveGang t s).mem = s.mem := by
  unfold leaveGang
  split <;> rfl

@[simp] theorem doneWaiting_mem (n : Nat) (s : State) : (doneWaiting n s).mem = s.mem := by rfl

@[simp] theorem finishTask_mem (c : Nat) (b : Bool) (counted : Nat) (s : State) : (finishTask c b counted s).mem = s.mem := by
  unfold finishTask
  dsimp only
  split <;> simp

@[simp] theorem leaveBank_mem (c : Nat) (s : State) : (leaveBank c s).mem = s.mem := by
  unfold leaveBank
  split <;> simp

@[simp] theorem fireInto_mem (n : Nat) (b : Bool) (s : State) : (fireInto n b s).mem = s.mem := by
  unfold fireInto
  repeat' split <;> simp

@[simp] theorem stopBank_mem (c : Nat) (b : Bool) (s : State) : (stopBank c b s).mem = s.mem := by rfl

@[simp] theorem resubscribe_mem (k : Nat) (s : State) : (resubscribe k s).mem = s.mem := by simp [resubscribe, apply_ite State.mem]

/-! ### Work queues and launches -/

@[simp] theorem writeTail_mem (q v : Nat) (s : State) : (writeTail q v s).mem = s.mem := by rfl

@[simp] theorem writeCtlReg_mem (q v : Nat) (s : State) : (writeCtlReg q v s).mem = s.mem := by rfl

@[simp] theorem modCmd_mem (q : Nat) (f : Cmd → Cmd) (s : State) : (modCmd q f s).mem = s.mem := by rfl

@[simp] theorem advance_mem (c : Cmd) (s : State) : (advance c s).mem = s.mem := by rfl

@[simp] theorem release_mem (c : Cmd) (s : State) : (release c s).mem = s.mem := by rfl

@[simp] theorem launchRec_mem (l : Nat) (code : BitVec 16) (payload : List Byte) (s : State) : (launchRec l code payload s).mem = s.mem := by simp [launchRec]

@[simp] theorem holdQueues_mem (part : Nat) (hold : Bool) (s : State) : (holdQueues part hold s).mem = s.mem := by rfl

@[simp] theorem abortPartition_mem (part : Nat) (s : State) : (abortPartition part s).mem = s.mem := by simp [abortPartition, apply_ite State.mem]

@[simp] theorem extendMeas_mem (k : Nat) (d : List Byte) (s : State) : (extendMeas k d s).mem = s.mem := by rfl

@[simp] theorem closePhase_mem (l : Nat) (s : State) (q : Nat) : (closePhase l s q).mem = s.mem := by simp [closePhase]

@[simp] theorem deadlock_mem (l : Nat) (quiet still : Bool) (s : State) : (deadlock l quiet still s).mem = s.mem := by
  unfold deadlock
  (repeat' split) <;> simp

@[simp] theorem purge_mem (l : Nat) (s : State) : (purge l s).mem = s.mem := by rfl

@[simp] theorem dropPeers_mem (x : Launch) (s : State) : (dropPeers x s).mem = s.mem := by
  unfold dropPeers
  split <;> rfl

@[simp] theorem liveSweep_mem (l : Nat) (x : Launch) (v : SweepView) (rs : List (List Bool)) (s : State) :
    (liveSweep l x v rs s).mem = s.mem := by
  unfold liveSweep
  repeat' split <;> simp

@[simp] theorem touchAll_mem (l : Nat) (s : State) : (touchAll l s).mem = s.mem := by simp [touchAll]

/-! ### Ring instructions -/

theorem onRing_mem (f : SYForm) (s : State) {act : Nat → Ring → State} (h : ∀ i r, (act i r).mem = s.mem) : (onRing f s act).mem = s.mem := by
  unfold onRing
  split
  · simp
  · exact h _ _

@[simp] theorem noteReturn_mem (s : State) : (noteReturn s).mem = s.mem := by rfl

@[simp] theorem popSlot_mem (f : SYForm) (k : Nat) (r : Ring) (s : State) : (popSlot f k r s).mem = s.mem := by rfl

/-! ### System instructions -/

@[simp] theorem readCtlEffect_mem (s : State) (i : Nat) : (readCtlEffect s i).mem = s.mem := by
  unfold readCtlEffect
  (repeat' split) <;> simp

@[simp] theorem writeCtl_mem (s : State) (i : Nat) (v : Word) : (writeCtl s i v).mem = s.mem := by
  unfold writeCtl
  (repeat' split) <;> simp

@[simp] theorem haltAtBkpt_mem (tag : BitVec 10) (s : State) : (haltAtBkpt tag s).mem = s.mem := by
  unfold haltAtBkpt
  split <;> rfl

/-! ### Issue -/

@[simp] theorem atBank_mem (c : Nat) (b : Bool) (s : State) : (atBank c b s).mem = s.mem := by rfl

/-! ### Bundles -/

@[simp] theorem haltCore_mem (c : Nat) (why : HaltReason) (s : State) : (haltCore c why s).mem = s.mem := by rfl

@[simp] theorem completeBundle_mem (x : Bundle) (s : State) : (completeBundle x s).mem = s.mem := by
  unfold completeBundle
  dsimp only
  repeat' split <;> simp

@[simp] theorem commitSlot_mem (i : Instr) (s : State) : (commitSlot i s).mem = s.mem := by
  unfold commitSlot
  split <;> rfl

@[simp] theorem noteStepOps_mem (n : Nat) (s : State) : (noteStepOps n s).mem = s.mem := by rfl

@[simp] theorem noteAddr_mem (c : Nat) (s : State) : (noteAddr c s).mem = s.mem := by
  unfold noteAddr
  split <;> rfl

theorem endFault_mem (s : State) (c : Nat) (b : Bool) (r : BitVec 8 × State) (h : endFault s c b = some r) : r.2.mem = s.mem := by
  unfold endFault at h
  dsimp only at h
  split at h
  · cases h
    simp
  · split at h <;> cases h
    simp

@[simp] theorem endStep_mem (c : Nat) (b : Bool) (s : State) : (endStep c b s).mem = s.mem := by
  unfold endStep
  split
  · next code t h =>
    have ht : t.mem = s.mem := endFault_mem s c b _ h
    dsimp only
    split <;> simp [ht]
  · dsimp only
    split <;> simp

/-! ### Banks and the debugger -/

@[simp] theorem startDrain_mem (c : Nat) (s : State) : (startDrain c s).mem = s.mem := by rfl

@[simp] theorem runBank_mem (c : Nat) (b : Bool) (s : State) : (runBank c b s).mem = s.mem := by rfl

@[simp] theorem resumeCore_mem (c : Nat) (step : Bool) (s : State) : (resumeCore c step s).mem = s.mem := by rfl

@[simp] theorem answer_mem (v : Nat) (s : State) : (answer v s).mem = s.mem := by rfl

theorem debugAccess_mem (c : Nat) (wr : Bool) (m : Master) (inWrite : Bool) {yes : State → State} (hy : ∀ s, (yes s).mem = s.mem) (s : State) :
    (debugAccess c wr m inWrite yes s).mem = s.mem := by
  have hno : ∀ t : State, (if wr then t else answer (t.free 5) t).mem = t.mem := fun t => by split <;> simp
  unfold debugAccess
  dsimp only
  split
  · exact hy s
  · split
    · split <;> simp
    · split
      · rw [hno, violate_mem]
      · exact checked_mem s _ _ _ _ _ _ hy hno

@[simp] theorem writeItem_mem (i : Nat) (v : Word) (s : State) : (writeItem i v s).mem = s.mem := by
  unfold writeItem
  (repeat' split) <;> simp

/-! ### Tracing -/

@[simp] theorem takeRecord_mem (u : Nat) (s : State) : (takeRecord u s).mem = s.mem := by
  unfold takeRecord
  split <;> rfl

@[simp] theorem writeInc_mem (v : Nat) (s : State) : (writeInc v s).mem = s.mem := by simp only [writeInc, apply_ite State.mem, ite_self]

@[simp] theorem stepTime_mem (n : Nat) (s : State) : (stepTime n s).mem = s.mem := by
  have h : ∀ t : TimeBase, ({ s with tb := t } : State).mem = s.mem := fun _ => rfl
  exact h _

@[simp] theorem mgmtRec_mem (code : BitVec 16) (payload : List Byte) (s : State) : (mgmtRec code payload s).mem = s.mem := by simp [mgmtRec]

@[simp] theorem stamp_mem (src ns : Nat) (s : State) : (stamp src ns s).mem = s.mem := by rfl

/-! ### Register reads -/

@[simp] theorem regReadEffect_mem (off : Nat) (s : State) : (regReadEffect off s).mem = s.mem := by
  unfold regReadEffect
  (repeat' split) <;> simp

@[simp] theorem readDwords_mem (off width : Nat) (s : State) : (readDwords off width s).mem = s.mem := by
  unfold readDwords
  split <;> simp

@[simp] theorem readErt_mem (off width : Nat) (s : State) : (readErt off width s).mem = s.mem := by rfl

@[simp] theorem readReg_mem (a : RegAccess) (s : State) : (readReg a s).mem = s.mem := by
  have h {k unit cls part : Nat} {yes : State → State} (hy : ∀ s, (yes s).mem = s.mem) :
      (checked s k unit cls part false true yes fun t => answer (t.free 5) t).mem = s.mem := checked_mem s _ _ _ _ _ _ hy (by simp)
  unfold readReg
  split
  · simp
  · split
    · split
      · exact h (by simp)
      · exact h (by simp)
    · split
      · simp
      · exact h (by simp)

@[simp] theorem readBar0_mem (a : RegAccess) (s : State) : (readBar0 a s).mem = s.mem := by
  unfold readBar0
  repeat' split <;> simp

@[simp] theorem readBar4_mem (a : RegAccess) (s : State) : (readBar4 a s).mem = s.mem :=
  checked_mem s _ _ _ _ _ _ (by simp) (by simp)

@[simp] theorem writeBar4_mem (a : RegAccess) (s : State) : (writeBar4 a s).mem = s.mem :=
  checked_mem s _ _ _ _ _ _ (by simp) (by simp)

@[simp] theorem readBar_mem (a : RegAccess) (s : State) : (readBar a s).mem = s.mem := by
  unfold readBar
  (repeat' split) <;> simp

/-! ### Register writes -/

@[simp] theorem loadPart_mem (enabled : List Nat) (p : Nat) (c : PartCfg) (s : State) : (loadPart enabled p c s).mem = s.mem := by simp [loadPart, apply_ite State.mem]

@[simp] theorem loadConfig_mem (c : BootCfg) (s : State) : (loadConfig c s).mem = s.mem := by simp [loadConfig]

@[simp] theorem bootImage_mem (i : Image) (c : BootCfg) (s : State) : (bootImage i c s).mem = s.mem := by
  unfold bootImage
  split <;> simp

theorem performWrites_mem (ws : List DwordWrite) (hws : ∀ w ∈ ws, ∀ s, (w.act s).mem = s.mem) (m : Master) (s : State) :
    (performWrites ws m s).mem = s.mem := by
  have hact : ∀ (l : List DwordWrite), (∀ w ∈ l, ∀ s, (w.act s).mem = s.mem) → ∀ s : State, (l.foldl (fun s w => w.act s) s).mem = s.mem := by
    intro l hl
    induction l with
    | nil => exact fun _ => rfl
    | cons w r ih =>
      intro s
      rw [List.foldl_cons, ih (fun w hw => hl w (List.mem_cons_of_mem _ hw)), hl w List.mem_cons_self]
  unfold performWrites
  dsimp only
  split
  · exact hact ws hws s
  · split
    · simp
    · exact checked_mem s _ _ _ _ _ _ (hact ws hws) (by simp)

@[simp] theorem queueReg_mem (q r v : Nat) (s : State) : (queueReg q r v s).mem = s.mem := by
  unfold queueReg
  (repeat' split) <;> simp

@[simp] theorem writeRoot_mem (p : Nat) (high : Bool) (v : Nat) (s : State) : (writeRoot p high v s).mem = s.mem := by rfl

@[simp] theorem writeInval_mem (p : Nat) (high : Bool) (v : Nat) (s : State) : (writeInval p high v s).mem = s.mem := by
  unfold writeInval
  repeat' split <;> simp

@[simp] theorem writeErtcmd_mem (p v : Nat) (m : Master) (s : State) : (writeErtcmd p v m s).mem = s.mem := by
  unfold writeErtcmd
  dsimp only
  split
  · exact atErt_mem _ _ _ (by simp) s
  · split
    · exact atErt_mem _ _ _ (by simp) s
    · rfl

@[simp] theorem postFirst_mem (e : Event) (s : State) : (postFirst e s).mem = s.mem := by rfl

@[simp] theorem writeDbgctl_mem (c v : Nat) (m : Master) (s : State) : (writeDbgctl c v m s).mem = s.mem := by
  unfold writeDbgctl
  dsimp only
  repeat' split <;> simp

@[simp] theorem debugReg_mem (c r v : Nat) (m : Master) (s : State) : (debugReg c r v m s).mem = s.mem := by
  unfold debugReg
  (repeat' split) <;> simp

@[simp] theorem timeReg_mem (r v : Nat) (s : State) : (timeReg r v s).mem = s.mem := by
  unfold timeReg
  (repeat' split) <;> simp

@[simp] theorem traceReg_mem (f r v : Nat) (s : State) : (traceReg f r v s).mem = s.mem := by
  unfold traceReg
  (repeat' split) <;> simp

@[simp] theorem windowReg_mem (w : Nat) (high : Bool) (v : Nat) (s : State) : (windowReg w high v s).mem = s.mem := by rfl

@[simp] theorem writeTherm_mem (v : Nat) (s : State) : (writeTherm v s).mem = s.mem := by rfl

@[simp] theorem writePwr_mem (v : Nat) (s : State) : (writePwr v s).mem = s.mem := by
  unfold writePwr
  dsimp only
  split <;> simp

@[simp] theorem tableReg_mem (k i : Nat) (high : Bool) (v : Nat) (s : State) : (tableReg k i high v s).mem = s.mem := by rfl

@[simp] theorem violReg_mem (k v : Nat) (s : State) : (violReg k v s).mem = s.mem := by
  unfold violReg
  split <;> rfl

@[simp] theorem writeEcc_mem (k v : Nat) (s : State) : (writeEcc k v s).mem = s.mem := by rfl

@[simp] theorem writeDwgt_mem (f v : Nat) (s : State) : (writeDwgt f v s).mem = s.mem := by rfl

@[simp] theorem writeRim_mem (i v : Nat) (s : State) : (writeRim i v s).mem = s.mem := by rfl

@[simp] theorem portReg_mem (off v : Nat) (m : Master) (s : State) : (portReg off v m s).mem = s.mem := by
  unfold portReg
  dsimp only
  split_ifs <;> simp

/-- The write of a dword, where there is one, leaves memory alone. -/
def SparesMemory (o : Option DwordWrite) : Prop := ∀ w ∈ o, ∀ s, (w.act s).mem = s.mem

theorem sparesMemory_none : SparesMemory none := nofun

theorem sparesMemory_some {k : Option (Nat × Nat)} {l : List Nat} {f : State → State} (hf : ∀ s, (f s).mem = s.mem) :
    SparesMemory (some ⟨k, l, f⟩) := by
  rintro _ ⟨⟩ s
  exact hf s

theorem sparesMemory_ite {p : Prop} [Decidable p] {a b : Option DwordWrite} (ha : SparesMemory a) (hb : SparesMemory b) :
    SparesMemory (if p then a else b) := by
  split
  · exact ha
  · exact hb

theorem sparesMemory_partReg (off p r v : Nat) (m : Master) : SparesMemory (partReg off p r v m) := by
  unfold partReg mgmtReg
  refine sparesMemory_ite ?_ (sparesMemory_ite ?_ (sparesMemory_ite ?_ (sparesMemory_ite ?_ (sparesMemory_ite ?_ sparesMemory_none))))
  all_goals exact sparesMemory_some (by simp)

/-- No register that software can write reaches memory. -/
theorem sparesMemory_dwordWrite (off v : Nat) (m : Master) : SparesMemory (dwordWrite off v m) := by
  unfold dwordWrite mgmtReg
  refine sparesMemory_ite sparesMemory_none (sparesMemory_ite (sparesMemory_some (queueReg_mem _ _ _))
    (sparesMemory_ite (sparesMemory_partReg _ _ _ _ _) (sparesMemory_ite
    (sparesMemory_ite (sparesMemory_some (writeEcc_mem _ _)) sparesMemory_none) (sparesMemory_ite (sparesMemory_some (debugReg_mem _ _ _ _))
    (sparesMemory_ite (sparesMemory_some (timeReg_mem _ _)) (sparesMemory_ite (sparesMemory_some (traceReg_mem _ _ _)) (sparesMemory_ite
    (sparesMemory_ite (sparesMemory_some (windowReg_mem _ _ _)) sparesMemory_none) (sparesMemory_ite (sparesMemory_some (writeTherm_mem _))
    (sparesMemory_ite (sparesMemory_some (writePwr_mem _)) (sparesMemory_ite
    (sparesMemory_ite (sparesMemory_some (tableReg_mem _ _ _ _)) (sparesMemory_ite (sparesMemory_some (violReg_mem _ _)) sparesMemory_none))
    (sparesMemory_ite (sparesMemory_some (portReg_mem _ _ _)) sparesMemory_none)))))))))))

theorem dwordWrites_act_mem (a : RegAccess) (w : DwordWrite) (h : w ∈ dwordWrites a) (s : State) : (w.act s).mem = s.mem := by
  have hmem : w = mgmtReg a.off [] id ∨ w ∈ dwordWrite (a.off + 4) (a.value / 2 ^ 32 % 2 ^ 32) a.by' ∨
      w ∈ dwordWrite a.off (a.value % 2 ^ 32) a.by' := by
    simp only [dwordWrites] at h
    generalize dwordWrite (a.off + 4) (a.value / 2 ^ 32 % 2 ^ 32) a.by' = hi at h ⊢
    generalize dwordWrite a.off (a.value % 2 ^ 32) a.by' = lo at h ⊢
    split_ifs at h <;> simp at h <;> tauto
  rcases hmem with rfl | h | h
  · rfl
  · exact sparesMemory_dwordWrite _ _ _ w h s
  · exact sparesMemory_dwordWrite _ _ _ w h s

@[simp] theorem writeReg_mem (a : RegAccess) (s : State) : (writeReg a s).mem = s.mem := by
  unfold writeReg
  split
  · simp
  · split
    · exact performWrites_mem _ (dwordWrites_act_mem a) _ s
    · rfl

/-! ### Management and faults -/

@[simp] theorem abortAll_mem (detail : Nat) (s : State) : (abortAll detail s).mem = s.mem := by simp [abortAll, apply_ite State.mem]

@[simp] theorem needsReset_mem (s : State) : (needsReset s).mem = s.mem := by
  unfold needsReset
  split <;> rfl

@[simp] theorem setThermal_mem (k st : Nat) (s : State) : (setThermal k st s).mem = s.mem := by rfl

@[simp] theorem settleRetired_mem (s : State) : (settleRetired s).mem = s.mem := by simp [settleRetired, apply_ite State.mem]

@[simp] theorem errorRec_mem (k : Nat) (code src : BitVec 16) (unit count : Nat) (s : State) :
    (errorRec k code src unit count s).mem = s.mem := by simp [errorRec]

@[simp] theorem moveTimes_mem (k : Nat) (s : State) : (moveTimes k s).mem = s.mem := by rfl

@[simp] theorem loseRouterState_mem (r : Nat) (l : Option Nat) (s : State) : (loseRouterState r l s).mem = s.mem := by simp [loseRouterState]

@[simp] theorem poisonUnit_mem (k n : Nat) (s : State) : (poisonUnit k n s).mem = s.mem := by rfl

@[simp] theorem errorAt_mem (place : ErrPlace) (s : State) : (errorAt place s).mem = s.mem := by
  unfold errorAt
  split <;> simp

/-! ### Scalar accesses -/

theorem sAccess_mem (s : State) (a size : Nat) (reads : Bool) {act : Nat → State} (h : ∀ k, (act k).mem = s.mem) :
    (sAccess s a size reads act).mem = s.mem := by
  unfold sAccess
  (repeat' split) <;> simp [h]

@[simp] theorem loadBody_mem (f : SMForm) (size : Nat) (conv : Nat → Word) (s : State) : (loadBody f size conv s).mem = s.mem :=
  sAccess_mem s _ _ _ (by simp)

/-! ### The schedule -/

@[simp] theorem dropEarly_mem (s : State) : (dropEarly s).mem = s.mem := by rfl

@[simp] theorem noteWaits_mem (s : State) : (noteWaits s).mem = s.mem := by rfl

@[simp] theorem dropWait_mem (c : Nat) (b : Bool) (s : State) : (dropWait c b s).mem = s.mem := by rfl

@[simp] theorem noteClaims_mem (s : State) (x : Nat × Bool) : (noteClaims s x).mem = s.mem := by
  unfold noteClaims
  split <;> rfl

@[simp] theorem noteReads_mem (s : State) (x : Nat × Bool) : (noteReads s x).mem = s.mem := by
  unfold noteReads
  split <;> rfl

@[simp] theorem noteDrain_mem (s : State) (c : Nat) : (noteDrain s c).mem = s.mem := by
  unfold noteDrain
  (repeat' split) <;> simp

@[simp] theorem noteAsks_mem (s : State) : (noteAsks s).mem = s.mem := by simp [noteAsks]

@[simp] theorem keepPlace_mem (e : Event) (s : State) : (keepPlace e s).mem = s.mem := by
  unfold keepPlace
  (repeat' split) <;> simp

@[simp] theorem noteBlock_mem (s : State) (c : Nat) (b : Bool) : (noteBlock s c b).mem = s.mem := by
  unfold noteBlock
  repeat' split <;> simp

@[simp] theorem noteBlocks_mem (s : State) : (noteBlocks s).mem = s.mem := by
  refine mem_foldl _ (fun _ _ => ?_) _ s
  split
  · split <;> simp
  · rfl

@[simp] theorem noteGbar_mem (s : State) (g : Nat × Gang) : (noteGbar s g).mem = s.mem := by rfl

@[simp] theorem noteGbars_mem (s : State) : (noteGbars s).mem = s.mem := by simp [noteGbars]

@[simp] theorem tick_mem (s : State) : (tick s).mem = s.mem := by rfl

@[simp] theorem closeStep_mem (s : State) : (closeStep s).mem = s.mem := by simp [closeStep]

end Sys2Proof.Machine
end

section
/-! The updates that write memory keep its canonical form (log 1): every byte is written through `Memory.setBytes`, and where a space is cleared its
bytes are filtered out. -/

namespace Sys2Proof.Machine

open Sys2Proof

variable {s : State}

/-- A fold of steps that keep the canonical form keeps it. -/
theorem wf_foldl {α : Type} {g : State → α → State} (h : ∀ s a, Memory.wf s.mem = true → Memory.wf (g s a).mem = true) (l : List α)
    (hs : Memory.wf s.mem = true) : Memory.wf (l.foldl g s).mem = true := by
  induction l generalizing s with
  | nil => exact hs
  | cons x r ih => exact ih (h s x hs)

theorem wf_filter {m : List Host.Cell} (p : Host.Cell → Bool) (h : Memory.wf m = true) : Memory.wf (m.filter p) = true :=
  Memory.wfAbove_filter m none p h

@[simp] theorem wf_setBytes {m : List Host.Cell} (a : Nat) (bs : List Byte) (h : Memory.wf m = true) : Memory.wf (Memory.setBytes m a bs) = true :=
  Memory.wf_setBytes bs m a h

theorem wf_ite {p : Prop} [Decidable p] {t u : State} (ht : Memory.wf t.mem = true) (hu : Memory.wf u.mem = true) :
    Memory.wf (if p then t else u).mem = true := by
  split
  · exact ht
  · exact hu

/-! ### Bytes of local memory -/

@[simp] theorem writeNat_mem (s : State) (k n v : Nat) : (writeNat s k n v).mem = Memory.setBytes s.mem k (leBytes n v) := by rfl

@[simp] theorem engineWriteBut_wf (late : List Nat) (k : Nat) (bs : List Byte) (psn : Bool) (h : Memory.wf s.mem = true) :
    Memory.wf (engineWriteBut late s k bs psn).mem = true := by
  unfold engineWriteBut
  dsimp only
  split <;> simp [h]

@[simp] theorem engineWrite_wf (k : Nat) (bs : List Byte) (psn : Bool) (h : Memory.wf s.mem = true) :
    Memory.wf (engineWrite s k bs psn).mem = true := engineWriteBut_wf _ _ _ _ h

@[simp] theorem engineWriteLeft_wf (done : List Nat) (k : Nat) (bs : List Byte) (psn : Bool) (h : Memory.wf s.mem = true) :
    Memory.wf (engineWriteLeft done s k bs psn).mem = true := wf_foldl (fun _ _ h => engineWrite_wf _ _ _ h) _ h

@[simp] theorem storeElems_wf (f : VMForm) (size : Nat) (ks : List (Nat × Nat)) (h : Memory.wf s.mem = true) :
    Memory.wf (storeElems f size ks s).mem = true := by
  simp only [storeElems, clearPoison_mem]
  exact wf_foldl (fun _ _ h => by simp [h]) _ h

@[simp] theorem vAccess_wf (f : VMForm) (align : Nat) (whole reads : Bool) (size : Nat) (es : List Elem) {act : List (Nat × Nat) → State → State}
    (ha : ∀ ks, Memory.wf (act ks s).mem = true) (h : Memory.wf s.mem = true) : Memory.wf (vAccess f align whole reads size es act s).mem = true := by
  unfold vAccess
  (repeat' split) <;> simp [h, ha]

@[simp] theorem sAccess_wf (a size : Nat) (reads : Bool) {act : Nat → State} (ha : ∀ k, Memory.wf (act k).mem = true) (h : Memory.wf s.mem = true) :
    Memory.wf (sAccess s a size reads act).mem = true := by
  unfold sAccess
  (repeat' split) <;> simp [h, ha]

@[simp] theorem storeBody_wf (f : SMForm) (size : Nat) (h : Memory.wf s.mem = true) : Memory.wf (storeBody f size s).mem = true :=
  sAccess_wf _ _ _ (fun _ => by simp [h]) h

@[simp] theorem atomicBody_wf (f : SMForm) (new : Word → Option Word) (h : Memory.wf s.mem = true) : Memory.wf (atomicBody f new s).mem = true := by
  refine sAccess_wf _ _ _ (fun _ => ?_) h
  dsimp only
  split <;> simp [h]

/-! ### Deliveries -/

@[simp] theorem fillRing_wf (n : Nat) (t : TaskInst) (x : Sub) (p : Packet) (h : Memory.wf s.mem = true) : Memory.wf (fillRing n t x p s).mem = true := by
  unfold fillRing
  split <;> simp [h]

@[simp] theorem deliver_wf (p : Packet) (r : Nat) (tgt : Target) (home : Nat) (h : Memory.wf s.mem = true) : Memory.wf (deliver p r tgt home s).mem = true := by
  unfold deliver
  dsimp only
  (repeat' split) <;> simp [h]

@[simp] theorem releaseHeld_wf (r : Nat) (d : HeldDelivery) (t : TaskInst) (x : Sub) (p : Packet) (h : Memory.wf s.mem = true) :
    Memory.wf (releaseHeld r d t x p s).mem = true := fillRing_wf _ _ _ _ (by simp [h])

@[simp] theorem refetch_wf (r : Nat) (d : HeldDelivery) (t : TaskInst) (u : Sub) (h : Memory.wf s.mem = true) : Memory.wf (refetch r d t u s).mem = true := by
  unfold refetch
  split
  · simp [h]
  · rw [fetchLost_mem _ _ _ fun _ => by simp]
    exact h

@[simp] theorem releaseAt_wf (r : Nat) (tgt : Target) (h : Memory.wf s.mem = true) : Memory.wf (releaseAt r tgt s).mem = true := by
  unfold releaseAt
  (repeat' split) <;> simp [h]

@[simp] theorem finishDelivery_wf (tgt : Target) (h : Memory.wf s.mem = true) : Memory.wf (finishDelivery tgt s).mem = true := by
  refine wf_foldl (fun s x h => ?_) _ h
  (repeat' split) <;> simp [h]

@[simp] theorem moveDelivery_wf (tgt : Target) (p : Packet) (x : Nat × Nat) (h : Memory.wf s.mem = true) : Memory.wf (moveDelivery tgt p x s).mem = true := by
  unfold moveDelivery
  (repeat' split) <;> simp [h]

/-! ### Translation and copies -/

theorem walk_wf (part gid va : Nat) (rd wr : Bool) (l table : Nat) (r : Found × State) (hr : walk s part gid va rd wr l table = .ok r)
    (h : Memory.wf s.mem = true) : Memory.wf r.2.mem = true := by
  induction l generalizing table with
  | zero => cases hr
  | succ l ih =>
    unfold walk at hr
    dsimp only at hr
    split at hr
    · cases hr
    · split at hr
      · split at hr
        · cases hr
        · split at hr
          · cases hr
          · injection hr with hr
            subst hr
            exact wf_ite h (by simp [h])
      · split at hr
        · cases hr
        · exact ih _ hr

theorem translate_wf (eng part gid va : Nat) (rd wr : Bool) (r : Found × State) (hr : translate s eng part gid va rd wr = .ok r)
    (h : Memory.wf s.mem = true) : Memory.wf r.2.mem = true := by
  unfold translate at hr
  dsimp only at hr
  split at hr
  · cases hr
    simp [h]
  · split at hr
    · cases hr
      simp [h]
    · split at hr
      · cases hr
      · split at hr
        · cases hr
        · next hw =>
          cases hr
          simpa using walk_wf _ _ _ _ _ _ _ _ hw h

@[simp] theorem endWalk_wf (o : COp) (i : Nat) (b : Box) (h : Memory.wf s.mem = true) : Memory.wf (endWalk o i b s).mem = true := by
  unfold endWalk
  split
  · simp [h]
  · split
    · split <;> simp [h]
    · next ht => simpa using translate_wf _ _ _ _ _ _ _ ht h

@[simp] theorem putPieces_wf (late : List Nat) (ps : List (Nat × Nat)) (src : Nat) (h : Memory.wf s.mem = true) : Memory.wf (putPieces late ps src s).mem = true := by
  induction ps generalizing src s with
  | nil => exact h
  | cons p r ih => exact ih _ (by simp [h])

@[simp] theorem getPieces_wf (ps : List (Nat × Nat)) (dst : Nat) (h : Memory.wf s.mem = true) : Memory.wf (getPieces ps dst s).mem = true := by
  induction ps generalizing dst s with
  | nil => exact h
  | cons p r ih => exact ih _ (by simp [h])

theorem putGot_wf (late : List Nat) (engine : Bool) (at' : Nat → Nat → List (Nat × Nat)) (g : Nat × List Byte × Bool) (h : Memory.wf s.mem = true) :
    Memory.wf (putGot late engine at' s g).mem = true := by
  have hps : ∀ (ps : List (Nat × Nat)) (a : State × List Byte), Memory.wf a.1.mem = true →
      Memory.wf (ps.foldl (fun (a : State × List Byte) p =>
        (if engine then engineWriteBut late a.1 p.1 (a.2.take p.2) false else storeBytes a.1 p.1 (a.2.take p.2), a.2.drop p.2)) a).1.mem = true := by
    intro ps
    induction ps with
    | nil => exact fun _ h => h
    | cons p r ih =>
      intro a ha
      refine ih _ ?_
      dsimp only
      split <;> simp [ha]
  unfold putGot
  dsimp only
  split
  · simpa using hps _ _ h
  · exact hps _ _ h

@[simp] theorem moveBytes_wf (o : COp) (i : Nat) (b : Box) (t : Trans) (rest : List (Nat × Nat)) (x : Nat × Nat) (h : Memory.wf s.mem = true) :
    Memory.wf (moveBytes o i b t rest s x).mem = true := by
  unfold moveBytes
  dsimp only
  split
  · split <;> simp [h]
  · exact wf_foldl (fun _ _ h => putGot_wf _ _ _ _ h) _ (by simp [h])

@[simp] theorem moveAll_wf (o : COp) (i : Nat) (b : Box) (t : Trans) (l : List (Nat × Nat)) (h : Memory.wf s.mem = true) :
    Memory.wf (moveAll o i b t l s).mem = true := by
  induction l generalizing s with
  | nil => exact h
  | cons x r ih => exact ih (moveBytes_wf _ _ _ _ _ _ h)

@[simp] theorem pageSpan_wf (o : COp) (b : Box) (t : Trans) (x : Nat × Nat) (h : Memory.wf s.mem = true) : Memory.wf (pageSpan o b t s x).mem = true := by
  simp [pageSpan, h]

@[simp] theorem performPage_wf (o : COp) (i : Nat) (b : Box) (t : Trans) (checked : Bool) (h : Memory.wf s.mem = true) :
    Memory.wf (performPage o i b t checked s).mem = true := by
  have hs : Memory.wf ((boxLeft s o i b).foldl (pageSpan o b t) s).mem = true := wf_foldl (fun _ _ h => pageSpan_wf _ _ _ _ h) _ h
  unfold performPage
  dsimp only
  (repeat' split) <;> simp [h, hs]

@[simp] theorem performCopy_wf (o : COp) (i : Nat) (b : Box) (t : Trans) (checked : Bool) (h : Memory.wf s.mem = true) :
    Memory.wf (performCopy o i b t checked s).mem = true := by
  unfold performCopy
  dsimp only
  (repeat' split) <;> simp [h]

@[simp] theorem performBox_wf (o : COp) (i : Nat) (b : Box) (t : Trans) (h : Memory.wf s.mem = true) : Memory.wf (performBox o i b t s).mem = true := by
  unfold performBox
  dsimp only
  (repeat' split) <;> simp [h]

@[simp] theorem performAtomic_wf (o : COp) (t : Trans) (h : Memory.wf s.mem = true) : Memory.wf (performAtomic o t s).mem = true := by
  unfold performAtomic
  dsimp only
  (repeat' split) <;> simp [h]

@[simp] theorem getReply_wf (p : Packet) (how : Nat) (h : Memory.wf s.mem = true) : Memory.wf (getReply p how s).mem = true := by
  unfold getReply
  dsimp only
  (repeat' split) <;> simp [h]

@[simp] theorem finishBoxes_wf (mine : COp → Bool) (h : Memory.wf s.mem = true) : Memory.wf (finishBoxes mine s).mem = true := by
  refine wf_foldl (fun s x h => ?_) _ h
  (repeat' split) <;> simp [h]

@[simp] theorem discardOps_wf (mine : COp → Bool) (h : Memory.wf s.mem = true) : Memory.wf (discardOps mine s).mem = true := by
  simp [discardOps, h]

@[simp] theorem killCopies_wf (c : Nat) (b : Bool) (h : Memory.wf s.mem = true) : Memory.wf (killCopies c b s).mem = true := discardOps_wf _ h

@[simp] theorem loseEntries_wf (f : Nat) (h : Memory.wf s.mem = true) : Memory.wf (loseEntries f s).mem = true := by simp [loseEntries, h]

@[simp] theorem moveSpan_wf (e : Event) (rest : List (Nat × Nat)) (x : Nat × Nat) (h : Memory.wf s.mem = true) : Memory.wf (moveSpan e rest x s).mem = true := by
  unfold moveSpan
  (repeat' split) <;> simp [h]

@[simp] theorem landUnit_wf (e : Event) (h : Memory.wf s.mem = true) : Memory.wf (landUnit e s).mem = true := by
  unfold landUnit
  split <;> simp [h]

/-! ### The matrix array -/

@[simp] theorem writeRow_wf (c z row : Nat) (vals : List Nat) (psn : Nat → Bool) (h : Memory.wf s.mem = true) :
    Memory.wf (writeRow c z row vals psn s).mem = true := by simp [writeRow, h]

@[simp] theorem grantLoad_wf (k : Nat) (j : LoadJob) (h : Memory.wf s.mem = true) : Memory.wf (grantLoad k j s).mem = true := by
  simp only [grantLoad, State.modCluster_mem]
  exact wf_ite h (by simp [h])

@[simp] theorem writeResult_wf (c : Nat) (x : Flight) (h : Memory.wf s.mem = true) : Memory.wf (writeResult c x s).mem = true := by
  simp only [writeResult, progress_mem]
  refine wf_ite (wf_ite ?_ ?_) ?_
  all_goals
    simp only [markPoison_mem, clearPoison_mem, notePsn_mem]
    split <;> simp [h]

@[simp] theorem zeroRow_wf (c z row : Nat) (h : Memory.wf s.mem = true) : Memory.wf (zeroRow c z row s).mem = true := by simp [zeroRow, h]

@[simp] theorem writeUnit_wf (c : Nat) (p : PortOp) (key : Nat) (bs : List Byte) (bad ws : List Nat) (h : Memory.wf s.mem = true) :
    Memory.wf (writeUnit c p key bs bad ws s).mem = true := by
  unfold writeUnit
  split
  · simp [h]
  · exact wf_foldl (fun _ _ h => by simp [h]) _ h

@[simp] theorem drainRow_wf (c : Nat) (p : PortOp) (ws : List Nat) (h : Memory.wf s.mem = true) : Memory.wf (drainRow c p ws s).mem = true := by
  simp [drainRow, h]

@[simp] theorem statRow_wf (c : Nat) (p : PortOp) (row : Nat) (ws : List Nat) (h : Memory.wf s.mem = true) : Memory.wf (statRow c p row ws s).mem = true := by
  simp [statRow, h]

@[simp] theorem scaleRow_wf (c : Nat) (p : PortOp) (h : Memory.wf s.mem = true) : Memory.wf (scaleRow c p s).mem = true := by
  unfold scaleRow
  dsimp only
  split <;> simp [h]

@[simp] theorem rescaleRow_wf (c : Nat) (p : PortOp) (h : Memory.wf s.mem = true) : Memory.wf (rescaleRow c p s).mem = true := by
  unfold rescaleRow
  dsimp only
  split
  · simp [h]
  · simp only [readUnit_mem, notePsn_mem, orFlags_mem]
    split <;> simp [h]

@[simp] theorem transposeRow_wf (c : Nat) (p : PortOp) (h : Memory.wf s.mem = true) : Memory.wf (transposeRow c p s).mem = true := by
  simp [transposeRow, h]

@[simp] theorem portRow_wf (c : Nat) (p : PortOp) (h : Memory.wf s.mem = true) : Memory.wf (portRow c p s).mem = true := by
  unfold portRow
  split
  case h_3 => exact wf_foldl (fun _ _ h => statRow_wf _ _ _ _ h) _ h
  all_goals simp [h]

@[simp] theorem portWord_wf (c i w : Nat) (p : PortOp) (h : Memory.wf s.mem = true) : Memory.wf (portWord c i w p s).mem = true := by
  unfold portWord
  dsimp only
  rw [State.modCore_mem]
  split <;> simp [h]

@[simp] theorem portStep_wf (c i : Nat) (p : PortOp) (h : Memory.wf s.mem = true) : Memory.wf (portStep c i p s).mem = true := by
  unfold portStep
  dsimp only
  split <;> simp [h]

@[simp] theorem landRow_wf (c i : Nat) (h : Memory.wf s.mem = true) : Memory.wf (landRow c i s).mem = true := by
  unfold landRow
  (repeat' split) <;> simp [h]

@[simp] theorem landSel_wf (c : Nat) (x : SelOp) (h : Memory.wf s.mem = true) : Memory.wf (landSel c s x).mem = true := by
  simp only [landSel, State.modBankAt_mem]
  exact wf_foldl (fun _ _ h => by simp [h]) _ h

@[simp] theorem landBank_wf (c : Nat) (b : Bool) (h : Memory.wf s.mem = true) : Memory.wf (landBank c b s).mem = true := by
  simp only [landBank, State.modCore_mem]
  exact wf_foldl (fun _ _ h => landSel_wf _ _ h) _ h

@[simp] theorem landSome_wf (c : Nat) (b : Bool) (h : Memory.wf s.mem = true) : Memory.wf (landSome c b s).mem = true := by
  refine wf_foldl (fun _ _ h => ?_) _ h
  split <;> simp [h]

@[simp] theorem lastRow_wf (c : Nat) (p : PortOp) (h : Memory.wf s.mem = true) : Memory.wf (lastRow c s p).mem = true := by
  unfold lastRow
  split <;> simp [h]

@[simp] theorem killMatrix_wf (c : Nat) (b : Bool) (h : Memory.wf s.mem = true) : Memory.wf (killMatrix c b s).mem = true := by
  unfold killMatrix
  dsimp only
  rw [mem_foldl _ fun _ _ => mem_foldl _ (fun _ _ => by split <;> simp) _ _, State.modCluster_mem, State.modCore_mem, mem_foldl _ (by simp)]
  exact wf_foldl (fun _ _ h => lastRow_wf _ _ h) _ (landSome_wf _ _ h)

@[simp] theorem beforeSlot_wf (i : Instr) (h : Memory.wf s.mem = true) : Memory.wf (beforeSlot i s).mem = true := by
  unfold beforeSlot
  split <;> simp [h]

/-! ### Tasks -/

@[simp] theorem loadImage_wf (dst src len : Nat) (h : Memory.wf s.mem = true) : Memory.wf (loadImage dst src len s).mem = true := by
  simp [loadImage, h]

@[simp] theorem placeImage_wf (c ns code : Nat) (table : Bool) (off len : Nat) (h : Memory.wf s.mem = true) :
    Memory.wf (placeImage c ns code table off len s).2.mem = true := by
  unfold placeImage
  split <;> simp [h]

@[simp] theorem placeImages_wf (c ns code : Nat) (k : CodeObj) (h : Memory.wf s.mem = true) : Memory.wf (placeImages c ns code k s).2.mem = true :=
  placeImage_wf _ _ _ _ _ _ (placeImage_wf _ _ _ _ _ _ h)

@[simp] theorem arm_wf (n c : Nat) (h : Memory.wf s.mem = true) : Memory.wf (arm n c s).mem = true := by
  unfold arm
  (repeat' split) <;> simp [h]

@[simp] theorem killBank_wf (c : Nat) (b : Bool) (why : Nat) (h : Memory.wf s.mem = true) : Memory.wf (killBank c b why s).mem = true := by
  have hk : Memory.wf (killCopies c b (killMatrix c b (emitCore s c b 0x0012 (leBytes 1 why)))).mem = true :=
    killCopies_wf _ _ (killMatrix_wf _ _ (by simp [h]))
  unfold killBank
  dsimp only
  rw [doneWaiting_mem, emptyBank_mem]
  split <;> simpa using hk

@[simp] theorem killUnit_wf (n why : Nat) (f : TaskInst → TaskInst) (h : Memory.wf s.mem = true) : Memory.wf (killUnit n why f s).mem = true :=
  wf_foldl (fun _ _ h => by simp [h]) _ h

@[simp] theorem cutShort_wf (c : Nat) (b : Bool) (h : Memory.wf s.mem = true) : Memory.wf (cutShort c b s).mem = true := by simp [cutShort, h]

@[simp] theorem overrunKill_wf (c : Nat) (b : Bool) (h : Memory.wf s.mem = true) : Memory.wf (overrunKill c b s).mem = true := by
  unfold overrunKill
  dsimp only
  (repeat' split) <;> simp [h]

@[simp] theorem overrunFirst_wf (m : Nat × TaskInst) (h : Memory.wf s.mem = true) : Memory.wf (overrunFirst m s).mem = true := by
  unfold overrunFirst
  (repeat' split) <;> simp [h]

@[simp] theorem preemptKill_wf (m : Nat × TaskInst) (h : Memory.wf s.mem = true) : Memory.wf (preemptKill m s).mem = true := by
  unfold preemptKill
  (repeat' split) <;> simp [h]

@[simp] theorem preemptAll_wf (ms : List (Nat × TaskInst)) (h : Memory.wf s.mem = true) : Memory.wf (preemptAll ms s).mem = true := by
  have hk : Memory.wf (ms.foldl (fun s m => preemptKill m s) (ms.foldl (fun s m => overrunFirst m s) s)).mem = true :=
    wf_foldl (fun _ m h => preemptKill_wf m h) _ (wf_foldl (fun _ m h => overrunFirst_wf m h) _ h)
  unfold preemptAll
  dsimp only
  split
  · exact hk
  · rw [mem_foldl _ (by simp)]
    exact hk

/-! ### Commands and launches -/

@[simp] theorem writeRecord_wf (r : Completion) (h : Memory.wf s.mem = true) : Memory.wf (writeRecord r s).mem = true := by
  unfold writeRecord
  dsimp only
  (repeat' split) <;> simp [h]

@[simp] theorem finishCmd_wf (c : Cmd) (ident status cause detail : Nat) (h : Memory.wf s.mem = true) :
    Memory.wf (finishCmd c ident status cause detail s).mem = true := by simp [finishCmd, h]

@[simp] theorem reject_wf (c : Cmd) (cause detail : Nat) (h : Memory.wf s.mem = true) : Memory.wf (reject c cause detail s).mem = true :=
  finishCmd_wf _ _ _ _ _ h

@[simp] theorem fieldsThen_wf (c : Cmd) {f : State → State} (hf : Memory.wf (f s).mem = true) (h : Memory.wf s.mem = true) :
    Memory.wf (fieldsThen c f s).mem = true := by
  unfold fieldsThen
  split <;> simp [h, hf]

@[simp] theorem installGraph_wf (c : Cmd) (part ns : Nat) (h : Memory.wf s.mem = true) : Memory.wf (installGraph c part ns s).mem = true := by
  simp [installGraph, h]

@[simp] theorem loadGraph_wf (c : Cmd) (h : Memory.wf s.mem = true) : Memory.wf (loadGraph c s).mem = true := by
  unfold loadGraph
  dsimp only
  (repeat' split) <;> simp [h]

@[simp] theorem freeNamespace_wf (c : Cmd) (h : Memory.wf s.mem = true) : Memory.wf (freeNamespace c s).mem = true := by
  unfold freeNamespace
  split
  · exact h
  · simp [wf_filter, h]

@[simp] theorem settleUnloads_wf (h : Memory.wf s.mem = true) : Memory.wf (settleUnloads s).mem = true := wf_foldl (fun _ _ h => freeNamespace_wf _ h) _ h

@[simp] theorem startUnload_wf (c : Cmd) (h : Memory.wf s.mem = true) : Memory.wf (startUnload c s).mem = true := by
  unfold startUnload
  split
  · simp [h]
  · refine settleUnloads_wf ?_
    split <;> simp [h]

@[simp] theorem checkLaunch_wf (c : Cmd) (h : Memory.wf s.mem = true) : Memory.wf (checkLaunch c s).mem = true := by
  unfold checkLaunch
  dsimp only
  (repeat' split) <;> simp [h]

@[simp] theorem startAbort_wf (c : Cmd) (h : Memory.wf s.mem = true) : Memory.wf (startAbort c s).mem = true := by
  unfold startAbort
  (repeat' split) <;> simp [h]

@[simp] theorem settleAborts_wf (l detail : Nat) (h : Memory.wf s.mem = true) : Memory.wf (settleAborts l detail s).mem = true :=
  wf_foldl (fun _ _ h => by simp [h]) _ h

@[simp] theorem endLaunch_wf (l status cause detail : Nat) (h : Memory.wf s.mem = true) : Memory.wf (endLaunch l status cause detail s).mem = true := by
  unfold endLaunch
  split
  · exact h
  · exact settleUnloads_wf (settleAborts_wf _ _ (by simp [h]))

@[simp] theorem discardSweep_wf (l : Nat) (quiet : Bool) (h : Memory.wf s.mem = true) : Memory.wf (discardSweep l quiet s).mem = true := by
  unfold discardSweep
  (repeat' split) <;> simp [h]

@[simp] theorem killTask_wf (t : Nat × TaskInst) (h : Memory.wf s.mem = true) : Memory.wf (killTask s t).mem = true := by
  unfold killTask
  (repeat' split) <;> simp [h]

@[simp] theorem discardLaunch_wf (l : Nat) (a : AbortCause) (h : Memory.wf s.mem = true) : Memory.wf (discardLaunch l a s).mem = true := by
  unfold discardLaunch
  split
  · exact h
  · next x _ =>
    have hk : ∀ u : State, Memory.wf u.mem = true → Memory.wf ((tasksOf u l).foldl killTask u).mem = true :=
      fun u hu => wf_foldl (fun _ _ h => killTask_wf _ h) _ hu
    dsimp only
    rw [touchAll_mem]
    split <;> simp [h, hk]

/-! ### Tracing, management, faults -/

@[simp] theorem putRecord_wf (f : Nat) (r : TraceRec) (h : Memory.wf s.mem = true) : Memory.wf (putRecord f r s).mem = true := by simp [putRecord, h]

@[simp] theorem noteGap_wf (f : Nat) (h : Memory.wf s.mem = true) : Memory.wf (noteGap f s).mem = true := by
  unfold noteGap
  dsimp only
  split <;> simp [h]

@[simp] theorem atFull_wf (f : Nat) (r : TraceRec) (h : Memory.wf s.mem = true) : Memory.wf (atFull f r s).mem = true := by
  have hwrite : ∀ (k : Nat) (bs : List Byte) (g : FieldSt → FieldSt), Memory.wf ((writeBytes s k bs).modField f g).mem = true :=
    fun k bs g => by simp [h]
  unfold atFull
  exact wf_ite (by simp [h]) (hwrite _ _ _)

@[simp] theorem writeTrace_wf (f : Nat) (r : TraceRec) (h : Memory.wf s.mem = true) : Memory.wf (writeTrace f r s).mem = true := by
  unfold writeTrace
  dsimp only
  (repeat' split) <;> simp [h]

@[simp] theorem powerOn_wf (h : Memory.wf s.mem = true) : Memory.wf (powerOn s).mem = true := wf_filter _ h

@[simp] theorem clearStore_wf (f : Nat) (h : Memory.wf s.mem = true) : Memory.wf (clearStore f s).mem = true := by simp [clearStore, wf_filter, h]

@[simp] theorem loseField_wf (f : Nat) (h : Memory.wf s.mem = true) : Memory.wf (loseField f s).mem = true := by
  unfold loseField
  split
  · exact h
  · have hl : ∀ u : State, u.mem = s.mem → Memory.wf (clearStore f (loseEntries f u)).mem = true := fun u hu =>
      clearStore_wf _ (loseEntries_wf _ (hu ▸ h))
    simp [hl]

@[simp] theorem thermalChange_wf (k st : Nat) (h : Memory.wf s.mem = true) : Memory.wf (thermalChange k st s).mem = true := by
  unfold thermalChange
  dsimp only
  (repeat' split) <;> simp [h]

@[simp] theorem failTask_wf (m : Nat × TaskInst) (h : Memory.wf s.mem = true) : Memory.wf (failTask s m).mem = true := by
  unfold failTask
  rw [requeue_mem]
  split <;> simp [h]

end Sys2Proof.Machine
end

section
/-! PROOF. Every row of the table and every step answers a next state and keeps the canonical form of memory: the obligations EveryStepAnswers and
StepKeepsMemory. -/

namespace Sys2Proof.Machine

open Sys2Proof

/-- A result is a next state, whose memory has the canonical form where that of `s` has it. -/
def Keeps (s : State) (r : Result) : Prop := ∃ t, r = .next t ∧ (Memory.wf s.mem = true → Memory.wf t.mem = true)

theorem keeps_next {s t : State} (h : Memory.wf s.mem = true → Memory.wf t.mem = true) : Keeps s (.next t) := ⟨t, rfl, h⟩

theorem keeps_guarded {g : Guard} {s : State} {f : State → State} (h : Memory.wf s.mem = true → Memory.wf (f s).mem = true) :
    Keeps s (guarded g s f) := by
  unfold guarded
  split
  · exact keeps_next h
  · exact keeps_next id

theorem keeps_of_mem_eq {s t : State} (h : t.mem = s.mem) : Keeps s (.next t) := keeps_next fun hw => h ▸ hw

theorem keeps_guarded_of_mem_eq {g : Guard} {s : State} {f : State → State} (h : (f s).mem = s.mem) : Keeps s (guarded g s f) :=
  keeps_guarded fun hw => h ▸ hw

/-! ### The scalar, vector, matrix and copy rows -/

theorem execAdd_keeps (f : SRForm) (s : State) : Keeps s (execAdd f s) := keeps_guarded_of_mem_eq (by simp)

theorem execSub_keeps (f : SRForm) (s : State) : Keeps s (execSub f s) := keeps_guarded_of_mem_eq (by simp)

theorem execMul_keeps (f : SRForm) (s : State) : Keeps s (execMul f s) := keeps_guarded_of_mem_eq (by simp)

theorem execMulh_keeps (f : SRForm) (s : State) : Keeps s (execMulh f s) := keeps_guarded_of_mem_eq (by simp)

theorem execMulhu_keeps (f : SRForm) (s : State) : Keeps s (execMulhu f s) := keeps_guarded_of_mem_eq (by simp)

theorem execDiv_keeps (f : SRForm) (s : State) : Keeps s (execDiv f s) := keeps_guarded_of_mem_eq (by simp)

theorem execDivu_keeps (f : SRForm) (s : State) : Keeps s (execDivu f s) := keeps_guarded_of_mem_eq (by simp)

theorem execRem_keeps (f : SRForm) (s : State) : Keeps s (execRem f s) := keeps_guarded_of_mem_eq (by simp)

theorem execRemu_keeps (f : SRForm) (s : State) : Keeps s (execRemu f s) := keeps_guarded_of_mem_eq (by simp)

theorem execAnd_keeps (f : SRForm) (s : State) : Keeps s (execAnd f s) := keeps_guarded_of_mem_eq (by simp)

theorem execOr_keeps (f : SRForm) (s : State) : Keeps s (execOr f s) := keeps_guarded_of_mem_eq (by simp)

theorem execXor_keeps (f : SRForm) (s : State) : Keeps s (execXor f s) := keeps_guarded_of_mem_eq (by simp)

theorem execAndn_keeps (f : SRForm) (s : State) : Keeps s (execAndn f s) := keeps_guarded_of_mem_eq (by simp)

theorem execShl_keeps (f : SRForm) (s : State) : Keeps s (execShl f s) := keeps_guarded_of_mem_eq (by simp)

theorem execShr_keeps (f : SRForm) (s : State) : Keeps s (execShr f s) := keeps_guarded_of_mem_eq (by simp)

theorem execSra_keeps (f : SRForm) (s : State) : Keeps s (execSra f s) := keeps_guarded_of_mem_eq (by simp)

theorem execMin_keeps (f : SRForm) (s : State) : Keeps s (execMin f s) := keeps_guarded_of_mem_eq (by simp)

theorem execMax_keeps (f : SRForm) (s : State) : Keeps s (execMax f s) := keeps_guarded_of_mem_eq (by simp)

theorem execMinu_keeps (f : SRForm) (s : State) : Keeps s (execMinu f s) := keeps_guarded_of_mem_eq (by simp)

theorem execMaxu_keeps (f : SRForm) (s : State) : Keeps s (execMaxu f s) := keeps_guarded_of_mem_eq (by simp)

theorem execClz_keeps (f : SRForm) (s : State) : Keeps s (execClz f s) := keeps_guarded_of_mem_eq (by simp)

theorem execPopc_keeps (f : SRForm) (s : State) : Keeps s (execPopc f s) := keeps_guarded_of_mem_eq (by simp)

theorem execBfx_keeps (f : SRForm) (s : State) : Keeps s (execBfx f s) := keeps_guarded_of_mem_eq (by simp)

theorem execBfi_keeps (f : SRForm) (s : State) : Keeps s (execBfi f s) := keeps_guarded_of_mem_eq (by simp)

theorem execLi_keeps (f : LIForm) (s : State) : Keeps s (execLi f s) := keeps_guarded_of_mem_eq (by simp)

theorem execSel_keeps (f : SRForm) (s : State) : Keeps s (execSel f s) := keeps_guarded_of_mem_eq (by simp)

theorem execCmp_keeps (f : SRForm) (s : State) : Keeps s (execCmp f s) := keeps_guarded_of_mem_eq (by simp)

theorem execPlog_keeps (f : SRForm) (s : State) : Keeps s (execPlog f s) := keeps_guarded_of_mem_eq (by simp)

theorem execBr_keeps (f : SBForm) (s : State) : Keeps s (execBr f s) := keeps_guarded_of_mem_eq (by simp)

theorem execBri_keeps (f : SRForm) (s : State) : Keeps s (execBri f s) := keeps_guarded_of_mem_eq (by simp)

theorem execCall_keeps (f : SBForm) (s : State) : Keeps s (execCall f s) := keeps_guarded_of_mem_eq (by simp)

theorem execCalli_keeps (f : SRForm) (s : State) : Keeps s (execCalli f s) := keeps_guarded_of_mem_eq (by simp)

theorem execRet_keeps (f : SRForm) (s : State) : Keeps s (execRet f s) := keeps_guarded_of_mem_eq (by simp)

theorem execLoop_keeps (f : SLForm) (s : State) : Keeps s (execLoop f s) := keeps_guarded_of_mem_eq (by simp)

theorem execLoopi_keeps (f : SLForm) (s : State) : Keeps s (execLoopi f s) := keeps_guarded_of_mem_eq (by simp)

theorem execLexit_keeps (f : SLForm) (s : State) : Keeps s (execLexit f s) := keeps_guarded_of_mem_eq (by simp)

theorem execLdw_keeps (f : SMForm) (s : State) : Keeps s (execLdw f s) := keeps_guarded_of_mem_eq (by simp)

theorem execLdh_keeps (f : SMForm) (s : State) : Keeps s (execLdh f s) := keeps_guarded_of_mem_eq (by simp)

theorem execLdhu_keeps (f : SMForm) (s : State) : Keeps s (execLdhu f s) := keeps_guarded_of_mem_eq (by simp)

theorem execLdb_keeps (f : SMForm) (s : State) : Keeps s (execLdb f s) := keeps_guarded_of_mem_eq (by simp)

theorem execLdbu_keeps (f : SMForm) (s : State) : Keeps s (execLdbu f s) := keeps_guarded_of_mem_eq (by simp)

theorem execLdd_keeps (f : SMForm) (s : State) : Keeps s (execLdd f s) := keeps_guarded fun h => by simp [h]

theorem execStw_keeps (f : SMForm) (s : State) : Keeps s (execStw f s) := keeps_guarded fun h => by simp [h]

theorem execSth_keeps (f : SMForm) (s : State) : Keeps s (execSth f s) := keeps_guarded fun h => by simp [h]

theorem execStb_keeps (f : SMForm) (s : State) : Keeps s (execStb f s) := keeps_guarded fun h => by simp [h]

theorem execStd_keeps (f : SMForm) (s : State) : Keeps s (execStd f s) := keeps_guarded fun h => by simp [h]

theorem execLds_keeps (f : LDSForm) (s : State) : Keeps s (execLds f s) := keeps_guarded fun h => by
  dsimp only
  (repeat' split) <;> simp [h]

theorem execStf_keeps (f : SMForm) (s : State) : Keeps s (execStf f s) := keeps_guarded fun h => by simp [h]

theorem execFeclr_keeps (f : SMForm) (s : State) : Keeps s (execFeclr f s) := keeps_guarded fun h => by simp [h]

theorem execAadd_keeps (f : SMForm) (s : State) : Keeps s (execAadd f s) := keeps_guarded fun h => by simp [h]

theorem execAmax_keeps (f : SMForm) (s : State) : Keeps s (execAmax f s) := keeps_guarded fun h => by simp [h]

theorem execAor_keeps (f : SMForm) (s : State) : Keeps s (execAor f s) := keeps_guarded fun h => by simp [h]

theorem execAxch_keeps (f : SMForm) (s : State) : Keeps s (execAxch f s) := keeps_guarded fun h => by simp [h]

theorem execAcas_keeps (f : SMForm) (s : State) : Keeps s (execAcas f s) := keeps_guarded fun h => by simp [h]

theorem execRpop_keeps (f : SYForm) (s : State) : Keeps s (execRpop f s) := keeps_guarded_of_mem_eq (onRing_mem _ _ fun _ _ => by split <;> simp)

theorem execRtry_keeps (f : SYForm) (s : State) : Keeps s (execRtry f s) := keeps_guarded_of_mem_eq (onRing_mem _ _ fun _ _ => by split <;> simp)

theorem execRrel_keeps (f : SYForm) (s : State) : Keeps s (execRrel f s) := keeps_guarded_of_mem_eq (onRing_mem _ _ fun _ _ => by split <;> simp)

theorem execRclaim_keeps (f : SYForm) (s : State) : Keeps s (execRclaim f s) := keeps_guarded_of_mem_eq (onRing_mem _ _ fun _ _ => by split <;> simp)

theorem execRfill_keeps (f : SYForm) (s : State) : Keeps s (execRfill f s) := keeps_guarded_of_mem_eq (onRing_mem _ _ fun _ _ => by split <;> simp)

theorem execRstat_keeps (f : SYForm) (s : State) : Keeps s (execRstat f s) := keeps_guarded_of_mem_eq (onRing_mem _ _ fun _ _ => by simp)

theorem execAset_keeps (f : SYForm) (s : State) : Keeps s (execAset f s) := keeps_guarded_of_mem_eq (by simp)

theorem execAinc_keeps (f : SYForm) (s : State) : Keeps s (execAinc f s) := keeps_guarded_of_mem_eq (by simp)

theorem execMfc_keeps (f : SYForm) (s : State) : Keeps s (execMfc f s) := keeps_guarded_of_mem_eq (by split <;> simp)

theorem execMtc_keeps (f : SYForm) (s : State) : Keeps s (execMtc f s) := keeps_guarded_of_mem_eq (by simp)

theorem execFence_keeps (f : SYForm) (s : State) : Keeps s (execFence f s) := keeps_guarded_of_mem_eq (by simp)

theorem execTrap_keeps (f : SYForm) (s : State) : Keeps s (execTrap f s) := keeps_guarded_of_mem_eq (by simp)

theorem execTend_keeps (f : SYForm) (s : State) : Keeps s (execTend f s) := keeps_guarded_of_mem_eq (by simp)

theorem execWaite_keeps (f : SYForm) (s : State) : Keeps s (execWaite f s) := keeps_guarded_of_mem_eq (by simp)

theorem execBkpt_keeps (f : SYForm) (s : State) : Keeps s (execBkpt f s) := keeps_guarded_of_mem_eq (by split <;> simp)

theorem execGbar_keeps (f : SYForm) (s : State) : Keeps s (execGbar f s) := keeps_guarded_of_mem_eq (by
  dsimp only
  (repeat' split) <;> simp)

theorem execTrace_keeps (f : SYForm) (s : State) : Keeps s (execTrace f s) := keeps_guarded_of_mem_eq (by
  dsimp only
  (repeat' split) <;> simp)

theorem execSpause_keeps (f : SYForm) (s : State) : Keeps s (execSpause f s) := keeps_guarded_of_mem_eq (by simp)

theorem execVfaddF32_keeps (f : VRForm) (s : State) : Keeps s (execVfaddF32 f s) := keeps_guarded_of_mem_eq (by simp)

theorem execVfaddBf16_keeps (f : VRForm) (s : State) : Keeps s (execVfaddBf16 f s) := keeps_guarded_of_mem_eq (by simp)

theorem execVfaddF16_keeps (f : VRForm) (s : State) : Keeps s (execVfaddF16 f s) := keeps_guarded_of_mem_eq (by simp)

theorem execVfsubF32_keeps (f : VRForm) (s : State) : Keeps s (execVfsubF32 f s) := keeps_guarded_of_mem_eq (by simp)

theorem execVfsubBf16_keeps (f : VRForm) (s : State) : Keeps s (execVfsubBf16 f s) := keeps_guarded_of_mem_eq (by simp)

theorem execVfsubF16_keeps (f : VRForm) (s : State) : Keeps s (execVfsubF16 f s) := keeps_guarded_of_mem_eq (by simp)

theorem execVfmulF32_keeps (f : VRForm) (s : State) : Keeps s (execVfmulF32 f s) := keeps_guarded_of_mem_eq (by simp)

theorem execVfmulBf16_keeps (f : VRForm) (s : State) : Keeps s (execVfmulBf16 f s) := keeps_guarded_of_mem_eq (by simp)

theorem execVfmulF16_keeps (f : VRForm) (s : State) : Keeps s (execVfmulF16 f s) := keeps_guarded_of_mem_eq (by simp)

theorem execVfmaF32_keeps (f : VRForm) (s : State) : Keeps s (execVfmaF32 f s) := keeps_guarded_of_mem_eq (by simp)

theorem execVfmaBf16_keeps (f : VRForm) (s : State) : Keeps s (execVfmaBf16 f s) := keeps_guarded_of_mem_eq (by simp)

theorem execVfmaF16_keeps (f : VRForm) (s : State) : Keeps s (execVfmaF16 f s) := keeps_guarded_of_mem_eq (by simp)

theorem execVfmsF32_keeps (f : VRForm) (s : State) : Keeps s (execVfmsF32 f s) := keeps_guarded_of_mem_eq (by simp)

theorem execVfmsBf16_keeps (f : VRForm) (s : State) : Keeps s (execVfmsBf16 f s) := keeps_guarded_of_mem_eq (by simp)

theorem execVfmsF16_keeps (f : VRForm) (s : State) : Keeps s (execVfmsF16 f s) := keeps_guarded_of_mem_eq (by simp)

theorem execVfnmaF32_keeps (f : VRForm) (s : State) : Keeps s (execVfnmaF32 f s) := keeps_guarded_of_mem_eq (by simp)

theorem execVfnmaBf16_keeps (f : VRForm) (s : State) : Keeps s (execVfnmaBf16 f s) := keeps_guarded_of_mem_eq (by simp)

theorem execVfnmaF16_keeps (f : VRForm) (s : State) : Keeps s (execVfnmaF16 f s) := keeps_guarded_of_mem_eq (by simp)

theorem execVfminF32_keeps (f : VRForm) (s : State) : Keeps s (execVfminF32 f s) := keeps_guarded_of_mem_eq (by simp)

theorem execVfminBf16_keeps (f : VRForm) (s : State) : Keeps s (execVfminBf16 f s) := keeps_guarded_of_mem_eq (by simp)

theorem execVfminF16_keeps (f : VRForm) (s : State) : Keeps s (execVfminF16 f s) := keeps_guarded_of_mem_eq (by simp)

theorem execVfmaxF32_keeps (f : VRForm) (s : State) : Keeps s (execVfmaxF32 f s) := keeps_guarded_of_mem_eq (by simp)

theorem execVfmaxBf16_keeps (f : VRForm) (s : State) : Keeps s (execVfmaxBf16 f s) := keeps_guarded_of_mem_eq (by simp)

theorem execVfmaxF16_keeps (f : VRForm) (s : State) : Keeps s (execVfmaxF16 f s) := keeps_guarded_of_mem_eq (by simp)

theorem execVfcmpF32_keeps (f : VRForm) (s : State) : Keeps s (execVfcmpF32 f s) := keeps_guarded_of_mem_eq (by simp)

theorem execVfcmpBf16_keeps (f : VRForm) (s : State) : Keeps s (execVfcmpBf16 f s) := keeps_guarded_of_mem_eq (by simp)

theorem execVfcmpF16_keeps (f : VRForm) (s : State) : Keeps s (execVfcmpF16 f s) := keeps_guarded_of_mem_eq (by simp)

theorem execVfclampF32_keeps (f : VRForm) (s : State) : Keeps s (execVfclampF32 f s) := keeps_guarded_of_mem_eq (by simp)

theorem execVfclampBf16_keeps (f : VRForm) (s : State) : Keeps s (execVfclampBf16 f s) := keeps_guarded_of_mem_eq (by simp)

theorem execVfclampF16_keeps (f : VRForm) (s : State) : Keeps s (execVfclampF16 f s) := keeps_guarded_of_mem_eq (by simp)

theorem execVexp2_keeps (f : VRForm) (s : State) : Keeps s (execVexp2 f s) := keeps_guarded_of_mem_eq (by simp)

theorem execVlog2_keeps (f : VRForm) (s : State) : Keeps s (execVlog2 f s) := keeps_guarded_of_mem_eq (by simp)

theorem execVrcp_keeps (f : VRForm) (s : State) : Keeps s (execVrcp f s) := keeps_guarded_of_mem_eq (by simp)

theorem execVrsq_keeps (f : VRForm) (s : State) : Keeps s (execVrsq f s) := keeps_guarded_of_mem_eq (by simp)

theorem execVsqrt_keeps (f : VRForm) (s : State) : Keeps s (execVsqrt f s) := keeps_guarded_of_mem_eq (by simp)

theorem execVfrnd_keeps (f : VRForm) (s : State) : Keeps s (execVfrnd f s) := keeps_guarded_of_mem_eq (by simp)

theorem execVfclass_keeps (f : VRForm) (s : State) : Keeps s (execVfclass f s) := keeps_guarded_of_mem_eq (by simp)

theorem execVaddI32_keeps (f : VRForm) (s : State) : Keeps s (execVaddI32 f s) := keeps_guarded_of_mem_eq (by simp)

theorem execVaddI16_keeps (f : VRForm) (s : State) : Keeps s (execVaddI16 f s) := keeps_guarded_of_mem_eq (by simp)

theorem execVaddI8_keeps (f : VRForm) (s : State) : Keeps s (execVaddI8 f s) := keeps_guarded_of_mem_eq (by simp)

theorem execVsubI32_keeps (f : VRForm) (s : State) : Keeps s (execVsubI32 f s) := keeps_guarded_of_mem_eq (by simp)

theorem execVsubI16_keeps (f : VRForm) (s : State) : Keeps s (execVsubI16 f s) := keeps_guarded_of_mem_eq (by simp)

theorem execVsubI8_keeps (f : VRForm) (s : State) : Keeps s (execVsubI8 f s) := keeps_guarded_of_mem_eq (by simp)

theorem execVmulI32_keeps (f : VRForm) (s : State) : Keeps s (execVmulI32 f s) := keeps_guarded_of_mem_eq (by simp)

theorem execVmulI16_keeps (f : VRForm) (s : State) : Keeps s (execVmulI16 f s) := keeps_guarded_of_mem_eq (by simp)

theorem execVmulI8_keeps (f : VRForm) (s : State) : Keeps s (execVmulI8 f s) := keeps_guarded_of_mem_eq (by simp)

theorem execVminI32_keeps (f : VRForm) (s : State) : Keeps s (execVminI32 f s) := keeps_guarded_of_mem_eq (by simp)

theorem execVminI16_keeps (f : VRForm) (s : State) : Keeps s (execVminI16 f s) := keeps_guarded_of_mem_eq (by simp)

theorem execVminI8_keeps (f : VRForm) (s : State) : Keeps s (execVminI8 f s) := keeps_guarded_of_mem_eq (by simp)

theorem execVmaxI32_keeps (f : VRForm) (s : State) : Keeps s (execVmaxI32 f s) := keeps_guarded_of_mem_eq (by simp)

theorem execVmaxI16_keeps (f : VRForm) (s : State) : Keeps s (execVmaxI16 f s) := keeps_guarded_of_mem_eq (by simp)

theorem execVmaxI8_keeps (f : VRForm) (s : State) : Keeps s (execVmaxI8 f s) := keeps_guarded_of_mem_eq (by simp)

theorem execVcmpI32_keeps (f : VRForm) (s : State) : Keeps s (execVcmpI32 f s) := keeps_guarded_of_mem_eq (by simp)

theorem execVcmpI16_keeps (f : VRForm) (s : State) : Keeps s (execVcmpI16 f s) := keeps_guarded_of_mem_eq (by simp)

theorem execVcmpI8_keeps (f : VRForm) (s : State) : Keeps s (execVcmpI8 f s) := keeps_guarded_of_mem_eq (by simp)

theorem execVabsI32_keeps (f : VRForm) (s : State) : Keeps s (execVabsI32 f s) := keeps_guarded_of_mem_eq (by simp)

theorem execVabsI16_keeps (f : VRForm) (s : State) : Keeps s (execVabsI16 f s) := keeps_guarded_of_mem_eq (by simp)

theorem execVabsI8_keeps (f : VRForm) (s : State) : Keeps s (execVabsI8 f s) := keeps_guarded_of_mem_eq (by simp)

theorem execVshlI32_keeps (f : VRForm) (s : State) : Keeps s (execVshlI32 f s) := keeps_guarded_of_mem_eq (by simp)

theorem execVshlI32Imm_keeps (f : VRForm) (s : State) : Keeps s (execVshlI32Imm f s) := keeps_guarded_of_mem_eq (by simp)

theorem execVshlI16_keeps (f : VRForm) (s : State) : Keeps s (execVshlI16 f s) := keeps_guarded_of_mem_eq (by simp)

theorem execVshlI16Imm_keeps (f : VRForm) (s : State) : Keeps s (execVshlI16Imm f s) := keeps_guarded_of_mem_eq (by simp)

theorem execVshlI8_keeps (f : VRForm) (s : State) : Keeps s (execVshlI8 f s) := keeps_guarded_of_mem_eq (by simp)

theorem execVshlI8Imm_keeps (f : VRForm) (s : State) : Keeps s (execVshlI8Imm f s) := keeps_guarded_of_mem_eq (by simp)

theorem execVshrI32_keeps (f : VRForm) (s : State) : Keeps s (execVshrI32 f s) := keeps_guarded_of_mem_eq (by simp)

theorem execVshrI32Imm_keeps (f : VRForm) (s : State) : Keeps s (execVshrI32Imm f s) := keeps_guarded_of_mem_eq (by simp)

theorem execVshrI16_keeps (f : VRForm) (s : State) : Keeps s (execVshrI16 f s) := keeps_guarded_of_mem_eq (by simp)

theorem execVshrI16Imm_keeps (f : VRForm) (s : State) : Keeps s (execVshrI16Imm f s) := keeps_guarded_of_mem_eq (by simp)

theorem execVshrI8_keeps (f : VRForm) (s : State) : Keeps s (execVshrI8 f s) := keeps_guarded_of_mem_eq (by simp)

theorem execVshrI8Imm_keeps (f : VRForm) (s : State) : Keeps s (execVshrI8Imm f s) := keeps_guarded_of_mem_eq (by simp)

theorem execVsraI32_keeps (f : VRForm) (s : State) : Keeps s (execVsraI32 f s) := keeps_guarded_of_mem_eq (by simp)

theorem execVsraI32Imm_keeps (f : VRForm) (s : State) : Keeps s (execVsraI32Imm f s) := keeps_guarded_of_mem_eq (by simp)

theorem execVsraI16_keeps (f : VRForm) (s : State) : Keeps s (execVsraI16 f s) := keeps_guarded_of_mem_eq (by simp)

theorem execVsraI16Imm_keeps (f : VRForm) (s : State) : Keeps s (execVsraI16Imm f s) := keeps_guarded_of_mem_eq (by simp)

theorem execVsraI8_keeps (f : VRForm) (s : State) : Keeps s (execVsraI8 f s) := keeps_guarded_of_mem_eq (by simp)

theorem execVsraI8Imm_keeps (f : VRForm) (s : State) : Keeps s (execVsraI8Imm f s) := keeps_guarded_of_mem_eq (by simp)

theorem execVmulh_keeps (f : VRForm) (s : State) : Keeps s (execVmulh f s) := keeps_guarded_of_mem_eq (by simp)

theorem execVsaddI16_keeps (f : VRForm) (s : State) : Keeps s (execVsaddI16 f s) := keeps_guarded_of_mem_eq (by simp)

theorem execVsaddI8_keeps (f : VRForm) (s : State) : Keeps s (execVsaddI8 f s) := keeps_guarded_of_mem_eq (by simp)

theorem execVssubI16_keeps (f : VRForm) (s : State) : Keeps s (execVssubI16 f s) := keeps_guarded_of_mem_eq (by simp)

theorem execVssubI8_keeps (f : VRForm) (s : State) : Keeps s (execVssubI8 f s) := keeps_guarded_of_mem_eq (by simp)

theorem execVand_keeps (f : VRForm) (s : State) : Keeps s (execVand f s) := keeps_guarded_of_mem_eq (by simp)

theorem execVor_keeps (f : VRForm) (s : State) : Keeps s (execVor f s) := keeps_guarded_of_mem_eq (by simp)

theorem execVxor_keeps (f : VRForm) (s : State) : Keeps s (execVxor f s) := keeps_guarded_of_mem_eq (by simp)

theorem execVandn_keeps (f : VRForm) (s : State) : Keeps s (execVandn f s) := keeps_guarded_of_mem_eq (by simp)

theorem execVsel_keeps (f : VRForm) (s : State) : Keeps s (execVsel f s) := keeps_guarded_of_mem_eq (by simp)

theorem execVcvt_keeps (f : VRForm) (s : State) : Keeps s (execVcvt f s) := keeps_guarded_of_mem_eq (by simp)

theorem execVcvti_keeps (f : VRForm) (s : State) : Keeps s (execVcvti f s) := keeps_guarded_of_mem_eq (by simp)

theorem execVcvtb8_keeps (f : VRForm) (s : State) : Keeps s (execVcvtb8 f s) := keeps_guarded_of_mem_eq (by simp)

theorem execVwideb8_keeps (f : VRForm) (s : State) : Keeps s (execVwideb8 f s) := keeps_guarded_of_mem_eq (by simp)

theorem execVhad_keeps (f : VRForm) (s : State) : Keeps s (execVhad f s) := keeps_guarded_of_mem_eq (by simp)

theorem execVpack_keeps (f : VRForm) (s : State) : Keeps s (execVpack f s) := keeps_guarded_of_mem_eq (by simp)

theorem execVunpack_keeps (f : VRForm) (s : State) : Keeps s (execVunpack f s) := keeps_guarded_of_mem_eq (by simp)

theorem execVdotBf16_keeps (f : VRForm) (s : State) : Keeps s (execVdotBf16 f s) := keeps_guarded_of_mem_eq (by simp)

theorem execVdotI8_keeps (f : VRForm) (s : State) : Keeps s (execVdotI8 f s) := keeps_guarded_of_mem_eq (by simp)

theorem execVmov_keeps (f : VRForm) (s : State) : Keeps s (execVmov f s) := keeps_guarded_of_mem_eq (by simp)

theorem execVbcst_keeps (f : VRForm) (s : State) : Keeps s (execVbcst f s) := keeps_guarded_of_mem_eq (by simp)

theorem execVins_keeps (f : VRForm) (s : State) : Keeps s (execVins f s) := keeps_guarded_of_mem_eq (by simp)

theorem execVext_keeps (f : VRForm) (s : State) : Keeps s (execVext f s) := keeps_guarded_of_mem_eq (by simp)

theorem execVperm_keeps (f : VRForm) (s : State) : Keeps s (execVperm f s) := keeps_guarded_of_mem_eq (by simp)

theorem execVzip_keeps (f : VRForm) (s : State) : Keeps s (execVzip f s) := keeps_guarded_of_mem_eq (by simp)

theorem execVunzip_keeps (f : VRForm) (s : State) : Keeps s (execVunzip f s) := keeps_guarded_of_mem_eq (by simp)

theorem execVslide_keeps (f : VRForm) (s : State) : Keeps s (execVslide f s) := keeps_guarded_of_mem_eq (by simp)

theorem execVradd_keeps (f : VRForm) (s : State) : Keeps s (execVradd f s) := keeps_guarded_of_mem_eq (by simp)

theorem execVrmax_keeps (f : VRForm) (s : State) : Keeps s (execVrmax f s) := keeps_guarded_of_mem_eq (by simp)

theorem execVrmin_keeps (f : VRForm) (s : State) : Keeps s (execVrmin f s) := keeps_guarded_of_mem_eq (by simp)

theorem execVraddi_keeps (f : VRForm) (s : State) : Keeps s (execVraddi f s) := keeps_guarded_of_mem_eq (by simp)

theorem execVpsum_keeps (f : VRForm) (s : State) : Keeps s (execVpsum f s) := keeps_guarded_of_mem_eq (by simp)

theorem execVtopk_keeps (f : VRForm) (s : State) : Keeps s (execVtopk f s) := keeps_guarded_of_mem_eq (by simp)

theorem execVmergek_keeps (f : VRForm) (s : State) : Keeps s (execVmergek f s) := keeps_guarded_of_mem_eq (by simp)

theorem execVcntm_keeps (f : VRForm) (s : State) : Keeps s (execVcntm f s) := keeps_guarded_of_mem_eq (by simp)

theorem execVtld_keeps (f : VRForm) (s : State) : Keeps s (execVtld f s) := keeps_guarded_of_mem_eq (by
  dsimp only
  (repeat' split) <;> simp)

theorem execVtli_keeps (f : VRForm) (s : State) : Keeps s (execVtli f s) := keeps_guarded_of_mem_eq (by simp)

theorem execVtlu_keeps (f : VRForm) (s : State) : Keeps s (execVtlu f s) := keeps_guarded_of_mem_eq (by
  dsimp only
  (repeat' split) <;> simp)

theorem execVld_keeps (f : VMForm) (s : State) : Keeps s (execVld f s) := keeps_guarded fun h => by simp [h]

theorem execVst_keeps (f : VMForm) (s : State) : Keeps s (execVst f s) := keeps_guarded fun h => by simp [h]

theorem execVldt_keeps (f : VMForm) (s : State) : Keeps s (execVldt f s) := keeps_guarded fun h => by simp [h]

theorem execVstt_keeps (f : VMForm) (s : State) : Keeps s (execVstt f s) := keeps_guarded fun h => by simp [h]

theorem execVgath_keeps (f : VMForm) (s : State) : Keeps s (execVgath f s) := keeps_guarded fun h => by simp [h]

theorem execVscat_keeps (f : VMForm) (s : State) : Keeps s (execVscat f s) := keeps_guarded fun h => by simp [h]

theorem execVlds_keeps (f : VMForm) (s : State) : Keeps s (execVlds f s) := keeps_guarded fun h => by
  dsimp only
  (repeat' split) <;> simp [h]

theorem execVldb_keeps (f : VMForm) (s : State) : Keeps s (execVldb f s) := by
  unfold execVldb
  refine keeps_guarded_of_mem_eq (vAccess_mem _ _ _ _ _ _ (fun ks t => ?_) s)
  cases ks
  · rfl
  · exact loadElems_mem _ _ _ t

theorem execVmlog_keeps (f : VRForm) (s : State) : Keeps s (execVmlog f s) := keeps_guarded_of_mem_eq (by simp)

theorem execVmset_keeps (f : VRForm) (s : State) : Keeps s (execVmset f s) := keeps_guarded_of_mem_eq (by simp)

theorem execVmfirst_keeps (f : VRForm) (s : State) : Keeps s (execVmfirst f s) := keeps_guarded_of_mem_eq (by simp)

theorem execVlerpF32_keeps (f : VRForm) (s : State) : Keeps s (execVlerpF32 f s) := keeps_guarded_of_mem_eq (by simp)

theorem execVlerpBf16_keeps (f : VRForm) (s : State) : Keeps s (execVlerpBf16 f s) := keeps_guarded_of_mem_eq (by simp)

theorem execVfsgn_keeps (f : VRForm) (s : State) : Keeps s (execVfsgn f s) := keeps_guarded_of_mem_eq (by simp)

theorem execVfscale_keeps (f : VRForm) (s : State) : Keeps s (execVfscale f s) := keeps_guarded_of_mem_eq (by simp)

theorem execMwld_keeps (f : MForm) (s : State) : Keeps s (execMwld f s) := keeps_guarded_of_mem_eq (by simp)

theorem execMwlds_keeps (f : MForm) (s : State) : Keeps s (execMwlds f s) := keeps_guarded_of_mem_eq (by simp)

theorem execMwpre_keeps (f : MForm) (s : State) : Keeps s (execMwpre f s) := keeps_guarded_of_mem_eq (by simp)

theorem execMma_keeps (f : MForm) (s : State) : Keeps s (execMma f s) := keeps_guarded_of_mem_eq (by simp)

theorem execMmao_keeps (f : MForm) (s : State) : Keeps s (execMmao f s) := keeps_guarded_of_mem_eq (by simp)

theorem execMzero_keeps (f : MForm) (s : State) : Keeps s (execMzero f s) := keeps_guarded_of_mem_eq (by simp)

theorem execMdrain_keeps (f : MForm) (s : State) : Keeps s (execMdrain f s) := keeps_guarded_of_mem_eq (by simp)

theorem execMsca_keeps (f : MForm) (s : State) : Keeps s (execMsca f s) := keeps_guarded_of_mem_eq (by split <;> simp)

theorem execMstat_keeps (f : MForm) (s : State) : Keeps s (execMstat f s) := keeps_guarded_of_mem_eq (by simp)

theorem execMresc_keeps (f : MForm) (s : State) : Keeps s (execMresc f s) := keeps_guarded_of_mem_eq (by simp)

theorem execMtrn_keeps (f : MForm) (s : State) : Keeps s (execMtrn f s) := keeps_guarded_of_mem_eq (by simp)

theorem execMwait_keeps (f : MForm) (s : State) : Keeps s (execMwait f s) := keeps_guarded_of_mem_eq (by
  dsimp only
  (repeat' split) <;> simp)

theorem execMprog_keeps (f : MForm) (s : State) : Keeps s (execMprog f s) := keeps_guarded_of_mem_eq (by simp)

theorem execMflags_keeps (f : MForm) (s : State) : Keeps s (execMflags f s) := keeps_guarded_of_mem_eq (by simp)

theorem execMhold_keeps (f : MForm) (s : State) : Keeps s (execMhold f s) := keeps_guarded_of_mem_eq (by simp)

theorem execMflush_keeps (f : MForm) (s : State) : Keeps s (execMflush f s) := keeps_guarded_of_mem_eq (by simp)

theorem execCld_keeps (f : CForm) (s : State) : Keeps s (execCld f s) := keeps_guarded_of_mem_eq (by simp)

theorem execCst_keeps (f : CForm) (s : State) : Keeps s (execCst f s) := keeps_guarded_of_mem_eq (by simp)

theorem execCld2d_keeps (f : CForm) (s : State) : Keeps s (execCld2d f s) := keeps_guarded_of_mem_eq (by simp)

theorem execCst2d_keeps (f : CForm) (s : State) : Keeps s (execCst2d f s) := keeps_guarded_of_mem_eq (by simp)

theorem execCldr_keeps (f : CForm) (s : State) : Keeps s (execCldr f s) := keeps_guarded_of_mem_eq (by simp)

theorem execCatom_keeps (f : CForm) (s : State) : Keeps s (execCatom f s) := keeps_guarded_of_mem_eq (by
  dsimp only
  (repeat' split) <;> simp)

theorem execCwait_keeps (f : CForm) (s : State) : Keeps s (execCwait f s) := keeps_guarded_of_mem_eq (by split <;> simp)

theorem execCpoll_keeps (f : CForm) (s : State) : Keeps s (execCpoll f s) := keeps_guarded_of_mem_eq (by simp)

theorem execCfence_keeps (f : CForm) (s : State) : Keeps s (execCfence f s) := keeps_guarded_of_mem_eq (by
  dsimp only
  (repeat' split) <;> simp)

theorem execCcancel_keeps (f : CForm) (s : State) : Keeps s (execCcancel f s) := keeps_guarded_of_mem_eq (by simp)

theorem execCget_keeps (f : CForm) (s : State) : Keeps s (execCget f s) := keeps_guarded_of_mem_eq (by simp)

theorem execPub_keeps (f : CForm) (s : State) : Keeps s (execPub f s) := keeps_guarded_of_mem_eq (by simp)

theorem execPubr_keeps (f : CForm) (s : State) : Keeps s (execPubr f s) := keeps_guarded_of_mem_eq (by simp)

theorem execPubred_keeps (f : CForm) (s : State) : Keeps s (execPubred f s) := keeps_guarded_of_mem_eq (by simp)

theorem execPip_keeps (f : CForm) (s : State) : Keeps s (execPip f s) := keeps_guarded_of_mem_eq (by simp)

theorem execSubscribe_keeps (f : CForm) (s : State) : Keeps s (execSubscribe f s) := keeps_guarded_of_mem_eq (by
  dsimp only
  (repeat' split) <;> simp)

theorem execUnsub_keeps (f : CForm) (s : State) : Keeps s (execUnsub f s) := keeps_guarded fun h => by
  dsimp only
  (repeat' split) <;> simp [h]

theorem execCpref_keeps (f : CForm) (s : State) : Keeps s (execCpref f s) := keeps_guarded_of_mem_eq (by simp)

theorem execPhase_keeps (f : CForm) (s : State) : Keeps s (execPhase f s) := keeps_guarded_of_mem_eq (by
  dsimp only
  (repeat' split) <;> simp)

theorem execPubc_keeps (f : CForm) (s : State) : Keeps s (execPubc f s) := keeps_guarded_of_mem_eq (by simp)

theorem execSubq_keeps (f : CForm) (s : State) : Keeps s (execSubq f s) := keeps_guarded_of_mem_eq (by simp)

theorem execErtq_keeps (f : CForm) (s : State) : Keeps s (execErtq f s) := keeps_guarded_of_mem_eq (by simp)

theorem execErth_keeps (f : CForm) (s : State) : Keeps s (execErth f s) := keeps_guarded_of_mem_eq (by
  dsimp only
  (repeat' split) <;> simp)

theorem execSumpq_keeps (f : CForm) (s : State) : Keeps s (execSumpq f s) := keeps_guarded_of_mem_eq (by simp)

/-! ### The steps of the device -/

theorem execPowerOnReset_keeps (s : State) : Keeps s (execPowerOnReset s) := keeps_next fun h => by
  split
  · dsimp only
    (repeat' split) <;> simp [h]
  · exact h

theorem execRecoveryGo_keeps (s : State) : Keeps s (execRecoveryGo s) := keeps_of_mem_eq (by
  split
  · dsimp only
    (repeat' split) <;> simp
  · rfl)

theorem execMeasurementExtend_keeps (s : State) : Keeps s (execMeasurementExtend s) := keeps_of_mem_eq (by (repeat' split) <;> simp)

theorem execRegisterWrite_keeps (s : State) : Keeps s (execRegisterWrite s) := keeps_of_mem_eq (by
  (repeat' split) <;> try rfl
  · exact readBar_mem _ s
  · exact onBar_mem (writeReg_mem _) s
  · exact onBar_mem (writeBar4_mem _) s)

theorem execQtailWrite_keeps (s : State) : Keeps s (execQtailWrite s) := keeps_of_mem_eq (by
  split
  · exact onBar_mem (fun t => by split <;> [rfl; exact checked_mem t _ _ _ _ _ _ (by simp) (by simp)]) s
  · rfl)

theorem execQctlWrite_keeps (s : State) : Keeps s (execQctlWrite s) := keeps_of_mem_eq (by
  split
  · exact onBar_mem (fun t => by split <;> [rfl; exact checked_mem t _ _ _ _ _ _ (by simp) (by simp)]) s
  · rfl)

theorem execQueueSelection_keeps (s : State) : Keeps s (execQueueSelection s) := keeps_of_mem_eq (by (repeat' split) <;> simp)

theorem execNop_keeps (s : State) : Keeps s (execNop s) := keeps_next fun h => by
  (repeat' split) <;> simp [h]

theorem execLoad_keeps (s : State) : Keeps s (execLoad s) := keeps_next fun h => by
  (repeat' split) <;> simp [h]

theorem execUnload_keeps (s : State) : Keeps s (execUnload s) := keeps_next fun h => by
  (repeat' split) <;> simp [h]

theorem execLaunch_keeps (s : State) : Keeps s (execLaunch s) := keeps_next fun h => by
  (repeat' split) <;> simp [h]

theorem execAbort_keeps (s : State) : Keeps s (execAbort s) := keeps_next fun h => by
  (repeat' split) <;> simp [h]

theorem execCommandFenceRelease_keeps (s : State) : Keeps s (execCommandFenceRelease s) := keeps_of_mem_eq (by (repeat' split) <;> simp)

theorem execLaunchAcceptance_keeps (s : State) : Keeps s (execLaunchAcceptance s) := keeps_of_mem_eq (by
  split
  · dsimp only
    (repeat' split) <;> simp
  · rfl)

theorem execWaferAcknowledgement_keeps (s : State) : Keeps s (execWaferAcknowledgement s) := keeps_of_mem_eq (by (repeat' split) <;> simp)

theorem execGateTimeout_keeps (s : State) : Keeps s (execGateTimeout s) := keeps_of_mem_eq (by (repeat' split) <;> simp)

theorem execPeerAbort_keeps (s : State) : Keeps s (execPeerAbort s) := keeps_of_mem_eq (by (repeat' split) <;> simp)

theorem execFirmwareAbort_keeps (s : State) : Keeps s (execFirmwareAbort s) := keeps_of_mem_eq (by (repeat' split) <;> simp)

theorem execControlPip_keeps (s : State) : Keeps s (execControlPip s) := keeps_of_mem_eq (by (repeat' split) <;> simp)

theorem execFirmwarePriorityChange_keeps (s : State) : Keeps s (execFirmwarePriorityChange s) := keeps_of_mem_eq (by (repeat' split) <;> simp)

theorem execFirmwareFault_keeps (s : State) : Keeps s (execFirmwareFault s) := keeps_of_mem_eq (by (repeat' split) <;> simp)

theorem execPreemptionRequest_keeps (s : State) : Keeps s (execPreemptionRequest s) := keeps_next fun h => by
  (repeat' split) <;> simp [h]

theorem execTenantSwitch_keeps (s : State) : Keeps s (execTenantSwitch s) := keeps_next fun h => by
  (repeat' split) <;> simp [h]

theorem execHomeTableRebuild_keeps (s : State) : Keeps s (execHomeTableRebuild s) := keeps_of_mem_eq (by (repeat' split) <;> simp)

theorem execRimRequestStart_keeps (s : State) : Keeps s (execRimRequestStart s) := keeps_of_mem_eq (by (repeat' split) <;> simp)

theorem execTaskHandoff_keeps (s : State) : Keeps s (execTaskHandoff s) := keeps_of_mem_eq (by (repeat' split) <;> simp)

theorem execDistributorSelection_keeps (s : State) : Keeps s (execDistributorSelection s) := keeps_next fun h => by
  (repeat' split) <;> try exact h
  dsimp only
  split
  · exact wf_foldl (fun _ _ hs => arm_wf _ _ hs) _ h
  · simp [h]

theorem execPassOverEnd_keeps (s : State) : Keeps s (execPassOverEnd s) := keeps_of_mem_eq (by (repeat' split) <;> simp)

theorem execEntryHandover_keeps (s : State) : Keeps s (execEntryHandover s) := keeps_of_mem_eq (by (repeat' split) <;> simp)

theorem execTaskFire_keeps (s : State) : Keeps s (execTaskFire s) := keeps_of_mem_eq (by (repeat' split) <;> simp)

theorem execGangFire_keeps (s : State) : Keeps s (execGangFire s) := keeps_of_mem_eq (by
  have hfire : ∀ (t : State) (b : Option Bool) (n c : Nat),
      (match b with | some b => fireInto n b (leaveBank c t) | none => t).mem = t.mem := fun t b n c => by cases b <;> simp
  (repeat' split) <;> try rfl
  exact mem_foldl _ (fun t m => hfire t _ _ _) _ _)

theorem execBudgetExhausted_keeps (s : State) : Keeps s (execBudgetExhausted s) := keeps_next fun h => by
  (repeat' split) <;> simp [h]

theorem execThermalSample_keeps (s : State) : Keeps s (execThermalSample s) := keeps_next fun h => by
  split
  · dsimp only
    (repeat' split) <;> simp [h]
  · exact h

theorem execPowerCheck_keeps (s : State) : Keeps s (execPowerCheck s) := keeps_of_mem_eq (by (repeat' split) <;> simp)

theorem execCoolantFault_keeps (s : State) : Keeps s (execCoolantFault s) := keeps_of_mem_eq (by (repeat' split) <;> simp)

theorem execCoolantTrip_keeps (s : State) : Keeps s (execCoolantTrip s) := keeps_next fun h => by
  split
  · rw [needsReset_mem]
    exact wf_foldl (fun _ f hs => loseField_wf f hs) _ h
  · exact h

theorem execClusterRetirement_keeps (s : State) : Keeps s (execClusterRetirement s) := keeps_next fun h => by
  (repeat' split) <;> simp [h]

theorem execClusterFailure_keeps (s : State) : Keeps s (execClusterFailure s) := keeps_next fun h => by
  (repeat' split) <;> try exact h
  rw [resubscribe_mem]
  exact wf_foldl (fun _ m hs => failTask_wf m hs) _ (by simp [h])

theorem execFieldLoss_keeps (s : State) : Keeps s (execFieldLoss s) := keeps_next fun h => by
  (repeat' split) <;> simp [h]

theorem execBankSwitch_keeps (s : State) : Keeps s (execBankSwitch s) := keeps_of_mem_eq (by (repeat' split) <;> simp)

theorem execSwitchDrainEnd_keeps (s : State) : Keeps s (execSwitchDrainEnd s) := keeps_of_mem_eq (by (repeat' split) <;> simp)

theorem execCorrectableError_keeps (s : State) : Keeps s (execCorrectableError s) := keeps_of_mem_eq (by (repeat' split) <;> simp)

theorem execFreezeEnd_keeps (s : State) : Keeps s (execFreezeEnd s) := keeps_of_mem_eq (by (repeat' split) <;> simp)

theorem execUncorrectableError_keeps (s : State) : Keeps s (execUncorrectableError s) := keeps_of_mem_eq (by (repeat' split) <;> simp)

theorem execRefreshWindow_keeps (s : State) : Keeps s (execRefreshWindow s) := keeps_of_mem_eq (by (repeat' split) <;> simp)

theorem execRefreshWindowEnd_keeps (s : State) : Keeps s (execRefreshWindowEnd s) := keeps_of_mem_eq (by (repeat' split) <;> simp)

theorem execStagingDequeue_keeps (s : State) : Keeps s (execStagingDequeue s) := keeps_of_mem_eq (by (repeat' split) <;> simp)

theorem execSegmentAdmission_keeps (s : State) : Keeps s (execSegmentAdmission s) := keeps_of_mem_eq (by (repeat' split) <;> simp)

theorem execHoldLimitReached_keeps (s : State) : Keeps s (execHoldLimitReached s) := keeps_of_mem_eq (by (repeat' split) <;> simp)

theorem execArraySelection_keeps (s : State) : Keeps s (execArraySelection s) := keeps_of_mem_eq (by (repeat' split) <;> simp)

theorem execWeightLoadGrant_keeps (s : State) : Keeps s (execWeightLoadGrant s) := keeps_next fun h => by
  (repeat' split) <;> simp [h]

theorem execWeightLoadEnd_keeps (s : State) : Keeps s (execWeightLoadEnd s) := keeps_of_mem_eq (by (repeat' split) <;> simp)

theorem execPositionFire_keeps (s : State) : Keeps s (execPositionFire s) := keeps_of_mem_eq (by (repeat' split) <;> simp)

theorem execRowResultWrite_keeps (s : State) : Keeps s (execRowResultWrite s) := keeps_next fun h => by
  split
  · dsimp only
    (repeat' split) <;> simp [h]
  · exact h

theorem execSelectWrites_keeps (s : State) : Keeps s (execSelectWrites s) := keeps_next fun h => by
  (repeat' split) <;> simp [h]

theorem execInstall_keeps (s : State) : Keeps s (execInstall s) := keeps_of_mem_eq (by (repeat' split) <;> simp)

theorem execInstallAcknowledgement_keeps (s : State) : Keeps s (execInstallAcknowledgement s) := keeps_of_mem_eq (by
  split
  · dsimp only
    (repeat' split) <;> simp
  · rfl)

theorem execInstallRefusal_keeps (s : State) : Keeps s (execInstallRefusal s) := keeps_of_mem_eq (by (repeat' split) <;> simp)

theorem execRemoval_keeps (s : State) : Keeps s (execRemoval s) := keeps_of_mem_eq (by (repeat' split) <;> simp)

theorem execPublicationAtHome_keeps (s : State) : Keeps s (execPublicationAtHome s) := keeps_of_mem_eq (by
  split
  · dsimp only
    (repeat' split) <;> simp
  · rfl)

theorem execDelivery_keeps (s : State) : Keeps s (execDelivery s) := keeps_next fun h => by
  (repeat' split) <;> simp [h]

theorem execHeldDeliveryRelease_keeps (s : State) : Keeps s (execHeldDeliveryRelease s) := keeps_next fun h => by
  (repeat' split) <;> simp [h]

theorem execPinRequest_keeps (s : State) : Keeps s (execPinRequest s) := keeps_of_mem_eq (by (repeat' split) <;> simp)

theorem execCopyExpiry_keeps (s : State) : Keeps s (execCopyExpiry s) := keeps_of_mem_eq (by (repeat' split) <;> simp)

theorem execContribution_keeps (s : State) : Keeps s (execContribution s) := keeps_of_mem_eq (by (repeat' split) <;> simp)

theorem execPartnerTimeout_keeps (s : State) : Keeps s (execPartnerTimeout s) := keeps_of_mem_eq (by (repeat' split) <;> simp)

theorem execGetRequest_keeps (s : State) : Keeps s (execGetRequest s) := keeps_of_mem_eq (by (repeat' split) <;> simp)

theorem execGetResponse_keeps (s : State) : Keeps s (execGetResponse s) := keeps_next fun h => by
  (repeat' split) <;> simp [h]

theorem execGetRetryResend_keeps (s : State) : Keeps s (execGetRetryResend s) := keeps_of_mem_eq (by (repeat' split) <;> simp)

theorem execRimQuery_keeps (s : State) : Keeps s (execRimQuery s) := keeps_of_mem_eq (by (repeat' split) <;> simp)

theorem execQueryReply_keeps (s : State) : Keeps s (execQueryReply s) := keeps_of_mem_eq (by (repeat' split) <;> simp)

theorem execPrefetchAtHome_keeps (s : State) : Keeps s (execPrefetchAtHome s) := keeps_of_mem_eq (by
  split
  · dsimp only
    (repeat' split) <;> simp
  · rfl)

theorem execCopyRequest_keeps (s : State) : Keeps s (execCopyRequest s) := keeps_of_mem_eq (by (repeat' split) <;> simp)

theorem execPageWalk_keeps (s : State) : Keeps s (execPageWalk s) := keeps_next fun h => by
  (repeat' split) <;> simp [h]

theorem execBoxPerformed_keeps (s : State) : Keeps s (execBoxPerformed s) := keeps_next fun h => by
  (repeat' split) <;> simp [h]

theorem execAtomicAtAgent_keeps (s : State) : Keeps s (execAtomicAtAgent s) := keeps_next fun h => by
  (repeat' split) <;> simp [h]

theorem execRemoteResult_keeps (s : State) : Keeps s (execRemoteResult s) := keeps_of_mem_eq (by (repeat' split) <;> simp)

theorem execFaultResume_keeps (s : State) : Keeps s (execFaultResume s) := keeps_of_mem_eq (by (repeat' split) <;> simp)

theorem execFaultAbort_keeps (s : State) : Keeps s (execFaultAbort s) := keeps_of_mem_eq (by (repeat' split) <;> simp)

theorem execFaultAnswerTimeout_keeps (s : State) : Keeps s (execFaultAnswerTimeout s) := keeps_of_mem_eq (by (repeat' split) <;> simp)

theorem execVminvGo_keeps (s : State) : Keeps s (execVminvGo s) := keeps_of_mem_eq (by
  split
  · exact onBar_mem (fun t => checked_mem t _ _ _ _ _ _ (by simp) (by simp)) s
  · rfl)

theorem execInvalidationDone_keeps (s : State) : Keeps s (execInvalidationDone s) := keeps_of_mem_eq (by (repeat' split) <;> simp)

theorem execCfenceRelease_keeps (s : State) : Keeps s (execCfenceRelease s) := keeps_of_mem_eq (by (repeat' split) <;> simp)

theorem execReleaseInjection_keeps (s : State) : Keeps s (execReleaseInjection s) := keeps_of_mem_eq (by (repeat' split) <;> simp)

theorem execErtWrite_keeps (s : State) : Keeps s (execErtWrite s) := keeps_of_mem_eq (by
  split
  · exact onBar_mem (by simp) s
  · rfl)

theorem execErtcmdPrefetch_keeps (s : State) : Keeps s (execErtcmdPrefetch s) := keeps_of_mem_eq (by
  split
  · exact onBar_mem (atErt_mem _ _ _ (by simp)) s
  · rfl)

theorem execErtcmdPin_keeps (s : State) : Keeps s (execErtcmdPin s) := keeps_of_mem_eq (by
  split
  · exact onBar_mem (atErt_mem _ _ _ (by simp)) s
  · rfl)

theorem execErtcmdUnpin_keeps (s : State) : Keeps s (execErtcmdUnpin s) := keeps_of_mem_eq (by
  split
  · exact onBar_mem (atErt_mem _ _ _ (by simp)) s
  · rfl)

theorem execErtcmdRelease_keeps (s : State) : Keeps s (execErtcmdRelease s) := keeps_of_mem_eq (by
  split
  · exact onBar_mem (atErt_mem _ _ _ (by simp)) s
  · rfl)

theorem execHintAtErtAgent_keeps (s : State) : Keeps s (execHintAtErtAgent s) := keeps_of_mem_eq (by
  split
  · exact atErt_mem _ _ _ (by simp) s
  · rfl)

theorem execRowAtHome_keeps (s : State) : Keeps s (execRowAtHome s) := keeps_of_mem_eq (by (repeat' split) <;> simp)

theorem execPageSeal_keeps (s : State) : Keeps s (execPageSeal s) := keeps_of_mem_eq (by (repeat' split) <;> simp)

theorem execPageFailure_keeps (s : State) : Keeps s (execPageFailure s) := keeps_next fun h => by
  split
  · dsimp only
    (repeat' split) <;> simp [h]
  · exact h

theorem execPolicyAnswer_keeps (s : State) : Keeps s (execPolicyAnswer s) := keeps_of_mem_eq (by
  split
  · dsimp only
    (repeat' split) <;> simp
  · rfl)

theorem execPolicyTimeout_keeps (s : State) : Keeps s (execPolicyTimeout s) := keeps_of_mem_eq (by (repeat' split) <;> simp)

theorem execStateNotice_keeps (s : State) : Keeps s (execStateNotice s) := keeps_of_mem_eq (by
  split
  · dsimp only
    (repeat' split) <;> simp
  · rfl)

theorem execRowParking_keeps (s : State) : Keeps s (execRowParking s) := keeps_of_mem_eq (by
  split
  · split
    · exact areaAccess_mem _ _ _ _ _ (by simp) s
    · rfl
  · rfl)

theorem execResidencyNotice_keeps (s : State) : Keeps s (execResidencyNotice s) := keeps_of_mem_eq (by (repeat' split) <;> simp)

theorem execSumpDrain_keeps (s : State) : Keeps s (execSumpDrain s) := keeps_of_mem_eq (by (repeat' split) <;> simp)

theorem execSweepStart_keeps (s : State) : Keeps s (execSweepStart s) := keeps_of_mem_eq (by (repeat' split) <;> simp)

theorem execSweepEnd_keeps (s : State) : Keeps s (execSweepEnd s) := keeps_next fun h => by
  (repeat' split) <;> simp [h]

theorem execPhaseCloseNotice_keeps (s : State) : Keeps s (execPhaseCloseNotice s) := keeps_of_mem_eq (by
  (repeat' split) <;> simp [apply_ite State.mem])

theorem execLaunchRetirement_keeps (s : State) : Keeps s (execLaunchRetirement s) := keeps_next fun h => by
  (repeat' split) <;> simp [h]

theorem execLaunchAbort_keeps (s : State) : Keeps s (execLaunchAbort s) := keeps_next fun h => by
  (repeat' split) <;> simp [h]

theorem execTraceWrite_keeps (s : State) : Keeps s (execTraceWrite s) := keeps_next fun h => by
  (repeat' split) <;> simp [h]

theorem execTbstepWrite_keeps (s : State) : Keeps s (execTbstepWrite s) := keeps_of_mem_eq (by
  split
  · exact onBar_mem (performWrites_mem _ (fun w hw => sparesMemory_dwordWrite _ _ _ w (Option.mem_toList.mp hw)) _) s
  · rfl)

theorem execTbnslRead_keeps (s : State) : Keeps s (execTbnslRead s) := keeps_of_mem_eq (by (repeat' split) <;> simp)

theorem execTimeLockChange_keeps (s : State) : Keeps s (execTimeLockChange s) := keeps_of_mem_eq (by (repeat' split) <;> simp)

theorem execPtpEventMessage_keeps (s : State) : Keeps s (execPtpEventMessage s) := keeps_of_mem_eq (by (repeat' split) <;> simp)

theorem execPpsEdge_keeps (s : State) : Keeps s (execPpsEdge s) := keeps_of_mem_eq (by (repeat' split) <;> simp)

theorem execLinkPortFailure_keeps (s : State) : Keeps s (execLinkPortFailure s) := keeps_of_mem_eq (by (repeat' split) <;> simp)

theorem execDebugHalt_keeps (s : State) : Keeps s (execDebugHalt s) := keeps_of_mem_eq (by (repeat' split) <;> simp)

theorem execDebugStep_keeps (s : State) : Keeps s (execDebugStep s) := keeps_of_mem_eq (by
  split
  · exact debugAccess_mem _ _ _ _ (fun _ => by split <;> simp) s
  · rfl)

theorem execStepEnd_keeps (s : State) : Keeps s (execStepEnd s) := keeps_of_mem_eq (by (repeat' split) <;> simp)

theorem execDebugRun_keeps (s : State) : Keeps s (execDebugRun s) := keeps_of_mem_eq (by
  split
  · exact debugAccess_mem _ _ _ _ (fun _ => by split <;> simp) s
  · rfl)

theorem execDbgdataAccess_keeps (s : State) : Keeps s (execDbgdataAccess s) := keeps_of_mem_eq (by
  split
  · exact debugAccess_mem _ _ _ _ (fun _ => by dsimp only; (repeat' split) <;> simp) s
  · rfl)

theorem execWaiteTimeout_keeps (s : State) : Keeps s (execWaiteTimeout s) := keeps_of_mem_eq (by (repeat' split) <;> simp)

theorem execLinkPortFails_keeps (s : State) : Keeps s (execLinkPortFails s) := keeps_of_mem_eq (by (repeat' split) <;> simp)

theorem execLinkPortRetrained_keeps (s : State) : Keeps s (execLinkPortRetrained s) := keeps_of_mem_eq (by (repeat' split) <;> simp)

theorem execLinkCrcReplay_keeps (s : State) : Keeps s (execLinkCrcReplay s) := keeps_of_mem_eq (by (repeat' split) <;> simp)

theorem execRouterFailure_keeps (s : State) : Keeps s (execRouterFailure s) := keeps_of_mem_eq (by (repeat' split) <;> simp)

theorem execCutEdgeInstalled_keeps (s : State) : Keeps s (execCutEdgeInstalled s) := keeps_of_mem_eq (by (repeat' split) <;> simp)

theorem execPeerSweepResult_keeps (s : State) : Keeps s (execPeerSweepResult s) := keeps_of_mem_eq (by (repeat' split) <;> simp)

theorem execLaunchFirmwareReload_keeps (s : State) : Keeps s (execLaunchFirmwareReload s) := keeps_of_mem_eq (by
  split
  · dsimp only
    (repeat' split) <;> simp
  · rfl)

theorem execEmptyBundle_keeps (s : State) : Keeps s (execEmptyBundle s) := keeps_of_mem_eq (by (repeat' split) <;> simp)

theorem execMalformedHeader_keeps (s : State) : Keeps s (execMalformedHeader s) := keeps_of_mem_eq (by simp)

theorem execUnassignedOpcode_keeps (s : State) : Keeps s (execUnassignedOpcode s) := keeps_of_mem_eq (by simp)

theorem execAccumulatorPortRow_keeps (s : State) : Keeps s (execAccumulatorPortRow s) := keeps_next fun h => by
  (repeat' split) <;> simp [h]

theorem execCutEdgeCrossing_keeps (s : State) : Keeps s (execCutEdgeCrossing s) := keeps_of_mem_eq (by (repeat' split) <;> simp)

/-! ### All rows -/

/-- Every row of the table answers a next state and keeps the canonical form of memory. -/
theorem exec_keeps (i : Instr) (s : State) : Keeps s (exec i s) := by
  cases i with
  | add f => exact execAdd_keeps f s
  | sub f => exact execSub_keeps f s
  | mul f => exact execMul_keeps f s
  | mulh f => exact execMulh_keeps f s
  | mulhu f => exact execMulhu_keeps f s
  | div f => exact execDiv_keeps f s
  | divu f => exact execDivu_keeps f s
  | rem f => exact execRem_keeps f s
  | remu f => exact execRemu_keeps f s
  | and f => exact execAnd_keeps f s
  | or f => exact execOr_keeps f s
  | xor f => exact execXor_keeps f s
  | andn f => exact execAndn_keeps f s
  | shl f => exact execShl_keeps f s
  | shr f => exact execShr_keeps f s
  | sra f => exact execSra_keeps f s
  | min f => exact execMin_keeps f s
  | max f => exact execMax_keeps f s
  | minu f => exact execMinu_keeps f s
  | maxu f => exact execMaxu_keeps f s
  | clz f => exact execClz_keeps f s
  | popc f => exact execPopc_keeps f s
  | bfx f => exact execBfx_keeps f s
  | bfi f => exact execBfi_keeps f s
  | li f => exact execLi_keeps f s
  | sel f => exact execSel_keeps f s
  | cmp f => exact execCmp_keeps f s
  | plog f => exact execPlog_keeps f s
  | br f => exact execBr_keeps f s
  | bri f => exact execBri_keeps f s
  | call f => exact execCall_keeps f s
  | calli f => exact execCalli_keeps f s
  | ret f => exact execRet_keeps f s
  | loop f => exact execLoop_keeps f s
  | loopi f => exact execLoopi_keeps f s
  | lexit f => exact execLexit_keeps f s
  | ldw f => exact execLdw_keeps f s
  | ldh f => exact execLdh_keeps f s
  | ldhu f => exact execLdhu_keeps f s
  | ldb f => exact execLdb_keeps f s
  | ldbu f => exact execLdbu_keeps f s
  | ldd f => exact execLdd_keeps f s
  | stw f => exact execStw_keeps f s
  | sth f => exact execSth_keeps f s
  | stb f => exact execStb_keeps f s
  | std f => exact execStd_keeps f s
  | lds f => exact execLds_keeps f s
  | stf f => exact execStf_keeps f s
  | feclr f => exact execFeclr_keeps f s
  | aadd f => exact execAadd_keeps f s
  | amax f => exact execAmax_keeps f s
  | aor f => exact execAor_keeps f s
  | axch f => exact execAxch_keeps f s
  | acas f => exact execAcas_keeps f s
  | rpop f => exact execRpop_keeps f s
  | rtry f => exact execRtry_keeps f s
  | rrel f => exact execRrel_keeps f s
  | rclaim f => exact execRclaim_keeps f s
  | rfill f => exact execRfill_keeps f s
  | rstat f => exact execRstat_keeps f s
  | aset f => exact execAset_keeps f s
  | ainc f => exact execAinc_keeps f s
  | mfc f => exact execMfc_keeps f s
  | mtc f => exact execMtc_keeps f s
  | fence f => exact execFence_keeps f s
  | trap f => exact execTrap_keeps f s
  | tend f => exact execTend_keeps f s
  | waite f => exact execWaite_keeps f s
  | bkpt f => exact execBkpt_keeps f s
  | gbar f => exact execGbar_keeps f s
  | trace f => exact execTrace_keeps f s
  | spause f => exact execSpause_keeps f s
  | vfaddF32 f => exact execVfaddF32_keeps f s
  | vfaddBf16 f => exact execVfaddBf16_keeps f s
  | vfaddF16 f => exact execVfaddF16_keeps f s
  | vfsubF32 f => exact execVfsubF32_keeps f s
  | vfsubBf16 f => exact execVfsubBf16_keeps f s
  | vfsubF16 f => exact execVfsubF16_keeps f s
  | vfmulF32 f => exact execVfmulF32_keeps f s
  | vfmulBf16 f => exact execVfmulBf16_keeps f s
  | vfmulF16 f => exact execVfmulF16_keeps f s
  | vfmaF32 f => exact execVfmaF32_keeps f s
  | vfmaBf16 f => exact execVfmaBf16_keeps f s
  | vfmaF16 f => exact execVfmaF16_keeps f s
  | vfmsF32 f => exact execVfmsF32_keeps f s
  | vfmsBf16 f => exact execVfmsBf16_keeps f s
  | vfmsF16 f => exact execVfmsF16_keeps f s
  | vfnmaF32 f => exact execVfnmaF32_keeps f s
  | vfnmaBf16 f => exact execVfnmaBf16_keeps f s
  | vfnmaF16 f => exact execVfnmaF16_keeps f s
  | vfminF32 f => exact execVfminF32_keeps f s
  | vfminBf16 f => exact execVfminBf16_keeps f s
  | vfminF16 f => exact execVfminF16_keeps f s
  | vfmaxF32 f => exact execVfmaxF32_keeps f s
  | vfmaxBf16 f => exact execVfmaxBf16_keeps f s
  | vfmaxF16 f => exact execVfmaxF16_keeps f s
  | vfcmpF32 f => exact execVfcmpF32_keeps f s
  | vfcmpBf16 f => exact execVfcmpBf16_keeps f s
  | vfcmpF16 f => exact execVfcmpF16_keeps f s
  | vfclampF32 f => exact execVfclampF32_keeps f s
  | vfclampBf16 f => exact execVfclampBf16_keeps f s
  | vfclampF16 f => exact execVfclampF16_keeps f s
  | vexp2 f => exact execVexp2_keeps f s
  | vlog2 f => exact execVlog2_keeps f s
  | vrcp f => exact execVrcp_keeps f s
  | vrsq f => exact execVrsq_keeps f s
  | vsqrt f => exact execVsqrt_keeps f s
  | vfrnd f => exact execVfrnd_keeps f s
  | vfclass f => exact execVfclass_keeps f s
  | vaddI32 f => exact execVaddI32_keeps f s
  | vaddI16 f => exact execVaddI16_keeps f s
  | vaddI8 f => exact execVaddI8_keeps f s
  | vsubI32 f => exact execVsubI32_keeps f s
  | vsubI16 f => exact execVsubI16_keeps f s
  | vsubI8 f => exact execVsubI8_keeps f s
  | vmulI32 f => exact execVmulI32_keeps f s
  | vmulI16 f => exact execVmulI16_keeps f s
  | vmulI8 f => exact execVmulI8_keeps f s
  | vminI32 f => exact execVminI32_keeps f s
  | vminI16 f => exact execVminI16_keeps f s
  | vminI8 f => exact execVminI8_keeps f s
  | vmaxI32 f => exact execVmaxI32_keeps f s
  | vmaxI16 f => exact execVmaxI16_keeps f s
  | vmaxI8 f => exact execVmaxI8_keeps f s
  | vcmpI32 f => exact execVcmpI32_keeps f s
  | vcmpI16 f => exact execVcmpI16_keeps f s
  | vcmpI8 f => exact execVcmpI8_keeps f s
  | vabsI32 f => exact execVabsI32_keeps f s
  | vabsI16 f => exact execVabsI16_keeps f s
  | vabsI8 f => exact execVabsI8_keeps f s
  | vshlI32 f => exact execVshlI32_keeps f s
  | vshlI32Imm f => exact execVshlI32Imm_keeps f s
  | vshlI16 f => exact execVshlI16_keeps f s
  | vshlI16Imm f => exact execVshlI16Imm_keeps f s
  | vshlI8 f => exact execVshlI8_keeps f s
  | vshlI8Imm f => exact execVshlI8Imm_keeps f s
  | vshrI32 f => exact execVshrI32_keeps f s
  | vshrI32Imm f => exact execVshrI32Imm_keeps f s
  | vshrI16 f => exact execVshrI16_keeps f s
  | vshrI16Imm f => exact execVshrI16Imm_keeps f s
  | vshrI8 f => exact execVshrI8_keeps f s
  | vshrI8Imm f => exact execVshrI8Imm_keeps f s
  | vsraI32 f => exact execVsraI32_keeps f s
  | vsraI32Imm f => exact execVsraI32Imm_keeps f s
  | vsraI16 f => exact execVsraI16_keeps f s
  | vsraI16Imm f => exact execVsraI16Imm_keeps f s
  | vsraI8 f => exact execVsraI8_keeps f s
  | vsraI8Imm f => exact execVsraI8Imm_keeps f s
  | vmulh f => exact execVmulh_keeps f s
  | vsaddI16 f => exact execVsaddI16_keeps f s
  | vsaddI8 f => exact execVsaddI8_keeps f s
  | vssubI16 f => exact execVssubI16_keeps f s
  | vssubI8 f => exact execVssubI8_keeps f s
  | vand f => exact execVand_keeps f s
  | vor f => exact execVor_keeps f s
  | vxor f => exact execVxor_keeps f s
  | vandn f => exact execVandn_keeps f s
  | vsel f => exact execVsel_keeps f s
  | vcvt f => exact execVcvt_keeps f s
  | vcvti f => exact execVcvti_keeps f s
  | vcvtb8 f => exact execVcvtb8_keeps f s
  | vwideb8 f => exact execVwideb8_keeps f s
  | vhad f => exact execVhad_keeps f s
  | vpack f => exact execVpack_keeps f s
  | vunpack f => exact execVunpack_keeps f s
  | vdotBf16 f => exact execVdotBf16_keeps f s
  | vdotI8 f => exact execVdotI8_keeps f s
  | vmov f => exact execVmov_keeps f s
  | vbcst f => exact execVbcst_keeps f s
  | vins f => exact execVins_keeps f s
  | vext f => exact execVext_keeps f s
  | vperm f => exact execVperm_keeps f s
  | vzip f => exact execVzip_keeps f s
  | vunzip f => exact execVunzip_keeps f s
  | vslide f => exact execVslide_keeps f s
  | vradd f => exact execVradd_keeps f s
  | vrmax f => exact execVrmax_keeps f s
  | vrmin f => exact execVrmin_keeps f s
  | vraddi f => exact execVraddi_keeps f s
  | vpsum f => exact execVpsum_keeps f s
  | vtopk f => exact execVtopk_keeps f s
  | vmergek f => exact execVmergek_keeps f s
  | vcntm f => exact execVcntm_keeps f s
  | vtld f => exact execVtld_keeps f s
  | vtli f => exact execVtli_keeps f s
  | vtlu f => exact execVtlu_keeps f s
  | vld f => exact execVld_keeps f s
  | vst f => exact execVst_keeps f s
  | vldt f => exact execVldt_keeps f s
  | vstt f => exact execVstt_keeps f s
  | vgath f => exact execVgath_keeps f s
  | vscat f => exact execVscat_keeps f s
  | vlds f => exact execVlds_keeps f s
  | vldb f => exact execVldb_keeps f s
  | vmlog f => exact execVmlog_keeps f s
  | vmset f => exact execVmset_keeps f s
  | vmfirst f => exact execVmfirst_keeps f s
  | vlerpF32 f => exact execVlerpF32_keeps f s
  | vlerpBf16 f => exact execVlerpBf16_keeps f s
  | vfsgn f => exact execVfsgn_keeps f s
  | vfscale f => exact execVfscale_keeps f s
  | mwld f => exact execMwld_keeps f s
  | mwlds f => exact execMwlds_keeps f s
  | mwpre f => exact execMwpre_keeps f s
  | mma f => exact execMma_keeps f s
  | mmao f => exact execMmao_keeps f s
  | mzero f => exact execMzero_keeps f s
  | mdrain f => exact execMdrain_keeps f s
  | msca f => exact execMsca_keeps f s
  | mstat f => exact execMstat_keeps f s
  | mresc f => exact execMresc_keeps f s
  | mtrn f => exact execMtrn_keeps f s
  | mwait f => exact execMwait_keeps f s
  | mprog f => exact execMprog_keeps f s
  | mflags f => exact execMflags_keeps f s
  | mhold f => exact execMhold_keeps f s
  | mflush f => exact execMflush_keeps f s
  | cld f => exact execCld_keeps f s
  | cst f => exact execCst_keeps f s
  | cld2d f => exact execCld2d_keeps f s
  | cst2d f => exact execCst2d_keeps f s
  | cldr f => exact execCldr_keeps f s
  | catom f => exact execCatom_keeps f s
  | cwait f => exact execCwait_keeps f s
  | cpoll f => exact execCpoll_keeps f s
  | cfence f => exact execCfence_keeps f s
  | ccancel f => exact execCcancel_keeps f s
  | cget f => exact execCget_keeps f s
  | pub f => exact execPub_keeps f s
  | pubr f => exact execPubr_keeps f s
  | pubred f => exact execPubred_keeps f s
  | pip f => exact execPip_keeps f s
  | subscribe f => exact execSubscribe_keeps f s
  | unsub f => exact execUnsub_keeps f s
  | cpref f => exact execCpref_keeps f s
  | phase f => exact execPhase_keeps f s
  | pubc f => exact execPubc_keeps f s
  | subq f => exact execSubq_keeps f s
  | ertq f => exact execErtq_keeps f s
  | erth f => exact execErth_keeps f s
  | sumpq f => exact execSumpq_keeps f s
  | powerOnReset => exact execPowerOnReset_keeps s
  | recoveryGo => exact execRecoveryGo_keeps s
  | measurementExtend => exact execMeasurementExtend_keeps s
  | registerWrite => exact execRegisterWrite_keeps s
  | qtailWrite => exact execQtailWrite_keeps s
  | qctlWrite => exact execQctlWrite_keeps s
  | queueSelection => exact execQueueSelection_keeps s
  | nop => exact execNop_keeps s
  | load => exact execLoad_keeps s
  | unload => exact execUnload_keeps s
  | launch => exact execLaunch_keeps s
  | abort => exact execAbort_keeps s
  | commandFenceRelease => exact execCommandFenceRelease_keeps s
  | launchAcceptance => exact execLaunchAcceptance_keeps s
  | waferAcknowledgement => exact execWaferAcknowledgement_keeps s
  | gateTimeout => exact execGateTimeout_keeps s
  | peerAbort => exact execPeerAbort_keeps s
  | firmwareAbort => exact execFirmwareAbort_keeps s
  | controlPip => exact execControlPip_keeps s
  | firmwarePriorityChange => exact execFirmwarePriorityChange_keeps s
  | firmwareFault => exact execFirmwareFault_keeps s
  | preemptionRequest => exact execPreemptionRequest_keeps s
  | tenantSwitch => exact execTenantSwitch_keeps s
  | homeTableRebuild => exact execHomeTableRebuild_keeps s
  | rimRequestStart => exact execRimRequestStart_keeps s
  | taskHandoff => exact execTaskHandoff_keeps s
  | distributorSelection => exact execDistributorSelection_keeps s
  | passOverEnd => exact execPassOverEnd_keeps s
  | entryHandover => exact execEntryHandover_keeps s
  | taskFire => exact execTaskFire_keeps s
  | gangFire => exact execGangFire_keeps s
  | budgetExhausted => exact execBudgetExhausted_keeps s
  | thermalSample => exact execThermalSample_keeps s
  | powerCheck => exact execPowerCheck_keeps s
  | coolantFault => exact execCoolantFault_keeps s
  | coolantTrip => exact execCoolantTrip_keeps s
  | clusterRetirement => exact execClusterRetirement_keeps s
  | clusterFailure => exact execClusterFailure_keeps s
  | fieldLoss => exact execFieldLoss_keeps s
  | bankSwitch => exact execBankSwitch_keeps s
  | switchDrainEnd => exact execSwitchDrainEnd_keeps s
  | correctableError => exact execCorrectableError_keeps s
  | freezeEnd => exact execFreezeEnd_keeps s
  | uncorrectableError => exact execUncorrectableError_keeps s
  | refreshWindow => exact execRefreshWindow_keeps s
  | refreshWindowEnd => exact execRefreshWindowEnd_keeps s
  | stagingDequeue => exact execStagingDequeue_keeps s
  | segmentAdmission => exact execSegmentAdmission_keeps s
  | holdLimitReached => exact execHoldLimitReached_keeps s
  | arraySelection => exact execArraySelection_keeps s
  | weightLoadGrant => exact execWeightLoadGrant_keeps s
  | weightLoadEnd => exact execWeightLoadEnd_keeps s
  | positionFire => exact execPositionFire_keeps s
  | rowResultWrite => exact execRowResultWrite_keeps s
  | selectWrites => exact execSelectWrites_keeps s
  | install => exact execInstall_keeps s
  | installAcknowledgement => exact execInstallAcknowledgement_keeps s
  | installRefusal => exact execInstallRefusal_keeps s
  | removal => exact execRemoval_keeps s
  | publicationAtHome => exact execPublicationAtHome_keeps s
  | delivery => exact execDelivery_keeps s
  | heldDeliveryRelease => exact execHeldDeliveryRelease_keeps s
  | pinRequest => exact execPinRequest_keeps s
  | copyExpiry => exact execCopyExpiry_keeps s
  | contribution => exact execContribution_keeps s
  | partnerTimeout => exact execPartnerTimeout_keeps s
  | getRequest => exact execGetRequest_keeps s
  | getResponse => exact execGetResponse_keeps s
  | getRetryResend => exact execGetRetryResend_keeps s
  | rimQuery => exact execRimQuery_keeps s
  | queryReply => exact execQueryReply_keeps s
  | prefetchAtHome => exact execPrefetchAtHome_keeps s
  | copyRequest => exact execCopyRequest_keeps s
  | pageWalk => exact execPageWalk_keeps s
  | boxPerformed => exact execBoxPerformed_keeps s
  | atomicAtAgent => exact execAtomicAtAgent_keeps s
  | remoteResult => exact execRemoteResult_keeps s
  | faultResume => exact execFaultResume_keeps s
  | faultAbort => exact execFaultAbort_keeps s
  | faultAnswerTimeout => exact execFaultAnswerTimeout_keeps s
  | vminvGo => exact execVminvGo_keeps s
  | invalidationDone => exact execInvalidationDone_keeps s
  | cfenceRelease => exact execCfenceRelease_keeps s
  | releaseInjection => exact execReleaseInjection_keeps s
  | ertWrite => exact execErtWrite_keeps s
  | ertcmdPrefetch => exact execErtcmdPrefetch_keeps s
  | ertcmdPin => exact execErtcmdPin_keeps s
  | ertcmdUnpin => exact execErtcmdUnpin_keeps s
  | ertcmdRelease => exact execErtcmdRelease_keeps s
  | hintAtErtAgent => exact execHintAtErtAgent_keeps s
  | rowAtHome => exact execRowAtHome_keeps s
  | pageSeal => exact execPageSeal_keeps s
  | pageFailure => exact execPageFailure_keeps s
  | policyAnswer => exact execPolicyAnswer_keeps s
  | policyTimeout => exact execPolicyTimeout_keeps s
  | stateNotice => exact execStateNotice_keeps s
  | rowParking => exact execRowParking_keeps s
  | residencyNotice => exact execResidencyNotice_keeps s
  | sumpDrain => exact execSumpDrain_keeps s
  | sweepStart => exact execSweepStart_keeps s
  | sweepEnd => exact execSweepEnd_keeps s
  | phaseCloseNotice => exact execPhaseCloseNotice_keeps s
  | launchRetirement => exact execLaunchRetirement_keeps s
  | launchAbort => exact execLaunchAbort_keeps s
  | traceWrite => exact execTraceWrite_keeps s
  | tbstepWrite => exact execTbstepWrite_keeps s
  | tbnslRead => exact execTbnslRead_keeps s
  | timeLockChange => exact execTimeLockChange_keeps s
  | ptpEventMessage => exact execPtpEventMessage_keeps s
  | ppsEdge => exact execPpsEdge_keeps s
  | linkPortFailure => exact execLinkPortFailure_keeps s
  | debugHalt => exact execDebugHalt_keeps s
  | debugStep => exact execDebugStep_keeps s
  | stepEnd => exact execStepEnd_keeps s
  | debugRun => exact execDebugRun_keeps s
  | dbgdataAccess => exact execDbgdataAccess_keeps s
  | waiteTimeout => exact execWaiteTimeout_keeps s
  | linkPortFails => exact execLinkPortFails_keeps s
  | linkPortRetrained => exact execLinkPortRetrained_keeps s
  | linkCrcReplay => exact execLinkCrcReplay_keeps s
  | routerFailure => exact execRouterFailure_keeps s
  | cutEdgeInstalled => exact execCutEdgeInstalled_keeps s
  | peerSweepResult => exact execPeerSweepResult_keeps s
  | launchFirmwareReload => exact execLaunchFirmwareReload_keeps s
  | emptyBundle => exact execEmptyBundle_keeps s
  | malformedHeader => exact execMalformedHeader_keeps s
  | unassignedOpcode => exact execUnassignedOpcode_keeps s
  | accumulatorPortRow => exact execAccumulatorPortRow_keeps s
  | cutEdgeCrossing => exact execCutEdgeCrossing_keeps s

/-! ### A step -/

theorem keeps_trans {s t : State} {r : Result} (h : t.mem = s.mem) (hr : Keeps t r) : Keeps s r := by
  obtain ⟨u, hu, hw⟩ := hr
  exact ⟨u, hu, h ▸ hw⟩

theorem runSlots_keeps (is : List (Nat × Instr)) (s : State) : Keeps s (runSlots exec is s) := by
  induction is generalizing s with
  | nil => exact keeps_next id
  | cons x r ih =>
    obtain ⟨k, i⟩ := x
    rw [runSlots]
    split
    · exact keeps_next id
    · generalize hu : ({ s with ctx := { s.ctx with slot := k, later := r.map fun x => x.1 } } : State) = u
      have hum : u.mem = s.mem := by rw [← hu]
      obtain ⟨t, ht, hw⟩ := exec_keeps i (beforeSlot i u)
      obtain ⟨v, hv, hwv⟩ := ih (commitSlot i t)
      rw [ht]
      refine ⟨v, hv, fun h => hwv ?_⟩
      rw [commitSlot_mem]
      exact hw (beforeSlot_wf i (hum ▸ h))

theorem runBundle_keeps (x : Bundle) (s : State) : Keeps s (runBundle exec x s) := by
  obtain ⟨t, ht, hw⟩ := runSlots_keeps (pendingSlots s.bank x) s
  unfold runBundle
  simp only [ht]
  refine keeps_next fun h => ?_
  split <;> simp [hw h]

theorem issueBundle_keeps (x : Bundle) (s : State) : Keeps s (issueBundle exec x s) := by
  unfold issueBundle
  dsimp only
  (repeat' split)
  · exact exec_keeps _ s
  · exact keeps_of_mem_eq (by simp)
  · exact exec_keeps _ s
  · exact keeps_of_mem_eq (by simp)
  · exact keeps_trans (by simp) (runBundle_keeps x _)
  · exact runBundle_keeps x s

theorem bundleStep_keeps (c : Nat) (b : Bool) (s : State) : Keeps s (bundleStep exec c b s) := by
  unfold bundleStep
  dsimp only
  generalize hu : (({ s with ctx := issueCtx s c b } : State).modBank wake) = u
  have hum : u.mem = s.mem := by rw [← hu]; simp
  refine keeps_trans hum ?_
  split
  · exact keeps_of_mem_eq (by simp)
  · exact keeps_of_mem_eq (by simp)
  · exact exec_keeps _ u
  · exact exec_keeps _ u
  · exact issueBundle_keeps _ u

theorem runEvent_keeps (e : Event) (s : State) : Keeps s (runEvent exec e s) := keeps_trans rfl (exec_keeps (Event.instr e) { s with ev := some e })

theorem arrive_keeps (i : Nat) (e : Event) (s : State) : Keeps s (arrive exec i e s) := by
  generalize hu : touchTraffic e { s with agenda := s.agenda.eraseIdx i } = u
  have hum : u.mem = s.mem := by rw [← hu]; simp
  obtain ⟨t, ht, hw⟩ := runEvent_keeps e u
  unfold arrive
  simp only [hu, ht]
  refine keeps_next fun h => ?_
  split <;> simp [hw (hum ▸ h)]

theorem issueAll_keeps (l : List (Nat × Bool)) (s : State) : Keeps s (issueAll exec l s) := by
  induction l generalizing s with
  | nil => exact keeps_next id
  | cons x r ih =>
    obtain ⟨c, b⟩ := x
    obtain ⟨t, ht, hw⟩ := bundleStep_keeps c b s
    obtain ⟨v, hv, hwv⟩ := ih (dropWait c b t)
    rw [issueAll, ht]
    exact ⟨v, hv, fun h => hwv (by rw [dropWait_mem]; exact hw h)⟩

theorem takeMove_keeps (m : Move) (s : State) : Keeps s (takeMove exec m s) := by
  cases m with
  | arrive i e => exact arrive_keeps i e s
  | land e => exact keeps_next fun h => landUnit_wf e h
  | landRow c i => exact keeps_next fun h => landRow_wf c i h
  | own e =>
    obtain ⟨t, ht, hw⟩ := runEvent_keeps e s
    simp only [takeMove, ht]
    exact keeps_next hw
  | issue c b => exact issueAll_keeps _ s
  | barrier g => exact issueAll_keeps _ s
  | finish c b => exact keeps_next fun h => by simp [h]

theorem step_keeps (s : State) : Keeps s (step s) := by
  unfold step stepWith
  split
  · exact keeps_of_mem_eq (by simp)
  · next m _ =>
    obtain ⟨t, ht, hw⟩ := takeMove_keeps m s
    rw [ht]
    exact keeps_next fun h => by simp [hw h]

/-! ### The obligations -/

/-- Settles O57: every row of the table is an effect on the state, never a fault or a refusal, and a step is a run of such rows. -/
theorem everyStepAnswers : Obligations.EveryStepAnswers := by
  intro s
  obtain ⟨t, ht, -⟩ := step_keeps s
  exact ⟨t, ht⟩

/-- Settles O58: memory is written only through `Memory` operations that keep the canonical form. -/
theorem stepKeepsMemory : Obligations.StepKeepsMemory := by
  intro s t hs ht
  obtain ⟨u, hu, hw⟩ := step_keeps s
  obtain rfl : t = u := by simpa [ht] using hu
  exact hw hs

end Sys2Proof.Machine
end

section
/-! PROOF. Guards and the scalar integer, field, selection and predicate instructions: the obligations FalseGuardDoesNothing,
ScalarArithmeticResults, ScalarFieldResults and BitFieldBits. -/

namespace Sys2Proof.Machine

open Sys2Proof

/-! ### Guards -/

theorem guarded_of_true {g : Guard} {s : State} (f : State → State) (h : guardTrue g s.bank = true) : guarded g s f = .next (f s) := by
  rw [guarded, if_pos h]

/-- A slot whose guard holds answers what its effect leaves. -/
theorem exists_guarded {g : Guard} {s : State} {f : State → State} {P : State → Prop} (h : guardTrue g s.bank = true) (hP : P (f s)) :
    ∃ t, guarded g s f = .next t ∧ P t := ⟨f s, guarded_of_true f h, hP⟩

/-- Settles O1: every row with a guard is `guarded` by it. -/
theorem falseGuardDoesNothing : Obligations.FalseGuardDoesNothing := by
  intro i g s hg hfalse
  have hn : ¬guardTrue g s.bank = true := by simp [hfalse]
  cases i <;> cases hg <;> exact congrArg Host.Outcome.next (if_neg hn)

/-! ### Two operands -/

/-- A two-operand instruction completes with the value of its operation. -/
theorem aluBody_completes {f : SRForm} {s : State} {op : Word → Word → Word} {v : Word} (h : guardTrue f.g s.bank = true)
    (hv : op (s.bank.rdS f.a) (opB f s.bank) = v) : ∃ t, guarded f.g s (aluBody f op) = .next t ∧ WritesScalar s t f.d v :=
  hv ▸ exists_guarded h (writesScalar_wrS s f.d fun b => op (b.rdS f.a) (opB f b))

theorem shamt_eq (b : Word) : shamt b = b.toNat % 32 := by
  simp [shamt, BitVec.extractLsb'_toNat]

theorem divWord_eq (a b : Word) : divWord a b = if b = 0 then 0xFFFFFFFF else if a = 0x80000000 ∧ b = 0xFFFFFFFF then 0x80000000
    else BitVec.ofInt 32 (a.toInt.tdiv b.toInt) := by simp [divWord]

theorem remWord_eq (a b : Word) : remWord a b = if b = 0 then a else if a = 0x80000000 ∧ b = 0xFFFFFFFF then 0
    else BitVec.ofInt 32 (a.toInt - b.toInt * a.toInt.tdiv b.toInt) := by simp [remWord]

/-- Settles O2: every row of R188 is `aluBody` of its operation. -/
theorem scalarArithmeticResults : Obligations.ScalarArithmeticResults := by
  unfold Obligations.ScalarArithmeticResults
  simp only [List.forall_mem_cons]
  exact ⟨fun _ _ h => aluBody_completes h rfl, fun _ _ h => aluBody_completes h rfl, fun _ _ h => aluBody_completes h rfl,
    fun _ _ h => aluBody_completes h rfl, fun _ _ h => aluBody_completes h rfl, fun _ _ h => aluBody_completes h (divWord_eq _ _),
    fun _ _ h => aluBody_completes h rfl, fun _ _ h => aluBody_completes h (remWord_eq _ _), fun _ _ h => aluBody_completes h rfl,
    fun _ _ h => aluBody_completes h rfl, fun _ _ h => aluBody_completes h rfl, fun _ _ h => aluBody_completes h rfl,
    fun _ _ h => aluBody_completes h rfl, fun _ _ h => aluBody_completes h (by rw [shamt_eq]),
    fun _ _ h => aluBody_completes h (by rw [shamt_eq]), fun _ _ h => aluBody_completes h (by rw [shamt_eq]),
    fun _ _ h => aluBody_completes h rfl, fun _ _ h => aluBody_completes h rfl, fun _ _ h => aluBody_completes h rfl,
    fun _ _ h => aluBody_completes h rfl, fun _ h => absurd h List.not_mem_nil⟩

/-! ### Bit counts -/

/-- The leading zeros among the low `n` bits of a word whose higher bits are zero. -/
theorem clzFrom_eq (a : Word) (n : Nat) (h : a.toNat < 2 ^ n) : clzFrom a n = if a = 0 then n else n - 1 - Nat.log2 a.toNat := by
  induction n with
  | zero => simp [clzFrom]
  | succ n ih =>
    by_cases hb : a.getLsbD n = true
    · have hge : 2 ^ n ≤ a.toNat := Nat.ge_two_pow_of_testBit hb
      have hne : a.toNat ≠ 0 := by have := Nat.two_pow_pos n; omega
      have h0 : a ≠ 0 := fun e => hne (by simp [e])
      have hlog : Nat.log2 a.toNat = n := (Nat.log2_eq_iff hne).2 ⟨hge, h⟩
      simp only [clzFrom, hb, if_true, h0, if_false, hlog]
      omega
    · have hlt : a.toNat < 2 ^ n := by
        refine Nat.lt_pow_two_of_testBit _ fun i hi => ?_
        rcases Nat.eq_or_lt_of_le hi with rfl | hi
        · simpa [BitVec.getLsbD] using hb
        · exact Nat.testBit_lt_two_pow (Nat.lt_of_lt_of_le h (Nat.pow_le_pow_right (by omega) hi))
      rw [clzFrom, if_neg hb, ih hlt]
      split
      · omega
      · next h0 =>
        have hne : a.toNat ≠ 0 := fun e => h0 (BitVec.eq_of_toNat_eq (by simpa using e))
        have hlog : Nat.log2 a.toNat < n := (Nat.log2_lt hne).2 hlt
        omega

/-- The one bits among the low `n` bits. -/
theorem popFrom_eq {w : Nat} (a : BitVec w) (n : Nat) : popFrom a n = ((List.range n).filter fun i => a.getLsbD i).length := by
  induction n with
  | zero => rfl
  | succ n ih =>
    rw [popFrom, ih, List.range_succ, List.filter_append, List.length_append]
    cases h : a.getLsbD n <;> simp [h, Nat.add_comm]

theorem clzWord_eq (a : Word) : BitVec.ofNat 32 (clzFrom a 32) = if a = 0 then 32 else BitVec.ofNat 32 (31 - Nat.log2 a.toNat) := by
  rw [clzFrom_eq a 32 a.isLt]
  split <;> rfl

theorem cmp_completes {f : SRForm} {s : State} {v : Bool} (h : guardTrue f.g s.bank = true)
    (hv : cmpCond f.fn (s.bank.rdS f.a) (opB f s.bank) = v) : ∃ t, exec (.cmp f) s = .next t ∧ WritesPred s t (lo3 f.d) v :=
  hv ▸ ⟨_, show execCmp f s = _ from guarded_of_true _ h, writesPred_wrP s (lo3 f.d) fun b => cmpCond f.fn (b.rdS f.a) (opB f b)⟩

theorem truthTable_eq (tt : BitVec 4) (a b : Bool) : truthTable tt a b = tt.getLsbD (a.toNat + 2 * b.toNat) := by
  cases a <;> cases b <;> rfl

/-- Settles O3: each row writes its value by `writesScalar_wrS` or `writesPred_wrP`. -/
theorem scalarFieldResults : Obligations.ScalarFieldResults := by
  refine ⟨⟨fun f s h => ⟨?_, ?_, ?_, ?_, ?_⟩, fun f s h => ?_⟩, fun f s h => ⟨cmp_completes h rfl, ?_, ?_⟩⟩
  · exact aluBody_completes h (clzWord_eq _)
  · exact aluBody_completes h (by rw [popFrom_eq])
  · exact aluBody_completes h rfl
  · exact ⟨_, show execBfi f s = _ from guarded_of_true _ h,
      writesScalar_wrS s f.d fun b => bfiWord (b.rdS f.d) (b.rdS f.a) (opB f b)⟩
  · exact ⟨_, show execSel f s = _ from guarded_of_true _ h,
      writesScalar_wrS s f.d fun b => if b.rdP (f.fn.extractLsb' 0 3) != f.fn.getLsbD 3 then b.rdS f.a else opB f b⟩
  · exact ⟨_, show execLi f s = _ from guarded_of_true _ h, writesScalar_wrS s f.d fun _ => f.x.getD (BitVec.signExtend 32 f.imm14)⟩
  · have hrow : ∀ (c : BitVec 4) (v : Bool), cmpCond c (s.bank.rdS f.a) (opB f s.bank) = v → f.fn = c →
        ∃ t, exec (.cmp f) s = .next t ∧ WritesPred s t (lo3 f.d) v := fun c v hv hf => cmp_completes h (hf ▸ hv)
    simp only [List.forall_mem_cons]
    exact ⟨hrow _ _ rfl, hrow _ _ rfl, hrow _ _ rfl, hrow _ _ rfl, hrow _ _ rfl, hrow _ _ rfl, hrow _ _ rfl, hrow _ _ rfl, hrow _ _ rfl,
      hrow _ _ rfl, fun _ h => absurd h List.not_mem_nil⟩
  · rw [← truthTable_eq]
    exact ⟨_, show execPlog f s = _ from guarded_of_true _ h,
      writesPred_wrP s (lo3 f.d) fun b => truthTable f.fn (b.rdP (lo3 f.a)) (b.rdP (lo3 f.b))⟩

/-! ### Bit fields -/

theorem fieldPos_add_fieldWidth_le (d : Word) : fieldPos d + fieldWidth d ≤ 32 := by
  have h : fieldPos d < 32 := (d.extractLsb' 0 5).isLt
  unfold fieldWidth
  omega

/-- The field itself, bit by bit. -/
theorem testBit_field (a d : Word) (i : Nat) :
    (a.toNat / 2 ^ fieldPos d % 2 ^ fieldWidth d).testBit i = (decide (i < fieldWidth d) && a.getLsbD (fieldPos d + i)) := by
  rw [Nat.testBit_mod_two_pow, Nat.testBit_div_two_pow, BitVec.getLsbD, Nat.add_comm i]

/-- The mask of a field, bit by bit. -/
theorem testBit_fieldMask (p w i : Nat) : ((2 ^ w - 1) * 2 ^ p).testBit i = (decide (p ≤ i) && decide (i < p + w)) := by
  rw [Nat.mul_comm, Nat.testBit_two_pow_mul, Nat.testBit_two_pow_sub_one]
  by_cases h : p ≤ i
  · simp only [h, decide_true, Bool.true_and, decide_eq_decide]
    omega
  · simp [h]

theorem sext_eq_toInt (v w : Nat) (hw : 0 < w) (hv : v < 2 ^ w) : sext v w = (BitVec.ofNat w v).toInt := by
  obtain ⟨n, rfl⟩ : ∃ n, w = n + 1 := ⟨w - 1, by omega⟩
  rw [BitVec.toInt_eq_toNat_cond, BitVec.toNat_ofNat, Nat.mod_eq_of_lt hv, sext, Nat.add_sub_cancel]
  have : 2 ^ (n + 1) = 2 * 2 ^ n := by rw [Nat.pow_succ, Nat.mul_comm]
  push_cast
  split <;> split <;> omega

/-- A sign extension of `w` bits, bit by bit. -/
theorem getLsbD_sext (v w i : Nat) (hi : i < 32) (hw : 0 < w) (hw' : w ≤ 32) (hv : v < 2 ^ w) :
    (BitVec.ofInt 32 (sext v w)).getLsbD i = v.testBit (min i (w - 1)) := by
  rw [sext_eq_toInt v w hw hv, ← BitVec.signExtend, BitVec.getLsbD_signExtend, BitVec.msb_eq_getLsbD_last, BitVec.getLsbD_ofNat, BitVec.getLsbD_ofNat]
  by_cases h : i < w
  · simp [hi, h, show min i (w - 1) = i by omega]
  · simp [hi, h, hw, show min i (w - 1) = w - 1 by omega]

/-- Settles O4. -/
theorem bitFieldBits : Obligations.BitFieldBits := by
  intro a d old i hi
  have hle := fieldPos_add_fieldWidth_le d
  have hlt : a.toNat / 2 ^ fieldPos d % 2 ^ fieldWidth d < 2 ^ fieldWidth d := Nat.mod_lt _ (Nat.two_pow_pos _)
  refine ⟨?_, fun hw => ?_, ?_⟩
  · unfold bfxWord
    dsimp only
    split
    · next h0 => simp [h0]
    · rw [if_neg (by decide), BitVec.getLsbD_ofNat, testBit_field]
      simp [hi]
  · unfold bfxWord
    dsimp only
    rw [if_neg (by omega), if_pos rfl, getLsbD_sext _ _ _ hi hw (by omega) hlt, testBit_field]
    have : min i (fieldWidth d - 1) < fieldWidth d := by omega
    simp [this]
  · unfold bfiWord
    simp only [BitVec.getLsbD_or, BitVec.getLsbD_and, BitVec.getLsbD_not, BitVec.getLsbD_ofNat, BitVec.getLsbD_shiftLeft,
      testBit_fieldMask, hi]
    by_cases h1 : fieldPos d ≤ i <;> by_cases h2 : i < fieldPos d + fieldWidth d <;> simp [h1, h2]

end Sys2Proof.Machine
end

section
/-! PROOF. Control transfers and hardware loops: the obligations Transfers, LoopsComplete and LoopBackEdge. -/

namespace Sys2Proof.Machine

open Sys2Proof

/-! ### Transfers -/

/-- A bundle position of the image is a target that a transfer reaches. -/
theorem transfer_of_bundlePosition {s : State} {a : Nat} (link : Option Word) (ha : a < s.bank.imWords)
    (hp : bundlePosition s s.ctx.core s.bank a = true) :
    transfer s a link = s.modBank fun b => { b with taken := some (BitVec.ofNat 32 a), link := link } := by
  rw [transfer, if_neg (by simp; omega), if_neg (by simp [hp])]
  rfl

theorem transfer_of_outside {s : State} {t : Int} (link : Option Word) (h : t < 0 ∨ (s.bank.imWords : Int) ≤ t) :
    transfer s t link = takeTrap s causeInstrRange := by
  rw [transfer, if_pos (by simpa using h)]

theorem transfer_of_not_bundlePosition {s : State} {a : Nat} (link : Option Word) (ha : a < s.bank.imWords)
    (hp : bundlePosition s s.ctx.core s.bank a = false) : transfer s a link = takeTrap s causeBranchTarget := by
  rw [transfer, if_neg (by simp; omega), if_pos (by simp [hp])]

/-- What a row does that is a transfer. -/
theorem transfers_of {i : Instr} {s : State} {t : Int} {link : Option Word} (h : exec i s = .next (transfer s t link)) :
    (∀ a : Nat, t = a → a < s.bank.imWords → bundlePosition s s.ctx.core s.bank a = true →
      ∃ u, exec i s = .next u ∧ OnlyBank s u ∧ u.bank = { s.bank with taken := some (BitVec.ofNat 32 a), link := link }) ∧
    (t < 0 ∨ (s.bank.imWords : Int) ≤ t → ∃ u, exec i s = .next u ∧ Trapped s u causeInstrRange (stopSlot s)) ∧
    ∀ a : Nat, t = a → a < s.bank.imWords → bundlePosition s s.ctx.core s.bank a = false →
      ∃ u, exec i s = .next u ∧ Trapped s u causeBranchTarget (stopSlot s) := by
  refine ⟨fun a ht ha hp => ⟨_, h, ?_⟩, fun ht => ⟨_, h, ?_⟩, fun a ht ha hp => ⟨_, h, ?_⟩⟩
  · rw [ht, transfer_of_bundlePosition link ha hp]
    exact ⟨onlyBank_modBank s _, State.bank_modBank s _⟩
  · rw [transfer_of_outside link ht]
    exact trapped_takeTrap s _
  · rw [ht, transfer_of_not_bundlePosition link ha hp]
    exact trapped_takeTrap s _

/-- Settles O5: each of the five rows is a `transfer`. -/
theorem transfers : Obligations.Transfers := by
  intro f g s
  simp only [List.forall_mem_cons]
  exact ⟨fun hg => transfers_of (show execBr f s = _ from guarded_of_true _ hg),
    fun hg => transfers_of (show execCall f s = _ from guarded_of_true _ hg),
    fun hg => transfers_of (show execBri g s = _ from guarded_of_true _ hg),
    fun hg => transfers_of (show execCalli g s = _ from guarded_of_true _ hg),
    fun hg => transfers_of (show execRet g s = _ from guarded_of_true _ hg), fun _ h => absurd h List.not_mem_nil⟩

/-! ### The loop levels -/

theorem Bank.loop_setLoop (b : Bank) (l k : BitVec 2) (v : LoopLevel) : (b.setLoop l v).loop k = if k = l then v else b.loop k := by
  unfold Bank.setLoop Bank.loop
  by_cases h : k = l
  · rw [if_pos h, h]
    exact Vector.getElem_set_self _
  · rw [if_neg h]
    exact Vector.getElem_set_ne l.toFin.isLt _ fun e => h (BitVec.eq_of_toNat_eq e.symm)

theorem levelBusy_iff (b : Bank) (l : BitVec 2) : levelBusy b l = true ↔ ∃ k : BitVec 2, l.toNat ≤ k.toNat ∧ (b.loop k).active = true := by
  have hall : ∀ k : BitVec 2, k ∈ ([0, 1, 2, 3] : List (BitVec 2)) := by decide
  simp only [levelBusy, List.any_eq_true, Bool.and_eq_true, decide_eq_true_eq]
  exact ⟨fun ⟨k, _, h⟩ => ⟨k, h⟩, fun ⟨k, h⟩ => ⟨k, hall k, h⟩⟩

theorem forall_level {P : BitVec 2 → Prop} : (∀ k, P k) ↔ P 0#2 ∧ P 1#2 ∧ P 2#2 ∧ P 3#2 := by
  refine ⟨fun h => ⟨h 0, h 1, h 2, h 3⟩, fun ⟨h0, h1, h2, h3⟩ k => ?_⟩
  have hall : ∀ k : BitVec 2, k = 0 ∨ k = 1 ∨ k = 2 ∨ k = 3 := by decide
  rcases hall k with rfl | rfl | rfl | rfl
  · exact h0
  · exact h1
  · exact h2
  · exact h3

theorem exists_level {P : BitVec 2 → Prop} : (∃ k, P k) ↔ P 0#2 ∨ P 1#2 ∨ P 2#2 ∨ P 3#2 := by
  have h := forall_level (P := fun k => ¬P k)
  rw [← not_exists] at h
  tauto

/-- What `beyondOuter` asks, level by level. -/
theorem beyondOuter_iff (b : Bank) (l : BitVec 2) (lend : Nat) : beyondOuter b l lend = true ↔
    ∃ k : BitVec 2, k.toNat < l.toNat ∧ (b.loop k).active = true ∧ (b.loop k).lend.toNat < lend ∧
      ∀ j : BitVec 2, k.toNat < j.toNat → j.toNat < l.toNat → (b.loop j).active = false := by
  revert l
  simp only [exists_level, forall_level, beyondOuter, levelsBelow]
  cases h0 : (b.loop 0#2).active <;> cases h1 : (b.loop 1#2).active <;> cases h2 : (b.loop 2#2).active <;>
    simp [List.filter, List.find?, h0, h1, h2]

/-! ### LOOP, LOOPI, LEXIT -/

/-- The level that a LOOP sets, or control past LEND. -/
theorem setLoop_of_checks {f : SLForm} {s : State} (n : Word) (ho : 0 < f.endOff.toNat)
    (hp : bundlePosition s s.ctx.core s.bank (s.ctx.addr + f.endOff.toNat) = true) (hb : levelBusy s.bank f.lvl = false)
    (hn : beyondOuter s.bank f.lvl (s.ctx.addr + f.endOff.toNat) = false) : setLoop f n s =
      if n = 0 then
        if s.bank.imWords ≤ fallThrough s s.ctx.core s.bank (s.ctx.addr + f.endOff.toNat) then takeTrap s causeInstrRange
        else s.modBank fun b =>
          { b with taken := some (BitVec.ofNat 32 (fallThrough s s.ctx.core s.bank (s.ctx.addr + f.endOff.toNat))) }.setLoop f.lvl
            ⟨false, n, BitVec.ofNat 32 s.ctx.fall, BitVec.ofNat 32 (s.ctx.addr + f.endOff.toNat)⟩
      else s.modBank fun b =>
        b.setLoop f.lvl ⟨true, n, BitVec.ofNat 32 s.ctx.fall, BitVec.ofNat 32 (s.ctx.addr + f.endOff.toNat)⟩ := by
  have h0 : ¬s.ctx.addr + f.endOff.toNat ≤ s.ctx.addr := by omega
  simp only [setLoop, hp, hb, hn, h0, decide_false, Bool.not_true, Bool.or_self, Bool.false_eq_true, if_false]

theorem setLoop_of_badEnd {f : SLForm} {s : State} (n : Word)
    (h : bundlePosition s s.ctx.core s.bank (s.ctx.addr + f.endOff.toNat) = false ∨ f.endOff.toNat = 0) :
    setLoop f n s = takeTrap s causeBranchTarget := by
  have h' : (!bundlePosition s s.ctx.core s.bank (s.ctx.addr + f.endOff.toNat) ||
      decide (s.ctx.addr + f.endOff.toNat ≤ s.ctx.addr)) = true := by
    rcases h with h | h <;> simp [h]
  simp only [setLoop, h', if_true]

theorem setLoop_of_nested {f : SLForm} {s : State} (n : Word) (ho : 0 < f.endOff.toNat)
    (hp : bundlePosition s s.ctx.core s.bank (s.ctx.addr + f.endOff.toNat) = true)
    (h : (levelBusy s.bank f.lvl || beyondOuter s.bank f.lvl (s.ctx.addr + f.endOff.toNat)) = true) :
    setLoop f n s = takeTrap s causeLoopNesting := by
  have h0 : ¬s.ctx.addr + f.endOff.toNat ≤ s.ctx.addr := by omega
  simp only [setLoop, hp, h0, h, decide_false, Bool.not_true, Bool.or_self, Bool.false_eq_true, if_false, if_true]

/-- Settles O6: LOOP and LOOPI are `setLoop` with their counts. -/
theorem loopsComplete : Obligations.LoopsComplete := by
  intro f s hg
  have hrow : ∀ e ∈ ([(.loop, s.bank.rdS f.cnt), (.loopi, f.x.getD 0)] : List ((SLForm → Instr) × Word)),
      exec (e.1 f) s = .next (setLoop f e.2 s) := by
    simp only [List.forall_mem_cons]
    exact ⟨show execLoop f s = _ from guarded_of_true _ hg, show execLoopi f s = _ from guarded_of_true _ hg,
      fun _ h => absurd h List.not_mem_nil⟩
  refine ⟨⟨_, show execLexit f s = _ from guarded_of_true _ hg, onlyBank_modBank s _, State.bank_modBank s _⟩,
    fun ho hp hb hn e he => ⟨fun h0 => ⟨_, hrow e he, ?_⟩, fun h0 hf => ⟨_, hrow e he, ?_⟩⟩, fun e he => ?_⟩
  · rw [setLoop_of_checks _ ho hp hb hn, if_neg h0]
    exact ⟨onlyBank_modBank s _, State.bank_modBank s _⟩
  · rw [setLoop_of_checks _ ho hp hb hn, if_pos h0, if_neg (by omega)]
    exact ⟨onlyBank_modBank s _, by simp [Bank.setLoop], by simp [Bank.loop_setLoop]⟩
  · dsimp only
    have hnest := (Iff.of_eq (Bool.or_eq_true _ _)).trans (or_congr (levelBusy_iff s.bank f.lvl)
      (beyondOuter_iff s.bank f.lvl (s.ctx.addr + f.endOff.toNat)))
    rw [← hnest]
    refine ⟨fun h => ⟨_, hrow e he, ?_⟩, fun hp ho h => ⟨_, hrow e he, ?_⟩, fun hp ho h h0 hf => ⟨_, hrow e he, ?_⟩⟩
    · rw [setLoop_of_badEnd _ h]
      exact trapped_takeTrap s _
    · rw [setLoop_of_nested _ ho hp h]
      exact trapped_takeTrap s _
    · obtain ⟨hb, hn⟩ := Bool.or_eq_false_iff.1 (Bool.not_eq_true _ ▸ h)
      rw [setLoop_of_checks _ ho hp hb hn, if_pos h0, if_pos hf]
      exact trapped_takeTrap s _

/-! ### The back-edge -/

/-- An active level ends at a bundle. -/
def LoopHit (b : Bank) (addr : Nat) (l : BitVec 2) : Prop := (b.loop l).active = true ∧ (b.loop l).lend.toNat = addr

theorem loopBack_nil (addr : Nat) (b : Bank) : loopBack addr [] b = (none, b) := rfl

theorem loopBack_of_not_hit {addr : Nat} {l : BitVec 2} {b : Bank} (ls : List (BitVec 2)) (h : ¬LoopHit b addr l) :
    loopBack addr (l :: ls) b = loopBack addr ls b := by
  rw [loopBack, if_neg (by simpa [LoopHit] using h)]

theorem loopBack_of_last {addr : Nat} {l : BitVec 2} {b : Bank} (ls : List (BitVec 2)) (h : LoopHit b addr l) (h1 : (b.loop l).lc = 1) :
    loopBack addr (l :: ls) b = loopBack addr ls (b.setLoop l { b.loop l with lc := 0, active := false }) := by
  rw [loopBack, if_pos (by simpa [LoopHit] using h), if_neg (by simp [h1])]

theorem loopBack_of_more {addr : Nat} {l : BitVec 2} {b : Bank} (ls : List (BitVec 2)) (h : LoopHit b addr l) (h1 : (b.loop l).lc ≠ 1) :
    loopBack addr (l :: ls) b = (some (b.loop l).lstart, b.setLoop l { b.loop l with lc := (b.loop l).lc - 1 }) := by
  rw [loopBack, if_pos (by simpa [LoopHit] using h), if_pos (sub_ne_zero.2 h1)]

/-- Only the levels change. -/
theorem loopBack_eq (addr : Nat) (ls : List (BitVec 2)) (b : Bank) :
    (loopBack addr ls b).2 = { b with loops := (loopBack addr ls b).2.loops } := by
  induction ls generalizing b with
  | nil => rfl
  | cons l ls ih =>
    by_cases h : LoopHit b addr l
    · by_cases h1 : (b.loop l).lc = 1
      · rw [loopBack_of_last ls h h1, ih]
        rfl
      · rw [loopBack_of_more ls h h1]
        rfl
    · rw [loopBack_of_not_hit ls h]
      exact ih b

/-- The levels are all that is read. -/
theorem loopBack_congr (addr : Nat) (ls : List (BitVec 2)) {b c : Bank} (h : b.loops = c.loops) :
    (loopBack addr ls b).1 = (loopBack addr ls c).1 ∧ (loopBack addr ls b).2.loops = (loopBack addr ls c).2.loops := by
  induction ls generalizing b c with
  | nil => exact ⟨rfl, h⟩
  | cons l ls ih =>
    have hl : b.loop l = c.loop l := by rw [Bank.loop, Bank.loop, h]
    by_cases hh : LoopHit b addr l
    · have hc : LoopHit c addr l := by rwa [LoopHit, ← hl]
      by_cases h1 : (b.loop l).lc = 1
      · rw [loopBack_of_last ls hh h1, loopBack_of_last ls hc (hl ▸ h1)]
        exact ih (by simp [Bank.setLoop, h, hl])
      · rw [loopBack_of_more ls hh h1, loopBack_of_more ls hc (hl ▸ h1)]
        exact ⟨by rw [hl], by simp [Bank.setLoop, h, hl]⟩
    · have hc : ¬LoopHit c addr l := by rwa [LoopHit, ← hl]
      rw [loopBack_of_not_hit ls hh, loopBack_of_not_hit ls hc]
      exact ih h

/-- The levels that end with their last turn become inactive, and nothing takes a back-edge before a level with turns left is reached. -/
theorem loopBack_append {addr : Nat} (pre post : List (BitVec 2)) {b : Bank} (hnd : pre.Nodup)
    (h : ∀ k ∈ pre, LoopHit b addr k → (b.loop k).lc = 1) : ∃ c : Bank, loopBack addr (pre ++ post) b = loopBack addr post c ∧
      (∀ k, k ∉ pre ∨ ¬LoopHit b addr k → c.loop k = b.loop k) ∧
      ∀ k ∈ pre, LoopHit b addr k → c.loop k = { b.loop k with lc := 0, active := false } := by
  induction pre generalizing b with
  | nil => exact ⟨b, rfl, fun _ _ => rfl, fun k hk => absurd hk List.not_mem_nil⟩
  | cons l ls ih =>
    obtain ⟨hl, hnd⟩ := List.nodup_cons.1 hnd
    by_cases hh : LoopHit b addr l
    · have hne : ∀ k, k ≠ l → (b.setLoop l { b.loop l with lc := 0, active := false }).loop k = b.loop k := fun k hk => by
        rw [Bank.loop_setLoop, if_neg hk]
      have hsame : (b.setLoop l { b.loop l with lc := 0, active := false }).loop l = { b.loop l with lc := 0, active := false } := by
        rw [Bank.loop_setLoop, if_pos rfl]
      have hhit : ∀ k, k ≠ l → (LoopHit (b.setLoop l { b.loop l with lc := 0, active := false }) addr k ↔ LoopHit b addr k) := fun k hk => by
        rw [LoopHit, LoopHit, hne k hk]
      have hmem : ∀ k ∈ ls, k ≠ l := fun k hk e => hl (e ▸ hk)
      obtain ⟨c, hc, hout, hin⟩ := ih (b := b.setLoop l { b.loop l with lc := 0, active := false }) hnd fun k hk hk' => by
        rw [hne k (hmem k hk)]
        exact h k (List.mem_cons_of_mem _ hk) ((hhit k (hmem k hk)).1 hk')
      refine ⟨c, ?_, fun k hk => ?_, fun k hk hk' => ?_⟩
      · rw [List.cons_append, loopBack_of_last _ hh (h l List.mem_cons_self hh), hc]
      · have hkl : k ≠ l := fun e => hk.elim (fun hn => hn (e ▸ List.mem_cons_self)) fun hn => hn (e ▸ hh)
        rw [hout k (hk.imp (fun hn hm => hn (List.mem_cons_of_mem _ hm)) (hhit k hkl).not.2), hne k hkl]
      · by_cases hkl : k = l
        · rw [hkl, hout l (.inl hl), hsame]
        · have hkm : k ∈ ls := (List.mem_cons.1 hk).resolve_left hkl
          rw [hin k hkm ((hhit k hkl).2 hk'), hne k hkl]
    · obtain ⟨c, hc, hout, hin⟩ := ih hnd fun k hk => h k (List.mem_cons_of_mem _ hk)
      refine ⟨c, by rw [List.cons_append, loopBack_of_not_hit _ hh, hc], fun k hk => hout k ?_, fun k hk hk' => hin k ?_ hk'⟩
      · exact hk.imp (fun hn hm => hn (List.mem_cons_of_mem _ hm)) id
      · exact (List.mem_cons.1 hk).resolve_left fun e => hh (e ▸ hk')

theorem mem_levels : ∀ k : BitVec 2, k ∈ ([3, 2, 1, 0] : List (BitVec 2)) := by decide

/-- The four levels from the highest down, split at `l`. -/
theorem levels_split (l : BitVec 2) : ∃ pre post, ([3, 2, 1, 0] : List (BitVec 2)) = pre ++ l :: post ∧ pre.Nodup ∧
    ∀ k, k ∈ pre ↔ l.toNat < k.toNat := by
  refine ⟨[3, 2, 1, 0].filter fun k => l.toNat < k.toNat, [3, 2, 1, 0].filter fun k => k.toNat < l.toNat, ?_, ?_, ?_⟩
  · revert l; decide
  · revert l; decide
  · revert l; decide

/-- The bank with the link value of its bundle in s31. -/
def linked (b : Bank) : Bank := match b.link with | some v => b.wrS 31 v | none => b

theorem linked_eq (b : Bank) : linked b = { b with s := (linked b).s } := by
  unfold linked
  split
  · exact Bank.wrS_eq _ _ _
  · rfl

theorem linked_rdS (b : Bank) (d : BitVec 5) :
    (linked b).rdS d = match b.link with | some v => (if d = 31 then v else b.rdS d) | none => b.rdS d := by
  unfold linked
  cases b.link with
  | none => rfl
  | some v => simp [Bank.rdS_wrS]

theorem nextBundle_of_some (addr fall : Nat) {b : Bank} {v : Word} (h : b.taken = some v) : nextBundle addr fall b = { b with pc := v } := by
  rw [nextBundle, h]

theorem nextBundle_of_none (addr fall : Nat) {b : Bank} (h : b.taken = none) : nextBundle addr fall b =
    { (loopBack addr [3, 2, 1, 0] b).2 with pc := (loopBack addr [3, 2, 1, 0] b).1.getD (BitVec.ofNat 32 fall) } := by
  rw [nextBundle, h]
  dsimp only
  split
  · next e => rw [e]; rfl
  · next e => rw [e]; rfl

theorem nextBundle_s (addr fall : Nat) (b : Bank) : (nextBundle addr fall b).s = b.s := by
  cases h : b.taken with
  | some v => rw [nextBundle_of_some addr fall h]
  | none => rw [nextBundle_of_none addr fall h, loopBack_eq]

/-- A complete bundle: its link value, then the next bundle or the end. -/
theorem completeBank_eq (addr fall : Nat) (stop : Bool) (is : List Instr) (b : Bank) : completeBank addr fall stop is b =
    { (if b.tended then { linked b with status := .ending, pc := BitVec.ofNat 32 addr } else nextBundle addr fall (linked b)) with
      sr := 0, taken := none, link := none, waitOver := false
      grpOpen := (completeBank addr fall stop is b).grpOpen, wset := (completeBank addr fall stop is b).wset } := by
  have ht : (linked b).tended = b.tended := by rw [linked_eq]
  rw [← ht]
  rfl

theorem completeBank_rdS (addr fall : Nat) (stop : Bool) (is : List Instr) (b : Bank) (d : BitVec 5) :
    (completeBank addr fall stop is b).rdS d = match b.link with | some v => (if d = 31 then v else b.rdS d) | none => b.rdS d := by
  have hs : (completeBank addr fall stop is b).s = (linked b).s := by
    rw [completeBank_eq]
    dsimp only
    split
    · rfl
    · exact nextBundle_s _ _ _
  rw [← linked_rdS, Bank.rdS, Bank.rdS, hs]

/-- Settles O7. -/
theorem loopBackEdge : Obligations.LoopBackEdge := by
  intro b addr
  dsimp only
  refine ⟨fun l hl hlc hup => ?_, fun hall => ?_, loopBack_eq addr _ b, fun fall stop is => ⟨completeBank_rdS addr fall stop is b, ?_⟩⟩
  · obtain ⟨pre, post, hs, hnd, hmem⟩ := levels_split l
    obtain ⟨c, hc, hout, hin⟩ := loopBack_append pre (l :: post) (b := b) (addr := addr) hnd fun k hk => hup k ((hmem k).1 hk)
    have hcl : c.loop l = b.loop l := hout l (.inl fun h => absurd ((hmem l).1 h) (lt_irrefl _))
    have hh : LoopHit c addr l := by rw [LoopHit, hcl]; exact hl
    rw [hs, hc, loopBack_of_more post hh (by rwa [hcl]), hcl]
    refine ⟨rfl, by rw [Bank.loop_setLoop, if_pos rfl], fun k hk hk' => ?_, fun k hk hk' => ?_⟩
    · rw [Bank.loop_setLoop, if_neg (fun e => by subst e; omega), hin k ((hmem k).2 hk) hk']
    · rw [Bank.loop_setLoop, if_neg hk, hout k (hk'.imp (fun h hm => by have := (hmem k).1 hm; omega) id)]
  · obtain ⟨c, hc, hout, hin⟩ := loopBack_append [3, 2, 1, 0] [] (b := b) (addr := addr) (by decide) fun k _ => hall k
    rw [List.append_nil, loopBack_nil] at hc
    rw [hc]
    refine ⟨rfl, fun k => ?_⟩
    by_cases hk : LoopHit b addr k
    · rw [hin k (mem_levels k) hk]
      simp [hk.1, hk.2]
    · rw [hout k (.inr hk)]
      have hk' : ((b.loop k).active && decide ((b.loop k).lend.toNat = addr)) = false := by simpa [LoopHit] using hk
      have ha : ((b.loop k).active && !decide ((b.loop k).lend.toNat = addr)) = (b.loop k).active := by
        revert hk'
        cases (b.loop k).active <;> simp
      rw [if_neg (by simp [hk']), ha]
  · obtain ⟨hl, hs⟩ := loopBack_congr addr [3, 2, 1, 0] (b := linked b) (c := b) (by rw [linked_eq])
    rw [completeBank_eq]
    refine ⟨rfl, rfl, fun ht hn => ?_, fun ht v hv => ?_, fun ht => ?_⟩
    · rw [ht, if_neg (by decide), nextBundle_of_none _ _ (by rw [linked_eq]; exact hn), loopBack_eq, hl, hs, linked_eq]
      exact ⟨rfl, rfl, rfl⟩
    · rw [ht, if_neg (by decide), nextBundle_of_some _ _ (v := v) (by rw [linked_eq]; exact hv), linked_eq]
      exact ⟨rfl, rfl, rfl⟩
    · rw [ht, if_pos rfl, linked_eq]
      exact ⟨rfl, rfl, rfl⟩

end Sys2Proof.Machine
end

section
/-! PROOF. The S-class memory accesses: the obligations ScalarLoadsComplete, ScalarStoresComplete, FullEmptyAccesses, AtomicsComplete and
ScalarAccessesTrap. -/

namespace Sys2Proof.Machine

open Sys2Proof

/-! ### Little-endian bytes -/

@[simp] theorem length_leBytes (n v : Nat) : (leBytes n v).length = n := by
  induction n generalizing v with
  | zero => rfl
  | succ n ih => simp [leBytes, ih]

theorem getElem_leBytes (n v i : Nat) (h : i < (leBytes n v).length) : (leBytes n v)[i] = BitVec.ofNat 8 (v / 2 ^ (8 * i)) := by
  induction n generalizing v i with
  | zero => simp at h
  | succ n ih =>
    cases i with
    | zero => simp [leBytes]
    | succ i =>
      have hp : 2 ^ (8 * (i + 1)) = 256 * 2 ^ (8 * i) := by rw [Nat.mul_succ, Nat.pow_add, Nat.mul_comm]
      simp only [leBytes, List.getElem_cons_succ]
      rw [ih, Nat.div_div_eq_div_mul, hp]

@[simp] theorem length_getBytes (m : List (Nat × BitVec 8)) (a n : Nat) : (Memory.getBytes m a n).length = n := by
  induction n generalizing a with
  | zero => rfl
  | succ n ih => simp [Memory.getBytes, ih]

theorem leNat_lt (bs : List Byte) : leNat bs < 2 ^ (8 * bs.length) := by
  induction bs with
  | nil => simp [leNat]
  | cons b r ih =>
    have hp : 2 ^ (8 * (r.length + 1)) = 256 * 2 ^ (8 * r.length) := by rw [Nat.mul_succ, Nat.pow_add, Nat.mul_comm]
    have hb : b.toNat < 256 := b.isLt
    rw [leNat, List.length_cons, hp]
    omega

theorem readNat_lt (s : State) (k n : Nat) : readNat s k n < 2 ^ (8 * n) := by
  have h := leNat_lt (readBytes s k n)
  rwa [readBytes, length_getBytes] at h

/-- The bytes of what was read. -/
theorem ofNat_readNat_div (s : State) (k n i : Nat) (h : i < n) : BitVec.ofNat 8 (readNat s k n / 2 ^ (8 * i)) = Memory.get s.mem (k + i) := by
  unfold readNat readBytes
  induction n generalizing k i with
  | zero => omega
  | succ n ih =>
    have hb : (Memory.get s.mem k).toNat < 256 := (Memory.get s.mem k).isLt
    rw [Memory.getBytes, leNat]
    cases i with
    | zero =>
      apply BitVec.eq_of_toNat_eq
      simp only [BitVec.toNat_ofNat, Nat.mul_zero, Nat.pow_zero, Nat.div_one, Nat.add_zero]
      omega
    | succ i =>
      have hp : 2 ^ (8 * (i + 1)) = 256 * 2 ^ (8 * i) := by rw [Nat.mul_succ, Nat.pow_add, Nat.mul_comm]
      rw [hp, ← Nat.div_div_eq_div_mul, Nat.add_mul_div_left _ _ (by omega), Nat.div_eq_of_lt hb, Nat.zero_add, ih (k + 1) i (by omega),
        Nat.add_assoc, Nat.add_comm 1]

/-! ### An access and its checks -/

theorem sAccess_of_misaligned {s : State} {a size : Nat} (reads : Bool) (act : Nat → State) (h : a % size ≠ 0) :
    sAccess s a size reads act = takeTrap s causeMisaligned := by
  rw [sAccess, checkAddr, if_pos h]

theorem sAccess_of_outOfRange {s : State} {a size : Nat} (reads : Bool) (act : Nat → State) (h : a % size = 0)
    (hk : localKey s s.ctx.core s.bank a = none) : sAccess s a size reads act = takeTrap s causeAddrRange := by
  rw [sAccess, checkAddr, if_neg (by simpa using h), hk]

theorem sAccess_of_key {s : State} {a size k : Nat} (reads : Bool) (act : Nat → State) (h : a % size = 0)
    (hk : localKey s s.ctx.core s.bank a = some k) :
    sAccess s a size reads act = if reads && poisoned s k size then takeTrap s causePoison else act k := by
  rw [sAccess, checkAddr, if_neg (by simpa using h), hk]

theorem sAccess_of_clean {s : State} {a size k : Nat} (reads : Bool) (act : Nat → State) (h : a % size = 0)
    (hk : localKey s s.ctx.core s.bank a = some k) (hp : poisoned s k size = false) : sAccess s a size reads act = act k := by
  rw [sAccess_of_key reads act h hk, hp, Bool.and_false, if_neg (by decide)]

theorem sAccess_of_write {s : State} {a size k : Nat} (act : Nat → State) (h : a % size = 0)
    (hk : localKey s s.ctx.core s.bank a = some k) : sAccess s a size false act = act k := by
  rw [sAccess_of_key false act h hk, Bool.false_and, if_neg (by decide)]

/-- The three traps of an access. -/
theorem sAccess_traps {i : Instr} {s : State} {a size : Nat} {reads : Bool} {act : Nat → State}
    (h : exec i s = .next (sAccess s a size reads act)) :
    (a % size ≠ 0 → ∃ t, exec i s = .next t ∧ Trapped s t causeMisaligned (stopSlot s)) ∧
    (a % size = 0 → localKey s s.ctx.core s.bank a = none → ∃ t, exec i s = .next t ∧ Trapped s t causeAddrRange (stopSlot s)) ∧
    ∀ k, a % size = 0 → localKey s s.ctx.core s.bank a = some k → reads = true → poisoned s k size = true →
      ∃ t, exec i s = .next t ∧ Trapped s t causePoison (stopSlot s) := by
  refine ⟨fun ha => ⟨_, h, ?_⟩, fun ha hk => ⟨_, h, ?_⟩, fun k ha hk hr hp => ⟨_, h, ?_⟩⟩
  · rw [sAccess_of_misaligned _ _ ha]
    exact trapped_takeTrap s _
  · rw [sAccess_of_outOfRange _ _ ha hk]
    exact trapped_takeTrap s _
  · rw [sAccess_of_key _ _ ha hk, hr, hp, if_pos (by decide)]
    exact trapped_takeTrap s _

/-- Those of an access that reads. -/
theorem sAccess_traps_of_reads {i : Instr} {s : State} {a size : Nat} {act : Nat → State} (h : exec i s = .next (sAccess s a size true act)) :
    (a % size ≠ 0 → ∃ t, exec i s = .next t ∧ Trapped s t causeMisaligned (stopSlot s)) ∧
    (a % size = 0 → localKey s s.ctx.core s.bank a = none → ∃ t, exec i s = .next t ∧ Trapped s t causeAddrRange (stopSlot s)) ∧
    ∀ k, a % size = 0 → localKey s s.ctx.core s.bank a = some k → poisoned s k size = true →
      ∃ t, exec i s = .next t ∧ Trapped s t causePoison (stopSlot s) := by
  obtain ⟨h1, h2, h3⟩ := sAccess_traps h
  exact ⟨h1, h2, fun k ha hk => h3 k ha hk rfl⟩

/-- Settles O12: each row is an `sAccess`. -/
theorem scalarAccessesTrap : Obligations.ScalarAccessesTrap := by
  refine ⟨fun f s hg => sAccess_traps_of_reads (show execLds f s = _ from guarded_of_true _ hg), fun f s hg => ?_⟩
  simp only [List.forall_mem_cons, forall_const]
  exact ⟨sAccess_traps_of_reads (show execLdw f s = _ from guarded_of_true _ hg),
    sAccess_traps_of_reads (show execLdh f s = _ from guarded_of_true _ hg),
    sAccess_traps_of_reads (show execLdhu f s = _ from guarded_of_true _ hg),
    sAccess_traps_of_reads (show execLdb f s = _ from guarded_of_true _ hg),
    sAccess_traps_of_reads (show execLdbu f s = _ from guarded_of_true _ hg),
    sAccess_traps_of_reads (show execLdd f s = _ from guarded_of_true _ hg),
    sAccess_traps (show execStw f s = _ from guarded_of_true _ hg),
    sAccess_traps (show execSth f s = _ from guarded_of_true _ hg),
    sAccess_traps (show execStb f s = _ from guarded_of_true _ hg),
    sAccess_traps (show execStd f s = _ from guarded_of_true _ hg),
    sAccess_traps (show execStf f s = _ from guarded_of_true _ hg),
    sAccess_traps (show execFeclr f s = _ from guarded_of_true _ hg),
    sAccess_traps_of_reads (show execAadd f s = _ from guarded_of_true _ hg),
    sAccess_traps_of_reads (show execAmax f s = _ from guarded_of_true _ hg),
    sAccess_traps_of_reads (show execAor f s = _ from guarded_of_true _ hg),
    sAccess_traps_of_reads (show execAxch f s = _ from guarded_of_true _ hg),
    sAccess_traps_of_reads (show execAcas f s = _ from guarded_of_true _ hg),
    fun _ h => absurd h List.not_mem_nil⟩

/-! ### Loads -/

theorem loadBody_writesScalar {f : SMForm} {s : State} {size k : Nat} {conv : Nat → Word} {v : Word} (ha : smFormAddr f s.bank size % size = 0)
    (hk : localKey s s.ctx.core s.bank (smFormAddr f s.bank size) = some k) (hp : poisoned s k size = false)
    (hv : conv (readNat s k size) = v) : WritesScalar s (loadBody f size conv s) f.d v := by
  rw [loadBody, sAccess_of_clean _ _ ha hk hp, ← hv]
  exact writesScalar_wrS s f.d fun _ => conv (readNat s k size)

theorem ofInt_sext (v w : Nat) (hw : 0 < w) (hv : v < 2 ^ w) : BitVec.ofInt 32 (sext v w) = BitVec.signExtend 32 (BitVec.ofNat w v) := by
  rw [sext_eq_toInt v w hw hv, BitVec.signExtend]

theorem even_add_one_ne_zero {d : BitVec 5} (h : d.toNat % 2 = 0) : d + 1 ≠ 0 := by
  bv_omega

/-- Settles O8: LDW to LDBU are `loadBody`; LDD writes both registers of its pair. -/
theorem scalarLoadsComplete : Obligations.ScalarLoadsComplete := by
  intro f s k hg
  refine ⟨?_, fun ha hk hp hd => ?_⟩
  · simp only [List.forall_mem_cons]
    exact ⟨fun ha hk hp => ⟨_, show execLdw f s = _ from guarded_of_true _ hg, loadBody_writesScalar ha hk hp rfl⟩,
      fun ha hk hp => ⟨_, show execLdh f s = _ from guarded_of_true _ hg,
        loadBody_writesScalar ha hk hp (ofInt_sext _ 16 (by decide) (readNat_lt s k 2))⟩,
      fun ha hk hp => ⟨_, show execLdhu f s = _ from guarded_of_true _ hg, loadBody_writesScalar ha hk hp rfl⟩,
      fun ha hk hp => ⟨_, show execLdb f s = _ from guarded_of_true _ hg,
        loadBody_writesScalar ha hk hp (ofInt_sext _ 8 (by decide) (readNat_lt s k 1))⟩,
      fun ha hk hp => ⟨_, show execLdbu f s = _ from guarded_of_true _ hg, loadBody_writesScalar ha hk hp rfl⟩,
      fun _ h => absurd h List.not_mem_nil⟩
  · refine ⟨_, show execLdd f s = _ from guarded_of_true _ hg, ?_⟩
    have hne := even_add_one_ne_zero hd
    rw [sAccess_of_clean _ _ ha hk hp]
    refine ⟨onlyBank_modBank s _, ?_, fun r => ?_⟩
    · rw [State.bank_modBank, Bank.wrS_eq, Bank.wrS_eq]
    · rw [State.bank_modBank, Bank.rdS_wrS, Bank.rdS_wrS]
      simp only [ne_eq, hne, not_false_eq_true, and_true]

/-! ### Stores -/

theorem storeBody_storesBytes {f : SMForm} {s : State} {size k : Nat} (ha : smFormAddr f s.bank size % size = 0)
    (hk : localKey s s.ctx.core s.bank (smFormAddr f s.bank size) = some k) :
    StoresBytes s (storeBody f size s) k (leBytes size (s.bank.rdS f.d).toNat) := by
  rw [storeBody, sAccess_of_write _ ha hk]
  exact storesBytes_storeBytes s k _

/-- Settles O9. -/
theorem scalarStoresComplete : Obligations.ScalarStoresComplete := by
  intro f s k hg
  simp only [List.forall_mem_cons]
  refine ⟨fun ha hk => ⟨_, show execStw f s = _ from guarded_of_true _ hg, storeBody_storesBytes ha hk⟩,
    fun ha hk => ⟨_, show execSth f s = _ from guarded_of_true _ hg, storeBody_storesBytes ha hk⟩,
    fun ha hk => ⟨_, show execStb f s = _ from guarded_of_true _ hg, storeBody_storesBytes ha hk⟩,
    fun ha hk => ⟨_, show execStd f s = _ from guarded_of_true _ hg, ?_⟩, fun _ h => absurd h List.not_mem_nil⟩
  rw [sAccess_of_write _ ha hk]
  exact storesBytes_storeBytes s k _

/-! ### Full and empty words -/

/-- Settles O10. -/
theorem fullEmptyAccesses : Obligations.FullEmptyAccesses := by
  refine ⟨fun f s k hg ha hk hp => ⟨_, show execLds f s = _ from guarded_of_true _ hg, ?_⟩, fun f s k hg ha hk =>
    ⟨⟨_, show execStf f s = _ from guarded_of_true _ hg, ?_⟩, ⟨_, show execFeclr f s = _ from guarded_of_true _ hg, ?_⟩⟩⟩
  · rw [sAccess_of_clean _ _ ha hk hp]
    obtain ⟨hr, hb, ho⟩ := writesScalar_wrS s f.d fun _ => BitVec.ofNat 32 (readNat s k 4)
    by_cases he : f.e = true
    · rw [if_pos he]
      refine ⟨hr, hb, fun w => ?_, ho⟩
      simp [setEmpty, he, and_comm]
    · rw [if_neg he]
      exact ⟨hr, hb, fun w => by simp [he], ho⟩
  · rw [sAccess_of_write _ ha hk]
    exact ⟨storesBytes_storeBytes s k _, fun w => by simp [setFull, storeBytes, clearPoison, writeBytes]⟩
  · rw [sAccess_of_write _ ha hk]
    exact ⟨rfl, fun w => by simp [setEmpty]⟩

/-! ### Atomics -/

theorem fullWords_subset {s : State} {k n w : Nat} (hp : poisoned s k n = false) (hw : w ∈ fullWords k n) : w ∉ s.poison := fun h => by
  have : poisoned s k n = true := List.any_eq_true.2 ⟨w, List.mem_of_mem_filter hw, by simpa using h⟩
  simp [hp] at this

/-- What an atomic leaves: the old word in s_D, and the word of `new`, or the old word, in its place. -/
theorem atomicBody_completes {f : SMForm} {s : State} {k : Nat} {old v : Word} (new : Word → Option Word) (ha : smFormAddr f s.bank 4 % 4 = 0)
    (hk : localKey s s.ctx.core s.bank (smFormAddr f s.bank 4) = some k) (hp : poisoned s k 4 = false)
    (hold : old = BitVec.ofNat 32 (readNat s k 4)) (hv : (new old).getD old = v) :
    let t := atomicBody f new s
    (∀ i, i < 4 → Memory.get t.mem (k + i) = BitVec.ofNat 8 (v.toNat / 2 ^ (8 * i))) ∧
      SameOutside s t k 4 ∧ t.full = s.full ∧ (∀ r, t.bank.rdS r = if r = f.d ∧ f.d ≠ 0 then old else s.bank.rdS r) ∧
      t.bank = { s.bank with s := t.bank.s } ∧ (∀ w, w ∈ t.poison ↔ w ∈ s.poison) ∧ OnlyBank s { t with mem := s.mem, poison := s.poison } := by
  obtain ⟨hr, hb, ho⟩ := writesScalar_wrS s f.d fun _ => old
  rw [atomicBody, sAccess_of_clean _ _ ha hk hp, ← hold]
  cases hn : new old with
  | none =>
    simp only [hn, Option.getD_none] at hv ⊢
    refine ⟨fun i hi => ?_, fun _ _ => rfl, rfl, hr, hb, fun _ => Iff.rfl, ho⟩
    rw [← hv, hold, BitVec.toNat_ofNat, Nat.mod_eq_of_lt (readNat_lt s k 4), ofNat_readNat_div s k 4 i hi]
    rfl
  | some w =>
    simp only [hn, Option.getD_some] at hv ⊢
    obtain ⟨hin, hout, hpsn, -⟩ := storesBytes_storeBytes s k (leBytes 4 w.toNat)
    refine ⟨fun i hi => ?_, ?_, rfl, hr, hb, fun x => ?_, ho⟩
    · rw [← hv, ← getElem_leBytes 4 w.toNat i (by simpa using hi)]
      exact hin i (by simpa using hi)
    · rwa [length_leBytes] at hout
    · rw [length_leBytes] at hpsn
      exact (hpsn x).trans ⟨fun h => h.1, fun h => ⟨h, fun hw => fullWords_subset hp hw h⟩⟩

/-- Settles O11: each row is `atomicBody` of its new word. -/
theorem atomicsComplete : Obligations.AtomicsComplete := by
  intro f s k hg ha hk hp old hold
  simp only [List.forall_mem_cons]
  refine ⟨⟨_, show execAadd f s = _ from guarded_of_true _ hg, atomicBody_completes _ ha hk hp hold rfl⟩,
    ⟨_, show execAmax f s = _ from guarded_of_true _ hg, atomicBody_completes _ ha hk hp hold rfl⟩,
    ⟨_, show execAor f s = _ from guarded_of_true _ hg, atomicBody_completes _ ha hk hp hold rfl⟩,
    ⟨_, show execAxch f s = _ from guarded_of_true _ hg, atomicBody_completes _ ha hk hp hold rfl⟩,
    ⟨_, show execAcas f s = _ from guarded_of_true _ hg, atomicBody_completes _ ha hk hp hold ?_⟩, fun _ h => absurd h List.not_mem_nil⟩
  split <;> rfl

end Sys2Proof.Machine
end

section
/-! PROOF. Rings and address registers: the obligations RingsComplete, RingPositions and AddressRegisterResults. -/

namespace Sys2Proof.Machine

open Sys2Proof

/-! ### The ring of an instruction -/

theorem onRing_of_ring {f : SYForm} {s : State} {r : Ring} (act : Nat → Ring → State) (h : s.bank.ring f.imm.toNat = some r) :
    onRing f s act = act f.imm.toNat r := by
  rw [onRing, h]

theorem onRing_of_none {f : SYForm} {s : State} (act : Nat → Ring → State) (h : s.bank.ring f.imm.toNat = none) :
    onRing f s act = takeTrap s causeRingRange := by
  rw [onRing, h]

/-- A return of a slot is counted, and changes no core. -/
theorem noteReturn_eq (s : State) : noteReturn s = { s with changed := (noteReturn s).changed, passing := (noteReturn s).passing } := rfl

theorem raiseEvent_eq_modBank (s : State) (e : Nat) :
    raiseEvent s s.ctx.core s.ctx.bank e = s.modBank fun k => { k with events := k.events ||| ((1#16) <<< e) } := rfl

theorem popSlot_completes {f : SYForm} {s : State} {r : Ring} : OnlyBank s (popSlot f f.imm.toNat r s) ∧ (popSlot f f.imm.toNat r s).bank =
    (s.bank.modRing f.imm.toNat fun r => (r.readDone .task).pop .task).wrS f.d (BitVec.ofNat 32 (r.slotAddr r.popPos)) :=
  ⟨onlyBank_modBank s _, State.bank_modBank s _⟩

/-- Settles O13. -/
theorem ringsComplete : Obligations.RingsComplete := by
  intro f s r hg hr
  refine ⟨?_, fun h => ⟨_, show execRtry f s = _ from guarded_of_true _ hg, ?_⟩,
    fun h => ⟨_, show execRclaim f s = _ from guarded_of_true _ hg, ?_⟩, fun h => ⟨_, show execRrel f s = _ from guarded_of_true _ hg, ?_⟩,
    fun h => ⟨_, show execRfill f s = _ from guarded_of_true _ hg, ?_⟩, ⟨_, show execRstat f s = _ from guarded_of_true _ hg, ?_⟩⟩
  · simp only [List.forall_mem_cons]
    refine ⟨fun h => ⟨_, show execRpop f s = _ from guarded_of_true _ hg, ?_⟩, fun h => ⟨_, show execRtry f s = _ from guarded_of_true _ hg, ?_⟩,
      fun _ h => absurd h List.not_mem_nil⟩
    · rw [onRing_of_ring _ hr, if_pos h]
      exact popSlot_completes
    · rw [onRing_of_ring _ hr, if_pos h]
      exact popSlot_completes
  · rw [onRing_of_ring _ hr, if_neg (by simp [h])]
    exact writesScalar_wrS s f.d fun _ => 0xFFFFFFFF
  · rw [onRing_of_ring _ hr, if_neg (by simp [h])]
    exact ⟨onlyBank_modBank s _, State.bank_modBank s _⟩
  · rw [onRing_of_ring _ hr, if_pos h, noteReturn_eq]
    exact ⟨onlyBank_modBank s _, State.bank_modBank s _⟩
  · have hb : (raiseEvent (s.modBank fun b => b.modRing f.imm.toNat fun r => r.fill .task) s.ctx.core s.ctx.bank 0) =
        s.modBank fun b => { b.modRing f.imm.toNat (fun r => r.fill .task) with events := b.events ||| 1 } :=
      (raiseEvent_eq_modBank (s.modBank _) 0).trans (State.modBank_modBank s _ _)
    rw [onRing_of_ring _ hr, if_pos h, hb]
    exact ⟨onlyBank_modBank s _, State.bank_modBank s _⟩
  · rw [onRing_of_ring _ hr]
    exact writesScalar_wrS s f.d fun _ => r.counts

/-! ### Positions -/

@[simp] theorem length_markFirst {α : Type} (p : α → Bool) (f : α → α) (l : List α) : (markFirst p f l).length = l.length := by
  induction l with
  | nil => rfl
  | cons x l ih =>
    rw [markFirst]
    split
    · rfl
    · simp [ih]

/-- Marking a slot that is not filled makes one more of them filled. -/
theorem count_markFirst_filled (p : TakenSlot → Bool) (hp : ∀ t, p t = true → t.filled = false) (l : List TakenSlot) :
    ((markFirst p (fun t => { t with filled := true }) l).filter fun t => t.filled).length =
      (l.filter fun t => t.filled).length + if l.any p then 1 else 0 := by
  induction l with
  | nil => rfl
  | cons t l ih =>
    rw [markFirst, List.any_cons]
    by_cases h : p t = true
    · simp [h, hp t h]
    · rw [if_neg h, List.filter_cons, List.filter_cons, Bool.eq_false_iff.2 h, Bool.false_or]
      split
      · rw [List.length_cons, List.length_cons, ih]
        omega
      · exact ih

/-- Settling drops the released slots at the front, and advances the release position by their number. -/
theorem settle_spec (n : Nat) (l : List HeldSlot) (rel : Nat) (hr : rel < n) : ∃ k, k ≤ l.length ∧
    (Ring.settle rel n l).1 = (rel + k) % n ∧ (Ring.settle rel n l).2 = l.drop k ∧ (∀ x ∈ l.take k, x.released = true) ∧
    ∀ x, (l.drop k).head? = some x → x.released = false := by
  induction l generalizing rel with
  | nil => exact ⟨0, Nat.le_refl 0, (Nat.mod_eq_of_lt hr).symm, rfl, by simp, by simp⟩
  | cons h l ih =>
    by_cases hh : h.released = true
    · obtain ⟨k, hk, h1, h2, h3, h4⟩ := ih ((rel + 1) % n) (Nat.mod_lt _ (by omega))
      refine ⟨k + 1, by simpa using hk, ?_, ?_, ?_, h4⟩
      · rw [Ring.settle, if_pos hh, h1, Nat.mod_add_mod]
        congr 1
        omega
      · rw [Ring.settle, if_pos hh, h2, List.drop_succ_cons]
      · rw [List.take_succ_cons]
        exact List.forall_mem_cons.2 ⟨hh, h3⟩
    · refine ⟨0, Nat.zero_le _, ?_, ?_, by simp, ?_⟩
      · rw [Ring.settle, if_neg hh]
        exact (Nat.mod_eq_of_lt hr).symm
      · rw [Ring.settle, if_neg hh]
        rfl
      · simpa using hh

/-- Settles O14. -/
theorem ringPositions : Obligations.RingPositions := by
  intro r h g hrel
  have hrelease : ∃ k, k ≤ r.held.length ∧ (r.release h).rel = (r.rel + k) % r.count ∧
      (r.release h).held = (markFirst (fun t : HeldSlot => decide (t.holder = h) && !t.released) (fun t => { t with released := true })
        r.held).drop k ∧
      (∀ x ∈ (markFirst (fun t : HeldSlot => decide (t.holder = h) && !t.released) (fun t => { t with released := true }) r.held).take k,
        x.released = true) ∧ ∀ x, (r.release h).held.head? = some x → x.released = false := by
    obtain ⟨k, hk, h1, h2, h3, h4⟩ := settle_spec r.count
      (markFirst (fun t : HeldSlot => decide (t.holder = h) && !t.released) (fun t => { t with released := true }) r.held) r.rel hrel
    exact ⟨k, by simpa using hk, h1, h2, h3, fun x hx => h4 x (h2 ▸ hx)⟩
  refine ⟨fun hp => ?_, ?_, ?_, ?_, hrelease⟩
  · obtain ⟨t, ts, ht⟩ : ∃ t ts, r.taken = t :: ts := by
      cases ht : r.taken with
      | nil => simp [Ring.canPop, ht] at hp
      | cons t ts => exact ⟨t, ts, rfl⟩
    have he : r.pop h = { r with held := r.held ++ [⟨h, false⟩], taken := ts } := by rw [Ring.pop, ht]
    rw [he]
    refine ⟨?_, ?_, rfl⟩
    · simp [Ring.popPos, Ring.count, Nat.add_assoc]
    · simp only [Ring.fillPos, Ring.count, ht, List.length_append, List.length_cons, List.length_nil]
      congr 1
      omega
  · refine ⟨?_, rfl, rfl⟩
    simp [Ring.take, Ring.fillPos, Ring.count, Nat.add_assoc]
  · refine ⟨?_, rfl, rfl, ?_⟩
    · simp [Ring.fill, Ring.fillPos, Ring.count]
    · exact count_markFirst_filled _ (fun t ht => by simpa using (Bool.and_eq_true_iff.1 ht).2) r.taken
  · obtain ⟨k, hk, h1, h2, -, -⟩ := hrelease
    have hlen : (r.release h).held.length = r.held.length - k := by rw [h2]; simp
    have hcount : (r.release h).count = r.count := rfl
    have htaken : (r.release h).taken = r.taken := rfl
    refine ⟨?_, ?_, ?_, rfl⟩
    · rw [Ring.popPos, Ring.popPos, hcount, hlen, h1, Nat.mod_add_mod]
      congr 1
      omega
    · rw [Ring.fillPos, Ring.fillPos, hcount, hlen, htaken, h1, Nat.add_assoc, Nat.mod_add_mod]
      congr 1
      omega
    · rw [Ring.free, Ring.free, hcount, hlen, htaken]
      omega

/-! ### Address registers -/

theorem step_base_of_linear {a : AddrReg} (inc : Int) (h : a.modulo = 0) : (a.step inc).base = a.base + BitVec.ofInt 32 inc := by
  have e : (a.org.toNat : Int) + ((a.base.toNat : Int) - a.org.toNat + inc) = (a.base.toNat : Int) + inc := by omega
  rw [AddrReg.step]
  dsimp only
  rw [if_pos h, e, BitVec.ofInt_add, BitVec.ofInt_natCast, BitVec.ofNat_toNat, BitVec.setWidth_eq]

theorem step_base_of_modulo {a : AddrReg} (inc : Int) (h : a.modulo ≠ 0) : ∃ k : Nat, k < a.modulo.toNat ∧
    (a.step inc).base = a.org + BitVec.ofNat 32 k ∧ ((k : Int) - ((a.base.toNat : Int) - a.org.toNat + inc)) % a.modulo.toNat = 0 := by
  have hm : (a.modulo.toNat : Int) ≠ 0 := fun e => h (BitVec.eq_of_toNat_eq (by simpa using e))
  have hpos : (0 : Int) < a.modulo.toNat := by omega
  obtain ⟨k, hk⟩ := Int.eq_ofNat_of_zero_le (Int.emod_nonneg ((a.base.toNat : Int) - a.org.toNat + inc) hm)
  have hlt := Int.emod_lt_of_pos ((a.base.toNat : Int) - a.org.toNat + inc) hpos
  refine ⟨k, by omega, ?_, ?_⟩
  · rw [AddrReg.step]
    dsimp only
    rw [if_neg h, hk, BitVec.ofInt_add, BitVec.ofInt_natCast, BitVec.ofInt_natCast, BitVec.ofNat_toNat, BitVec.setWidth_eq]
  · rw [← hk, Int.emod_sub_emod, sub_self, Int.zero_emod]

/-- An address register is written and nothing else. -/
theorem onlyBank_wrA (s : State) (d : BitVec 3) (v : Bank → AddrReg) : OnlyBank s (s.modBank fun b => b.wrA d (v b)) ∧
    (s.modBank fun b => b.wrA d (v b)).bank = { s.bank with a := (s.modBank fun b => b.wrA d (v b)).bank.a } ∧
    ∀ r, (s.modBank fun b => b.wrA d (v b)).bank.rdA r = if r ≠ d then s.bank.rdA r else v s.bank := by
  refine ⟨onlyBank_modBank s _, ?_, fun r => ?_⟩
  · rw [State.bank_modBank]
    rfl
  · rw [State.bank_modBank, Bank.rdA_wrA]
    by_cases h : r = d <;> simp [h]

/-- Settles O15. -/
theorem addressRegisterResults : Obligations.AddressRegisterResults := by
  refine ⟨fun f s hg => ⟨⟨_, show execAset f s = _ from guarded_of_true _ hg, ?_⟩, ⟨_, show execAinc f s = _ from guarded_of_true _ hg, ?_⟩⟩,
    fun a inc => ⟨step_base_of_linear inc, step_base_of_modulo inc, rfl, rfl, rfl, rfl⟩⟩
  · obtain ⟨ho, hb, hr⟩ := onlyBank_wrA s (lo3 f.d) fun b => match f.imm.toNat with
      | 0 => { b.rdA (lo3 f.d) with base := b.rdS f.a, org := b.rdS f.a }
      | 1 => { b.rdA (lo3 f.d) with stride := b.rdS f.a }
      | 2 => { b.rdA (lo3 f.d) with modulo := b.rdS f.a }
      | _ => { b.rdA (lo3 f.d) with swizzle := (b.rdS f.a).getLsbD 0 }
    refine ⟨ho, hb, fun r => (hr r).trans ?_⟩
    by_cases h : r = lo3 f.d
    · subst h
      rw [if_neg (by simp), if_neg (by simp)]
      split
      · next e => rw [if_pos e]
      · next e => rw [if_neg (by omega), if_pos e]
      · next e => rw [if_neg (by omega), if_neg (by omega), if_pos e]
      · next h0 h1 h2 => rw [if_neg h0, if_neg h1, if_neg h2]
    · rw [if_pos h, if_pos h]
  · obtain ⟨ho, hb, hr⟩ := onlyBank_wrA s (lo3 f.d) fun b =>
      (b.rdA (lo3 f.d)).step (if f.a = 0 then (b.rdA (lo3 f.d)).stride.toInt else (b.rdS f.a).toInt)
    refine ⟨ho, hb, fun r => (hr r).trans ?_⟩
    by_cases h : r = lo3 f.d
    · rw [h]
    · rw [if_pos h, if_pos h]

end Sys2Proof.Machine
end

section
/-! PROOF. Traps and control registers: the obligations SystemTraps, TrapEntry and ControlRegisterAccesses. -/

namespace Sys2Proof.Machine

open Sys2Proof

/-! ### Taking a trap -/

/-- The core of a trap: its bank has taken the trap, and it halts where a debugger holds it at traps. -/
theorem takeTrapWith_core (s : State) (code : BitVec 8) (sr : Nat) (user : BitVec 16) : (takeTrapWith s code sr user).core s.ctx.core =
    if (s.core s.ctx.core).trapHalts then
      ((s.core s.ctx.core).modBank s.ctx.bank fun _ => trapBank s code sr).haltAtTrap s.ctx.bank code (s.clk s.ctx.core)
    else (s.core s.ctx.core).modBank s.ctx.bank fun _ => trapBank s code sr := by
  obtain ⟨u, hu, huc, hclk⟩ : ∃ u : State, (takeTrapWith s code sr user = if (u.core s.ctx.core).trapHalts then
      u.modCore s.ctx.core fun k => k.haltAtTrap s.ctx.bank code (u.clk s.ctx.core)
    else postAbort u ((u.core s.ctx.core).bank s.ctx.bank).launch.toNat 0x02 (trapDetail code (sourceOf s.ctx.core s.ctx.bank))) ∧
      u.core s.ctx.core = (s.core s.ctx.core).modBank s.ctx.bank (fun _ => trapBank s code sr) ∧ u.clk s.ctx.core = s.clk s.ctx.core := by
    refine ⟨_, rfl, ?_, by simp [State.clk, emitCore, emit_clusters, emit_now]⟩
    refine (State.core_eq_of_cores (emit_cores _ _ _ _) s.ctx.core).trans ?_
    simp only [State.modBank, State.core_modCore, Core.modBank, trapBank, State.bank, Core.bank]
    cases s.ctx.bank <;> rfl
  have hh : (u.core s.ctx.core).trapHalts = (s.core s.ctx.core).trapHalts := by rw [huc, Core.trapHalts, Core.dbg_modBank, Core.trapHalts]
  rw [hu, hh]
  split
  · rw [State.core_modCore, huc, hclk]
  · exact huc

@[simp] theorem Core.running_modBank (x : Core) (b : Bool) (f : Bank → Bank) : (x.modBank b f).running = x.running := by cases b <;> rfl

/-- Settles O19. -/
theorem trapEntry : Obligations.TrapEntry := by
  refine ⟨fun s code sr user => ⟨trapped_takeTrapWith s code sr user, fun h => ?_, fun h => ?_⟩, fun s g => ⟨_, rfl, ?_⟩⟩
  · have hcore := takeTrapWith_core s code sr user
    rw [if_neg (by simpa [Core.trapHalts] using h)] at hcore
    refine ⟨?_, by rw [hcore, Core.dbg_modBank]⟩
    rcases (takeTrapWith_spec s code sr user).1 with ⟨-, -, ha⟩ | ⟨-, hh, -⟩
    · exact ha
    · rw [Core.trapHalts, h] at hh
      cases hh
  · have hcore := takeTrapWith_core s code sr user
    rw [if_pos (show (s.core s.ctx.core).trapHalts = true from h)] at hcore
    rcases (takeTrapWith_spec s code sr user).1 with ⟨-, hh, -⟩ | ⟨-, -, ha, -⟩
    · rw [Core.trapHalts, h] at hh
      cases hh
    · refine ⟨ha, ?_, ?_, ?_, ?_⟩
      · rw [hcore]; rfl
      · rw [hcore]; rfl
      · rw [hcore]; rfl
      · rw [hcore, Core.haltAtTrap, Core.running_modBank]
  · have hb : (takePageWait s g).bank = { s.bank with
        cause := 0x19, iaddr := BitVec.ofNat 32 s.ctx.addr, sr := stopSlot s, status := .pageWait g
        pc := BitVec.ofNat 32 s.ctx.addr, blockedSince := some (s.bank.cyc (s.clk s.ctx.core)) } := State.bank_modBank s _
    refine ⟨by rw [hb], by rw [hb], by rw [hb], by rw [hb], by rw [hb], rfl, rfl, SameMemory.refl s, ?_⟩
    exact (onlyBank_modBank s _).2.2.1

/-- Settles O18. -/
theorem systemTraps : Obligations.SystemTraps := by
  refine ⟨fun f s hg => ⟨⟨_, show execTrap f s = _ from guarded_of_true _ hg, trapped_takeTrapWith s _ _ _⟩, fun g h1 hk hb =>
    ⟨_, show execGbar f s = _ from guarded_of_true _ hg, ?_⟩⟩, fun f s hg => ⟨fun hr => ?_, fun r hr =>
    ⟨fun h => ⟨_, show execRrel f s = _ from guarded_of_true _ hg, ?_⟩, fun h => ⟨_, show execRfill f s = _ from guarded_of_true _ hg, ?_⟩⟩⟩⟩
  · dsimp only
    rw [if_pos (by simp [h1, hk, hb])]
    exact trapped_takeTrap s _
  · have ht : ∀ act, Trapped s (onRing f s act) causeRingRange (stopSlot s) := fun act => by
      rw [onRing_of_none act hr]
      exact trapped_takeTrap s _
    simp only [List.forall_mem_cons]
    exact ⟨⟨_, show execRpop f s = _ from guarded_of_true _ hg, ht _⟩, ⟨_, show execRtry f s = _ from guarded_of_true _ hg, ht _⟩,
      ⟨_, show execRrel f s = _ from guarded_of_true _ hg, ht _⟩, ⟨_, show execRclaim f s = _ from guarded_of_true _ hg, ht _⟩,
      ⟨_, show execRfill f s = _ from guarded_of_true _ hg, ht _⟩, ⟨_, show execRstat f s = _ from guarded_of_true _ hg, ht _⟩,
      fun _ h => absurd h List.not_mem_nil⟩
  · rw [onRing_of_ring _ hr, if_neg (by simp [h])]
    exact trapped_takeTrap s _
  · rw [onRing_of_ring _ hr, if_neg (by simp [h])]
    exact trapped_takeTrap s _

/-! ### Control registers -/

/-- A mailbox. -/
theorem readCtl_mailbox (s : State) (i : Fin 16) : readCtl s (0x010 + i.val) = s.bank.mbx.get i := by
  have h : readCtl s (0x010 + i.val) = s.bank.mbx.toList.getD i.val 0 := by
    revert i
    simp only [Fin.forall_fin_succ]
    simp [readCtl]
  rw [h]
  simp [List.getD_eq_getElem?_getD, Vector.get]

/-- The three registers of a loop level. -/
theorem readCtl_loop (s : State) (l : Fin 4) : readCtl s (0x020 + l.val) = (s.bank.loop (BitVec.ofFin l)).lc ∧
    readCtl s (0x024 + l.val) = (s.bank.loop (BitVec.ofFin l)).lstart ∧ readCtl s (0x028 + l.val) = (s.bank.loop (BitVec.ofFin l)).lend := by
  fin_cases l <;> exact ⟨rfl, rfl, rfl⟩

/-- A register of a ring. -/
theorem readCtl_ring (s : State) (j : Nat) (hj : j < 64) : readCtl s (0x040 + j) = ringReg s j := by
  simp (disch := omega) only [readCtl, Bool.and_eq_true, decide_eq_true_eq, if_neg, if_pos, Nat.add_sub_cancel_left]

theorem ringReg_of_none {s : State} {k j : Nat} (hj : j < 4) (h : s.bank.ring k = none) : ringReg s (4 * k + j) = 0 := by
  rw [ringReg, show (4 * k + j) / 4 = k by omega, h]

theorem ringReg_of_ring {s : State} {k j : Nat} {r : Ring} (hj : j < 4) (h : s.bank.ring k = some r) : ringReg s (4 * k + j) =
    if j = 0 then BitVec.ofNat 32 r.base
    else if j = 1 then BitVec.ofNat 32 ((if msrc s s.ctx.core s.ctx.bank k then 256 else 0) + r.lsize * 16 + r.lslots)
    else if j = 2 then BitVec.ofNat 32 (r.rel * 2 ^ 16 + r.fillPos * 2 ^ 8 + r.popPos)
    else r.counts := by
  rw [ringReg, show (4 * k + j) / 4 = k by omega, show (4 * k + j) % 4 = j by omega, h]

theorem Bank.wrS_with_timeh (b : Bank) (t : Option Word) (d : BitVec 5) (v : Word) :
    ({ b with timeh := t } : Bank).wrS d v = { b.wrS d v with timeh := t } := by
  unfold Bank.wrS
  split <;> rfl

/-- MFC of a register that holds no poison. -/
theorem execMfc_eq {f : SYForm} {s : State} (hg : guardTrue f.g s.bank = true) (hp : f.imm.toNat ∉ s.bank.psn) :
    execMfc f s = .next ((readCtlEffect s f.imm.toNat).modBank fun b => b.wrS f.d (readCtl s f.imm.toNat)) := by
  rw [execMfc, guarded_of_true _ hg, if_neg (by simpa using hp)]

theorem execMtc_eq {f : SYForm} {s : State} {v : Word} (hg : guardTrue f.g s.bank = true) (hv : s.bank.rdS f.a = v) :
    execMtc f s = .next (writeCtl s f.imm.toNat v) := by
  rw [execMtc, guarded_of_true _ hg, hv]

/-- A read of TIMEL or TIMEH. -/
theorem modBank_timeh_wrS (s : State) (t : Option Word) (d : BitVec 5) (v : Word) :
    OnlyBank s ((s.modBank fun b => { b with timeh := t }).modBank fun b => b.wrS d v) ∧
      ((s.modBank fun b => { b with timeh := t }).modBank fun b => b.wrS d v).bank = { s.bank.wrS d v with timeh := t } := by
  rw [State.modBank_modBank]
  exact ⟨onlyBank_modBank s _, (State.bank_modBank s _).trans (Bank.wrS_with_timeh _ _ _ _)⟩

theorem setMailbox_eq (i : Fin 16) : (BitVec.ofNat 4 (0x010 + i.val)).toFin = i := by
  revert i
  decide

theorem writeCtl_mailbox (s : State) (i : Fin 16) (v : Word) : writeCtl s (0x010 + i.val) v =
    s.modBank fun b => { b with mbx := b.mbx.set i.val v, psn := sdel b.psn (0x010 + i.val) } := by
  have hi := i.isLt
  simp (disch := omega) only [writeCtl, Bool.and_eq_true, decide_eq_true_eq, if_neg, if_pos, setMailbox_eq]
  rfl

theorem writeCtl_rnd (s : State) (v : Word) : OnlyBank s (writeCtl s 0x006 v) ∧ (writeCtl s 0x006 v).bank =
    if v.toNat % 8 ≤ 4 then { s.bank with rnd := BitVec.ofNat 3 v.toNat, psn := sdel s.bank.psn 0x006 } else s.bank := by
  have hx : v.extractLsb' 0 3 = BitVec.ofNat 3 v.toNat := BitVec.eq_of_toNat_eq (by simp [BitVec.extractLsb'_toNat])
  have hn : (BitVec.ofNat 3 v.toNat).toNat = v.toNat % 8 := BitVec.toNat_ofNat _ _
  rw [writeCtl, if_pos rfl, hx, hn]
  split
  · exact ⟨onlyBank_modBank s _, State.bank_modBank s _⟩
  · exact ⟨onlyBank_refl s, rfl⟩

/-- A write that a register ignores. -/
theorem writeCtl_of_ignored (s : State) {i : Nat} (v : Word) (h6 : i ≠ 0x006) (h7 : i ≠ 0x007) (hd : i = 0x00D → 1023 < v.toNat)
    (hr : i < 0x010 ∨ 0x01F < i) : writeCtl s i v = s := by
  have hm : ¬((decide (0x010 ≤ i) && decide (i ≤ 0x01F)) = true) := by
    simp only [Bool.and_eq_true, decide_eq_true_eq]
    omega
  rw [writeCtl, if_neg h6, if_neg h7, if_neg hm]
  split
  · next e => exact if_neg (by have := hd e; omega)
  · rfl

/-- The values of the listed registers. -/
theorem readCtl_listed (s : State) :
    ∀ e ∈ ([(0x000, tsw (s.core s.ctx.core) s.ctx.bank), (0x001, s.bank.taskid), (0x002, s.bank.gangRank), (0x003, s.bank.gangSize),
         (0x004, s.bank.launch), (0x005, s.bank.gen), (0x006, s.bank.rnd.setWidth 32), (0x007, s.bank.flags.setWidth 32),
         (0x008, BitVec.ofNat 32 (s.bank.cyc (s.clk s.ctx.core))), (0x009, BitVec.ofNat 32 (s.bank.budget - s.bank.cyc (s.clk s.ctx.core))),
         (0x00C, refwin s (fieldOf s.ctx.core)), (0x00D, (s.cluster (s.ctx.core / 4)).mholdc.setWidth 32), (0x00E, s.bank.iaddr)] :
         List (Nat × Word)), readCtl s e.1 = e.2 := by
  simp only [List.forall_mem_cons]
  exact ⟨rfl, rfl, rfl, rfl, rfl, rfl, rfl, rfl, rfl, rfl, rfl, rfl, rfl, fun _ h => absurd h List.not_mem_nil⟩

/-- Settles O16. -/
theorem controlRegisterAccesses : Obligations.ControlRegisterAccesses := by
  refine ⟨fun f s hg hp => ⟨_, show execMfc f s = _ from guarded_of_true _ hg, ?_⟩, fun f s hg hp => ⟨fun ha hb => ?_, fun h => ?_, fun h => ?_, ?_⟩,
    fun f s v hg hv => ⟨fun h => ?_, fun h => ?_, fun h hle => ?_, fun i h => ?_, fun h6 h7 hd hr => ?_⟩⟩
  · rw [if_pos (by simpa using hp)]
    exact trapped_takeTrap s _
  · refine ⟨_, execMfc_eq hg hp, ?_⟩
    have ha' : f.imm.toNat ≠ 0x00A := fun e => ha (BitVec.eq_of_toNat_eq e)
    have hb' : f.imm.toNat ≠ 0x00B := fun e => hb (BitVec.eq_of_toNat_eq e)
    rw [readCtlEffect, if_neg ha', if_neg hb']
    exact writesScalar_wrS s f.d fun _ => readCtl s f.imm.toNat
  · refine ⟨_, execMfc_eq hg hp, ?_⟩
    rw [h]
    exact modBank_timeh_wrS s _ f.d (BitVec.ofNat 32 (taiNs s))
  · refine ⟨_, execMfc_eq hg hp, ?_⟩
    rw [h]
    exact modBank_timeh_wrS s none f.d (s.bank.timeh.getD (BitVec.ofNat 32 (taiNs s / 2 ^ 32)))
  · simp only [List.forall_mem_append, List.forall_mem_map, List.forall_mem_flatMap]
    refine ⟨⟨⟨readCtl_listed s, fun i _ => readCtl_mailbox s i⟩, fun l _ => ?_⟩, fun k _ => ?_⟩
    · obtain ⟨h1, h2, h3⟩ := readCtl_loop s l
      simp only [List.forall_mem_cons]
      exact ⟨h1, h2, h3, fun _ h => absurd h List.not_mem_nil⟩
    · have hreg : ∀ j, j < 4 → readCtl s (0x040 + j + 4 * k.val) = ringReg s (4 * k.val + j) := fun j hj => by
        rw [show 0x040 + j + 4 * k.val = 0x040 + (4 * k.val + j) by omega]
        exact readCtl_ring s _ (by omega)
      split
      · next hr =>
        have hz : ∀ j, j < 4 → readCtl s (0x040 + j + 4 * k.val) = 0 := fun j hj => (hreg j hj).trans (ringReg_of_none hj hr)
        simp only [List.forall_mem_cons]
        exact ⟨hz 0 (by decide), hz 1 (by decide), hz 2 (by decide), hz 3 (by decide), fun _ h => absurd h List.not_mem_nil⟩
      · next r hr =>
        simp only [List.forall_mem_cons]
        exact ⟨(hreg 0 (by decide)).trans (ringReg_of_ring (by decide) hr), (hreg 1 (by decide)).trans (ringReg_of_ring (by decide) hr),
          (hreg 2 (by decide)).trans (ringReg_of_ring (by decide) hr), (hreg 3 (by decide)).trans (ringReg_of_ring (by decide) hr),
          fun _ h => absurd h List.not_mem_nil⟩
  · refine ⟨_, execMtc_eq hg hv, ?_⟩
    rw [h]
    exact writeCtl_rnd s v
  · refine ⟨_, execMtc_eq hg hv, ?_⟩
    rw [h]
    exact ⟨onlyBank_modBank s _, State.bank_modBank s _⟩
  · refine ⟨_, execMtc_eq hg hv, ?_⟩
    rw [h]
    exact if_pos hle
  · refine ⟨_, execMtc_eq hg hv, ?_⟩
    rw [h, writeCtl_mailbox]
    exact ⟨onlyBank_modBank s _, State.bank_modBank s _⟩
  · refine (execMtc_eq hg hv).trans (congrArg Host.Outcome.next (writeCtl_of_ignored s v (fun e => h6 (BitVec.eq_of_toNat_eq e))
      (fun e => h7 (BitVec.eq_of_toNat_eq e)) (fun e => hd (BitVec.eq_of_toNat_eq e)) hr))

end Sys2Proof.Machine
end

section
/-! PROOF. What holds a bundle at issue, and the system instructions: the obligation SystemInstructionsComplete. -/

namespace Sys2Proof.Machine

open Sys2Proof

/-! ### Holds -/

theorem Hold.or_ne_go_left {a : Hold} (b : Hold) (h : a ≠ .go) : a.or b ≠ .go := by
  cases a <;> cases b <;> simp_all [Hold.or]

theorem Hold.or_ne_go_right (a : Hold) {b : Hold} (h : b ≠ .go) : a.or b ≠ .go := by
  cases a <;> cases b <;> simp_all [Hold.or]

theorem Hold.when_of_true {c : Bool} (h : Hold) (hc : c = true) : Hold.when c h = h := by
  rw [Hold.when, if_pos hc]

/-- What holds one slot, or what held before, holds all. -/
theorem foldl_or_ne_go {α : Type} (f : α → Hold) (l : List α) {h : Hold} (hx : h ≠ .go ∨ ∃ x ∈ l, f x ≠ .go) :
    l.foldl (fun h x => h.or (f x)) h ≠ .go := by
  induction l generalizing h with
  | nil => simpa using hx
  | cons y l ih =>
    refine ih ?_
    rcases hx with hh | ⟨x, hx, hf⟩
    · exact .inl (Hold.or_ne_go_left _ hh)
    · rcases List.mem_cons.1 hx with rfl | hx
      · exact .inl (Hold.or_ne_go_right _ hf)
      · exact .inr ⟨x, hx, hf⟩

/-- A slot that is held holds its bundle. -/
theorem bundleHold_of_slot {is : List (Nat × Instr)} {s : State} {x : Nat × Instr} (hx : x ∈ is) (hl : slotLive s.bank x.2 = true)
    (h : ownHold x.2 s ≠ .go) : bundleHold is s ≠ .go :=
  foldl_or_ne_go (fun k : Nat × Instr => slotHold k.2 s) _
    (.inr ⟨x, List.mem_filter.2 ⟨hx, hl⟩, Hold.or_ne_go_left _ h⟩)

/-- C slots without room hold their bundle. -/
theorem bundleHold_of_room {is : List (Nat × Instr)} {s : State}
    (h : copyRoom s (is.filter fun k => slotLive s.bank k.2) (groupedCount s s.ctx.core s.ctx.bank) (slotsInUse s s.ctx.core s.ctx.bank) = false) :
    bundleHold is s ≠ .go := by
  refine foldl_or_ne_go (fun k : Nat × Instr => slotHold k.2 s) _
    (.inl (Hold.or_ne_go_right _ (Hold.or_ne_go_right _ (Hold.or_ne_go_right _ ?_))))
  rw [Hold.when_of_true _ (by rw [h]; rfl)]
  decide

/-- A CGET without a run of response slots. -/
theorem bundleHold_of_cget {s : State} {f : CForm} {k : Nat} (hk : 4 ≤ k) (hg : guardTrue f.g s.bank = true) (h0 : 0 < f.len)
    (hle : f.len ≤ 4096) (hr : freeRun (slotsInUse s s.ctx.core s.ctx.bank) ((f.len + 511) / 512) = none) :
    bundleHold [(k, .cget f)] s ≠ .go := by
  have hl : slotLive s.bank (.cget f) = true := hg
  have hs : Instr.getSlots (.cget f) = (f.len + 511) / 512 := if_pos hle
  refine bundleHold_of_room ?_
  rw [List.filter_cons, if_pos hl, List.filter_nil, copyRoom, if_neg (by omega), hs, if_neg (by omega), hr, Bool.and_false]

/-! ### Fences -/

/-- What the effects within a scope are. -/
theorem mem_effectsWithin {s : State} {n i : Nat} : i ∈ effectsWithin s n ↔
    (∃ o, (o ∈ s.ops ∧ o.2.core = s.ctx.core ∧ o.2.bank = s.ctx.bank ∧ o.2.ofTask = true ∧ o.2.scope ≤ n) ∧ o.1 = i) ∨
    (∃ q, (q ∈ (s.core s.ctx.core).queue ∧ q.bank = s.ctx.bank ∧ (q.kind = .mdrain ∨ q.kind = .mstat) ∧ drainScope s s.ctx.core q ≤ n) ∧
      q.id = i) ∨
    (∃ p, (p ∈ (s.core s.ctx.core).port ∧ p.op.bank = s.ctx.bank ∧ (p.op.kind = .mdrain ∨ p.op.kind = .mstat) ∧
      drainScope s s.ctx.core p.op ≤ n) ∧ p.op.id = i) ∨
    ∃ q, (q ∈ (s.core s.ctx.core).sel ∧ q.bank = s.ctx.bank ∧ q.writes ≠ [] ∧ selScope s.ctx.core q ≤ n) ∧ q.id = i := by
  simp only [effectsWithin, List.mem_append, List.mem_map, List.mem_filter, Bool.and_eq_true, Bool.or_eq_true, decide_eq_true_eq,
    Bool.not_eq_true', List.isEmpty_eq_false_iff, and_assoc, or_assoc, ne_eq]

theorem fenceWaits_iff {s : State} {n : Nat} :
    fenceWaits n s = true ↔ (∃ i, i ∈ effectsWithin s n ∧ ((∃ o, kget s.ops i = some o) ∨
      (∃ p ∈ (s.core s.ctx.core).port, p.op.id = i) ∨ (∃ q ∈ (s.core s.ctx.core).queue, q.id = i) ∨
      ∃ q ∈ (s.core s.ctx.core).sel, q.id = i)) ∨ (n = 4 ∧ crossingOut s s.bank.task none = true) := by
  simp only [fenceWaits, outstanding, drainsOut, Bool.or_eq_true, Bool.and_eq_true, List.any_eq_true, List.contains_iff_mem, decide_eq_true_eq,
    Option.isSome_iff_exists]
  constructor
  · rintro ((⟨i, hi, ho⟩ | (⟨p, hp, hi⟩ | ⟨q, hq, hi⟩) | ⟨q, hq, hi⟩) | h)
    · exact .inl ⟨i, hi, .inl ho⟩
    · exact .inl ⟨_, hi, .inr (.inl ⟨p, hp, rfl⟩)⟩
    · exact .inl ⟨_, hi, .inr (.inr (.inl ⟨q, hq, rfl⟩))⟩
    · exact .inl ⟨_, hi, .inr (.inr (.inr ⟨q, hq, rfl⟩))⟩
    · exact .inr h
  · rintro (⟨i, hi, ho | ⟨p, hp, rfl⟩ | ⟨q, hq, rfl⟩ | ⟨q, hq, rfl⟩⟩ | h)
    · exact .inl (.inl ⟨i, hi, ho⟩)
    · exact .inl (.inr (.inl (.inl ⟨p, hp, hi⟩)))
    · exact .inl (.inr (.inl (.inr ⟨q, hq, hi⟩)))
    · exact .inl (.inr (.inr ⟨q, hq, hi⟩))
    · exact .inr h

/-- What holds a FENCE at a scope. -/
theorem fenceWaits_iff_outstanding (n : Nat) (s : State) : fenceWaits n s = true ↔
      (∃ o, o ∈ s.ops ∧ o.2.core = s.ctx.core ∧ o.2.bank = s.ctx.bank ∧ o.2.ofTask = true ∧ o.2.scope ≤ n) ∨
      (∃ q, q ∈ (s.core s.ctx.core).queue ∧ q.bank = s.ctx.bank ∧ (q.kind = .mdrain ∨ q.kind = .mstat) ∧ drainScope s s.ctx.core q ≤ n) ∨
      (∃ p, p ∈ (s.core s.ctx.core).port ∧ p.op.bank = s.ctx.bank ∧ (p.op.kind = .mdrain ∨ p.op.kind = .mstat) ∧
        drainScope s s.ctx.core p.op ≤ n) ∨
      (∃ q, q ∈ (s.core s.ctx.core).sel ∧ q.bank = s.ctx.bank ∧ q.writes ≠ [] ∧ selScope s.ctx.core q ≤ n) ∨
      (n = 4 ∧ crossingOut s s.bank.task none = true) := by
  rw [fenceWaits_iff]
  constructor
  · rintro (⟨i, hi, -⟩ | h)
    · rcases mem_effectsWithin.1 hi with ⟨o, ho, -⟩ | ⟨q, hq, -⟩ | ⟨p, hp, -⟩ | ⟨q, hq, -⟩
      · exact .inl ⟨o, ho⟩
      · exact .inr (.inl ⟨q, hq⟩)
      · exact .inr (.inr (.inl ⟨p, hp⟩))
      · exact .inr (.inr (.inr (.inl ⟨q, hq⟩)))
    · exact .inr (.inr (.inr (.inr h)))
  · rintro (⟨o, ho⟩ | ⟨q, hq⟩ | ⟨p, hp⟩ | ⟨q, hq⟩ | h)
    · exact .inl ⟨o.1, mem_effectsWithin.2 (.inl ⟨o, ho, rfl⟩), .inl (kget_of_mem ho.1)⟩
    · exact .inl ⟨q.id, mem_effectsWithin.2 (.inr (.inl ⟨q, hq, rfl⟩)), .inr (.inr (.inl ⟨q, hq.1, rfl⟩))⟩
    · exact .inl ⟨p.op.id, mem_effectsWithin.2 (.inr (.inr (.inl ⟨p, hp, rfl⟩))), .inr (.inl ⟨p, hp.1, rfl⟩)⟩
    · exact .inl ⟨q.id, mem_effectsWithin.2 (.inr (.inr (.inr ⟨q, hq, rfl⟩))), .inr (.inr (.inr ⟨q, hq.1, rfl⟩))⟩
    · exact .inr h

theorem scope_eq (o : COp) : o.scope = match o.kind with
    | .load => if o.loc / 2 ^ 64 = (Space.spad o.core).index then 0 else 1
    | .ring => 0
    | .publish => 2
    | .store => 3
    | .atomic => 3
    | _ => 5 := by
  unfold COp.scope
  cases o.kind <;> rfl

/-- A publication across a cut edge that is on its way. -/
theorem crossingOut_of_agenda {s : State} {n : Nat} {p : Packet} {g : Option Nat} (ho : p.org = .task n g) (h2 : p.kind ≠ 2) (h3 : p.kind ≠ 3)
    (hc : cutPeers s p ≠ []) : (Event.publicationAtHome p ∈ s.agenda ∨ Event.rowAtHome p ∈ s.agenda → crossingOut s n none = true) ∧
      ∀ w, Event.cutEdgeCrossing w p false ∈ s.agenda → crossingOut s n none = true := by
  have hmine : (Packet.isOf p n none && !(decide (p.kind = 2) || decide (p.kind = 3))) = true := by simp [Packet.isOf, ho, h2, h3]
  have hcut : cutEdgeOf s p = true := by simpa [cutEdgeOf] using hc
  refine ⟨fun h => ?_, fun w h => ?_⟩
  · refine Bool.or_eq_true_iff.2 (.inl (List.any_eq_true.2 ?_))
    rcases h with h | h
    · exact ⟨_, h, Bool.and_eq_true_iff.2 ⟨hmine, hcut⟩⟩
    · exact ⟨_, h, Bool.and_eq_true_iff.2 ⟨hmine, hcut⟩⟩
  · exact Bool.or_eq_true_iff.2 (.inl (List.any_eq_true.2 ⟨_, h, Bool.and_eq_true_iff.2 ⟨hmine, rfl⟩⟩))

/-! ### Issue -/

theorem issuing_ne_of_hold {s : State} {c : Nat} {b : Bool} (h : issueHold c b s ≠ .go) : issuing s c ≠ some b := by
  intro hi
  unfold issuing at hi
  dsimp only at hi
  split at hi
  · next d _ =>
    split at hi
    · next hc =>
      cases hi
      simp [h] at hc
    · cases hi
  · cases hi

theorem heldWaite_spec {s : State} {c : Nat} {b : Bool} {f : SYForm} (h : heldWaite s c b = some f) :
    f.a ≠ 0 ∧ guardTrue f.g ((s.core c).bank b) = true ∧ ((s.core c).bank b).events.getLsbD f.imm.toNat = false := by
  unfold heldWaite at h
  dsimp only at h
  split at h
  · cases h
  · split at h
    · obtain ⟨⟨k, i⟩, -, hi⟩ := List.exists_of_findSome?_eq_some h
      dsimp only at hi
      split at hi
      · split at hi
        · next hc =>
          cases hi
          simp only [Bool.and_eq_true, decide_eq_true_eq, Bool.not_eq_true', ne_eq] at hc
          exact ⟨hc.1.2, hc.1.1, hc.2⟩
        · cases hi
      · cases hi
    · cases h

theorem waiteOver_iff {s : State} {c : Nat} {b : Bool} {f : SYForm} {u : Nat} (h : heldWaite s c b = some f)
    (hu : ((s.core c).bank b).blockedSince = some u) :
    waiteOver s c b = true ↔ u + (((s.core c).bank b).rdS f.a).toNat ≤ ((s.core c).bank b).cyc (s.clk c) := by
  simp [waiteOver, h, heldFor, hu]

theorem bankEnds_spec {s : State} {c : Nat} {b : Bool} (h : bankEnds s c b = true) : ((s.core c).bank b).status = .ending ∧
    matrixBusy s c b (fun _ => true) = false ∧ ∀ o ∈ s.ops, o.2.core = c → o.2.bank = b → o.2.ofTask = false := by
  simp only [bankEnds, Bool.and_eq_true, decide_eq_true_eq, Bool.not_eq_true'] at h
  obtain ⟨⟨⟨⟨⟨hst, -⟩, hm⟩, hc⟩, -⟩, -⟩ := h
  refine ⟨hst, hm, fun o ho hoc hob => ?_⟩
  have := List.any_eq_false.1 hc o ho
  simpa [hoc, hob] using this

/-! ### BKPT -/

/-- The halted core keeps SR of its banks. -/
theorem haltCore_sr (c : Nat) (why : HaltReason) (s : State) (b : Bool) : (((haltCore c why s).core c).bank b).sr = ((s.core c).bank b).sr := by
  unfold haltCore
  rw [State.core_modCore]
  dsimp only
  rw [Core.bank_dbg]
  split
  · next d _ =>
    by_cases hd : b = d
    · rw [hd, Core.bank_modBank]
      rfl
    · rw [Core.bank_modBank_ne _ _ _ hd]
  · rfl

theorem haltCore_dbg (c : Nat) (why : HaltReason) (s : State) :
    ((haltCore c why s).core c).dbg.halted = true ∧ ((haltCore c why s).core c).dbg.reason = why := by
  unfold haltCore
  rw [State.core_modCore]
  exact ⟨rfl, rfl⟩

theorem State.bank_modCore (s : State) (f : Core → Core) : (s.modCore s.ctx.core f).bank = (f (s.core s.ctx.core)).bank s.ctx.bank := by
  rw [State.bank, State.modCore_ctx, State.core_modCore]

/-- The core that halts at a BKPT before slot `k`. -/
def bkptCore (s : State) (tag : BitVec 10) (k : Nat) (c : Core) : Core :=
  { c.modBank s.ctx.bank (fun b => { b.stopClock (s.clk s.ctx.core) with
      iaddr := BitVec.ofNat 32 s.ctx.addr, sr := k, pc := BitVec.ofNat 32 s.ctx.addr }) with
    dbg := { c.dbg with
      halted := true, stepping := false, retired := false, stepOps := [], reason := .bkpt, tcause := 0, tag := tag, hbank := s.ctx.bank } }

/-- The core that will halt when its bundle is complete. -/
def taggedCore (tag : BitVec 10) (c : Core) : Core := { c with dbg := { c.dbg with tag := tag } }

theorem haltAtBkpt_of_later {s : State} {k : Nat} {r : List Nat} (tag : BitVec 10) (h : s.ctx.later = k :: r) :
    haltAtBkpt tag s = { s.modCore s.ctx.core (bkptCore s tag k) with ctx := { s.ctx with stopped := true } } := by
  rw [haltAtBkpt, h]
  rfl

theorem haltAtBkpt_of_last {s : State} (tag : BitVec 10) (h : s.ctx.later = []) :
    haltAtBkpt tag s = { s.modCore s.ctx.core (taggedCore tag) with ctx := { s.ctx with bkpt := true } } := by
  rw [haltAtBkpt, h]
  rfl

/-- A complete bundle with a BKPT that halts. -/
theorem completeBundle_of_bkpt {t : State} (x : Bundle) (h : t.ctx.bkpt = true) : ((completeBundle x t).core t.ctx.core).dbg.halted = true ∧
    ((completeBundle x t).core t.ctx.core).dbg.reason = .bkpt ∧ (completeBundle x t).bank.sr = 0 := by
  have he : completeBundle x t =
      haltCore t.ctx.core .bkpt (t.modBank (completeBank t.ctx.addr t.ctx.fall x.stop (x.slots.map fun k => k.2))) := if_pos h
  obtain ⟨h1, h2⟩ := haltCore_dbg t.ctx.core .bkpt (t.modBank (completeBank t.ctx.addr t.ctx.fall x.stop (x.slots.map fun k => k.2)))
  rw [he]
  refine ⟨h1, h2, ?_⟩
  show (((haltCore t.ctx.core .bkpt _).core t.ctx.core).bank t.ctx.bank).sr = 0
  rw [haltCore_sr]
  show (State.bank (t.modBank _)).sr = 0
  rw [State.bank_modBank]
  rfl

/-- What BKPT does under a debugger. -/
theorem bkpt_halts {f : SYForm} {s : State} (hg : guardTrue f.g s.bank = true) (hd : (s.core s.ctx.core).dbg.den = true)
    (hb : (s.core s.ctx.core).dbg.brken = true) : exec (.bkpt f) s = .next (haltAtBkpt f.imm s) :=
  (show execBkpt f s = _ from guarded_of_true _ hg).trans (congrArg Host.Outcome.next (if_pos (by simp [hd, hb])))

/-! ### The other system instructions -/

theorem getLsbD_clearEvent (b : Bank) (e j : Nat) (hj : j < 16) :
    (clearEvent b e).events.getLsbD j = (b.events.getLsbD j && !decide (j = e)) := by
  rw [clearEvent, BitVec.getLsbD_and, BitVec.getLsbD_not, BitVec.getLsbD_shiftLeft]
  by_cases he : j < e
  · have : j ≠ e := by omega
    simp [hj, he, this]
  · by_cases hje : j = e
    · simp [hje]
    · have : j - e ≠ 0 := by omega
      simp [hj, he, hje, BitVec.getLsbD_one, this]

/-- WAITE clears its event, unless its limit has expired. -/
theorem waite_bank (s : State) (e : Nat) :
    let t := s.modBank fun b => { (if b.waitOver then b else clearEvent b e) with waitOver := false }
    t.bank = { s.bank with events := t.bank.events, waitOver := false } ∧
      ∀ j, j < 16 → t.bank.events.getLsbD j = (s.bank.events.getLsbD j && (s.bank.waitOver || !decide (j = e))) := by
  dsimp only
  rw [State.bank_modBank]
  cases h : s.bank.waitOver with
  | true => exact ⟨rfl, fun j _ => by simp⟩
  | false => exact ⟨rfl, fun j hj => by simpa using getLsbD_clearEvent s.bank e j hj⟩

theorem gbar_passes {f : SYForm} {s : State} (hg : guardTrue f.g s.bank = true)
    (h : s.bank.gangSize.toNat ≤ 1 ∨ ∀ g, kget s.gangs s.bank.gangId = some g → g.broken (s.bank.gbars + 1) = false) :
    exec (.gbar f) s = .next (s.modBank fun b => { b with gbars := s.bank.gbars + 1 }) := by
  refine (show execGbar f s = _ from guarded_of_true _ hg).trans (congrArg Host.Outcome.next (if_neg ?_))
  rw [Bool.and_eq_true, decide_eq_true_eq]
  rintro ⟨h1, h2⟩
  rcases h with h | h
  · omega
  · split at h2
    · next g hk => simp [h g hk] at h2
    · cases h2

/-- A gang of which a member has not reached the barrier, and may still. -/
theorem gbarOpen_of_behind {s : State} {g : Gang} (hk : kget s.gangs s.bank.gangId = some g) (hb : g.broken (s.bank.gbars + 1) = false)
    {k : Nat} (hl : k < g.cores.length) (hr : g.reach k < s.bank.gbars + 1) : gbarOpen s = false := by
  rw [gbarOpen, hk]
  dsimp only
  rw [hb, Bool.false_or]
  refine List.all_eq_false.2 ⟨k, List.mem_range.2 hl, ?_⟩
  simp only [decide_eq_true_eq]
  omega

/-- The holds of the instructions that wait. -/
theorem ownHold_block_of_sy {s : State} (f : SYForm) :
      (fenceWaits f.imm.toNat s = true → ownHold (.fence f) s = .block) ∧
      (s.bank.events.getLsbD f.imm.toNat = false → s.bank.waitOver = false → ownHold (.waite f) s = .block) ∧
      (fenceWaits 1 s = true ∨ (1 < s.bank.gangSize.toNat ∧ ∃ g, kget s.gangs s.bank.gangId = some g ∧
          g.broken (s.bank.gbars + 1) = false ∧ ∃ k, k < g.cores.length ∧ g.reach k < s.bank.gbars + 1) → ownHold (.gbar f) s = .block) ∧
      ∀ r, s.bank.ring f.imm.toNat = some r →
        (r.canRead .task = false → ownHold (.rpop f) s = .block) ∧ (r.canTake .task = false → ownHold (.rclaim f) s = .block) := by
  refine ⟨fun h => Hold.when_of_true _ h, fun he hw => Hold.when_of_true _ (by simp [he, hw]), fun h => Hold.when_of_true _ ?_,
    fun r hr => ⟨fun h => Hold.when_of_true _ ?_, fun h => Hold.when_of_true _ ?_⟩⟩
  · rcases h with h | ⟨h1, g, hk, hb, k, hl, hr⟩
    · simp [h]
    · simp [h1, gbarOpen_of_behind hk hb hl hr]
  · simp [ringWaits, hr, h]
  · simp [ringWaits, hr, h]

theorem wordsWait_of_empty {ws : List Nat} {e : Bool} {s : State} {w : Nat} (hw : w ∈ ws) (hf : isFull s w = false) : wordsWait ws e s = true :=
  List.any_eq_true.2 ⟨w, hw, by simp [hf]⟩

theorem mem_ldsWords {f : LDSForm} {s : State} {w : Nat} (ha : ldsAddr f s.bank % 4 = 0)
    (hk : localKey s s.ctx.core s.bank (ldsAddr f s.bank) = some w) : w ∈ ldsWords f s := by
  rw [ldsWords, checkAddr, if_neg (by simpa using ha), hk]
  exact List.mem_singleton.2 rfl

/-- Settles O17. -/
theorem systemInstructionsComplete : Obligations.SystemInstructionsComplete := by
  refine ⟨fun is s k i hi hl h => bundleHold_of_slot hi hl h,
    fun s => ⟨ownHold_block_of_sy, fun f w ha hk hf => Hold.when_of_true _ (wordsWait_of_empty (mem_ldsWords ha hk) hf),
      fun f w hw hf => Hold.when_of_true _ (wordsWait_of_empty hw hf), fun f h => Hold.when_of_true _ (by simpa using h),
      fun f h => Hold.when_of_true _ h, fun f k hk hg h0 hle hr => bundleHold_of_cget hk hg h0 hle hr⟩,
    fun n s => by simpa only [and_assoc] using fenceWaits_iff_outstanding n s, scope_eq,
    fun s n p g ho h2 h3 hc => crossingOut_of_agenda ho h2 h3 hc, fun s c b h => issuing_ne_of_hold h,
    fun s c b f u h hu => ?_, fun f s h => ?_, fun s c b h => bankEnds_spec h, fun f s hg hd hb => ⟨_, bkpt_halts hg hd hb, ?_⟩, fun f s hg => ?_⟩
  · obtain ⟨ha, hg, he⟩ := heldWaite_spec h
    exact ⟨ha, hg, he, waiteOver_iff h hu⟩
  · simp [ownHold, h, Hold.when]
  · cases hl : s.ctx.later with
    | nil =>
      obtain ⟨t, ht⟩ : ∃ t, t = haltAtBkpt f.imm s := ⟨_, rfl⟩
      have hcore : t.core s.ctx.core = taggedCore f.imm (s.core s.ctx.core) := by
        rw [ht, haltAtBkpt_of_last f.imm hl]
        exact State.core_modCore s _ _
      have hx : t.ctx = { s.ctx with bkpt := true } := by rw [ht, haltAtBkpt_of_last f.imm hl]
      have hm : SameMemory s t := by
        rw [ht, haltAtBkpt_of_last f.imm hl]
        exact SameMemory.refl s
      have hbk : t.bank = s.bank := by
        rw [State.bank, hx, hcore]
        rfl
      rw [← ht]
      refine ⟨hm, by rw [hbk], by rw [hbk], by rw [hbk], by rw [hcore]; rfl, fun _ _ h => (by cases h), fun _ => ⟨hx, fun x => ?_⟩⟩
      have hc := completeBundle_of_bkpt x (t := t) (by rw [hx])
      rwa [show t.ctx.core = s.ctx.core by rw [hx]] at hc
    | cons k r =>
      obtain ⟨t, ht⟩ : ∃ t, t = haltAtBkpt f.imm s := ⟨_, rfl⟩
      have hcore : t.core s.ctx.core = bkptCore s f.imm k (s.core s.ctx.core) := by
        rw [ht, haltAtBkpt_of_later f.imm hl]
        exact State.core_modCore s _ _
      have hx : t.ctx = { s.ctx with stopped := true } := by rw [ht, haltAtBkpt_of_later f.imm hl]
      have hm : SameMemory s t := by
        rw [ht, haltAtBkpt_of_later f.imm hl]
        exact SameMemory.refl s
      have hbk : t.bank = { s.bank.stopClock (s.clk s.ctx.core) with
          iaddr := BitVec.ofNat 32 s.ctx.addr, sr := k, pc := BitVec.ofNat 32 s.ctx.addr } := by
        rw [State.bank, hx, hcore, bkptCore, Core.bank_dbg, Core.bank_modBank]
        rfl
      rw [← ht]
      refine ⟨hm, by rw [hbk]; rfl, by rw [hbk]; rfl, by rw [hbk]; rfl, by rw [hcore]; rfl, fun k' r' h => ?_, fun h => (by cases h)⟩
      obtain ⟨rfl, rfl⟩ := List.cons.inj h
      exact ⟨by rw [hx], by rw [hbk], by rw [hbk], by rw [hcore]; rfl, by rw [hcore]; rfl⟩
  · refine ⟨show execFence f s = _ from guarded_of_true id hg,
      ⟨_, show execTend f s = _ from guarded_of_true _ hg, onlyBank_modBank s _, State.bank_modBank s _⟩,
      ⟨_, show execWaite f s = _ from guarded_of_true _ hg, onlyBank_modBank s _, waite_bank s f.imm.toNat⟩,
      ⟨_, show execSpause f s = _ from guarded_of_true _ hg, onlyBank_modBank s _, State.bank_modBank s _⟩, fun h => ?_,
      fun h => ⟨_, gbar_passes hg h, onlyBank_modBank s _, State.bank_modBank s _⟩, fun hc hq => ?_, fun hc => ?_⟩
    · refine (show execBkpt f s = _ from guarded_of_true _ hg).trans (congrArg Host.Outcome.next (if_neg ?_))
      rcases h with h | h <;> simp [h]
    · refine ⟨_, (show execTrace f s = _ from guarded_of_true _ hg).trans (congrArg Host.Outcome.next (if_pos hc)), rfl,
        (State.bank_modCore s _).trans ?_, ?_⟩
      · rw [if_pos hq]
        rfl
      · rw [State.core_modCore, if_pos hq]
        rfl
    · exact (show execTrace f s = _ from guarded_of_true _ hg).trans (congrArg Host.Outcome.next (if_neg (by rw [hc]; decide)))

end Sys2Proof.Machine
end

section
/-! PROOF. The lane-wise vector instructions: the obligations FloatLaneResults, IntegerLaneResults, SaturatingLanes, MaskResults,
ConversionResults and PermuteResults. -/

namespace Sys2Proof.Machine

open Sys2Proof

/-! ### Lanes -/

/-- Written lanes are told by their values modulo the lane width. -/
theorem WritesLanes.congr {s t : State} {d : BitVec 5} {w : Nat} {mask : MWord} {r r' : Nat → Nat} {fl : Fl} (h : WritesLanes s t d w mask r fl)
    (e : ∀ i, r i % 2 ^ w = r' i % 2 ^ w) : WritesLanes s t d w mask r' fl :=
  ⟨h.1, fun i hi => by rw [h.2 i hi, e i]⟩

theorem floatBody_completes {f : VRForm} {s : State} (h : guardTrue f.g s.bank = true) (t : FFmt) (op : RMode → Nat → Nat → Nat → Nat × Fl) :
    ∃ u, guarded f.g s (floatBody f t op) = .next u ∧ WritesLanes s u f.d t.bits (s.bank.rdM f.msk)
      (fun i => (op (effMode f.rm s.bank.issueRnd) (lane (s.bank.rdV f.a) i t.bits) (lane (s.bank.rdV f.b) i t.bits)
        (lane (s.bank.rdV f.d) i t.bits)).1)
      (laneFlags t.bits (1024 / t.bits) (s.bank.rdM f.msk) fun i => (op (effMode f.rm s.bank.issueRnd) (lane (s.bank.rdV f.a) i t.bits)
        (lane (s.bank.rdV f.b) i t.bits) (lane (s.bank.rdV f.d) i t.bits)).2) :=
  exists_guarded h (writesLanes s f.d t.bits (fun b => b.rdM f.msk)
    (fun b i => (op (effMode f.rm b.issueRnd) (lane (b.rdV f.a) i t.bits) (lane (b.rdV f.b) i t.bits) (lane (b.rdV f.d) i t.bits)).1)
    fun b => laneFlags t.bits (1024 / t.bits) (b.rdM f.msk) fun i =>
      (op (effMode f.rm b.issueRnd) (lane (b.rdV f.a) i t.bits) (lane (b.rdV f.b) i t.bits) (lane (b.rdV f.d) i t.bits)).2)

/-- A lane-wise instruction completes with the lanes of its operation, or of one with the same values modulo the lane width. -/
theorem laneBody_completes {f : VRForm} {s : State} (h : guardTrue f.g s.bank = true) {w : Nat} {op op' : Nat → Nat → Nat → Nat}
    (hop : ∀ a b d, op a b d % 2 ^ w = op' a b d % 2 ^ w) :
    ∃ t, guarded f.g s (laneBody f w op) = .next t ∧ WritesLanes s t f.d w (s.bank.rdM f.msk)
      (fun i => op' (lane (s.bank.rdV f.a) i w) (lane (s.bank.rdV f.b) i w) (lane (s.bank.rdV f.d) i w)) Fl.none :=
  exists_guarded h ((writesLanes_noFlags s f.d w (fun b => b.rdM f.msk)
    fun b i => op (lane (b.rdV f.a) i w) (lane (b.rdV f.b) i w) (lane (b.rdV f.d) i w)).congr fun _ => hop _ _ _)

theorem convBody_completes {f : VRForm} {s : State} (h : guardTrue f.g s.bank = true) (n wd : Nat) (op : Bank → Nat → Nat × Fl) :
    ∃ t, guarded f.g s (convBody f n wd op) = .next t ∧ WritesLanes s t f.d wd (s.bank.rdM f.msk)
      (fun i => if i < n then (op s.bank i).1 else lane (s.bank.rdV f.d) i wd)
      (laneFlags wd n (s.bank.rdM f.msk) fun i => (op s.bank i).2) :=
  exists_guarded h (writesLanes s f.d wd (fun b => b.rdM f.msk)
    (fun b i => if i < n then (op b i).1 else lane (b.rdV f.d) i wd) fun b => laneFlags wd n (b.rdM f.msk) fun i => (op b i).2)

theorem permBody_completes {f : VRForm} {s : State} (h : guardTrue f.g s.bank = true) {w : Nat} {src : Bank → Nat → Nat} {r : Nat → Nat}
    (hr : ∀ i, src s.bank i % 2 ^ w = r i % 2 ^ w) :
    ∃ t, guarded f.g s (permBody f w src) = .next t ∧ WritesLanes s t f.d w (s.bank.rdM f.msk) r Fl.none :=
  exists_guarded h ((writesLanes_noFlags s f.d w (fun b => b.rdM f.msk) src).congr hr)

/-! ### Float lanes -/

/-- Settles O20: every row is `floatBody` of its operation. -/
theorem floatLaneResults : Obligations.FloatLaneResults := by
  unfold Obligations.FloatLaneResults
  simp only [List.forall_mem_cons]
  exact ⟨fun _ _ h => floatBody_completes h _ _, fun _ _ h => floatBody_completes h _ _, fun _ _ h => floatBody_completes h _ _,
    fun _ _ h => floatBody_completes h _ _, fun _ _ h => floatBody_completes h _ _, fun _ _ h => floatBody_completes h _ _,
    fun _ _ h => floatBody_completes h _ _, fun _ _ h => floatBody_completes h _ _, fun _ _ h => floatBody_completes h _ _,
    fun _ _ h => floatBody_completes h _ _, fun _ _ h => floatBody_completes h _ _, fun _ _ h => floatBody_completes h _ _,
    fun _ _ h => floatBody_completes h _ _, fun _ _ h => floatBody_completes h _ _, fun _ _ h => floatBody_completes h _ _,
    fun _ _ h => floatBody_completes h _ _, fun _ _ h => floatBody_completes h _ _, fun _ _ h => floatBody_completes h _ _,
    fun _ _ h => floatBody_completes h _ _, fun _ _ h => floatBody_completes h _ _, fun _ _ h => floatBody_completes h _ _,
    fun _ _ h => floatBody_completes h _ _, fun _ _ h => floatBody_completes h _ _, fun _ _ h => floatBody_completes h _ _,
    fun _ _ h => floatBody_completes h _ _, fun _ _ h => floatBody_completes h _ _, fun _ _ h => floatBody_completes h _ _,
    fun _ _ h => floatBody_completes h _ _, fun _ _ h => floatBody_completes h _ _, fun _ _ h => floatBody_completes h _ _,
    fun _ _ h => floatBody_completes h _ _, fun _ _ h => floatBody_completes h _ _, fun _ _ h => floatBody_completes h _ _,
    fun _ _ h => floatBody_completes h _ _, fun _ _ h => floatBody_completes h _ _, fun _ h => absurd h List.not_mem_nil⟩

/-! ### Integer lanes -/

theorem truncInt_natCast (n w : Nat) : truncInt n w = n % 2 ^ w := by
  rw [truncInt, show ((n : Int) % 2 ^ w) = ((n % 2 ^ w : Nat) : Int) by push_cast; rfl, Int.toNat_natCast]

theorem iAbs_mod (w a : Nat) : iAbs w a % 2 ^ w = (sext a w).natAbs % 2 ^ w := by
  rw [iAbs, truncInt_natCast, Nat.mod_mod]

/-- Settles O22: every row is `laneBody` of its operation. -/
theorem integerLaneResults : Obligations.IntegerLaneResults := by
  intro f s h
  simp only [List.forall_mem_cons]
  have hmod : ∀ {w : Nat} {op : Nat → Nat → Nat → Nat}, ∀ a b d, (fun a b d => op a b d % 2 ^ w) a b d % 2 ^ w = op a b d % 2 ^ w :=
    fun _ _ _ => Nat.mod_mod _ _
  have hrfl : ∀ {w : Nat} {op : Nat → Nat → Nat → Nat}, ∀ a b d, op a b d % 2 ^ w = op a b d % 2 ^ w := fun _ _ _ => rfl
  have habs : ∀ {w : Nat}, ∀ a b d : Nat, (fun a _ _ => iAbs w a : Nat → Nat → Nat → Nat) a b d % 2 ^ w = (sext a w).natAbs % 2 ^ w :=
    fun a _ _ => iAbs_mod _ a
  exact ⟨laneBody_completes h hmod, laneBody_completes h hmod, laneBody_completes h hmod,
    laneBody_completes h hmod, laneBody_completes h hmod, laneBody_completes h hmod,
    laneBody_completes h hmod, laneBody_completes h hmod, laneBody_completes h hmod,
    laneBody_completes h hrfl, laneBody_completes h hrfl, laneBody_completes h hrfl,
    laneBody_completes h hrfl, laneBody_completes h hrfl, laneBody_completes h hrfl,
    laneBody_completes h habs, laneBody_completes h habs, laneBody_completes h habs,
    laneBody_completes h hmod, laneBody_completes h hmod, laneBody_completes h hmod,
    laneBody_completes h hmod, laneBody_completes h hmod, laneBody_completes h hmod,
    laneBody_completes h hrfl, laneBody_completes h hrfl, laneBody_completes h hrfl,
    laneBody_completes h hrfl, laneBody_completes h hrfl, laneBody_completes h hrfl,
    laneBody_completes h hrfl, laneBody_completes h hrfl, laneBody_completes h hrfl,
    laneBody_completes h hrfl, laneBody_completes h hrfl, laneBody_completes h hrfl,
    laneBody_completes h hrfl, laneBody_completes h hrfl, laneBody_completes h hrfl,
    laneBody_completes h hrfl, laneBody_completes h hrfl, laneBody_completes h hrfl,
    laneBody_completes h hrfl, laneBody_completes h hrfl, laneBody_completes h hrfl,
    laneBody_completes h hrfl, laneBody_completes h hrfl, fun _ h => absurd h List.not_mem_nil⟩

/-- The sign-extended low bits of a number that the format holds are the number. -/
theorem sext_truncInt (x : Int) (w : Nat) (hw : 0 < w) (hlo : -2 ^ (w - 1) ≤ x) (hhi : x ≤ 2 ^ (w - 1) - 1) : sext (truncInt x w) w = x := by
  obtain ⟨n, rfl⟩ : ∃ n, w = n + 1 := ⟨w - 1, by omega⟩
  rw [Nat.add_sub_cancel] at hlo hhi
  have h2 : (2 : Int) ^ (n + 1) = 2 * 2 ^ n := by rw [pow_succ, mul_comm]
  have hp : (0 : Int) < 2 ^ n := by positivity
  have hlt : ∀ v : Nat, v < 2 ^ n ↔ (v : Int) < 2 ^ n := fun v => by zify
  simp only [sext, Nat.add_sub_cancel, hlt, truncInt, h2]
  generalize (2 : Int) ^ n = p at *
  by_cases h0 : 0 ≤ x
  · rw [Int.emod_eq_of_lt h0 (by omega), Int.toNat_of_nonneg h0, if_pos (by omega)]
  · rw [← Int.add_emod_right, Int.emod_eq_of_lt (by omega) (by omega), Int.toNat_of_nonneg (by omega), if_neg (by omega)]
    omega

theorem truncInt_of_nonneg (x : Int) (w : Nat) (h0 : 0 ≤ x) (h : x < 2 ^ w) : (truncInt x w : Int) = x := by
  rw [truncInt, Int.emod_eq_of_lt h0 h, Int.toNat_of_nonneg h0]

theorem satInt_bounds (x : Int) {lo hi : Int} (h : lo ≤ hi) : lo ≤ satInt x lo hi ∧ satInt x lo hi ≤ hi := by
  unfold satInt
  split <;> [omega; split <;> omega]

/-- Settles O23: a saturated value lies in the range of the lane, where the low bits hold it. -/
theorem saturatingLanes : Obligations.SaturatingLanes := by
  intro w a b sub hw ha hb
  have hp : (0 : Int) < 2 ^ (w - 1) := by positivity
  have hq : (0 : Int) < 2 ^ w := by positivity
  refine ⟨?_, ?_⟩
  · obtain ⟨h1, h2⟩ := satInt_bounds (if sub then sext a w - sext b w else sext a w + sext b w) (lo := -2 ^ (w - 1)) (hi := 2 ^ (w - 1) - 1)
      (by omega)
    exact (sext_truncInt _ w (by omega) h1 h2).trans rfl
  · obtain ⟨h1, h2⟩ := satInt_bounds (if sub then (a : Int) - b else a + b) (lo := 0) (hi := 2 ^ w - 1) (by omega)
    exact (truncInt_of_nonneg _ w h1 (by omega)).trans rfl

/-! ### Masks -/

theorem Bank.raise_none (b : Bank) : b.raise Fl.none = b := by
  have : Fl.none.bits = 0 := rfl
  simp [Bank.raise, this]

/-- Writing a mask register computed from the bank, with flags raised. -/
theorem writesMask_wrM (s : State) (d : BitVec 3) (v : Bank → MWord) (fl : Bank → Fl) :
    WritesMask s (s.modBank fun b => (b.wrM d (v b)).raise (fl b)) d (v s.bank) (fl s.bank) := by
  refine ⟨fun r => ?_, ?_, ?_, onlyBank_modBank s _⟩
  · rw [State.bank_modBank, ← Bank.rdM_wrM]
    rfl
  · rw [State.bank_modBank, Bank.wrM_eq]
    rfl
  · rw [State.bank_modBank, Bank.wrM_eq]
    rfl

theorem writesMask_wrM_noFlags (s : State) (d : BitVec 3) (v : Bank → MWord) :
    WritesMask s (s.modBank fun b => b.wrM d (v b)) d (v s.bank) Fl.none := by
  have h := writesMask_wrM s d v fun _ => Fl.none
  simpa only [Bank.raise_none] using h

theorem getLsbD_gateMask (mk old new : MWord) (j : Nat) (hj : j < 128) :
    (gateMask mk old new).getLsbD j = if mk.getLsbD j then new.getLsbD j else old.getLsbD j := by
  rw [gateMask, BitVec.getLsbD_or, BitVec.getLsbD_and, BitVec.getLsbD_and, BitVec.getLsbD_not]
  cases mk.getLsbD j <;> simp [hj]

theorem getLsbD_maskOf (g : Nat → Bool) (j : Nat) (hj : j < 128) : (maskOf g).getLsbD j = g j := by
  have h := ofLanes_lane 1 ((List.range 128).map fun j => if g j then 1 else 0) j (by simpa using hj)
  rw [maskOf, BitVec.getLsbD_ofNat, Nat.testBit_eq_decide_div_mod_eq]
  rw [Nat.one_mul, Nat.pow_one] at h
  rw [h]
  cases hg : g j <;> simp [hj, hg]

theorem getLsbD_lowOnes (n j : Nat) (hj : j < 128) : (BitVec.ofNat 128 (2 ^ min n 128 - 1)).getLsbD j = decide (j < n) := by
  rw [BitVec.getLsbD_ofNat, Nat.testBit_two_pow_sub_one]
  simp [hj]

/-- Settles O24. -/
theorem maskResults : Obligations.MaskResults := by
  intro f s h
  refine ⟨?_, ?_, ?_, ?_⟩
  · have hrow : ∀ w, ∃ t, guarded f.g s (iCmpBody f w) = .next t ∧ WritesMask s t (lo3 f.d) (maskOfLanes w (s.bank.rdM f.msk) fun i =>
        iCond f.q f.cnd w (lane (s.bank.rdV f.a) i w) (lane (s.bank.rdV f.b) i w)) Fl.none := fun w =>
      exists_guarded h (writesMask_wrM_noFlags s (lo3 f.d) fun b => maskOfLanes w (b.rdM f.msk) fun i =>
        iCond f.q f.cnd w (lane (b.rdV f.a) i w) (lane (b.rdV f.b) i w))
    simp only [List.forall_mem_cons]
    exact ⟨hrow 32, hrow 16, hrow 8, fun _ h => absurd h List.not_mem_nil⟩
  · have hrow : ∀ t : FFmt, ∃ u, guarded f.g s (fCmpBody f t) = .next u ∧ WritesMask s u (lo3 f.d)
        (maskOfLanes t.bits (s.bank.rdM f.msk) fun i =>
          fCond f.cnd (t.decode (lane (s.bank.rdV f.a) i t.bits)) (t.decode (lane (s.bank.rdV f.b) i t.bits)))
        (laneFlags t.bits (1024 / t.bits) (s.bank.rdM f.msk) fun i =>
          fCondFlags f.cnd (t.decode (lane (s.bank.rdV f.a) i t.bits)) (t.decode (lane (s.bank.rdV f.b) i t.bits))) := fun t =>
      exists_guarded h (writesMask_wrM s (lo3 f.d)
        (fun b => maskOfLanes t.bits (b.rdM f.msk) fun i =>
          fCond f.cnd (t.decode (lane (b.rdV f.a) i t.bits)) (t.decode (lane (b.rdV f.b) i t.bits)))
        fun b => laneFlags t.bits (1024 / t.bits) (b.rdM f.msk) fun i =>
          fCondFlags f.cnd (t.decode (lane (b.rdV f.a) i t.bits)) (t.decode (lane (b.rdV f.b) i t.bits)))
    simp only [List.forall_mem_cons]
    exact ⟨hrow .f32, hrow .bf16, hrow .f16, fun _ h => absurd h List.not_mem_nil⟩
  · exact ⟨_, _, show execVmlog f s = _ from guarded_of_true _ h, writesMask_wrM_noFlags s (lo3 f.d) fun b =>
      gateMask (b.rdM f.msk) (b.rdM (lo3 f.d))
        (maskOf fun j => truthTable (f.imm.extractLsb' 0 4) ((b.rdM (lo3 f.a)).getLsbD j) ((b.rdM (lo3 f.b)).getLsbD j)),
      fun j hj => by rw [getLsbD_gateMask _ _ _ _ hj, getLsbD_maskOf _ _ hj]⟩
  · exact ⟨_, _, show execVmset f s = _ from guarded_of_true _ h, writesMask_wrM_noFlags s (lo3 f.d) fun b =>
      gateMask (b.rdM f.msk) (b.rdM (lo3 f.d)) (BitVec.ofNat 128 (2 ^ (min (b.rdS f.a).toNat 128) - 1)),
      fun j hj => by rw [getLsbD_gateMask _ _ _ _ hj, getLsbD_lowOnes _ _ hj]⟩

/-! ### Conversions -/

/-- Settles O25: every row but VFSCALE is `convBody` of its conversion. -/
theorem conversionResults : Obligations.ConversionResults := by
  intro f s h
  refine ⟨?_, floatBody_completes h _ _⟩
  simp only [List.forall_mem_cons]
  exact ⟨convBody_completes h _ _ _, convBody_completes h _ _ _, convBody_completes h _ _ _, convBody_completes h _ _ _,
    convBody_completes h _ _ _, convBody_completes h _ _ _, fun _ h => absurd h List.not_mem_nil⟩

/-! ### Moves and permutes -/

theorem writesVector_wrV_noFlags (s : State) (d : BitVec 5) (v : Bank → VWord) :
    WritesVector s (s.modBank fun b => b.wrV d (v b)) d (v s.bank) Fl.none := by
  have h := writesVector_wrV s d v fun _ => Fl.none
  simpa only [Bank.raise_none] using h

/-- VSEL writes every byte: those the mask selects from the one register, the others from the other. -/
theorem vsel_completes {f : VRForm} {s : State} (h : guardTrue f.g s.bank = true) :
    ∃ t, exec (.vsel f) s = .next t ∧ WritesVector s t f.d (t.bank.rdV f.d) Fl.none ∧ ∀ i, i < 128 →
      lane (t.bank.rdV f.d) i 8 = if (s.bank.rdM f.msk).getLsbD i then lane (s.bank.rdV f.a) i 8 else lane (s.bank.rdV f.b) i 8 := by
  have hw := writesVector_wrV_noFlags s f.d fun b => writeLanes 8 (b.rdM f.msk) (b.rdV f.b) fun i => lane (b.rdV f.a) i 8
  have hv := hw.1 f.d
  rw [if_pos rfl] at hv
  refine ⟨_, show execVsel f s = _ from guarded_of_true _ h, by rw [hv]; exact hw, fun i hi => ?_⟩
  rw [hv, lane_writeLanes _ _ _ _ _ hi, laneOn, Nat.mul_div_cancel _ (by decide)]
  exact if_congr Iff.rfl (Nat.mod_eq_of_lt (Nat.mod_lt _ (by decide))) rfl

/-- Settles O26: the lane moves are `permBody` of their source lanes. -/
theorem permuteResults : Obligations.PermuteResults := by
  intro f s h
  refine ⟨?_, vsel_completes h, ?_, ?_, ?_⟩
  · simp only [List.forall_mem_cons]
    exact ⟨permBody_completes h fun _ => rfl, permBody_completes h fun _ => Nat.mod_mod _ _,
      permBody_completes h fun i => by split <;> [exact Nat.mod_mod _ _; rfl], permBody_completes h fun _ => rfl,
      permBody_completes h fun _ => rfl, permBody_completes h fun _ => rfl, permBody_completes h fun _ => rfl,
      fun _ h => absurd h List.not_mem_nil⟩
  · refine ⟨_, show execVext f s = _ from guarded_of_true _ h, ?_⟩
    have hw := writesScalar_wrS s f.d fun b =>
      if f.ta = 0x21 || f.ta = 0x22 then BitVec.ofInt 32 (sext (lane (b.rdV f.a) f.imm.toNat (laneBits f.ta)) (laneBits f.ta))
      else BitVec.ofNat 32 (lane (b.rdV f.a) f.imm.toNat (laneBits f.ta))
    simpa only [Bool.or_eq_true, decide_eq_true_eq] using hw
  · refine ⟨_, show execVmfirst f s = _ from guarded_of_true _ h, ?_⟩
    simpa only [BitVec.getLsbD_and] using writesScalar_wrS s f.d fun b =>
      BitVec.ofNat 32 (((List.range 128).find? fun j => (b.rdM (lo3 f.a) &&& b.rdM f.msk).getLsbD j).getD 128)
  · refine ⟨_, show execVcntm f s = _ from guarded_of_true _ h, ?_⟩
    simpa only [popFrom_eq, BitVec.getLsbD_and] using writesScalar_wrS s f.d fun b =>
      BitVec.ofNat 32 (popFrom (b.rdM (lo3 f.a) &&& b.rdM f.msk) 128)

end Sys2Proof.Machine
end

section
/-! PROOF. The reductions, the prefix sum and the dot products: the obligation ReductionResults. -/

namespace Sys2Proof.Machine

open Sys2Proof

/-! ### Rounded patterns fit their format -/

theorem FFmt.bits_eq (t : FFmt) : 2 ^ t.bits = 2 * 2 ^ (t.eb + t.mb) := by
  rw [FFmt.bits, show 1 + t.eb + t.mb = t.eb + t.mb + 1 by omega, pow_succ, mul_comm]

theorem FFmt.infCode_lt (t : FFmt) : t.emaxField * 2 ^ t.mb < 2 ^ (t.eb + t.mb) := by
  cases t <;> decide

/-- A sign beside a magnitude code is a pattern of the format. -/
theorem FFmt.sign_add_lt (t : FFmt) (neg : Bool) {c : Nat} (h : c < 2 ^ (t.eb + t.mb)) : t.sign neg + c < 2 ^ t.bits := by
  rw [FFmt.bits_eq, FFmt.sign]
  split <;> omega

theorem FFmt.cnan_lt (t : FFmt) : t.cnan < 2 ^ t.bits := by
  cases t <;> decide

theorem FFmt.round_lt (t : FFmt) (m : RMode) (sat neg : Bool) (n : Nat) (e : Int) : (t.round m sat neg n e).1 < 2 ^ t.bits := by
  have hinf := t.infCode_lt
  unfold FFmt.round
  dsimp only
  split
  · exact t.sign_add_lt neg (Nat.two_pow_pos _)
  · split
    · dsimp only
      split
      · exact t.sign_add_lt neg hinf
      · exact t.sign_add_lt neg (by omega)
    · exact t.sign_add_lt neg (by omega)

theorem FFmt.encode_lt (t : FFmt) (m : RMode) (sat : Bool) (v : FVal) : (t.encode m sat v).1 < 2 ^ t.bits := by
  cases v with
  | nan _ => exact t.cnan_lt
  | inf n => exact t.sign_add_lt n t.infCode_lt
  | fin neg n e => exact t.round_lt m sat neg n e

theorem laneBits_of_isFloat : ∀ t : BitVec 6, isFloat t = true → laneBits t = (fmtOf t).bits := by decide

/-! ### Folds -/

theorem Fl.or_none (a : Fl) : a.or Fl.none = a := by
  simp [Fl.or, Fl.none]

/-- The first component of a fold of pairs that computes it alone. -/
theorem foldl_pair {α β γ : Type} (g : α → γ → α) (h : β → γ → β) (l : List γ) (a : α) (b : β) :
    l.foldl (fun (x : α × β) v => (g x.1 v, h x.2 v)) (a, b) = (l.foldl g a, l.foldl h b) := by
  induction l generalizing a b with
  | nil => rfl
  | cons v r ih => exact ih _ _

theorem foldl_add_eq_sum {γ : Type} (g : γ → Int) (l : List γ) (a : Int) : l.foldl (fun a v => a + g v) a = a + (l.map g).sum := by
  induction l generalizing a with
  | nil => simp
  | cons v r ih => simp [ih, Int.add_assoc]

/-- Flags collected along a fold are all the flags. -/
theorem foldl_or_eq_all {γ : Type} (g : γ → Fl) (l : List γ) : l.foldl (fun a v => a.or (g v)) Fl.none = Fl.all (l.map g) := by
  rw [Fl.all, List.foldl_map]

/-! ### The prefix sum -/

/-- The value that the first active lane of a running sum receives. -/
def sumStart (first : Nat → Nat × Fl) (add : Nat → Nat → Nat × Fl) (acc : Option Nat) (x : Nat) : Nat × Fl :=
  match acc with
  | none => first x
  | some a => add a x

theorem prefixSum_off (first : Nat → Nat × Fl) (add : Nat → Nat → Nat × Fl) (x : Nat) (r : List (Bool × Nat)) (acc : Option Nat) (fl : Fl) :
    (prefixSum first add ((false, x) :: r) acc fl).1 = none :: (prefixSum first add r acc fl).1 := rfl

theorem prefixSum_on (first : Nat → Nat × Fl) (add : Nat → Nat → Nat × Fl) (x : Nat) (r : List (Bool × Nat)) (acc : Option Nat) (fl : Fl) :
    (prefixSum first add ((true, x) :: r) acc fl).1 = some (sumStart first add acc x).1 ::
      (prefixSum first add r (some (sumStart first add acc x).1) (fl.or (sumStart first add acc x).2)).1 := by
  cases acc <;> rfl

section
variable {first : Nat → Nat × Fl} {add : Nat → Nat → Nat × Fl}

/-- An inactive lane receives nothing. -/
theorem prefixSum_inactive {l : List (Bool × Nat)} {i x : Nat} (h : l[i]? = some (false, x)) (acc : Option Nat) (fl : Fl) :
    (prefixSum first add l acc fl).1[i]? = some none := by
  induction l generalizing i acc fl with
  | nil => simp at h
  | cons y r ih =>
    obtain ⟨on, y⟩ := y
    cases i with
    | zero =>
      obtain ⟨rfl, rfl⟩ : on = false ∧ y = x := by simpa using h
      rfl
    | succ i =>
      have h' : r[i]? = some (false, x) := by simpa using h
      cases on
      · rw [prefixSum_off]; simpa using ih h' _ _
      · rw [prefixSum_on]; simpa using ih h' _ _

/-- The first active lane receives the start of the sum. -/
theorem prefixSum_first {l : List (Bool × Nat)} {i x : Nat} (h : l[i]? = some (true, x)) (hoff : ∀ j, j < i → ∀ y, l[j]? ≠ some (true, y))
    (acc : Option Nat) (fl : Fl) : (prefixSum first add l acc fl).1[i]? = some (some (sumStart first add acc x).1) := by
  induction l generalizing i acc fl with
  | nil => simp at h
  | cons y r ih =>
    obtain ⟨on, y⟩ := y
    cases i with
    | zero =>
      obtain ⟨rfl, rfl⟩ : on = true ∧ y = x := by simpa using h
      rw [prefixSum_on]; simp
    | succ i =>
      have h' : r[i]? = some (true, x) := by simpa using h
      have hon : on = false := by
        by_contra hc
        exact hoff 0 (by omega) y (by simpa using hc)
      subst hon
      rw [prefixSum_off]
      simpa using ih h' (fun j hj z hz => hoff (j + 1) (by omega) z (by simpa using hz)) acc fl

/-- Each later active lane receives its own value added to what the active lane before it received. -/
theorem prefixSum_next {l : List (Bool × Nat)} {i j x y : Nat} (hi : l[i]? = some (true, x)) (hj : l[j]? = some (true, y)) (hlt : j < i)
    (hoff : ∀ k, j < k → k < i → ∀ z, l[k]? ≠ some (true, z)) (acc : Option Nat) (fl : Fl) :
    ∃ a, (prefixSum first add l acc fl).1[j]? = some (some a) ∧ (prefixSum first add l acc fl).1[i]? = some (some (add a x).1) := by
  induction l generalizing i j acc fl with
  | nil => simp at hi
  | cons y' r ih =>
    obtain ⟨on, y'⟩ := y'
    obtain ⟨i, rfl⟩ : ∃ k, i = k + 1 := ⟨i - 1, by omega⟩
    have hi' : r[i]? = some (true, x) := by simpa using hi
    cases j with
    | zero =>
      obtain ⟨rfl, rfl⟩ : on = true ∧ y' = y := by simpa using hj
      refine ⟨_, by rw [prefixSum_on]; rfl, ?_⟩
      rw [prefixSum_on]
      simpa [sumStart] using prefixSum_first hi' (fun k hk z hz => hoff (k + 1) (by omega) (by omega) z (by simpa using hz))
        (some (sumStart first add acc y').1) (fl.or (sumStart first add acc y').2)
    | succ j =>
      have hj' : r[j]? = some (true, y) := by simpa using hj
      have hoff' : ∀ k, j < k → k < i → ∀ z, r[k]? ≠ some (true, z) := fun k h1 h2 z hz =>
        hoff (k + 1) (by omega) (by omega) z (by simpa using hz)
      cases on
      · rw [prefixSum_off]; simpa using ih hi' hj' (by omega) hoff' _ _
      · rw [prefixSum_on]; simpa using ih hi' hj' (by omega) hoff' _ _

/-- What a running sum writes stays below a bound that its start and every addition keep. -/
theorem prefixSum_lt {b : Nat} {l : List (Bool × Nat)} (hstart : ∀ acc, ∀ x ∈ l, (sumStart first add acc x.2).1 < b) (acc : Option Nat) (fl : Fl)
    {a : Nat} (ha : some a ∈ (prefixSum first add l acc fl).1) : a < b := by
  induction l generalizing acc fl with
  | nil => simp [prefixSum] at ha
  | cons x r ih =>
    obtain ⟨on, x⟩ := x
    have ih' := fun acc fl => ih (fun acc x hx => hstart acc x (List.mem_cons_of_mem _ hx)) acc fl
    cases on
    · rw [prefixSum_off] at ha
      exact ih' _ _ (by simpa using ha)
    · rw [prefixSum_on] at ha
      rcases List.mem_cons.1 ha with h | h
      · cases h
        exact hstart acc _ List.mem_cons_self
      · exact ih' _ _ h

end

/-- The sum of two lanes in VPSUM (R281). -/
def psumAdd (t : BitVec 6) (rnd : BitVec 3) (a x : Nat) : Nat × Fl :=
  if isFloat t then (fmtOf t).roundTerms (rmodeOfRnd rnd) [[(fmtOf t).decode a], [(fmtOf t).decode x]]
  else ((a + x) % 2 ^ laneBits t, Fl.none)

theorem psumAdd_lt (t : BitVec 6) (rnd : BitVec 3) (a x : Nat) : (psumAdd t rnd a x).1 < 2 ^ laneBits t := by
  unfold psumAdd
  split
  · next h => rw [laneBits_of_isFloat t h]; exact (fmtOf t).encode_lt _ _ _
  · exact Nat.mod_lt _ (Nat.two_pow_pos _)

theorem sumFirst_lt (t : BitVec 6) {x : Nat} (hx : x < 2 ^ laneBits t) : (sumFirst t x).1 < 2 ^ laneBits t := by
  unfold sumFirst
  dsimp only
  split
  · next h =>
    rw [laneBits_of_isFloat t (by simp only [Bool.and_eq_true] at h; exact h.1)]
    exact (fmtOf t).cnan_lt
  · exact hx

/-- The lanes of VPSUM, with their activity. -/
def psumLanes (w : Nat) (mask : MWord) (v : VWord) : List (Bool × Nat) := (List.range (1024 / w)).map fun i => (laneOn mask w i, lane v i w)

theorem getElem?_psumLanes {w : Nat} {mask : MWord} {v : VWord} {i : Nat} (hi : i < 1024 / w) :
    (psumLanes w mask v)[i]? = some (laneOn mask w i, lane v i w) := by
  simp [psumLanes, hi]

theorem psumLanes_off {w : Nat} {mask : MWord} {v : VWord} {j : Nat} (h : laneOn mask w j = false) (y : Nat) :
    (psumLanes w mask v)[j]? ≠ some (true, y) := by
  intro hc
  have hj : j < 1024 / w := by simpa [psumLanes] using (List.getElem?_eq_some_iff.1 hc).1
  rw [getElem?_psumLanes hj, h] at hc
  simp at hc

/-- What VPSUM computes: the running sum of a register's lanes. -/
def psumOf (f : VRForm) (b : Bank) : List (Option Nat) × Fl :=
  prefixSum (sumFirst f.ta) (psumAdd f.ta b.issueRnd) (psumLanes (laneBits f.ta) (b.rdM f.msk) (b.rdV f.a)) none Fl.none

/-- The register that VPSUM writes. -/
def psumReg (f : VRForm) (b : Bank) : VWord :=
  buildLanes (1024 / laneBits f.ta) (laneBits f.ta) fun i => ((psumOf f b).1.getD i none).getD (lane (b.rdV f.d) i (laneBits f.ta))

theorem lane_psumReg_some {f : VRForm} {b : Bank} {i a : Nat} (hi : i < 1024 / laneBits f.ta) (h : (psumOf f b).1[i]? = some (some a)) :
    lane (psumReg f b) i (laneBits f.ta) = a % 2 ^ laneBits f.ta := by
  rw [psumReg, lane_buildLanes _ _ _ _ hi (Nat.mul_div_le _ _), List.getD_eq_getElem?_getD, h]
  rfl

theorem lane_psumReg_none {f : VRForm} {b : Bank} {i : Nat} (hi : i < 1024 / laneBits f.ta) (h : (psumOf f b).1[i]? = some none) :
    lane (psumReg f b) i (laneBits f.ta) = lane (b.rdV f.d) i (laneBits f.ta) := by
  rw [psumReg, lane_buildLanes _ _ _ _ hi (Nat.mul_div_le _ _), List.getD_eq_getElem?_getD, h]
  exact Nat.mod_eq_of_lt (Nat.mod_lt _ (Nat.two_pow_pos _))

theorem psumOf_lt {f : VRForm} {b : Bank} {j a : Nat} (h : (psumOf f b).1[j]? = some (some a)) : a < 2 ^ laneBits f.ta := by
  refine prefixSum_lt (fun acc x hx => ?_) none Fl.none (List.mem_of_getElem? h)
  cases acc with
  | none =>
    obtain ⟨i, -, rfl⟩ := List.mem_map.1 hx
    exact sumFirst_lt _ (Nat.mod_lt _ (Nat.two_pow_pos _))
  | some c => exact psumAdd_lt _ _ _ _

/-- VPSUM writes its running sum; each active lane's value is stated from the lane before it. -/
theorem vpsum_completes {f : VRForm} {s : State} (h : guardTrue f.g s.bank = true) :
    let w := laneBits f.ta
    let M := s.bank.rdM f.msk
    ∃ t v, exec (.vpsum f) s = .next t ∧ WritesVector s t f.d v (psumOf f s.bank).2 ∧
      (∀ i, i < 1024 / w → laneOn M w i = false → lane v i w = lane (s.bank.rdV f.d) i w) ∧
      (∀ i, i < 1024 / w → laneOn M w i = true → (∀ j, j < i → laneOn M w j = false) →
        lane v i w = (sumFirst f.ta (lane (s.bank.rdV f.a) i w)).1 % 2 ^ w) ∧
      ∀ i j, i < 1024 / w → j < i → laneOn M w i = true → laneOn M w j = true → (∀ k, j < k → k < i → laneOn M w k = false) →
        lane v i w = (psumAdd f.ta s.bank.issueRnd (lane v j w) (lane (s.bank.rdV f.a) i w)).1 % 2 ^ w := by
  intro w M
  have hlane : ∀ i on, i < 1024 / w → laneOn M w i = on → (psumLanes w M (s.bank.rdV f.a))[i]? = some (on, lane (s.bank.rdV f.a) i w) :=
    fun i on hi hon => hon ▸ getElem?_psumLanes hi
  refine ⟨_, _, show execVpsum f s = _ from guarded_of_true _ h, writesVector_wrV s f.d (psumReg f) fun b => (psumOf f b).2,
    fun i hi hoff => ?_, fun i hi hon hfirst => ?_, fun i j hi hj hon honj hbetween => ?_⟩
  · exact lane_psumReg_none hi (prefixSum_inactive (hlane i _ hi hoff) none Fl.none)
  · exact lane_psumReg_some hi (prefixSum_first (hlane i _ hi hon) (fun j hj => psumLanes_off (hfirst j hj)) none Fl.none)
  · obtain ⟨a, ha, hai⟩ := prefixSum_next (first := sumFirst f.ta) (add := psumAdd f.ta s.bank.issueRnd) (hlane i _ hi hon)
      (hlane j _ (hj.trans hi) honj) hj (fun k h1 h2 => psumLanes_off (hbetween k h1 h2)) none Fl.none
    have hja : lane (psumReg f s.bank) j w = a := by
      rw [lane_psumReg_some (hj.trans hi) ha]
      exact Nat.mod_eq_of_lt (psumOf_lt ha)
    rw [hja]
    exact lane_psumReg_some hi hai

/-! ### Sums, extremes and dot products -/

theorem vraddi_value (f : VRForm) (b : Bank) :
    (activeVals b f (laneBits f.ta)).foldl (fun (a : Int) v => a + intOfLane f.ta v) 0 =
      (((List.range (1024 / laneBits f.ta)).filter fun i => laneOn (b.rdM f.msk) (laneBits f.ta) i).map
        fun i => intOfLane f.ta (lane (b.rdV f.a) i (laneBits f.ta))).sum := by
  rw [foldl_add_eq_sum, activeVals, List.map_map, Int.zero_add]
  rfl

theorem reduceMinMax_int {f : VRForm} {s : State} (isMax : Bool) (hf : isFloat f.ta = false) :
    WritesVector s (reduceMinMax f isMax s) f.d (BitVec.ofNat 1024
      (truncInt ((activeVals s.bank f (laneBits f.ta)).foldl (fun (a : Int) v =>
        if isMax then max a (intOfLane f.ta v) else min a (intOfLane f.ta v)) (if isMax then (intRange f.ta).1 else (intRange f.ta).2))
        (laneBits f.ta))) Fl.none := by
  have e : reduceMinMax f isMax s = s.modBank fun b => b.wrV f.d (lane0 (truncInt ((activeVals b f (laneBits f.ta)).foldl (fun (a : Int) v =>
      if isMax then max a (intOfLane f.ta v) else min a (intOfLane f.ta v)) (if isMax then (intRange f.ta).1 else (intRange f.ta).2))
      (laneBits f.ta))) := by
    rw [reduceMinMax]
    simp only [hf, Bool.false_eq_true, if_false]
  rw [e]
  exact writesVector_wrV_noFlags s f.d _

/-- The extreme of the active lanes of a float reduction. -/
def extremeBits (f : VRForm) (isMax : Bool) (b : Bank) : Nat :=
  (activeVals b f (fmtOf f.ta).bits).foldl (fun a x => ((fmtOf f.ta).minMax isMax a x).1) ((fmtOf f.ta).infBits isMax)

/-- The flags of a float reduction to an extreme. -/
def extremeFlags (f : VRForm) (b : Bank) : Fl := Fl.all ((activeVals b f (fmtOf f.ta).bits).map fun x => snanFlag ((fmtOf f.ta).decode x))

theorem extreme_foldl (f : VRForm) (isMax : Bool) (b : Bank) :
    (activeVals b f (fmtOf f.ta).bits).foldl (fun (a : Nat × Fl) v =>
      (((fmtOf f.ta).minMax isMax a.1 v).1, a.2.or ((snanFlag ((fmtOf f.ta).decode v)).or Fl.none))) ((fmtOf f.ta).infBits isMax, Fl.none) =
    (extremeBits f isMax b, extremeFlags f b) := by
  rw [foldl_pair (fun a v => ((fmtOf f.ta).minMax isMax a v).1) fun a v => Fl.or a ((snanFlag ((fmtOf f.ta).decode v)).or Fl.none)]
  simp only [Fl.or_none, foldl_or_eq_all]
  rfl

theorem reduceMinMax_float {f : VRForm} {s : State} (isMax : Bool) (hf : isFloat f.ta = true) :
    WritesVector s (reduceMinMax f isMax s) f.d (BitVec.ofNat 1024 (extremeBits f isMax s.bank)) (extremeFlags f s.bank) := by
  have e : reduceMinMax f isMax s = s.modBank fun b => (b.wrV f.d (lane0 (extremeBits f isMax b))).raise (extremeFlags f b) := by
    rw [reduceMinMax]
    simp only [hf, if_true, extreme_foldl]
  rw [e]
  exact writesVector_wrV s f.d _ _

theorem sum_range_four (p : Nat → Int) : ((List.range 4).map p).sum = p 0 + p 1 + p 2 + p 3 := by
  simp [List.range_succ, Int.add_assoc]

/-- Settles O27. -/
theorem reductionResults : Obligations.ReductionResults := by
  intro f s h
  refine ⟨?_, ?_, ?_, vpsum_completes h, ?_, ?_⟩
  · exact ⟨_, show execVradd f s = _ from guarded_of_true _ h, writesVector_wrV s f.d _ _⟩
  · rw [← vraddi_value]
    exact ⟨_, show execVraddi f s = _ from guarded_of_true _ h, writesVector_wrV_noFlags s f.d _⟩
  · simp only [List.forall_mem_cons]
    exact ⟨⟨fun hf => ⟨_, show execVrmax f s = _ from guarded_of_true _ h, reduceMinMax_int true hf⟩,
        fun hf => ⟨_, _, show execVrmax f s = _ from guarded_of_true _ h, reduceMinMax_float true hf, rfl⟩⟩,
      ⟨fun hf => ⟨_, show execVrmin f s = _ from guarded_of_true _ h, reduceMinMax_int false hf⟩,
        fun hf => ⟨_, _, show execVrmin f s = _ from guarded_of_true _ h, reduceMinMax_float false hf, rfl⟩⟩,
      fun _ h => absurd h List.not_mem_nil⟩
  · refine ⟨_, show execVdotI8 f s = _ from guarded_of_true _ h, ?_⟩
    simp only [sum_range_four, ← Int.add_assoc]
    exact writesLanes_noFlags s f.d 32 (fun b => b.rdM f.msk) _
  · exact ⟨_, show execVdotBf16 f s = _ from guarded_of_true _ h, writesLanes s f.d 32 (fun b => b.rdM f.msk) _ _⟩

end Sys2Proof.Machine
end

section
/-! PROOF. The table instructions: the obligation TableResults. -/

namespace Sys2Proof.Machine

open Sys2Proof

theorem not_readsPoison {l : List Nat} {p : Bool} (h : p = false ∨ l = []) : ¬(!l.isEmpty && p) = true := by
  rcases h with rfl | rfl <;> simp

theorem readsPoison {l : List Nat} {p : Bool} (hl : l ≠ []) (hp : p = true) : (!l.isEmpty && p) = true := by
  simpa [hp] using hl

/-! ### VTLD -/

/-- VTLD: its checks, then its bytes. -/
def vtldBody (f : VRForm) (s : State) : State :=
  let off := (s.bank.rdS f.a).toNat
  if off % 128 ≠ 0 then takeTrap s causeMisaligned
  else if s.bank.tblLen < off + 128 then takeTrap s causeTableRange
  else if !(activeLanes (s.bank.rdM f.msk) 8).isEmpty && poisoned s (tableKey s off) 128 then takeTrap s causePoison
  else s.modBank fun b => b.wrV f.d (writeLanes 8 (b.rdM f.msk) (b.rdV f.d) fun j => readNat s (tableKey s (off + j)) 1)

theorem exec_vtld {f : VRForm} {s : State} (h : guardTrue f.g s.bank = true) : exec (.vtld f) s = .next (vtldBody f s) :=
  show execVtld f s = _ from guarded_of_true _ h

section
variable {f : VRForm} {s : State}

theorem vtldBody_misaligned (ha : (s.bank.rdS f.a).toNat % 128 ≠ 0) : vtldBody f s = takeTrap s causeMisaligned := if_pos ha

theorem vtldBody_range (ha : (s.bank.rdS f.a).toNat % 128 = 0) (hr : s.bank.tblLen < (s.bank.rdS f.a).toNat + 128) :
    vtldBody f s = takeTrap s causeTableRange := by
  rw [vtldBody, if_neg (not_not.2 ha), if_pos hr]

theorem vtldBody_poison (ha : (s.bank.rdS f.a).toNat % 128 = 0) (hr : (s.bank.rdS f.a).toNat + 128 ≤ s.bank.tblLen)
    (hp : poisoned s (tableKey s (s.bank.rdS f.a).toNat) 128 = true) (hl : activeLanes (s.bank.rdM f.msk) 8 ≠ []) :
    vtldBody f s = takeTrap s causePoison := by
  rw [vtldBody, if_neg (not_not.2 ha), if_neg (by omega), if_pos (readsPoison hl hp)]

theorem vtldBody_clean (ha : (s.bank.rdS f.a).toNat % 128 = 0) (hr : (s.bank.rdS f.a).toNat + 128 ≤ s.bank.tblLen)
    (hp : poisoned s (tableKey s (s.bank.rdS f.a).toNat) 128 = false ∨ activeLanes (s.bank.rdM f.msk) 8 = []) :
    vtldBody f s = s.modBank fun b => b.wrV f.d
      (writeLanes 8 (b.rdM f.msk) (b.rdV f.d) fun j => readNat s (tableKey s ((s.bank.rdS f.a).toNat + j)) 1) := by
  rw [vtldBody, if_neg (not_not.2 ha), if_neg (by omega), if_neg (not_readsPoison hp)]

end

/-! ### VTLU -/

/-- The offset of a VTLU's table. -/
def vtluOff (f : VRForm) (b : Bank) : Nat := bitsNat (b.rdS f.b).toNat 13 0

/-- The number of entries of a VTLU's table. -/
def vtluLen (f : VRForm) (b : Bank) : Nat := bitsNat (b.rdS f.b).toNat 27 14

/-- VTLU: its checks, then its lanes. -/
def vtluBody (f : VRForm) (s : State) : State :=
  let b := s.bank
  let w := laneBits f.tb
  let off := vtluOff f b
  let n := vtluLen f b
  let mask := b.rdM f.msk
  let idx := fun i => lane (b.rdV f.a) i w
  if off % (w / 8) ≠ 0 then takeTrap s causeMisaligned
  else if n = 0 || b.tblLen < off + n * (w / 8) then takeTrap s causeTableRange
  else if ((List.range (1024 / w)).filter fun i => laneOn mask w i && idx i < n).any fun i =>
      poisoned s (tableKey s (off + idx i * (w / 8))) (w / 8) then takeTrap s causePoison
  else s.modBank fun b =>
    b.wrV f.d (writeLanes w mask (b.rdV f.d) fun i =>
      if idx i < n then readNat s (tableKey s (off + idx i * (w / 8))) (w / 8) else 0)

theorem exec_vtlu {f : VRForm} {s : State} (h : guardTrue f.g s.bank = true) : exec (.vtlu f) s = .next (vtluBody f s) :=
  show execVtlu f s = _ from guarded_of_true _ h

section
variable {f : VRForm} {s : State}

/-- Entry of a lane of VTLU, as a key. -/
def vtluKey (f : VRForm) (s : State) (i : Nat) : Nat :=
  tableKey s (vtluOff f s.bank + lane (s.bank.rdV f.a) i (laneBits f.tb) * (laneBits f.tb / 8))

theorem vtluBody_misaligned (ha : vtluOff f s.bank % (laneBits f.tb / 8) ≠ 0) : vtluBody f s = takeTrap s causeMisaligned := if_pos ha

theorem vtluBody_range (ha : vtluOff f s.bank % (laneBits f.tb / 8) = 0)
    (hr : vtluLen f s.bank = 0 ∨ s.bank.tblLen < vtluOff f s.bank + vtluLen f s.bank * (laneBits f.tb / 8)) :
    vtluBody f s = takeTrap s causeTableRange := by
  rw [vtluBody, if_neg (not_not.2 ha), if_pos (by simpa using hr)]

theorem vtluBody_poison {i : Nat} (hi : i < 1024 / laneBits f.tb) (ha : vtluOff f s.bank % (laneBits f.tb / 8) = 0)
    (hr : vtluOff f s.bank + vtluLen f s.bank * (laneBits f.tb / 8) ≤ s.bank.tblLen) (hon : laneOn (s.bank.rdM f.msk) (laneBits f.tb) i = true)
    (hlt : lane (s.bank.rdV f.a) i (laneBits f.tb) < vtluLen f s.bank) (hp : poisoned s (vtluKey f s i) (laneBits f.tb / 8) = true) :
    vtluBody f s = takeTrap s causePoison := by
  rw [vtluBody, if_neg (not_not.2 ha), if_neg (by simp; omega), if_pos]
  exact List.any_eq_true.2 ⟨i, List.mem_filter.2 ⟨List.mem_range.2 hi, by simp [hon, hlt]⟩, hp⟩

theorem vtluBody_clean (ha : vtluOff f s.bank % (laneBits f.tb / 8) = 0) (hn : 0 < vtluLen f s.bank)
    (hr : vtluOff f s.bank + vtluLen f s.bank * (laneBits f.tb / 8) ≤ s.bank.tblLen)
    (hp : ∀ i, i < 1024 / laneBits f.tb → laneOn (s.bank.rdM f.msk) (laneBits f.tb) i = true →
      lane (s.bank.rdV f.a) i (laneBits f.tb) < vtluLen f s.bank → poisoned s (vtluKey f s i) (laneBits f.tb / 8) = false) :
    vtluBody f s = s.modBank fun b => b.wrV f.d (writeLanes (laneBits f.tb) (s.bank.rdM f.msk) (b.rdV f.d) fun i =>
      if lane (s.bank.rdV f.a) i (laneBits f.tb) < vtluLen f s.bank then readNat s (vtluKey f s i) (laneBits f.tb / 8) else 0) := by
  rw [vtluBody, if_neg (not_not.2 ha), if_neg (by simp; omega), if_neg]
  · rfl
  · intro hc
    obtain ⟨i, hi, hpi⟩ := List.any_eq_true.1 hc
    obtain ⟨hi, hon⟩ := List.mem_filter.1 hi
    rw [Bool.and_eq_true, decide_eq_true_eq] at hon
    exact Bool.false_ne_true ((hp i (List.mem_range.1 hi) hon.1 hon.2).symm.trans hpi)

end

/-! ### VTLI -/

theorem exec_vtli {f : VRForm} {s : State} (h : guardTrue f.g s.bank = true) : exec (.vtli f) s = .next (vtliBody f s) :=
  show execVtli f s = _ from guarded_of_true _ h

section
variable (f : VRForm) (s : State)

/-- The header of a VTLI's table. -/
def vtliHead : Nat := (s.bank.rdS f.b).toNat

/-- The number of knots of a VTLI's table. -/
def vtliKnots : Nat := readNat s (tableKey s (vtliHead f s + 8)) 4

/-- The interpolation of a lane of VTLI. -/
def vtliValue (i : Nat) : FVal × Fl × Option Nat :=
  vtliLane s (vtliHead f s) (vtliKnots f s) (f.imm.extractLsb' 2 2).toNat (f.imm.extractLsb' 0 2).toNat
    ((fmtOf f.tb).decode (lane (s.bank.rdV f.a) i (fmtOf f.tb).bits))

variable {f s}

theorem vtliBody_misaligned (ha : vtliHead f s % 16 ≠ 0) : vtliBody f s = takeTrap s causeMisaligned := if_pos ha

theorem vtliBody_range_head (ha : vtliHead f s % 16 = 0) (hr : s.bank.tblLen < vtliHead f s + 16) :
    vtliBody f s = takeTrap s causeTableRange := by
  rw [vtliHead] at ha hr
  rw [vtliBody, if_neg (not_not.2 ha), if_pos hr]

theorem vtliBody_poison_head (ha : vtliHead f s % 16 = 0) (hr : vtliHead f s + 16 ≤ s.bank.tblLen)
    (hp : poisoned s (tableKey s (vtliHead f s)) 12 = true) (hl : activeLanes (s.bank.rdM f.msk) (fmtOf f.tb).bits ≠ []) :
    vtliBody f s = takeTrap s causePoison := by
  rw [vtliHead] at ha hr hp
  rw [vtliBody, if_neg (not_not.2 ha), if_neg (by omega), if_pos (readsPoison hl hp)]

/-- The number of knots fits the format and the table. -/
def VtliFits (f : VRForm) (s : State) : Prop :=
  2 ≤ vtliKnots f s ∧ vtliKnots f s ≤ 2046 ∧ vtliHead f s + 16 + 8 * vtliKnots f s ≤ s.bank.tblLen

theorem vtliBody_range_knots (ha : vtliHead f s % 16 = 0) (hr : vtliHead f s + 16 ≤ s.bank.tblLen)
    (hp : poisoned s (tableKey s (vtliHead f s)) 12 = false ∨ activeLanes (s.bank.rdM f.msk) (fmtOf f.tb).bits = []) (hn : ¬VtliFits f s) :
    vtliBody f s = takeTrap s causeTableRange := by
  rw [VtliFits, vtliKnots] at hn
  rw [vtliHead] at ha hr hp hn
  rw [vtliBody, if_neg (not_not.2 ha), if_neg (by omega), if_neg (not_readsPoison hp), if_pos]
  simp only [Bool.or_eq_true, decide_eq_true_eq]
  omega

/-- A lane reads a poisoned knot. -/
def vtliKnotPoison (f : VRForm) (s : State) : Bool :=
  (activeLanes (s.bank.rdM f.msk) (fmtOf f.tb).bits).any fun i => match (vtliValue f s i).2.2 with
    | some k => poisoned s (tableKey s (vtliHead f s + 16 + 8 * k)) 8
    | none => false

theorem vtliKnotPoison_iff : vtliKnotPoison f s = true ↔ ∃ i ∈ activeLanes (s.bank.rdM f.msk) (fmtOf f.tb).bits, ∃ k,
    (vtliValue f s i).2.2 = some k ∧ poisoned s (tableKey s (vtliHead f s + 16 + 8 * k)) 8 = true := by
  rw [vtliKnotPoison, List.any_eq_true]
  refine exists_congr fun i => and_congr_right fun _ => ?_
  cases (vtliValue f s i).2.2 <;> simp

/-- What VTLI does once its table fits. -/
theorem vtliBody_fits (ha : vtliHead f s % 16 = 0) (hn : VtliFits f s)
    (hp : poisoned s (tableKey s (vtliHead f s)) 12 = false ∨ activeLanes (s.bank.rdM f.msk) (fmtOf f.tb).bits = []) :
    vtliBody f s = if vtliKnotPoison f s then takeTrap s causePoison
      else s.modBank fun b => (b.wrV f.d (writeLanes (fmtOf f.tb).bits (s.bank.rdM f.msk) (b.rdV f.d) fun i =>
          ((fmtOf f.tb).encode (effMode f.rm s.bank.issueRnd) false (vtliValue f s i).1).1)).raise
        (laneFlags (fmtOf f.tb).bits (1024 / (fmtOf f.tb).bits) (s.bank.rdM f.msk) fun i =>
          (vtliValue f s i).2.1.or ((fmtOf f.tb).encode (effMode f.rm s.bank.issueRnd) false (vtliValue f s i).1).2) := by
  rw [VtliFits, vtliKnots] at hn
  rw [vtliHead] at ha hp hn
  obtain ⟨h2, h2046, hlen⟩ := hn
  rw [vtliBody, if_neg (not_not.2 ha), if_neg (by omega), if_neg (not_readsPoison hp), if_neg]
  · rfl
  · simp only [Bool.or_eq_true, decide_eq_true_eq]
    omega

end

/-- Settles O28. -/
theorem tableResults : Obligations.TableResults := by
  intro f s h
  refine ⟨fun ha hr hp => ⟨_, exec_vtld h, ?_⟩, fun ha => ⟨_, exec_vtld h, ?_⟩, fun ha hr => ⟨_, exec_vtld h, ?_⟩,
    fun ha hr hp hl => ⟨_, exec_vtld h, ?_⟩,
    ⟨fun ha hn hr hp => ⟨_, exec_vtlu h, ?_⟩, fun ha => ⟨_, exec_vtlu h, ?_⟩, fun ha hr => ⟨_, exec_vtlu h, ?_⟩,
      fun i hi ha hr hon hlt hp => ⟨_, exec_vtlu h, ?_⟩⟩,
    fun ha h2 h2046 hlen hp hk => ⟨_, exec_vtli h, ?_⟩, fun ha => ⟨_, exec_vtli h, ?_⟩, fun ha hr => ⟨_, exec_vtli h, ?_⟩,
    fun ha hr hp hl => ⟨_, exec_vtli h, ?_⟩, fun i k hi hk ha h2 h2046 hlen hp => ⟨_, exec_vtli h, ?_⟩⟩
  · rw [vtldBody_clean ha hr hp]
    exact writesLanes_noFlags s f.d 8 (fun b => b.rdM f.msk) _
  · rw [vtldBody_misaligned ha]; exact trapped_takeTrap s _
  · rw [vtldBody_range ha hr]; exact trapped_takeTrap s _
  · rw [vtldBody_poison ha hr hp hl]; exact trapped_takeTrap s _
  · rw [vtluBody_clean ha hn hr hp]
    exact writesLanes_noFlags s f.d (laneBits f.tb) (fun _ => s.bank.rdM f.msk) _
  · rw [vtluBody_misaligned ha]; exact trapped_takeTrap s _
  · rw [vtluBody_range ha hr]; exact trapped_takeTrap s _
  · rw [vtluBody_poison hi ha hr hon hlt hp]; exact trapped_takeTrap s _
  · rw [vtliBody_fits ha ⟨h2, h2046, hlen⟩ hp, if_neg]
    · exact writesLanes s f.d (fmtOf f.tb).bits (fun _ => s.bank.rdM f.msk) _ _
    · intro hc
      obtain ⟨i, hi, k, hik, hpk⟩ := vtliKnotPoison_iff.1 hc
      exact Bool.false_ne_true ((hk i hi k hik).symm.trans hpk)
  · rw [vtliBody_misaligned ha]; exact trapped_takeTrap s _
  · by_cases hhead : s.bank.tblLen < vtliHead f s + 16
    · rw [vtliBody_range_head ha hhead]; exact trapped_takeTrap s _
    · obtain ⟨hp, hn⟩ := hr.resolve_left hhead
      have hfit : ¬VtliFits f s := fun ⟨h1, h2, h3⟩ => by
        rcases hn with hn | hn | hn
        · exact absurd hn (not_lt.2 h1)
        · exact absurd hn (not_lt.2 h2)
        · exact absurd hn (not_lt.2 h3)
      rw [vtliBody_range_knots ha (not_lt.1 hhead) hp hfit]; exact trapped_takeTrap s _
  · rw [vtliBody_poison_head ha hr hp hl]; exact trapped_takeTrap s _
  · have hfits : VtliFits f s := ⟨h2, h2046, hlen⟩
    by_cases hph : poisoned s (tableKey s (vtliHead f s)) 12 = true
    · have h16 : vtliHead f s + 16 ≤ s.bank.tblLen := Nat.le_trans (Nat.le_add_right _ _) hlen
      rw [vtliBody_poison_head ha h16 hph (List.ne_nil_of_mem hi)]; exact trapped_takeTrap s _
    · rw [vtliBody_fits ha hfits (Or.inl (by simpa using hph)), if_pos (vtliKnotPoison_iff.2 ⟨i, hi, k, hk, hp⟩)]
      exact trapped_takeTrap s _

end Sys2Proof.Machine
end

section
/-! PROOF. The select unit and the butterfly: the obligation SelectionResults. -/

namespace Sys2Proof.Machine

open Sys2Proof

/-! ### The select unit -/

/-- The core once its select unit has started an operation. -/
def selectCore (f : VRForm) (v : VWord) (fl : Fl) (ws : List (Nat × List Byte)) (s : State) (c : Core) : Core :=
  { c.modBank s.ctx.bank (fun b => b.raise fl) with
    sel := (c.modBank s.ctx.bank fun b => b.raise fl).sel ++ [⟨s.opId, s.ctx.bank, s.bank.task, f.d, v, ws⟩] }

theorem startSelect_eq (f : VRForm) (v : VWord) (fl : Fl) (ws : List (Nat × List Byte)) (s : State) :
    startSelect f v fl ws s = { s.modCore s.ctx.core (selectCore f v fl ws s) with opId := s.opId + 1 } := by
  rw [startSelect, State.modBank, State.modCore_modCore]
  rfl

theorem Core.sel_modBank (c : Core) (b : Bool) (f : Bank → Bank) : (c.modBank b f).sel = c.sel := by
  cases b <;> rfl

theorem bank_selectCore (f : VRForm) (v : VWord) (fl : Fl) (ws : List (Nat × List Byte)) (s : State) (c : Core) :
    (selectCore f v fl ws s c).bank s.ctx.bank = (c.bank s.ctx.bank).raise fl := by
  unfold selectCore
  generalize s.ctx.bank = z
  cases z <;> rfl

theorem selects_startSelect (f : VRForm) (v : VWord) (fl : Fl) (ws : List (Nat × List Byte)) (s : State) :
    Selects s (startSelect f v fl ws s) f.d v ws fl := by
  obtain ⟨t, ht⟩ : ∃ t, t = startSelect f v fl ws s := ⟨_, rfl⟩
  rw [← ht]
  rw [startSelect_eq] at ht
  have hcore : t.core s.ctx.core = selectCore f v fl ws s (s.core s.ctx.core) := by
    rw [ht]; exact State.core_modCore s _ _
  have hx : t.ctx = s.ctx := by rw [ht]; rfl
  have hbank : t.bank = s.bank.raise fl := by
    rw [State.bank, hx, hcore, bank_selectCore]; rfl
  refine ⟨by rw [ht]; rfl, by rw [ht]; exact SameMemory.refl s, fun c hc => ?_, ?_, hbank⟩
  · rw [ht]; exact State.core_modCore_ne s _ _ hc
  · rw [hcore, hbank, selectCore, Core.sel_modBank, State.bank]
    cases s.ctx.bank <;> rfl

/-! ### VTOPK -/

section
variable {f : VRForm} {s : State}

/-- A lane of the register that VTOPK gives: the threshold of an active column, −∞ beyond the columns. -/
theorem lane_dest (t : TopK) (mask : MWord) (old : VWord) (thr : Nat → Nat) {j : Nat} (hj : j < 32) :
    lane (t.dest mask old thr) j 32 =
      if laneOn mask 32 j = false then lane old j 32 else if j < t.cols then thr j % 2 ^ 32 else 0xFF800000 := by
  rw [TopK.dest, lane_buildLanes _ _ _ _ hj (by decide)]
  have hlane : lane old j 32 < 2 ^ 32 := Nat.mod_lt _ (by decide)
  cases laneOn mask 32 j
  · exact Nat.mod_eq_of_lt hlane
  · by_cases hc : j < t.cols
    · simp [hc]
    · simp [hc]

/-- With no active column the register holds −∞ in its active lanes. -/
theorem lane_dest_of_isEmpty {t : TopK} {mask : MWord} (he : (t.columns mask).isEmpty = true) (old : VWord) (thr : Nat → Nat) {j : Nat}
    (hj : j < 32) : lane (t.dest mask old thr) j 32 = if laneOn mask 32 j then 0xFF800000 else lane old j 32 := by
  rw [lane_dest t mask old thr hj]
  cases hon : laneOn mask 32 j
  · rfl
  · have hc : ¬j < t.cols := fun hc => by
      have hmem : j ∈ t.columns mask := List.mem_filter.2 ⟨List.mem_range.2 hj, by simp [hon, hc]⟩
      rw [List.isEmpty_iff.1 he] at hmem
      exact absurd hmem List.not_mem_nil
    simp [hc]

/-- The active columns of a VTOPK. -/
def topkCols (f : VRForm) (s : State) : List Nat := (topkOf f s.bank).columns (s.bank.rdM f.msk)

/-- The list that VTOPK writes for a column. -/
def topkCell (f : VRForm) (s : State) (c o j : Nat) : List Pair := (topkOf f s.bank).list ((topkOf f s.bank).column s c o j)

theorem topkBody_empty (he : (topkCols f s).isEmpty = true) : topkBody f s =
    startSelect f ((topkOf f s.bank).dest (s.bank.rdM f.msk) (s.bank.rdV f.d) fun j => lane (s.bank.rdV f.d) j 32) Fl.none [] s := if_pos he

theorem topkBody_error (he : (topkCols f s).isEmpty = false) {c : BitVec 8} (hc : (topkOf f s.bank).check s = .error c) :
    topkBody f s = takeTrap s c := by
  rw [topkCols] at he
  rw [topkBody]
  simp only [he, Bool.false_eq_true, if_false, hc]

/-- Some score of an active column is poisoned. -/
def topkPoison (f : VRForm) (s : State) (c o : Nat) : Bool :=
  (topkCols f s).any fun j => (List.range (topkOf f s.bank).rows).any fun r => poisoned s ((topkOf f s.bank).scoreKey c o r j) 4

theorem topkPoison_iff {c o : Nat} : topkPoison f s c o = true ↔
    ∃ j ∈ topkCols f s, ∃ r, r < (topkOf f s.bank).rows ∧ poisoned s ((topkOf f s.bank).scoreKey c o r j) 4 = true := by
  simp [topkPoison]

theorem topkBody_ok (he : (topkCols f s).isEmpty = false) {c o kb : Nat} (hc : (topkOf f s.bank).check s = .ok ((c, o), kb)) :
    topkBody f s = if topkPoison f s c o then takeTrap s causePoison
      else startSelect f ((topkOf f s.bank).dest (s.bank.rdM f.msk) (s.bank.rdV f.d)
          fun j => writtenScore ((topkCell f s c o j).getLastD Pair.unfilled).1)
        (Fl.all ((topkCols f s).map fun j => scoreFlags ((topkOf f s.bank).column s c o j)))
        ((topkCols f s).map fun j => (kb + 256 * j, (topkCell f s c o j).flatMap pairBytes)) s := by
  rw [topkCols] at he
  rw [topkBody]
  simp only [he, Bool.false_eq_true, if_false, hc]
  rfl

end

/-! ### VHAD -/

/-- One stage, its lanes and the flags so far. -/
def hadStep (x : List Nat × Fl) (i : Nat) : List Nat × Fl :=
  ((hadStage (2 ^ i) x.1).map fun p => p.1, x.2.or (Fl.all ((hadStage (2 ^ i) x.1).map fun p => p.2)))

/-- The scaling that ends a butterfly of `st` stages. -/
def hadScale (st x : Nat) : Nat × Fl := FFmt.f32.encode .rne false ((FFmt.f32.decode x).scale (-((st / 2 : Nat) : Int)))

theorem length_hadStage (h : Nat) (xs : List Nat) : (hadStage h xs).length = xs.length := by
  rw [hadStage, List.length_map, List.length_range]

theorem length_hadStep_foldl (l : List Nat) (x : List Nat × Fl) : (l.foldl hadStep x).1.length = x.1.length := by
  induction l generalizing x with
  | nil => rfl
  | cons i r ih => rw [List.foldl_cons, ih, hadStep, List.length_map, length_hadStage]

/-- The stages from stage `i` on, then the scaling. -/
theorem hadStages_eq (n i st : Nat) (x : List Nat × Fl) : hadStages n (2 ^ i) st x.1 x.2 =
    ((((List.range' i n).foldl hadStep x).1.map (hadScale st)).map (fun p => p.1),
      ((List.range' i n).foldl hadStep x).2.or (Fl.all ((((List.range' i n).foldl hadStep x).1.map (hadScale st)).map fun p => p.2))) := by
  induction n generalizing i x with
  | zero => rfl
  | succ n ih =>
    rw [hadStages, show 2 * 2 ^ i = 2 ^ (i + 1) by rw [pow_succ, mul_comm]]
    exact ih (i + 1) (hadStep x i)

theorem map_eq_map_range {α : Type} (g : Nat → α) (l : List Nat) : l.map g = (List.range l.length).map fun i => g (l.getD i 0) := by
  apply List.ext_getElem
  · simp
  · intro i h1 h2
    simp [List.getD_eq_getElem?_getD, List.getElem?_eq_getElem (by simpa using h1 : i < l.length)]

theorem length_lanes32 (n : Nat) (g : Nat → Nat → Nat) : ((List.range n).flatMap fun q => (List.range 32).map fun i => g q i).length = 32 * n := by
  simp [List.length_flatMap, Nat.mul_comm]

theorem Bank.wrV_eq (k : Bank) (d : BitVec 5) (v : VWord) : k.wrV d v = { k with v := (k.wrV d v).v } := rfl

/-- A run of registers from `d` on, written one after the other. -/
def wrRun (d : BitVec 5) (g : Nat → VWord) (n : Nat) (b : Bank) : Bank := (List.range n).foldl (fun b q => b.wrV (d + BitVec.ofNat 5 q) (g q)) b

theorem wrRun_succ (d : BitVec 5) (g : Nat → VWord) (n : Nat) (b : Bank) :
    wrRun d g (n + 1) b = (wrRun d g n b).wrV (d + BitVec.ofNat 5 n) (g n) := by
  rw [wrRun, List.range_succ, List.foldl_append]
  rfl

/-- The registers of a run take their values and every other register stays. -/
theorem wrRun_spec (d : BitVec 5) (g : Nat → VWord) (n : Nat) (hn : n ≤ 32) (b : Bank) :
    (∀ q, q < n → (wrRun d g n b).rdV (d + BitVec.ofNat 5 q) = g q) ∧
      (∀ r, (∀ q, q < n → r ≠ d + BitVec.ofNat 5 q) → (wrRun d g n b).rdV r = b.rdV r) ∧ wrRun d g n b = { b with v := (wrRun d g n b).v } := by
  induction n with
  | zero => exact ⟨fun q hq => absurd hq (Nat.not_lt_zero q), fun _ _ => rfl, rfl⟩
  | succ n ih =>
    obtain ⟨h1, h2, h3⟩ := ih (by omega)
    rw [wrRun_succ]
    refine ⟨fun q hq => ?_, fun r hr => ?_, ?_⟩
    · rw [Bank.rdV_wrV]
      rcases Nat.lt_succ_iff_lt_or_eq.1 hq with hq | rfl
      · have hne : d + BitVec.ofNat 5 q ≠ d + BitVec.ofNat 5 n := fun e => by
          have : (BitVec.ofNat 5 q).toNat = (BitVec.ofNat 5 n).toNat := congrArg _ ((BitVec.add_right_inj d).1 e)
          simp only [BitVec.toNat_ofNat] at this
          omega
        rw [if_neg hne, h1 q hq]
      · rw [if_pos rfl]
    · rw [Bank.rdV_wrV, if_neg (hr n (by omega)), h2 r fun q hq => hr q (by omega)]
    · rw [Bank.wrV_eq]
      generalize wrRun d g n b = t at h3 ⊢
      rw [h3]

/-- The block of lanes that VHAD reads. -/
def hadBlock (f : VRForm) (b : Bank) : List Nat :=
  (List.range (2 ^ (f.imm.toNat - 5))).flatMap fun q => (List.range 32).map fun i => lane (b.rdV (f.a + BitVec.ofNat 5 q)) i 32

/-- The lanes and flags after the stages of a VHAD. -/
def hadLanes (f : VRForm) (b : Bank) : List Nat × Fl := (List.range f.imm.toNat).foldl hadStep (hadBlock f b, Fl.none)

theorem hadStages_block (f : VRForm) (b : Bank) : hadStages f.imm.toNat 1 f.imm.toNat (hadBlock f b) Fl.none =
    ((List.range (32 * 2 ^ (f.imm.toNat - 5))).map (fun i => (hadScale f.imm.toNat ((hadLanes f b).1.getD i 0)).1),
      (hadLanes f b).2.or (Fl.all ((List.range (32 * 2 ^ (f.imm.toNat - 5))).map fun i => (hadScale f.imm.toNat ((hadLanes f b).1.getD i 0)).2))) := by
  have hlen : (hadLanes f b).1.length = 32 * 2 ^ (f.imm.toNat - 5) := by
    rw [hadLanes, length_hadStep_foldl]
    exact length_lanes32 _ _
  have h := hadStages_eq f.imm.toNat 0 f.imm.toNat (hadBlock f b, Fl.none)
  rw [← List.range_eq_range', show (List.range f.imm.toNat).foldl hadStep (hadBlock f b, Fl.none) = hadLanes f b from rfl,
    map_eq_map_range (hadScale f.imm.toNat) (hadLanes f b).1, hlen, List.map_map, List.map_map] at h
  exact h

/-- The registers that a VHAD writes. -/
def hadRegs (f : VRForm) (b : Bank) : Bank :=
  wrRun f.d (fun q => buildLanes 32 32 fun i => (hadStages f.imm.toNat 1 f.imm.toNat (hadBlock f b) Fl.none).1.getD (32 * q + i) 0)
    (2 ^ (f.imm.toNat - 5)) b

/-- The bank after a VHAD. -/
def hadBank (f : VRForm) (b : Bank) : Bank := (hadRegs f b).raise (hadStages f.imm.toNat 1 f.imm.toNat (hadBlock f b) Fl.none).2

theorem exec_vhad {f : VRForm} {s : State} (h : guardTrue f.g s.bank = true) : exec (.vhad f) s = .next (s.modBank (hadBank f)) :=
  show execVhad f s = _ from guarded_of_true _ h

theorem hadBank_spec (f : VRForm) (b : Bank) (hst : f.imm.toNat ≤ 8) :
    let n := 2 ^ (f.imm.toNat - 5)
    let z := fun i => hadScale f.imm.toNat ((hadLanes f b).1.getD i 0)
    hadBank f b = { b with v := (hadBank f b).v, flags := (hadBank f b).flags } ∧
      (hadBank f b).flags = b.flags ||| ((hadLanes f b).2.or (Fl.all ((List.range (32 * n)).map fun i => (z i).2))).bits ∧
      (∀ q i, q < n → i < 32 → lane ((hadBank f b).rdV (f.d + BitVec.ofNat 5 q)) i 32 = (z (32 * q + i)).1 % 2 ^ 32) ∧
      ∀ r, (∀ q, q < n → r ≠ f.d + BitVec.ofNat 5 q) → (hadBank f b).rdV r = b.rdV r := by
  intro n z
  have hn : n ≤ 32 := Nat.le_trans (Nat.pow_le_pow_right (by decide) (by omega : f.imm.toNat - 5 ≤ 3)) (by decide)
  obtain ⟨h1, h2, h3⟩ := wrRun_spec f.d (fun q => buildLanes 32 32 fun i =>
    (hadStages f.imm.toNat 1 f.imm.toNat (hadBlock f b) Fl.none).1.getD (32 * q + i) 0) n hn b
  rw [show wrRun f.d _ n b = hadRegs f b from rfl] at h3
  refine ⟨?_, ?_, fun q i hq hi => ?_, fun r hr => h2 r hr⟩
  · rw [hadBank, Bank.raise]
    generalize hadRegs f b = t at h3 ⊢
    rw [h3]
  · rw [hadBank, Bank.raise, h3, hadStages_block]
  · have hlt : 32 * q + i < 32 * n := by omega
    refine (congrArg (fun v => lane v i 32) (h1 q hq)).trans ?_
    rw [lane_buildLanes _ _ _ _ hi (by decide), hadStages_block, List.getD_eq_getElem?_getD, List.getElem?_map,
      show (List.range (32 * 2 ^ (f.imm.toNat - 5)))[32 * q + i]? = some (32 * q + i) from List.getElem?_range hlt]
    rfl

/-- Settles O29. -/
theorem selectionResults : Obligations.SelectionResults := by
  intro f s h
  have hex : exec (.vtopk f) s = .next (topkBody f s) := show execVtopk f s = _ from guarded_of_true _ h
  refine ⟨⟨_, show execVmergek f s = _ from guarded_of_true _ h, selects_startSelect f _ _ _ s⟩, fun k xs j hj => ⟨length_hadStage k xs, ?_⟩,
    fun _ hst => ?_, fun he => ⟨_, _, hex, ?_, fun j hj =>
      lane_dest_of_isEmpty he (s.bank.rdV f.d) (fun j => lane (s.bank.rdV f.d) j 32) hj⟩,
    fun c o kb he hc hp => ⟨_, _, hex, ?_, fun j hj =>
      lane_dest _ _ _ (fun j => writtenScore ((topkCell f s c o j).getLastD Pair.unfilled).1) hj⟩, fun c he hc => ⟨_, hex, ?_⟩,
    fun c o kb j r hc hj hr hp => ⟨_, hex, ?_⟩⟩
  · rw [hadStage, List.getElem?_map, List.getElem?_range hj]
    rfl
  · obtain ⟨hb, hfl, hv, hr⟩ := hadBank_spec f s.bank hst
    refine ⟨_, exec_vhad h, onlyBank_modBank s _, ?_, ?_, ?_, ?_⟩ <;> rw [State.bank_modBank]
    exacts [hb, hfl, hv, hr]
  · rw [topkBody_empty he]
    exact selects_startSelect f _ _ _ s
  · have hclean : ¬topkPoison f s c o = true := fun hc => by
      obtain ⟨j, hj, r, hr, hpr⟩ := topkPoison_iff.1 hc
      exact Bool.false_ne_true ((hp j hj r hr).symm.trans hpr)
    rw [topkBody_ok he hc, if_neg hclean]
    exact selects_startSelect f _ _ _ s
  · rw [topkBody_error he hc]
    exact trapped_takeTrap s c
  · have he : (topkCols f s).isEmpty = false := List.isEmpty_eq_false_iff.2 (List.ne_nil_of_mem hj)
    rw [topkBody_ok he hc, if_pos (topkPoison_iff.2 ⟨j, hj, r, hr, hp⟩)]
    exact trapped_takeTrap s _

end Sys2Proof.Machine
end

section
/-! PROOF. Vector memory accesses: the obligations VectorLoadsComplete, VectorStoresComplete and VectorAccessesTrap. -/

namespace Sys2Proof.Machine

open Sys2Proof

/-! ### An access, case by case -/

section
variable {f : VMForm} {s : State} {align size : Nat} {whole reads : Bool} {es : List Elem} {act : List (Nat × Nat) → State → State}

theorem vAccess_of_ok {ks : List (Nat × Nat)} (hk : elemKeys s (s.bank.rdA f.ar).swizzle align (vmLa f s.bank) whole es = .ok ks)
    (hp : reads = true → ∀ k ∈ ks, poisoned s k.2 size = false) :
    vAccess f align whole reads size es act s = postInc f (act ks s) := by
  have hclean : ¬(reads && ks.any fun k => poisoned s k.2 size) = true := fun hc => by
    obtain ⟨hr, ha⟩ := (Bool.and_eq_true _ _).mp hc
    obtain ⟨k, hmem, hpk⟩ := List.any_eq_true.1 ha
    exact Bool.false_ne_true ((hp hr k hmem).symm.trans hpk)
  rw [vAccess, hk]
  exact if_neg hclean

theorem vAccess_of_error {c : BitVec 8} (hk : elemKeys s (s.bank.rdA f.ar).swizzle align (vmLa f s.bank) whole es = .error c) :
    vAccess f align whole reads size es act s = takeSlotTrap s c := by
  rw [vAccess, hk]

end

theorem pickElem_map (l : List Nat) (k i : Nat) : pickElem (l.map fun j => (j, k)) i = if i ∈ l then some k else none := by
  induction l with
  | nil => rfl
  | cons j r ih =>
    by_cases h : j = i
    · subst h
      simp [pickElem]
    · have hm : i ∈ j :: r ↔ i ∈ r := by simp [Ne.symm h]
      rw [if_congr hm rfl rfl, ← ih]
      simp [pickElem, h]

/-! ### The post-increment -/

/-- The bank after a post-increment. -/
def incA (f : VMForm) (b : Bank) : Bank := if f.pi then b.wrA f.ar ((b.rdA f.ar).step (b.rdA f.ar).stride.toInt) else b

theorem postInc_modBank (f : VMForm) (s : State) (g : Bank → Bank) : postInc f (s.modBank g) = s.modBank fun b => incA f (g b) := by
  unfold postInc incA
  cases f.pi
  · rfl
  · exact State.modBank_modBank s _ _

theorem rdA_incA (f : VMForm) (b : Bank) (r : BitVec 3) :
    (incA f b).rdA r = if f.pi = true ∧ r = f.ar then (b.rdA r).step (b.rdA r).stride.toInt else b.rdA r := by
  unfold incA
  cases hpi : f.pi
  · simp
  · rw [if_pos rfl, Bank.rdA_wrA]
    by_cases h : r = f.ar
    · subst h; simp
    · simp [h]

theorem incA_eq (f : VMForm) (b : Bank) : incA f b = { b with a := (incA f b).a } := by
  unfold incA
  cases f.pi <;> rfl

theorem rdV_incA (f : VMForm) (b : Bank) (r : BitVec 5) : (incA f b).rdV r = b.rdV r := by
  unfold incA
  cases f.pi <;> rfl

/-- A post-increment alone steps the address register, where it has one to step. -/
theorem postInc_spec (f : VMForm) (s : State) : OnlyBank s (postInc f s) ∧ (postInc f s).bank = incA f s.bank := by
  unfold postInc incA
  cases f.pi
  · exact ⟨onlyBank_refl s, rfl⟩
  · exact ⟨onlyBank_modBank s _, State.bank_modBank s _⟩

/-! ### Loads -/

/-- The register that a load gives. -/
def loadedReg (s : State) (size : Nat) (ks : List (Nat × Nat)) (old : VWord) : VWord :=
  buildLanes (128 / size) (8 * size) fun i => match pickElem ks i with
    | some k => readNat s k size
    | none => lane old i (8 * size)

theorem lane_loadedReg (s : State) (size : Nat) (ks : List (Nat × Nat)) (old : VWord) {i : Nat} (hi : i < 128 / size) :
    lane (loadedReg s size ks old) i (8 * size) = match pickElem ks i with
      | some k => readNat s k size % 2 ^ (8 * size)
      | none => lane old i (8 * size) := by
  have hw : 8 * size * (128 / size) ≤ 1024 := by
    have := Nat.mul_div_le 128 size
    rw [Nat.mul_assoc]
    omega
  rw [loadedReg, lane_buildLanes _ _ _ _ hi hw]
  cases pickElem ks i with
  | none => exact Nat.mod_eq_of_lt (Nat.mod_lt _ (Nat.two_pow_pos _))
  | some k => rfl

/-- What a load with its post-increment leaves in the bank. -/
theorem postInc_loadElems (f : VMForm) (size : Nat) (ks : List (Nat × Nat)) (s : State) :
    let t := postInc f (loadElems f size ks s)
    OnlyBank s t ∧ t.bank = { s.bank with v := t.bank.v, a := t.bank.a } ∧ (∀ r, r ≠ f.d → t.bank.rdV r = s.bank.rdV r) ∧
      (∀ i, i < 128 / size → lane (t.bank.rdV f.d) i (8 * size) = match pickElem ks i with
        | some k => readNat s k size % 2 ^ (8 * size)
        | none => lane (s.bank.rdV f.d) i (8 * size)) ∧
      ∀ r, t.bank.rdA r = if f.pi = true ∧ r = f.ar then (s.bank.rdA r).step (s.bank.rdA r).stride.toInt else s.bank.rdA r := by
  intro t
  have ht : t = s.modBank fun b => incA f (b.wrV f.d (loadedReg s size ks (b.rdV f.d))) := postInc_modBank f s _
  have hb : t.bank = incA f (s.bank.wrV f.d (loadedReg s size ks (s.bank.rdV f.d))) := by rw [ht, State.bank_modBank]
  have hv : ∀ r, t.bank.rdV r = if r = f.d then loadedReg s size ks (s.bank.rdV f.d) else s.bank.rdV r := fun r => by
    rw [hb, rdV_incA, Bank.rdV_wrV]
  refine ⟨by rw [ht]; exact onlyBank_modBank s _, ?_, fun r hr => by rw [hv, if_neg hr], fun i hi => ?_, fun r => ?_⟩
  · rw [hb, incA_eq]
    rfl
  · rw [hv, if_pos rfl]
    exact lane_loadedReg s size ks _ hi
  · rw [hb, rdA_incA]
    rfl

theorem vldsEmpty_eq_false {f : VMForm} {s : State} {ks : List (Nat × Nat)}
    (hk : elemKeys s (s.bank.rdA f.ar).swizzle 128 (vmLa f s.bank) true (rowElems f s.bank) = .ok ks)
    (hfull : ∀ k ∈ ks, isFull s (wordKey k.2) = true) : vldsEmpty f s = false := by
  rw [vldsEmpty, hk]
  simpa [watchedFull] using hfull

/-- The words that a VLDS reads become empty with E. -/
def vldsAct (f : VMForm) (ks : List (Nat × Nat)) (s : State) : State :=
  if f.e then setEmpty (loadElems f 1 ks s) (ks.map fun k => wordKey k.2) else loadElems f 1 ks s

theorem exec_vlds {f : VMForm} {s : State} (h : guardTrue f.g s.bank = true) : exec (.vlds f) s =
    .next (if vldsEmpty f s then pauseSlot s else vAccess f 128 true true 1 (rowElems f s.bank) (vldsAct f) s) :=
  show execVlds f s = _ from guarded_of_true _ h

theorem postInc_vldsAct (f : VMForm) (ks : List (Nat × Nat)) (s : State) : postInc f (vldsAct f ks s) =
    if f.e then setEmpty (postInc f (loadElems f 1 ks s)) (ks.map fun k => wordKey k.2) else postInc f (loadElems f 1 ks s) := by
  unfold vldsAct postInc
  cases f.e <;> cases f.pi <;> rfl

/-- A load that is no VLDS and finds no poison. -/
theorem load_completes {i : VMForm → Instr} {f : VMForm} {s : State} {align size : Nat} {whole : Bool} {es : List Elem} {ks : List (Nat × Nat)}
    (hex : exec (i f) s = .next (vAccess f align whole true size es (loadElems f size) s)) (hi : i f ≠ .vlds f)
    (hk : elemKeys s (s.bank.rdA f.ar).swizzle align (vmLa f s.bank) whole es = .ok ks) (hp : ∀ k ∈ ks, poisoned s k.2 size = false) :
    ∃ t, exec (i f) s = .next t ∧ OnlyBank s { t with full := s.full } ∧ t.bank = { s.bank with v := t.bank.v, a := t.bank.a } ∧
      (∀ r, r ≠ f.d → t.bank.rdV r = s.bank.rdV r) ∧
      (∀ i, i < 128 / size → lane (t.bank.rdV f.d) i (8 * size) = match pickElem ks i with
        | some k => readNat s k size % 2 ^ (8 * size)
        | none => lane (s.bank.rdV f.d) i (8 * size)) ∧
      (∀ r, t.bank.rdA r = if f.pi = true ∧ r = f.ar then (s.bank.rdA r).step (s.bank.rdA r).stride.toInt else s.bank.rdA r) ∧
      ∀ w, w ∈ t.full ↔ w ∈ s.full ∧ ¬(i f = .vlds f ∧ f.e = true ∧ ∃ k ∈ ks, w = wordKey k.2) := by
  obtain ⟨ho, hb, hv, hl, ha⟩ := postInc_loadElems f size ks s
  have hfull : (postInc f (loadElems f size ks s)).full = s.full := ho.2.2.2.2.1
  refine ⟨_, hex.trans (congrArg _ (vAccess_of_ok hk fun _ => hp)), ?_, hb, hv, hl, ha, fun w => ?_⟩
  · rw [← hfull]; exact ho
  · rw [hfull]
    simp [hi]

/-- VLDS where every watched word is full. -/
theorem vlds_completes {f : VMForm} {s : State} {ks : List (Nat × Nat)} (h : guardTrue f.g s.bank = true)
    (hk : elemKeys s (s.bank.rdA f.ar).swizzle 128 (vmLa f s.bank) true (rowElems f s.bank) = .ok ks)
    (hp : ∀ k ∈ ks, poisoned s k.2 1 = false) (hfull : ∀ k ∈ ks, isFull s (wordKey k.2) = true) :
    ∃ t, exec (.vlds f) s = .next t ∧ OnlyBank s { t with full := s.full } ∧ t.bank = { s.bank with v := t.bank.v, a := t.bank.a } ∧
      (∀ r, r ≠ f.d → t.bank.rdV r = s.bank.rdV r) ∧
      (∀ i, i < 128 / 1 → lane (t.bank.rdV f.d) i (8 * 1) = match pickElem ks i with
        | some k => readNat s k 1 % 2 ^ (8 * 1)
        | none => lane (s.bank.rdV f.d) i (8 * 1)) ∧
      (∀ r, t.bank.rdA r = if f.pi = true ∧ r = f.ar then (s.bank.rdA r).step (s.bank.rdA r).stride.toInt else s.bank.rdA r) ∧
      ∀ w, w ∈ t.full ↔ w ∈ s.full ∧ ¬(Instr.vlds f = .vlds f ∧ f.e = true ∧ ∃ k ∈ ks, w = wordKey k.2) := by
  obtain ⟨ho, hb, hv, hl, ha⟩ := postInc_loadElems f 1 ks s
  have hf : (postInc f (loadElems f 1 ks s)).full = s.full := ho.2.2.2.2.1
  have hex : exec (.vlds f) s = .next (postInc f (vldsAct f ks s)) := by
    rw [exec_vlds h, vldsEmpty_eq_false hk hfull, vAccess_of_ok hk fun _ => hp]
    rfl
  refine ⟨_, hex, ?_⟩
  rw [postInc_vldsAct]
  cases he : f.e
  · refine ⟨by rw [← hf]; exact ho, hb, hv, hl, ha, fun w => ?_⟩
    rw [if_neg (by decide), hf]
    simp
  · refine ⟨?_, hb, hv, hl, ha, fun w => ?_⟩
    · rw [← hf]; exact ho
    · rw [if_pos rfl, setEmpty, hf, mem_foldl_sdel]
      simp [and_comm, eq_comm]

theorem elemKeys_one (s : State) (sw : Bool) (align la : Nat) : elemKeys s sw align la false [(0, 0)] =
    match elemKey s sw align la with
    | .error c => .error c
    | .ok k => .ok [(0, k)] := rfl

/-- The active lanes of a VLDB. -/
def vldbLanes (f : VMForm) (b : Bank) : List Nat := activeLanes (b.rdM f.msk) (8 * eszBytes f.esz)

/-- VLDB: one element for every active lane. -/
def vldbBody (f : VMForm) (s : State) : State :=
  let sz := eszBytes f.esz
  let on := activeLanes (s.bank.rdM f.msk) (8 * sz)
  vAccess f sz false true sz (if on.isEmpty then [] else [(0, 0)]) (fun ks s =>
    match ks with
    | [] => s
    | k :: _ => loadElems f sz (on.map fun i => (i, k.2)) s) s

theorem execVldb_eq (f : VMForm) (s : State) : execVldb f s = guarded f.g s (vldbBody f) := rfl

theorem exec_vldb {f : VMForm} {s : State} (h : guardTrue f.g s.bank = true) : exec (.vldb f) s = .next (vldbBody f s) := by
  have he : exec (.vldb f) s = execVldb f s := by rfl
  rw [he, execVldb_eq, guarded_of_true _ h]

theorem vldbBody_none {f : VMForm} {s : State} (hl : vldbLanes f s.bank = []) : vldbBody f s = postInc f s := by
  rw [vldbLanes] at hl
  rw [vldbBody]
  rw [hl, List.isEmpty_nil, if_pos rfl]
  exact vAccess_of_ok (ks := []) rfl fun _ _ hk => absurd hk List.not_mem_nil

section
variable {f : VMForm} {s : State} (hl : vldbLanes f s.bank ≠ [])
include hl

theorem vldbBody_ok {k : Nat} (hk : elemKey s (s.bank.rdA f.ar).swizzle (eszBytes f.esz) (vmLa f s.bank) = .ok k)
    (hp : poisoned s k (eszBytes f.esz) = false) :
    vldbBody f s = postInc f (loadElems f (eszBytes f.esz) ((vldbLanes f s.bank).map fun i => (i, k)) s) := by
  have hks : elemKeys s (s.bank.rdA f.ar).swizzle (eszBytes f.esz) (vmLa f s.bank) false [(0, 0)] = .ok [(0, k)] := by
    rw [elemKeys_one, hk]
  rw [vldbLanes] at hl
  rw [vldbBody]
  rw [List.isEmpty_eq_false_iff.2 hl, if_neg (by decide)]
  exact vAccess_of_ok hks fun _ => by simpa using hp

end

theorem vldb_completes {f : VMForm} {s : State} {k : Nat} (h : guardTrue f.g s.bank = true)
    (hk : vldbLanes f s.bank ≠ [] → elemKey s (s.bank.rdA f.ar).swizzle (eszBytes f.esz) (vmLa f s.bank) = .ok k ∧
      poisoned s k (eszBytes f.esz) = false) :
    ∃ t, exec (.vldb f) s = .next t ∧ OnlyBank s t ∧ t.bank = { s.bank with v := t.bank.v, a := t.bank.a } ∧
      (∀ r, r ≠ f.d → t.bank.rdV r = s.bank.rdV r) ∧
      (∀ i, i < 128 / eszBytes f.esz → lane (t.bank.rdV f.d) i (8 * eszBytes f.esz) =
        if i ∈ vldbLanes f s.bank then readNat s k (eszBytes f.esz) % 2 ^ (8 * eszBytes f.esz) else lane (s.bank.rdV f.d) i (8 * eszBytes f.esz)) ∧
      ∀ r, t.bank.rdA r = if f.pi = true ∧ r = f.ar then (s.bank.rdA r).step (s.bank.rdA r).stride.toInt else s.bank.rdA r := by
  rw [exec_vldb h]
  by_cases hl : vldbLanes f s.bank = []
  · obtain ⟨ho, hb⟩ := postInc_spec f s
    rw [vldbBody_none hl]
    refine ⟨_, rfl, ho, ?_, fun r _ => ?_, fun i _ => ?_, fun r => ?_⟩
    · rw [hb, incA_eq]
    · rw [hb, rdV_incA]
    · rw [hb, rdV_incA, hl, if_neg List.not_mem_nil]
    · rw [hb, rdA_incA]
  · obtain ⟨he, hp⟩ := hk hl
    obtain ⟨ho, hb, hv, hln, ha⟩ := postInc_loadElems f (eszBytes f.esz) ((vldbLanes f s.bank).map fun i => (i, k)) s
    rw [vldbBody_ok hl he hp]
    refine ⟨_, rfl, ho, hb, hv, fun i hi => (hln i hi).trans ?_, ha⟩
    rw [pickElem_map]
    by_cases hi : i ∈ vldbLanes f s.bank
    · rw [if_pos hi, if_pos hi]
    · rw [if_neg hi, if_neg hi]

/-- Settles O31. -/
theorem vectorLoadsComplete : Obligations.VectorLoadsComplete := by
  intro f s h
  refine ⟨?_, fun k hk => vldb_completes h hk⟩
  refine List.forall_mem_cons.2 ⟨fun ks hk hp _ => ?_, List.forall_mem_cons.2 ⟨fun ks hk hp hfull => vlds_completes h hk hp (hfull rfl),
    List.forall_mem_cons.2 ⟨fun ks hk hp _ => ?_, List.forall_mem_cons.2 ⟨fun ks hk hp _ => ?_, fun _ h => absurd h List.not_mem_nil⟩⟩⟩⟩
  · exact load_completes (i := .vld) (show execVld f s = _ from guarded_of_true _ h) (by simp) hk hp
  · exact load_completes (i := .vldt) (show execVldt f s = _ from guarded_of_true _ h) (by simp) hk hp
  · exact load_completes (i := .vgath) (show execVgath f s = _ from guarded_of_true _ h) (by simp) hk hp

end Sys2Proof.Machine
end

section
/-! PROOF. Vector stores, and a load that waits instead of trapping: the obligations VectorStoresComplete and VectorAccessesTrap. -/

namespace Sys2Proof.Machine

open Sys2Proof

/-! ### Stores -/

/-- Memory after the stores of a list of elements, in order. -/
def storedMem (v : VWord) (size : Nat) (ks : List (Nat × Nat)) (m : List Host.Cell) : List Host.Cell :=
  ks.foldl (fun m k => Memory.setBytes m k.2 (leBytes size (lane v k.1 (8 * size)))) m

theorem storeElems_eq (f : VMForm) (size : Nat) (ks : List (Nat × Nat)) (s : State) : storeElems f size ks s =
    clearPoison { s with mem := storedMem (s.bank.rdV f.d) size ks s.mem }
      (coveredWords (ks.flatMap fun k => (List.range size).map fun j => k.2 + j)) := by
  have hfold : ∀ (v : VWord) (t : State), ks.foldl (fun s k => writeBytes s k.2 (leBytes size (lane v k.1 (8 * size)))) t =
      { t with mem := storedMem v size ks t.mem } := fun v => by
    induction ks with
    | nil => exact fun _ => rfl
    | cons k r ih => exact fun t => ih _
  rw [storeElems, hfold]

/-- A byte outside every element keeps its value. -/
theorem get_storedMem_outside (v : VWord) (size : Nat) (ks : List (Nat × Nat)) (m : List Host.Cell) (a : Nat)
    (h : ∀ k ∈ ks, a < k.2 ∨ k.2 + size ≤ a) : Memory.get (storedMem v size ks m) a = Memory.get m a := by
  induction ks generalizing m with
  | nil => rfl
  | cons k r ih =>
    refine (ih _ fun k hk => h k (List.mem_cons_of_mem _ hk)).trans (Memory.get_setBytes_outside _ _ _ _ ?_)
    rw [length_leBytes]
    exact h k List.mem_cons_self

theorem wordKey_mod (x : Nat) : wordKey x % 4 = 0 := Nat.mul_mod_left _ _

theorem wordKey_of_mod {w : Nat} (h : w % 4 = 0) : wordKey w = w := by
  unfold wordKey
  omega

theorem mem_elemBytes {size a : Nat} {ks : List (Nat × Nat)} :
    a ∈ (ks.flatMap fun k => (List.range size).map fun j => k.2 + j) ↔ ∃ k ∈ ks, k.2 ≤ a ∧ a < k.2 + size := by
  simp only [List.mem_flatMap, List.mem_map, List.mem_range]
  refine exists_congr fun k => and_congr_right fun _ => ⟨?_, fun ⟨h1, h2⟩ => ⟨a - k.2, by omega, by omega⟩⟩
  rintro ⟨j, hj, rfl⟩
  omega

/-- The words that the elements write whole. -/
theorem mem_coveredWords {size w : Nat} {ks : List (Nat × Nat)} :
    w ∈ coveredWords (ks.flatMap fun k => (List.range size).map fun j => k.2 + j) ↔
      w % 4 = 0 ∧ ∀ i, i < 4 → ∃ k ∈ ks, k.2 ≤ w + i ∧ w + i < k.2 + size := by
  have hbytes : (List.range 4).all (fun i => (ks.flatMap fun k => (List.range size).map fun j => k.2 + j).contains (w + i)) = true ↔
      ∀ i, i < 4 → ∃ k ∈ ks, k.2 ≤ w + i ∧ w + i < k.2 + size := by
    simp only [List.all_eq_true, List.mem_range, List.contains_iff_mem, mem_elemBytes]
  rw [coveredWords, List.mem_filter, hbytes, List.mem_dedup, List.mem_map]
  refine and_congr_left fun h => ⟨?_, fun hw => ⟨w, mem_elemBytes.2 (h 0 (by decide)), wordKey_of_mod hw⟩⟩
  rintro ⟨x, -, rfl⟩
  exact wordKey_mod x

/-- A store whose elements are all aligned and in range. -/
theorem store_completes {i : Instr} {f : VMForm} {s : State} {align size : Nat} {whole : Bool} {es : List Elem} {ks : List (Nat × Nat)}
    (hex : exec i s = .next (vAccess f align whole false size es (storeElems f size) s))
    (hk : elemKeys s (s.bank.rdA f.ar).swizzle align (vmLa f s.bank) whole es = .ok ks) :
    ∃ t, exec i s = .next t ∧ t.mem = storedMem (s.bank.rdV f.d) size ks s.mem ∧
      (∀ a, (∀ k ∈ ks, a < k.2 ∨ k.2 + size ≤ a) → Memory.get t.mem a = Memory.get s.mem a) ∧
      (∀ w, w ∈ t.poison ↔ w ∈ s.poison ∧ ¬(w % 4 = 0 ∧ ∀ i, i < 4 → ∃ k ∈ ks, k.2 ≤ w + i ∧ w + i < k.2 + size)) ∧
      t.full = s.full ∧ t.bank = { s.bank with a := t.bank.a } ∧
      (∀ r, t.bank.rdA r = if f.pi = true ∧ r = f.ar then (s.bank.rdA r).step (s.bank.rdA r).stride.toInt else s.bank.rdA r) ∧
      OnlyBank s { t with mem := s.mem, poison := s.poison } := by
  have hstate : postInc f (storeElems f size ks s) = { postInc f s with
      mem := storedMem (s.bank.rdV f.d) size ks s.mem
      poison := (coveredWords (ks.flatMap fun k => (List.range size).map fun j => k.2 + j)).foldl sdel s.poison } := by
    rw [storeElems_eq]
    unfold postInc
    cases f.pi <;> rfl
  obtain ⟨ho, hb⟩ := postInc_spec f s
  have hmem : (postInc f s).mem = s.mem := by rw [ho.1]
  have hpsn : (postInc f s).poison = s.poison := by rw [ho.1]
  refine ⟨_, hex.trans (congrArg _ ((vAccess_of_ok hk fun h => absurd h (by decide)).trans hstate)), rfl,
    fun a ha => get_storedMem_outside _ _ _ _ _ ha, fun w => ?_, by rw [ho.1], ?_, fun r => ?_, ?_⟩
  · dsimp only
    rw [mem_foldl_sdel, mem_coveredWords, and_comm]
  · exact hb.trans ((incA_eq f s.bank).trans (by rw [← hb]; rfl))
  · exact (congrArg (fun b => Bank.rdA b r) hb).trans (rdA_incA f s.bank r)
  · rw [← hmem, ← hpsn]
    exact ho

/-- Settles O32. -/
theorem vectorStoresComplete : Obligations.VectorStoresComplete := by
  intro f s h
  refine List.forall_mem_cons.2 ⟨fun ks hk => ?_, List.forall_mem_cons.2 ⟨fun ks hk => ?_, List.forall_mem_cons.2 ⟨fun ks hk => ?_,
    fun _ h => absurd h List.not_mem_nil⟩⟩⟩
  · exact store_completes (show execVst f s = _ from guarded_of_true _ h) hk
  · exact store_completes (show execVstt f s = _ from guarded_of_true _ h) hk
  · exact store_completes (show execVscat f s = _ from guarded_of_true _ h) hk

/-! ### A VLDS that waits -/

/-- The device after reset, with the first word of a scratchpad poisoned; it is empty as every word is. -/
def emptyPoison : State := { State.reset with poison := [(Space.spad State.reset.ctx.core).key 0] }

/-- An unconditional access of every lane at address register 0. -/
def plainVM : VMForm := ⟨⟨0, false⟩, 1, 0, 0, 0, false, none⟩

/-- VLDS reads the word, which is poisoned. -/
theorem emptyPoison_read : (match elemKeys emptyPoison (emptyPoison.bank.rdA plainVM.ar).swizzle 128 (vmLa plainVM emptyPoison.bank) true
      (rowElems plainVM emptyPoison.bank) with
    | .ok ks => ks.any fun k => poisoned emptyPoison k.2 1
    | .error _ => false) = true := by decide +kernel

/-- The word is empty, so VLDS waits. -/
theorem emptyPoison_waits : (guardTrue plainVM.g emptyPoison.bank && vldsEmpty plainVM emptyPoison) = true := by decide +kernel

theorem status_pauseSlot (s : State) : (pauseSlot s).bank.status = .live :=
  congrArg Bank.status (State.bank_modBank s _)

/-- Refutes O33: a VLDS that meets a word both empty and poisoned waits for the word to be full (R249); it does not trap. -/
theorem not_vectorAccessesTrap : ¬ Obligations.VectorAccessesTrap := by
  intro h
  obtain ⟨hg, hempty⟩ := (Bool.and_eq_true _ _).mp emptyPoison_waits
  have hread := emptyPoison_read
  split at hread
  · next ks hks =>
    obtain ⟨k, hk, hp⟩ := List.any_eq_true.1 hread
    obtain ⟨t, ht, htrap⟩ := ((h plainVM emptyPoison hg).2 _ (List.mem_cons_of_mem _ List.mem_cons_self)).2 ks hks rfl ⟨k, hk, hp⟩
    have hpause : exec (.vlds plainVM) emptyPoison = .next (pauseSlot emptyPoison) := by
      rw [exec_vlds hg, if_pos hempty]
    cases ht.symm.trans hpause
    exact absurd (htrap.1.symm.trans (status_pauseSlot emptyPoison)) (by decide)
  · exact absurd hread (by decide)

end Sys2Proof.Machine
end

section
/-! PROOF. A request enters the copy interface: the obligation RequestEnters. -/

namespace Sys2Proof.Machine

open Sys2Proof

theorem mem_kset {α : Type} {m : KMap α} {k : Nat} {v : α} {e : Nat × α} (h : e ∈ kset m k v) : e = (k, v) ∨ e ∈ m := by
  induction m with
  | nil => exact Or.inl (List.mem_singleton.1 h)
  | cons x r ih =>
    obtain ⟨k', v'⟩ := x
    rw [kset] at h
    split at h
    · exact (List.mem_cons.1 h).imp id (List.mem_cons_of_mem _)
    · split at h
      · exact List.mem_cons.1 h
      · rcases List.mem_cons.1 h with rfl | h
        · exact Or.inr List.mem_cons_self
        · exact (ih h).imp id (List.mem_cons_of_mem _)

/-- A queue whose operations all go to engines keeps them. -/
theorem flushBank_of_toEngine {s : State} {c : Nat} {b : Bool} (h : ∀ x ∈ queuedOps s c b, x.toEngine = true) (n : Nat) :
    flushBank c b n s = s := by
  cases n with
  | zero => rfl
  | succ n =>
    rw [flushBank]
    split
    · next o r hq =>
      rw [if_neg]
      simp [h o (by rw [hq]; exact List.mem_cons_self)]
    · rfl

/-- The state in which a request has joined its group, before the interface is looked at. -/
def entered (o : COp) (s : State) : State :=
  let s := ({ s with ops := kset s.ops o.id o }).bump
  let s := match o.grp with
    | some g => modGroup o.core o.bank g (fun x => { x with out := x.out + 1 }) s
    | none => s
  if o.counts then touchPhase s o.launch o.phase else s

theorem submit_eq (o : COp) (s : State) : submit o s = flushBank o.core o.bank 128 (entered o s) := rfl

section
variable (o : COp) (s : State)

theorem entered_fields : (entered o s).ops = kset s.ops o.id o ∧ (entered o s).opId = s.opId + 1 ∧ (entered o s).ctx = s.ctx ∧
    SameMemory s (entered o s) := by
  unfold entered
  cases o.grp <;> cases o.counts <;> exact ⟨rfl, rfl, rfl, SameMemory.refl s⟩

theorem group_modGroup (g : Nat) (f : CopyGroup → CopyGroup) :
    (modGroup s.ctx.core s.ctx.bank g f s).bank.group g = f (s.bank.group g) := by
  have hb : (modGroup s.ctx.core s.ctx.bank g f s).bank =
      { s.bank with groups := s.bank.groups.set (Fin.ofNat 16 g) (f (s.bank.groups.get (Fin.ofNat 16 g))) } :=
    State.bank_modBank s _
  rw [Bank.group, hb]
  exact Vector.getElem_set_self _

theorem entered_out (hc : o.core = s.ctx.core) (hb : o.bank = s.ctx.bank) {g : Nat} (hg : o.grp = some g) :
    ((entered o s).bank.group g).out = (s.bank.group g).out + 1 := by
  unfold entered
  rw [hg, hc, hb]
  have h := congrArg CopyGroup.out
    (group_modGroup (State.bump { s with ops := kset s.ops o.id o }) g fun x => { x with out := x.out + 1 })
  cases o.counts <;> exact h

end

/-- Settles O37: with no other operation queued the interface finds a request for an engine, and keeps it. -/
theorem requestEnters : Obligations.RequestEnters := by
  intro o s hto _ hc hb _ _ hother
  obtain ⟨hops, hid, -, hmem⟩ := entered_fields o s
  have hflush : submit o s = entered o s := by
    rw [submit_eq]
    refine flushBank_of_toEngine (fun x hx => ?_) 128
    obtain ⟨e, he, rfl⟩ := List.mem_map.1 hx
    obtain ⟨hmem, hq⟩ := List.mem_filter.1 he
    rw [hops] at hmem
    rcases mem_kset hmem with rfl | hold
    · exact hto
    · simp only [Bool.and_eq_true, decide_eq_true_eq] at hq
      exact absurd hq.2 (hother e hold hq.1.1.1 hq.1.1.2)
  refine ⟨entered o s, hflush, ?_, hid, hmem, fun g hg => entered_out o s hc hb hg⟩
  rw [hops, kget_kset_same]

end Sys2Proof.Machine
end

section
/-! PROOF. Bundles, steps and reset: the obligations BundleRowsComplete, DecodeWords, StepRunsDecoded, ResetInvariant and ResetValues. -/

namespace Sys2Proof.Machine

open Sys2Proof

/-! ### Bundle rows -/

/-- A complete bundle with no BKPT in it: its bank is completed, and of its core else only the debugger's state changes. -/
theorem completeBundle_spec {x : Bundle} {s : State} (hk : s.ctx.bkpt = false) :
    (completeBundle x s).bank = completeBank s.ctx.addr s.ctx.fall x.stop (x.slots.map fun k => k.2) s.bank ∧
      SameMemory s (completeBundle x s) ∧ ∀ c, c ≠ s.ctx.core → (completeBundle x s).core c = s.core c := by
  obtain ⟨u, hu⟩ : ∃ u, u = s.modBank (completeBank s.ctx.addr s.ctx.fall x.stop (x.slots.map fun k => k.2)) := ⟨_, rfl⟩
  have hb : u.bank = completeBank s.ctx.addr s.ctx.fall x.stop (x.slots.map fun k => k.2) s.bank := by rw [hu, State.bank_modBank]
  have hm : SameMemory s u := by rw [hu]; exact SameMemory.refl s
  have hx : u.ctx = s.ctx := by rw [hu]; rfl
  have hc : ∀ c, c ≠ s.ctx.core → u.core c = s.core c := fun c hc => by rw [hu]; exact (onlyBank_modBank s _).2.1 c hc
  have he : completeBundle x s = if u.bank.status = .ending then u
      else u.modCore u.ctx.core fun k => { k with dbg := { k.dbg with retired := k.dbg.stepping } } := by
    rw [hx, completeBundle]
    dsimp only
    rw [← hu, if_neg (by rw [hx, hk]; decide)]
  rw [he]
  split
  · exact ⟨hb, hm, hc⟩
  · refine ⟨?_, hm, fun c hne => ?_⟩
    · rw [State.bank_modCore, Core.bank_dbg]; exact hb
    · rw [State.core_modCore_ne _ _ _ (by rw [hx]; exact hne), hc c hne]

/-- Settles O51. -/
theorem bundleRowsComplete : Obligations.BundleRowsComplete := by
  refine ⟨⟨fun s x hf hx hoff hk => ⟨_, rfl, ?_⟩, fun s => ⟨_, rfl, trapped_takeTrapWith s _ _ _⟩, fun s => ⟨_, rfl, trapped_takeTrapWith s _ _ _⟩⟩,
    fun s c b a => ⟨fun h => ?_, fun h hp => ?_, fun h hp => ⟨fun hs => ?_, fun hs => ?_⟩⟩⟩
  · have hk' : (s.modBank freshBank).ctx.bkpt = false := hk
    obtain ⟨hb, hm, hc⟩ := completeBundle_spec (x := x) hk'
    rw [State.bank_modBank, hx] at hb
    have he : (match fetchAt s s.ctx.core s.bank s.ctx.addr with
        | .bundle x =>
          if !x.slots.isEmpty then s
          else if fallsOff s.bank s.ctx.addr s.ctx.fall [] then takeTrapWith s causeInstrRange 0 0
          else completeBundle x (s.modBank freshBank)
        | _ => s) = completeBundle x (s.modBank freshBank) := by
      rw [hf]
      simp only [hx, hoff, List.isEmpty_nil, Bool.not_true, Bool.false_eq_true, if_false]
    refine ⟨(congrArg State.bank he).trans hb, ?_, fun c hne => ?_⟩
    · exact (congrArg (SameMemory s) he).mpr hm
    · exact (congrArg (fun t => State.core t c) he).trans ((hc c hne).trans ((onlyBank_modBank s _).2.1 c hne))
  · rw [fetchAt, if_pos h]
  · rw [fetchAt, if_neg (by omega)]
    dsimp only
    rw [if_pos hp]
  · rw [fetchAt, if_neg (by omega)]
    dsimp only
    rw [if_neg (by rw [hp]; decide), if_pos (by rw [hs]; rfl)]
  · rw [fetchAt, if_neg (by omega)]
    dsimp only
    rw [if_neg (by rw [hp]; decide), if_neg (by rw [hs]; decide)] <;> rfl

/-- Settles O55. -/
theorem decodeWords : Obligations.DecodeWords := by
  refine ⟨?_, ?_, ?_, ?_, ?_, ?_, ?_, ?_, ?_, ?_, ?_, ?_, ?_, ?_, ?_, ?_, ?_, ?_⟩ <;> rfl

/-! ### A step of a core -/

section
variable {s : State} {c : Nat} {b : Bool}

theorem step_of_pick {m : Move} {t : State} (hp : pickMove s (moves s) = some m) (ht : takeMove exec m s = .next t) :
    step s = .next (closeStep t) := by
  rw [step, stepWith, hp]
  dsimp only
  rw [ht]

/-- A step in which a core issues: what the bundle step leaves, without the bank's wait. -/
theorem step_of_issue {t : State} (hp : pickMove s (moves s) = some (.issue c b)) (ht : bundleStep exec c b s = .next t) :
    step s = .next (closeStep (dropWait c b t)) := by
  refine step_of_pick hp ?_
  rw [takeMove, issueAll, ht]
  rfl

/-- The state in which a core looks at its next bundle. -/
def issueState (s : State) (c : Nat) (b : Bool) : State := State.modBank { s with ctx := issueCtx s c b } wake

/-- What the fetch finds decides what the issuing core does. -/
def afterFetch (u : State) : Fetched → Result
  | .outside => .next (takeTrapWith u causeInstrRange 0 0)
  | .poison => .next (takeTrapWith u causePoison 0 0)
  | .malformed => exec .malformedHeader u
  | .unassigned => exec .unassignedOpcode u
  | .bundle x => issueBundle exec x u

theorem bundleStep_eq (s : State) (c : Nat) (b : Bool) : bundleStep exec c b s =
    afterFetch (issueState s c b) (fetchAt (issueState s c b) c (issueState s c b).bank (issueState s c b).ctx.addr) := by
  rfl

theorem bundleStep_of_fetch {f : Fetched} (hf : fetchAt (issueState s c b) c (issueState s c b).bank (issueState s c b).ctx.addr = f) :
    bundleStep exec c b s = afterFetch (issueState s c b) f := by
  rw [bundleStep_eq, hf]

theorem issueBundle_runs {x : Bundle} {u : State} (hc : conflicts u.bank x = false) (hb : brkHalts x (u.core u.ctx.core) u.bank = false)
    (hne : x.slots ≠ [])
    (hoff : u.bank.sr = 0 → fallsOff u.bank u.ctx.addr u.ctx.fall (x.slots.map fun k => k.2) = false) :
    issueBundle exec x u = runBundle exec x (if u.bank.sr = 0 then u.modBank freshBank else u) := by
  have hoff' : ¬(u.bank.sr = 0 && fallsOff u.bank u.ctx.addr u.ctx.fall (x.slots.map fun k => k.2)) = true := fun h => by
    simp only [Bool.and_eq_true, decide_eq_true_eq] at h
    exact Bool.false_ne_true ((hoff h.1).symm.trans h.2)
  rw [issueBundle]
  rw [hc, hb, List.isEmpty_eq_false_iff.2 hne, if_neg (by decide), if_neg (by decide), if_neg (by decide), if_neg hoff']

theorem issueBundle_conflicts {x : Bundle} {u : State} (hc : conflicts u.bank x = true) :
    issueBundle exec x u = .next (takeTrapWith u causeIllegalEncoding 0 0) := by
  rw [issueBundle]
  rw [if_pos hc]
  rfl

theorem issueBundle_brk {x : Bundle} {u : State} (hc : conflicts u.bank x = false) (hb : brkHalts x (u.core u.ctx.core) u.bank = true) :
    issueBundle exec x u = .next (haltCore u.ctx.core .brk u) := by
  rw [issueBundle]
  rw [if_neg (by rw [hc]; decide), if_pos hb]

theorem issueBundle_fallsOff {x : Bundle} {u : State} (hc : conflicts u.bank x = false) (hb : brkHalts x (u.core u.ctx.core) u.bank = false)
    (hne : x.slots ≠ []) (hsr : u.bank.sr = 0) (hoff : fallsOff u.bank u.ctx.addr u.ctx.fall (x.slots.map fun k => k.2) = true) :
    issueBundle exec x u = .next (takeTrapWith u causeInstrRange 0 0) := by
  rw [issueBundle]
  rw [hc, hb, List.isEmpty_eq_false_iff.2 hne, if_neg (by decide), if_neg (by decide), if_neg (by decide),
    if_pos (by rw [hsr, hoff]; rfl)]

theorem runBundle_eq {x : Bundle} {u t : State} (h : runSlots exec (pendingSlots u.bank x) u = .next t) : runBundle exec x u =
    .next (if (noteStepOps u.opId t).ctx.stopped then noteStepOps u.opId t else completeBundle x (noteStepOps u.opId t)) := by
  rw [runBundle]
  dsimp only
  rw [h]

/-- What a halted core leaves of a bank. -/
theorem haltCore_bank (c : Nat) (why : HaltReason) (s : State) (b : Bool) :
    (((haltCore c why s).core c).bank b).s = ((s.core c).bank b).s ∧
      ((s.core c).running = some b → (((haltCore c why s).core c).bank b).iaddr = BitVec.ofNat 32 (issueAddr s c ((s.core c).bank b))) := by
  unfold haltCore
  rw [State.core_modCore]
  dsimp only
  rw [Core.bank_dbg]
  cases hr : (s.core c).running with
  | none => exact ⟨rfl, fun h => by cases h⟩
  | some d =>
    dsimp only
    by_cases hd : b = d
    · subst hd
      rw [Core.bank_modBank]
      exact ⟨rfl, fun _ => rfl⟩
    · rw [Core.bank_modBank_ne _ _ _ hd]
      exact ⟨rfl, fun h => absurd (Option.some.inj h).symm hd⟩

end

/-! ### The dependence check -/

/-- What the check of R129 finds: a slot that writes or reads what the group or a slot to its left has written. -/
theorem dependsFrom_iff (is : List Instr) (w r : List Res) : dependsFrom is w r = true ↔ ∃ l i rest, is = l ++ i :: rest ∧
    ((∃ x, x ∈ (Instr.uses i).writes ∧ (x ∈ w ∨ ∃ j, j ∈ l ∧ x ∈ (Instr.uses j).writes)) ∨
      ∃ x, x ∈ (Instr.uses i).reads ∧ (x ∈ r ∨ ∃ j, j ∈ l ∧ Instr.calls j = false ∧ x ∈ (Instr.uses j).writes)) := by
  induction is generalizing w r with
  | nil => simp [dependsFrom]
  | cons i is ih =>
    have hreads : ∀ x, x ∈ (if Instr.calls i then r else r ++ (Instr.uses i).writes) ↔
        x ∈ r ∨ (Instr.calls i = false ∧ x ∈ (Instr.uses i).writes) := fun x => by
      cases Instr.calls i <;> simp
    simp only [dependsFrom, Bool.or_eq_true, ih, List.any_eq_true, List.contains_iff_mem, hreads, List.mem_append]
    constructor
    · rintro ((⟨x, hx, hw⟩ | ⟨x, hx, hr⟩) | ⟨l, k, rest, rfl, h⟩)
      · exact ⟨[], i, is, rfl, Or.inl ⟨x, hx, Or.inl hw⟩⟩
      · exact ⟨[], i, is, rfl, Or.inr ⟨x, hx, Or.inl hr⟩⟩
      · refine ⟨i :: l, k, rest, rfl, h.imp ?_ ?_⟩
        · rintro ⟨x, hx, (h | h) | ⟨j, hj, h⟩⟩
          · exact ⟨x, hx, Or.inl h⟩
          · exact ⟨x, hx, Or.inr ⟨i, List.mem_cons_self, h⟩⟩
          · exact ⟨x, hx, Or.inr ⟨j, List.mem_cons_of_mem _ hj, h⟩⟩
        · rintro ⟨x, hx, (h | h) | ⟨j, hj, h⟩⟩
          · exact ⟨x, hx, Or.inl h⟩
          · exact ⟨x, hx, Or.inr ⟨i, List.mem_cons_self, h⟩⟩
          · exact ⟨x, hx, Or.inr ⟨j, List.mem_cons_of_mem _ hj, h⟩⟩
    · rintro ⟨l, k, rest, hl, h⟩
      cases l with
      | nil =>
        obtain ⟨rfl, rfl⟩ := List.cons.inj hl
        refine Or.inl (h.imp ?_ ?_)
        · rintro ⟨x, hx, h | ⟨j, hj, -⟩⟩
          · exact ⟨x, hx, h⟩
          · exact absurd hj List.not_mem_nil
        · rintro ⟨x, hx, h | ⟨j, hj, -⟩⟩
          · exact ⟨x, hx, h⟩
          · exact absurd hj List.not_mem_nil
      | cons i' l =>
        obtain ⟨rfl, rfl⟩ := List.cons.inj hl
        refine Or.inr ⟨l, k, rest, rfl, h.imp ?_ ?_⟩
        · rintro ⟨x, hx, hw | ⟨j, hj, hjw⟩⟩
          · exact ⟨x, hx, Or.inl (Or.inl hw)⟩
          · rcases List.mem_cons.1 hj with rfl | hj
            · exact ⟨x, hx, Or.inl (Or.inr hjw)⟩
            · exact ⟨x, hx, Or.inr ⟨j, hj, hjw⟩⟩
        · rintro ⟨x, hx, hr | ⟨j, hj, hjw⟩⟩
          · exact ⟨x, hx, Or.inl (Or.inl hr)⟩
          · rcases List.mem_cons.1 hj with rfl | hj
            · exact ⟨x, hx, Or.inl (Or.inr hjw)⟩
            · exact ⟨x, hx, Or.inr ⟨j, hj, hjw⟩⟩

theorem runSlots_cons {s t : State} {k : Nat} {i : Instr} {r : List (Nat × Instr)} (hs : s.ctx.stopped = false)
    (ht : exec i (beforeSlot i { s with ctx := { s.ctx with slot := k, later := r.map fun x => x.1 } }) = .next t) :
    runSlots exec ((k, i) :: r) s = runSlots exec r (commitSlot i t) := by
  rw [runSlots, if_neg (by rw [hs]; decide), ht]

theorem runSlots_stopped {s : State} {k : Nat} {i : Instr} {r : List (Nat × Instr)} (hs : s.ctx.stopped = true) :
    runSlots exec ((k, i) :: r) s = .next s := by
  rw [runSlots, if_pos hs]

/-- Settles O56. -/
theorem stepRunsDecoded : Obligations.StepRunsDecoded := by
  refine ⟨fun s c b x hp => ?_, fun s => rfl, fun s k i r t hs ht => runSlots_cons hs ht, fun s k i r hs => runSlots_stopped hs,
    fun s c b t hp => ⟨fun hf ht => ?_, fun hf ht => ?_⟩, fun s c b hp => ⟨fun hf => ?_, fun hf => ?_, fun x hf => ⟨fun hc => ?_, fun hc hb => ?_,
      fun hc hb hne hsr hoff => ?_⟩⟩, fun b x => ?_, fun s g x t hp hg ht => step_of_pick hp ?_, fun s c b r t ht => ?_,
    fun s i e t hp ht => step_of_pick hp ?_, fun s e t hp ht => step_of_pick hp ?_, fun s c b hp => step_of_pick hp rfl, fun s hm => ?_⟩
  · intro u hf hc hb hne hoff v t ht
    exact step_of_issue hp ((bundleStep_of_fetch hf).trans ((issueBundle_runs hc hb hne hoff).trans (runBundle_eq ht)))
  · exact step_of_issue hp ((bundleStep_of_fetch hf).trans ht)
  · exact step_of_issue hp ((bundleStep_of_fetch hf).trans ht)
  · exact ⟨_, step_of_issue hp (bundleStep_of_fetch hf), trapped_takeTrapWith _ _ _ _⟩
  · exact ⟨_, step_of_issue hp (bundleStep_of_fetch hf), trapped_takeTrapWith _ _ _ _⟩
  · exact ⟨_, step_of_issue hp ((bundleStep_of_fetch hf).trans (issueBundle_conflicts hc)), trapped_takeTrapWith _ _ _ _⟩
  · have hsr : (issueState s c b).bank.sr = 0 := by
      have h := hb
      simp only [brkHalts, Bool.and_eq_true, decide_eq_true_eq] at h
      exact h.1.2
    obtain ⟨hs, hi⟩ := haltCore_bank c .brk (issueState s c b) b
    obtain ⟨hh, hw⟩ := haltCore_dbg c .brk (issueState s c b)
    exact ⟨haltCore c .brk (issueState s c b), step_of_issue hp ((bundleStep_of_fetch hf).trans (issueBundle_brk hc hb)), SameMemory.refl _, hh, hw,
      (haltCore_sr c .brk (issueState s c b) b).trans hsr, hs, hi⟩
  · exact ⟨_, step_of_issue hp ((bundleStep_of_fetch hf).trans (issueBundle_fallsOff hc hb hne hsr hoff)), trapped_takeTrapWith _ _ _ _⟩
  · rw [conflicts, Bool.and_eq_true, decide_eq_true_eq, depends, dependsFrom_iff]
  · rw [takeMove, hg]
    exact ht
  · rw [issueAll, ht]
  · rw [takeMove, arrive]
    dsimp only
    rw [runEvent, ht]
  · rw [takeMove, runEvent, ht]
  · rw [step, stepWith, hm]
    rfl

/-! ### Reset -/

/-- Settles O59. -/
theorem resetInvariant : Obligations.ResetInvariant := rfl

section
variable (c : Nat) (b : Bool)

theorem bank_atBank_reset : (atBank c b State.reset).bank = Bank.reset := by
  cases b <;> rfl

/-- The loop registers of a bank after reset. -/
theorem loop_reset (l : Fin 4) : Bank.reset.loop (BitVec.ofFin l) = LoopLevel.zero := by
  fin_cases l <;> rfl

theorem mbx_reset (i : Fin 16) : Bank.reset.mbx.get i = 0 := by
  fin_cases i <;> rfl

theorem taiNs_reset : taiNs State.reset = 0 := by
  norm_num [taiNs, tbUnits, State.reset]

theorem refwin_reset (f : Nat) : refwin State.reset f = 0x01000000 := by
  have h : State.reset.field f = FieldSt.reset := by rfl
  rw [refwin, h]
  decide

theorem tsw_reset : tsw Core.reset b = 0 := by
  cases b <;> decide

/-- The registers below the mailboxes after reset. -/
theorem readCtl_reset_listed {i : Nat} (hi : i ≤ 0x00E) :
    readCtl (atBank c b State.reset) i = if i = 0x00C then 0x01000000 else if i = 0x00D then 96 else 0 := by
  have hb := bank_atBank_reset c b
  have htsw : tsw ((atBank c b State.reset).core c) b = 0 := tsw_reset b
  have hclk : (atBank c b State.reset).bank.cyc ((atBank c b State.reset).clk c) = 0 := by rw [hb]; rfl
  have htai : taiNs (atBank c b State.reset) = 0 := taiNs_reset
  have hwin : refwin (atBank c b State.reset) (fieldOf c) = 0x01000000 := refwin_reset _
  have hrow := readCtl_listed (atBank c b State.reset)
  simp only [List.forall_mem_cons] at hrow
  obtain ⟨h0, h1, h2, h3, h4, h5, h6, h7, h8, h9, hC, hD, hE, -⟩ := hrow
  rw [hb] at h1 h2 h3 h4 h5 h6 h7 hE
  have hA : readCtl (atBank c b State.reset) 0x00A = 0 := congrArg (BitVec.ofNat 32) htai
  have hB : readCtl (atBank c b State.reset) 0x00B = 0 := by
    refine (show _ = (atBank c b State.reset).bank.timeh.getD (BitVec.ofNat 32 (taiNs (atBank c b State.reset) / 2 ^ 32)) from rfl).trans ?_
    rw [hb, htai]
    rfl
  have hbudget : (atBank c b State.reset).bank.budget = 0 := by rw [hb]; rfl
  have h9' : readCtl (atBank c b State.reset) 0x009 = 0 := h9.trans (by rw [hbudget, Nat.zero_sub]; rfl)
  interval_cases i
  exacts [h0.trans htsw, h1, h2, h3, h4, h5, h6, h7, h8.trans (congrArg (BitVec.ofNat 32) hclk), h9', hA, hB, hC.trans hwin, hD.trans rfl, hE]

/-- The control registers of a bank after reset. -/
theorem readCtl_reset {i : Nat} (hi : i < 0x400) (hl : ctlListed (BitVec.ofNat 10 i) = true) :
    readCtl (atBank c b State.reset) i = if i = 0x00C then 0x01000000 else if i = 0x00D then 96 else 0 := by
  have hb := bank_atBank_reset c b
  simp only [ctlListed, BitVec.toNat_ofNat, Nat.mod_eq_of_lt hi, Bool.or_eq_true, Bool.and_eq_true, decide_eq_true_eq] at hl
  rcases hl with ((h | ⟨h1, h2⟩) | ⟨h1, h2⟩) | ⟨h1, h2⟩
  · exact readCtl_reset_listed c b h
  · obtain ⟨k, rfl⟩ : ∃ k : Fin 16, i = 0x010 + k.val := ⟨⟨i - 0x010, by omega⟩, by simp; omega⟩
    rw [readCtl_mailbox, hb, mbx_reset, if_neg (by omega), if_neg (by omega)]
  · rw [if_neg (by omega), if_neg (by omega)]
    obtain ⟨k, hk⟩ : ∃ k : Fin 4, i = 0x020 + k.val ∨ i = 0x024 + k.val ∨ i = 0x028 + k.val :=
      ⟨⟨i % 4, by omega⟩, by simp; omega⟩
    obtain ⟨hc, hs, he⟩ := readCtl_loop (atBank c b State.reset) k
    rw [hb, loop_reset] at hc hs he
    rcases hk with rfl | rfl | rfl
    · exact hc
    · exact hs
    · exact he
  · rw [if_neg (by omega), if_neg (by omega)]
    obtain ⟨j, rfl⟩ : ∃ j, i = 0x040 + j := ⟨i - 0x040, by omega⟩
    rw [readCtl_ring _ j (by omega), ← Nat.div_add_mod j 4]
    exact ringReg_of_none (Nat.mod_lt _ (by decide)) (by rw [hb]; rfl)

end

theorem rdP_reset (r : BitVec 3) : Bank.reset.rdP r = decide (r = 0) := by
  revert r
  decide

/-- Settles O60. -/
theorem resetValues : Obligations.ResetValues := by
  refine ⟨fun c b i hi hl => readCtl_reset c b hi hl, fun c b r => ?_, fun w => ⟨rfl, List.not_mem_nil⟩, fun c n r => ⟨rfl, rfl⟩,
    fun a => rfl, fun k => ⟨rfl, rfl, rfl⟩, taiNs_reset, rfl, rfl, fun q => ⟨rfl, rfl, rfl⟩⟩
  have hb : (State.reset.core c).bank b = Bank.reset := by cases b <;> rfl
  rw [hb, rdP_reset]

end Sys2Proof.Machine
end

section
/-! PROOF. The matrix instructions at issue: the obligations MatrixInstructionsStage and MatrixOperandsTrap. -/

namespace Sys2Proof.Machine

open Sys2Proof

/-! ### Entering the staging queue -/

/-- The operation that an instruction enters as, by the bank it read. -/
def stagedOp (k : MKind) (f : MForm) (addr addr2 : Nat) (s : State) (b : Bank) : MOp :=
  ⟨s.opId, k, s.ctx.bank, b.task, b.launch.toNat, (match kget s.tasks b.task with | some t => t.prio | none => 0), f, addr, addr2⟩

theorem Core.queue_modBank (c : Core) (b : Bool) (g : Bank → Bank) : (c.modBank b g).queue = c.queue := by
  cases b <;> rfl

/-- The core once its bank has changed and an operation has entered its queue. -/
def stagedCore (s : State) (g : Bank → Bank) (q : MOp) (c : Core) : Core :=
  { c.modBank s.ctx.bank g with queue := (c.modBank s.ctx.bank g).queue ++ [q] }

theorem bank_stagedCore (s : State) (g : Bank → Bank) (q : MOp) (c : Core) : (stagedCore s g q c).bank s.ctx.bank = g (c.bank s.ctx.bank) := by
  unfold stagedCore
  generalize s.ctx.bank = z
  cases z <;> rfl

theorem stage_modBank_eq (k : MKind) (f : MForm) (a a2 : Nat) (s : State) (g : Bank → Bank) : stage k f a a2 (s.modBank g) =
    { s.modCore s.ctx.core (stagedCore s g (stagedOp k f a a2 s (g s.bank))) with opId := s.opId + 1 } := by
  rw [stage, State.bank_modBank, State.modBank, State.modCore_ctx, State.modCore_modCore]
  rfl

/-- An instruction that changes its bank and enters the queue. -/
theorem stages_stage_modBank (k : MKind) (f : MForm) (a a2 : Nat) (s : State) {g : Bank → Bank} (hg : (g s.bank).task = s.bank.task) :
    Stages s (stage k f a a2 (s.modBank g)) k f a a2 ∧ (stage k f a a2 (s.modBank g)).bank = g s.bank := by
  obtain ⟨t, ht⟩ : ∃ t, t = stage k f a a2 (s.modBank g) := ⟨_, rfl⟩
  rw [← ht]
  rw [stage_modBank_eq] at ht
  have hcore : t.core s.ctx.core = stagedCore s g (stagedOp k f a a2 s (g s.bank)) (s.core s.ctx.core) := by
    rw [ht]; exact State.core_modCore s _ _
  have hx : t.ctx = s.ctx := by rw [ht]; rfl
  have hbank : t.bank = g s.bank := by rw [State.bank, hx, hcore, bank_stagedCore]; rfl
  have hq : (t.core s.ctx.core).queue = (s.core s.ctx.core).queue ++ [stagedOp k f a a2 s (g s.bank)] := by
    rw [hcore, stagedCore, Core.queue_modBank]
  refine ⟨⟨⟨_, hq, rfl, rfl, rfl, rfl, hg, rfl, rfl⟩, by rw [ht]; rfl, fun c hc => ?_, ?_, by rw [ht]; exact SameMemory.refl s⟩, hbank⟩
  · rw [ht]; exact State.core_modCore_ne s _ _ hc
  · rw [hcore, hbank, stagedCore, State.bank]
    cases s.ctx.bank <;> rfl

theorem stage_modBank_id (k : MKind) (f : MForm) (a a2 : Nat) (s : State) : stage k f a a2 (s.modBank fun b => b) = stage k f a a2 s := by
  rw [stage_modBank_eq, stage]
  have h : stagedCore s (fun b => b) (stagedOp k f a a2 s s.bank) = fun c => { c with queue := c.queue ++ [stagedOp k f a a2 s s.bank] } := by
    funext c
    rw [stagedCore, Core.modBank_id]
  rw [h]
  rfl

/-- An instruction that enters the queue and changes no bank. -/
theorem stages_stage (k : MKind) (f : MForm) (a a2 : Nat) (s : State) :
    (stage k f a a2 s).bank = s.bank ∧ Stages s (stage k f a a2 s) k f a a2 := by
  have h := stages_stage_modBank k f a a2 s (g := fun b => b) rfl
  rw [stage_modBank_id] at h
  exact h.symm

theorem stageOperand_of_none {k : MKind} {f : MForm} {s : State} (h : operandFault k f s = none) :
    stageOperand k f s = stage k f (s.bank.rdA (MForm.ar f)).base.toNat 0 s := by
  rw [stageOperand, h]

theorem stageProduct_of_none {k : MKind} {f : MForm} {s : State} (h : operandFault k f s = none) (hs : f.slot ≠ 63 ∨ s.bank.staged.isSome = true) :
    stageProduct k f s = stage k f (s.bank.rdA (MForm.ar f)).base.toNat 0 s := by
  rw [stageProduct, h]
  refine if_neg fun hc => ?_
  simp only [Bool.and_eq_true, decide_eq_true_eq, Option.isNone_iff_eq_none] at hc
  rcases hs with hs | hs
  · exact hs hc.1
  · rw [hc.2] at hs
    exact absurd hs (by decide)

theorem firstFault_nil {p : TileFault → Bool} {l : List TileFault} (h : ∀ x ∈ l, p x = false) : firstFault (l.filter p) = none := by
  rw [List.filter_eq_nil_iff.2 fun x hx => by rw [h x hx]; decide]
  rfl

/-- What MSCA does. -/
def mscaBody (f : MForm) (s : State) : State :=
  match scaleFault f s with
  | some c => takeSlotTrap s c
  | none => stage .msca f (s.bank.rdA f.rs).base.toNat (s.bank.rdA f.cs).base.toNat s

theorem execMsca_eq (f : MForm) (s : State) : execMsca f s = guarded f.g s (mscaBody f) := rfl

/-- The first fault that an MWAIT finds. -/
def mwaitFault (f : MForm) (s : State) : Option TileFault :=
  firstFault ((s.core s.ctx.core).tileFaults.filter (faultMatches s.ctx.bank s.bank.task (waitTiles f) (MForm.zf f)))

/-- What MWAIT does. -/
def mwaitBody (f : MForm) (s : State) : State :=
  match mwaitFault f s with
  | some x => takeTrap (s.modCore s.ctx.core fun c => { c with tileFaults := c.tileFaults.erase x }) x.code
  | none => stage .mwait f 0 0 s

theorem execMwait_eq (f : MForm) (s : State) : execMwait f s = guarded f.g s (mwaitBody f) := rfl

/-- Settles O34. -/
theorem matrixInstructionsStage : Obligations.MatrixInstructionsStage := by
  intro f s h
  have hrow : ∀ k, ∃ t, guarded f.g s (stage k f 0 0) = .next t ∧ t.bank = s.bank ∧ Stages s t k f 0 0 := fun k =>
    exists_guarded h (stages_stage k f 0 0 s)
  have hop : ∀ k, operandFault k f s = none → ∃ t, guarded f.g s (stageOperand k f) = .next t ∧ t.bank = s.bank ∧
      Stages s t k f (s.bank.rdA (MForm.ar f)).base.toNat 0 := fun k hk => by
    refine exists_guarded h ?_
    rw [stageOperand_of_none hk]
    exact stages_stage k f _ 0 s
  have hprod : ∀ k, operandFault k f s = none → (f.slot ≠ 63 ∨ s.bank.staged.isSome = true) →
      ∃ t, guarded f.g s (stageProduct k f) = .next t ∧ t.bank = s.bank ∧ Stages s t k f (s.bank.rdA (MForm.ar f)).base.toNat 0 := fun k hk hs => by
    refine exists_guarded h ?_
    rw [stageProduct_of_none hk hs]
    exact stages_stage k f _ 0 s
  have hsample : ∀ k, ∃ t, guarded f.g s (stageSample k f) = .next t ∧ Stages s t k f 0 0 ∧
      t.bank = { s.bank with pending := s.bank.pending ++ [⟨f.dst.toNat, s.opId⟩] } := fun k =>
    exists_guarded h (stages_stage_modBank k f 0 0 s (g := fun b => { b with pending := b.pending ++ [⟨f.dst.toNat, s.opId⟩] }) rfl)
  simp only [List.forall_mem_cons]
  refine ⟨⟨hrow .mwld, hrow .mwpre, hrow .mzero, hrow .mhold, hrow .mflush, fun _ h => absurd h List.not_mem_nil⟩,
    ⟨hop .mwlds, hop .mdrain, hop .mstat, hop .mresc, hop .mtrn, fun _ h => absurd h List.not_mem_nil⟩,
    ⟨hprod .mma, hprod .mmao, fun _ h => absurd h List.not_mem_nil⟩, fun hf => ?_, fun hx => ?_,
    ⟨hsample .mprog, hsample .mflags, fun _ h => absurd h List.not_mem_nil⟩⟩
  · refine ⟨_, show execMsca f s = _ from (execMsca_eq f s).trans (guarded_of_true _ h), ?_⟩
    rw [mscaBody, hf]
    exact stages_stage .msca f _ _ s
  · refine ⟨_, show execMwait f s = _ from (execMwait_eq f s).trans (guarded_of_true _ h), ?_⟩
    rw [mwaitBody, mwaitFault, firstFault_nil hx]
    exact stages_stage .mwait f 0 0 s

/-! ### Faults of operands -/

section
variable {k : MKind} {f : MForm} {s : State}

theorem operandFault_misaligned (ha : f.asrc = true) (h : (s.bank.rdA (MForm.ar f)).base.toNat % 128 ≠ 0) :
    operandFault k f s = some causeMisaligned := by
  rw [operandFault, if_pos ha, if_pos h]

theorem operandFault_range (ha : f.asrc = true) (h : (s.bank.rdA (MForm.ar f)).base.toNat % 128 = 0)
    (hr : localSpan s s.ctx.core s.bank (s.bank.rdA (MForm.ar f)).base.toNat (unitCount k f * unitSize k f) = none) :
    operandFault k f s = some causeAddrRange := by
  rw [operandFault, if_pos ha, if_neg (not_not.2 h), hr]
  rfl

theorem operandFault_noRing (ha : f.asrc = false) (h : s.bank.ring f.as.toNat = none) : operandFault k f s = some causeRingRange := by
  rw [operandFault, if_neg (by simp [ha]), h]

theorem operandFault_ring {r : Ring} (ha : f.asrc = false) (h : s.bank.ring f.as.toNat = some r)
    (hr : r.slotSize < unitSize k f ∨ r.count < slotsNeeded r (unitSize k f) (unitCount k f)) : operandFault k f s = some causeMatrixOperand := by
  rw [operandFault, if_neg (by simp [ha]), h]
  dsimp only
  split
  · rfl
  · next hs => rw [if_pos (hr.resolve_left hs)]

/-- An operand that fails its checks takes its cause. -/
theorem trapped_stageOperand {c : BitVec 8} (h : operandFault k f s = some c) : Trapped s (stageOperand k f s) c s.ctx.slot := by
  rw [stageOperand, h]
  exact trapped_takeSlotTrap s c

theorem trapped_stageProduct {c : BitVec 8} (h : operandFault k f s = some c) : Trapped s (stageProduct k f s) c s.ctx.slot := by
  rw [stageProduct, h]
  exact trapped_takeSlotTrap s c

theorem trapped_stageProduct_unstaged (h : operandFault k f s = none) (h63 : f.slot = 63) (hs : s.bank.staged = none) :
    Trapped s (stageProduct k f s) causeMatrixOperand s.ctx.slot := by
  rw [stageProduct, h]
  refine (if_pos ?_ : (if (f.slot = 63 && s.bank.staged.isNone) = true then _ else _) = _) ▸ trapped_takeSlotTrap s _
  simp [h63, hs]

end

/-- The first of two faults, the later only where it ranks lower. -/
theorem firstFault_foldl (l : List TileFault) (y : TileFault) : ∃ e, l.foldl (fun a x => match a with
      | none => some x
      | some y => if faultRank x < faultRank y then some x else some y) (some y) = some e ∧
    (e = y ∨ e ∈ l) ∧ faultRank e ≤ faultRank y ∧ ∀ x ∈ l, faultRank e ≤ faultRank x := by
  induction l generalizing y with
  | nil => exact ⟨y, rfl, Or.inl rfl, Nat.le_refl _, fun _ h => absurd h List.not_mem_nil⟩
  | cons x l ih =>
    rw [List.foldl_cons]
    dsimp only
    by_cases hlt : faultRank x < faultRank y
    · obtain ⟨e, he, hm, hle, hall⟩ := ih x
      rw [if_pos hlt]
      refine ⟨e, he, Or.inr ?_, by omega, List.forall_mem_cons.2 ⟨hle, hall⟩⟩
      rcases hm with rfl | hm
      · exact List.mem_cons_self
      · exact List.mem_cons_of_mem _ hm
    · obtain ⟨e, he, hm, hle, hall⟩ := ih y
      rw [if_neg hlt]
      exact ⟨e, he, hm.imp id (List.mem_cons_of_mem _), hle, List.forall_mem_cons.2 ⟨by omega, hall⟩⟩

theorem firstFault_spec {l : List TileFault} {e : TileFault} (h : firstFault l = some e) : e ∈ l ∧ ∀ x ∈ l, faultRank e ≤ faultRank x := by
  cases l with
  | nil => cases h
  | cons y l =>
    obtain ⟨e', he, hm, hle, hall⟩ := firstFault_foldl l y
    obtain rfl : e' = e := Option.some.inj (he.symm.trans h)
    exact ⟨by rcases hm with rfl | hm; exacts [List.mem_cons_self, List.mem_cons_of_mem _ hm], List.forall_mem_cons.2 ⟨hle, hall⟩⟩

theorem Core.tileFaults_modBank (c : Core) (b : Bool) (g : Bank → Bank) : (c.modBank b g).tileFaults = c.tileFaults := by
  cases b <;> rfl

/-- A trap leaves the faults that its core has recorded. -/
theorem tileFaults_takeTrap (s : State) (code : BitVec 8) :
    ((takeTrap s code).core s.ctx.core).tileFaults = (s.core s.ctx.core).tileFaults := by
  rw [takeTrap, takeTrapWith_core]
  split
  · exact Core.tileFaults_modBank (s.core s.ctx.core) s.ctx.bank fun _ => trapBank s code (stopSlot s)
  · exact Core.tileFaults_modBank _ _ _

/-- A trap taken after a core's record of faults has changed is a trap of the state before. -/
theorem trapped_of_tileFaults (s : State) (code : BitVec 8) (g : List TileFault → List TileFault) :
    Trapped s (takeTrap (s.modCore s.ctx.core fun c => { c with tileFaults := g c.tileFaults }) code) code (stopSlot s) := by
  have h := trapped_takeTrap (s.modCore s.ctx.core fun c => { c with tileFaults := g c.tileFaults }) code
  have hb : (s.modCore s.ctx.core fun c => { c with tileFaults := g c.tileFaults }).bank = s.bank := by
    rw [State.bank_modCore, State.bank]
    cases s.ctx.bank <;> rfl
  unfold Trapped at h ⊢
  rw [hb] at h
  obtain ⟨h1, h2, h3, h4, h5, h6, h7, h8, h9, h10, h11, h12, h13, h14⟩ := h
  exact ⟨h1, h2, h3, h4, h5, h6, h7, h8, h9, h10, h11, h12, h13, fun c hc => (h14 c hc).trans (State.core_modCore_ne s _ _ hc)⟩

/-- Settles O35. -/
theorem matrixOperandsTrap : Obligations.MatrixOperandsTrap := by
  intro f s h
  have hop : ∀ {k : MKind} {c : BitVec 8}, operandFault k f s = some c →
      ∃ t, guarded f.g s (stageOperand k f) = .next t ∧ Trapped s t c s.ctx.slot := fun hk => exists_guarded h (trapped_stageOperand hk)
  have hprod : ∀ {k : MKind} {c : BitVec 8}, operandFault k f s = some c →
      ∃ t, guarded f.g s (stageProduct k f) = .next t ∧ Trapped s t c s.ctx.slot := fun hk => exists_guarded h (trapped_stageProduct hk)
  have hrow : ∀ (k : MKind) (P : BitVec 8 → Prop), (∀ c, operandFault k f s = some c → P c) →
      (f.asrc = true → (s.bank.rdA (MForm.ar f)).base.toNat % 128 ≠ 0 → P causeMisaligned) ∧
      (f.asrc = true → (s.bank.rdA (MForm.ar f)).base.toNat % 128 = 0 →
        localSpan s s.ctx.core s.bank (s.bank.rdA (MForm.ar f)).base.toNat (unitCount k f * unitSize k f) = none → P causeAddrRange) ∧
      (f.asrc = false → s.bank.ring f.as.toNat = none → P causeRingRange) ∧
      ∀ r, f.asrc = false → s.bank.ring f.as.toNat = some r →
        (r.slotSize < unitSize k f ∨ r.count < slotsNeeded r (unitSize k f) (unitCount k f)) → P causeMatrixOperand := fun k P hP =>
    ⟨fun ha hm => hP _ (operandFault_misaligned ha hm), fun ha hm hr => hP _ (operandFault_range ha hm hr),
      fun ha hr => hP _ (operandFault_noRing ha hr), fun r ha hr hs => hP _ (operandFault_ring ha hr hs)⟩
  refine ⟨?_, ?_, ⟨fun hm => ?_, fun hx hy hr => ?_⟩, fun e he => ?_, fun l e he => firstFault_spec he⟩
  · simp only [List.forall_mem_cons]
    exact ⟨hrow .mwlds _ fun _ hk => hop hk, hrow .mdrain _ fun _ hk => hop hk, hrow .mstat _ fun _ hk => hop hk, hrow .mresc _ fun _ hk => hop hk,
      hrow .mtrn _ fun _ hk => hop hk, hrow .mma _ fun _ hk => hprod hk, hrow .mmao _ fun _ hk => hprod hk, fun _ h => absurd h List.not_mem_nil⟩
  · simp only [List.forall_mem_cons]
    exact ⟨fun hf h63 hs => exists_guarded h (trapped_stageProduct_unstaged hf h63 hs),
      fun hf h63 hs => exists_guarded h (trapped_stageProduct_unstaged (k := .mmao) hf h63 hs), fun _ h => absurd h List.not_mem_nil⟩
  · have hs : scaleFault f s = some causeMisaligned := if_pos (by simpa using hm)
    refine ⟨_, show execMsca f s = _ from (execMsca_eq f s).trans (guarded_of_true _ h), ?_⟩
    rw [mscaBody, hs]
    exact trapped_takeSlotTrap s _
  · have hs : scaleFault f s = some causeAddrRange := by
      rw [scaleFault, if_neg (by simp [hx, hy]), if_pos]
      rcases hr with hr | hr <;> simp [hr]
    refine ⟨_, show execMsca f s = _ from (execMsca_eq f s).trans (guarded_of_true _ h), ?_⟩
    rw [mscaBody, hs]
    exact trapped_takeSlotTrap s _
  · refine ⟨_, show execMwait f s = _ from (execMwait_eq f s).trans (guarded_of_true _ h), ?_⟩
    rw [mwaitBody, mwaitFault, he]
    refine ⟨trapped_of_tileFaults s e.code fun l => l.erase e, ?_⟩
    have ht := tileFaults_takeTrap (s.modCore s.ctx.core fun c => { c with tileFaults := c.tileFaults.erase e }) e.code
    rw [State.modCore_ctx, State.core_modCore] at ht
    exact ht

end Sys2Proof.Machine
end

section
/-! PROOF. The copy class hands over its requests, or traps: the obligations CopiesComplete and CopiesTrapOrWait. -/

namespace Sys2Proof.Machine

open Sys2Proof

/-! ### Checks in order -/

/-- The first check that fails. -/
theorem firstCause_cons (bad : Bool) (c : BitVec 8) (r : List (Bool × BitVec 8)) :
    firstCause ((bad, c) :: r) = if bad then some c else firstCause r := rfl

theorem firstCause_of_true {bad : Bool} (c : BitVec 8) (r : List (Bool × BitVec 8)) (h : bad = true) : firstCause ((bad, c) :: r) = some c := by
  rw [firstCause_cons, if_pos h]

theorem firstCause_of_false {bad : Bool} (c : BitVec 8) (r : List (Bool × BitVec 8)) (h : bad = false) :
    firstCause ((bad, c) :: r) = firstCause r := by
  rw [firstCause_cons, if_neg (by rw [h]; decide)]

section
variable {cause : Option (BitVec 8)} {f : CForm} {o : COp} {s : State} {c : BitVec 8}

theorem copyRequested_trap (h : cause = some c) : copyRequested cause f o s = takeSlotTrap s c := by
  rw [h]
  rfl

theorem copyRequested_waits (h : cause = none) (hp : (s.bank.group f.grp.toNat).faulted ≠ 0) :
    copyRequested cause f o s = takePageWait s f.grp.toNat := by
  rw [h]
  exact if_pos hp

theorem copyRequested_submits (h : cause = none) (hp : (s.bank.group f.grp.toNat).faulted = 0) : copyRequested cause f o s = submit o s := by
  rw [h]
  exact if_neg (not_not.2 hp)

theorem requested_trap (h : cause = some c) : requested cause o s = takeSlotTrap s c := by
  rw [h]
  rfl

theorem requested_submits (h : cause = none) : requested cause o s = submit o s := by
  rw [h]
  rfl

end

/-! ### Direct copies -/

/-- The checks of a direct copy (R383). -/
def directCause (f : CForm) (st : Int) (nr pitch : Nat) (s : State) : Option (BitVec 8) :=
  firstCause
    [(vaBad (s.bank.rdPair f.ca).toNat st nr f.len, causeAddrRange),
     ((localSpan s s.ctx.core s.bank (s.bank.rdS f.cb).toNat (localLen nr f.len pitch)).isNone, causeAddrRange),
     (nr < 1 || 65535 < nr || 256 < boxCount (s.bank.rdPair f.ca).toNat st nr f.len, causeCopyLength)]

/-- The request of a direct copy (R385). -/
def directOp (f : CForm) (kind : OpKind) (opc : Nat) (st : Int) (nr pitch : Nat) (s : State) : COp :=
  { newOp s kind opc (some f.grp.toNat) with
    loc := (localSpan s s.ctx.core s.bank (s.bank.rdS f.cb).toNat (localLen nr f.len pitch)).getD 0, len := f.len, rows := nr
    stride := BitVec.ofInt 32 st, pitch := pitch / 128
    boxes := if (directCause f st nr pitch s).isSome then [] else copyBoxes (s.bank.rdPair f.ca).toNat st nr f.len pitch }

theorem directCopy_eq (f : CForm) (kind : OpKind) (opc : Nat) (st : Int) (nr pitch : Nat) (s : State) :
    directCopy f kind opc st nr pitch s = copyRequested (directCause f st nr pitch s) f (directOp f kind opc st nr pitch s) s := rfl

section
variable {f : CForm} {s : State} {st : Int} {nr pitch : Nat}

/-- The rows or boxes of a copy are too many, or it has no rows. -/
theorem copyLength_iff (va : Nat) : (nr < 1 || 65535 < nr || 256 < boxCount va st nr f.len : Bool) = true ↔
    nr < 1 ∨ 65535 < nr ∨ 256 < boxCount va st nr f.len := by
  simp [or_assoc]

theorem directCause_va (h : vaBad (s.bank.rdPair f.ca).toNat st nr f.len = true) : directCause f st nr pitch s = some causeAddrRange :=
  firstCause_of_true _ _ h

theorem directCause_local (h : localSpan s s.ctx.core s.bank (s.bank.rdS f.cb).toNat (localLen nr f.len pitch) = none) :
    directCause f st nr pitch s = some causeAddrRange := by
  cases hv : vaBad (s.bank.rdPair f.ca).toNat st nr f.len
  · rw [directCause, firstCause_of_false _ _ hv, firstCause_of_true _ _ (by rw [h]; rfl)]
  · exact directCause_va hv

theorem directCause_many (hv : vaBad (s.bank.rdPair f.ca).toNat st nr f.len = false)
    (hl : (localSpan s s.ctx.core s.bank (s.bank.rdS f.cb).toNat (localLen nr f.len pitch)).isSome = true)
    (hm : nr < 1 ∨ 65535 < nr ∨ 256 < boxCount (s.bank.rdPair f.ca).toNat st nr f.len) : directCause f st nr pitch s = some causeCopyLength := by
  rw [directCause, firstCause_of_false _ _ hv, firstCause_of_false _ _ (by simpa using hl), firstCause_of_true _ _ ((copyLength_iff _).2 hm)]

theorem directCause_none (hv : vaBad (s.bank.rdPair f.ca).toNat st nr f.len = false)
    (hl : (localSpan s s.ctx.core s.bank (s.bank.rdS f.cb).toNat (localLen nr f.len pitch)).isSome = true)
    (hm : ¬(nr < 1 ∨ 65535 < nr ∨ 256 < boxCount (s.bank.rdPair f.ca).toNat st nr f.len)) : directCause f st nr pitch s = none := by
  rw [directCause, firstCause_of_false _ _ hv, firstCause_of_false _ _ (by simpa using hl),
    firstCause_of_false _ _ (by rw [← Bool.not_eq_true]; exact fun h => hm ((copyLength_iff _).1 h))]
  rfl

end

/-! ### Ring copies and atomics -/

/-- The checks of CLDR. -/
def ringCause (f : CForm) (s : State) : Option (BitVec 8) :=
  firstCause
    [(vaBad (s.bank.rdPair f.cb).toNat 0 1 f.len, causeAddrRange),
     ((s.bank.ring f.ca.toNat).isNone, causeRingRange),
     ((match s.bank.ring f.ca.toNat with | some r => (r.count < slotsFor r f.len : Bool) | none => false) ||
       256 < boxCount (s.bank.rdPair f.cb).toNat 0 1 f.len, causeCopyLength)]

/-- The request of CLDR (R387). -/
def ringOp (f : CForm) (s : State) : COp :=
  { newOp s .ring 4 (some f.grp.toNat) with
    ring := f.ca.toNat, len := f.len, boxes := if (ringCause f s).isSome then [] else copyBoxes (s.bank.rdPair f.cb).toNat 0 1 f.len 0 }

theorem execCldr_eq (f : CForm) (s : State) : execCldr f s = guarded f.g s fun s => copyRequested (ringCause f s) f (ringOp f s) s := by
  rfl

section
variable {f : CForm} {s : State}

theorem ringCause_va (h : vaBad (s.bank.rdPair f.cb).toNat 0 1 f.len = true) : ringCause f s = some causeAddrRange := firstCause_of_true _ _ h

theorem ringCause_none (hv : vaBad (s.bank.rdPair f.cb).toNat 0 1 f.len = false) (h : s.bank.ring f.ca.toNat = none) :
    ringCause f s = some causeRingRange := by
  rw [ringCause, firstCause_of_false _ _ hv, firstCause_of_true _ _ (by rw [h]; rfl)]

theorem ringCause_some {r : Ring} (hv : vaBad (s.bank.rdPair f.cb).toNat 0 1 f.len = false) (h : s.bank.ring f.ca.toNat = some r) :
    ringCause f s = if r.count < slotsFor r f.len ∨ 256 < boxCount (s.bank.rdPair f.cb).toNat 0 1 f.len then some causeCopyLength else none := by
  rw [ringCause, firstCause_of_false _ _ hv, firstCause_of_false _ _ (by rw [h]; rfl), h, firstCause_cons]
  refine if_congr ?_ rfl rfl
  simp

/-- The bytes of an atomic. -/
def atomWidth (f : CForm) : Nat := if f.opt.getLsbD 3 then 8 else 4

/-- The checks of CATOM. -/
def atomCause (f : CForm) (s : State) : Option (BitVec 8) :=
  firstCause [(vaEnd ≤ (s.bank.rdPair f.ca).toNat, causeAddrRange), ((s.bank.rdPair f.ca).toNat % atomWidth f ≠ 0, causeMisaligned)]

/-- The request of CATOM (R388). -/
def atomOp (f : CForm) (s : State) : COp :=
  { newOp s .atomic 5 (some f.grp.toNat) with
    len := atomWidth f, boxes := [⟨(s.bank.rdPair f.ca).toNat, atomWidth f, 0, none, false⟩], dst := f.cb.toNat, wide := f.opt.getLsbD 3
    aop := (f.opt.extractLsb' 0 3).toNat
    opnd := if f.opt.getLsbD 3 then (s.bank.rdPair f.cb).toNat else (s.bank.rdS f.cb).toNat
    cmp := if f.opt.getLsbD 3 then (s.bank.rdPair (f.cb + 2)).toNat else (s.bank.rdS (f.cb + 1)).toNat }

/-- The state in which the destination of an atomic is pending. -/
def atomPend (f : CForm) (s : State) : State :=
  if f.opt.getLsbD 3 then pend (f.cb.toNat + 1) (pend f.cb.toNat s) else pend f.cb.toNat s

/-- What CATOM does. -/
def catomBody (f : CForm) (s : State) : State :=
  match atomCause f s with
  | some c => takeSlotTrap s c
  | none => if (s.bank.group f.grp.toNat).faulted ≠ 0 then takePageWait s f.grp.toNat else submit (atomOp f s) (atomPend f s)

theorem execCatom_eq (f : CForm) (s : State) : execCatom f s = guarded f.g s (catomBody f) := rfl

theorem atomCause_range (h : vaEnd ≤ (s.bank.rdPair f.ca).toNat) : atomCause f s = some causeAddrRange := firstCause_of_true _ _ (by simpa using h)

theorem atomCause_misaligned (h : (s.bank.rdPair f.ca).toNat < vaEnd) (ha : (s.bank.rdPair f.ca).toNat % atomWidth f ≠ 0) :
    atomCause f s = some causeMisaligned := by
  rw [atomCause, firstCause_of_false _ _ (by simpa using h), firstCause_of_true _ _ (by simpa using ha)]

theorem atomCause_none (h : (s.bank.rdPair f.ca).toNat < vaEnd) (ha : (s.bank.rdPair f.ca).toNat % atomWidth f = 0) : atomCause f s = none := by
  rw [atomCause, firstCause_of_false _ _ (by simpa using h), firstCause_of_false _ _ (by simpa using ha)]
  rfl

end

/-- What a pending destination adds to a bank. -/
def pendOf (r id : Nat) : List PendingReg := if r = 0 then [] else [⟨r, id⟩]

theorem pend_spec (r : Nat) (s : State) : OnlyBank s (pend r s) ∧ (pend r s).opId = s.opId ∧ (pend r s).ctx = s.ctx ∧
    (pend r s).bank = { s.bank with pending := s.bank.pending ++ pendOf r s.opId } := by
  unfold pend pendOf
  split
  · exact ⟨onlyBank_refl s, rfl, rfl, by rw [List.append_nil]⟩
  · exact ⟨onlyBank_modBank s _, rfl, rfl, State.bank_modBank s _⟩

theorem pend_pend (r : Nat) (s : State) (r' : Nat) : OnlyBank s (pend (r' + 1) (pend r s)) ∧
    (pend (r' + 1) (pend r s)).bank = { s.bank with pending := s.bank.pending ++ pendOf r s.opId ++ [⟨r' + 1, s.opId⟩] } := by
  have hb : (pend (r' + 1) (pend r s)).bank = { s.bank with pending := s.bank.pending ++ pendOf r s.opId ++ [⟨r' + 1, s.opId⟩] } := by
    obtain ⟨-, hid, -, hb⟩ := pend_spec r s
    obtain ⟨-, -, -, hb'⟩ := pend_spec (r' + 1) (pend r s)
    rw [hb', hb, hid]
    rfl
  refine ⟨?_, hb⟩
  by_cases h : r = 0
  · have hr : pend r s = s := if_pos h
    rw [hr]
    exact (pend_spec _ s).1
  · have hr : pend r s = s.modBank fun b => { b with pending := b.pending ++ [⟨r, s.opId⟩] } := if_neg h
    rw [hr, pend, if_neg (Nat.succ_ne_zero r'), State.modBank_modBank]
    exact onlyBank_modBank s _

theorem pendOf_toNat (r : BitVec 5) (id : Nat) : pendOf r.toNat id = if r = 0 then [] else [⟨r.toNat, id⟩] := by
  refine if_congr ?_ rfl rfl
  rw [← BitVec.toNat_inj]
  rfl

theorem atomPend_spec (f : CForm) (s : State) : OnlyBank s (atomPend f s) ∧ (atomPend f s).bank =
    { s.bank with pending := s.bank.pending ++ (if f.cb = 0 then [] else [⟨f.cb.toNat, s.opId⟩]) ++
      (if f.opt.getLsbD 3 then [⟨f.cb.toNat + 1, s.opId⟩] else []) } := by
  rw [← pendOf_toNat]
  unfold atomPend
  cases f.opt.getLsbD 3
  · obtain ⟨ho, -, -, hb⟩ := pend_spec f.cb.toNat s
    exact ⟨ho, hb.trans (by simp)⟩
  · exact pend_pend f.cb.toNat s f.cb.toNat

/-- Settles O36. -/
theorem copiesComplete : Obligations.CopiesComplete := by
  intro f s h hp
  refine ⟨?_, fun r hr hv hs hbx => ?_, fun hva ha => ?_⟩
  · have hrow : ∀ (kind : OpKind) (opc : Nat) (st : Int) (nr pitch : Nat) (k : Nat), pitch % 128 = 0 →
        vaBad (s.bank.rdPair f.ca).toNat st nr f.len = false →
        localSpan s s.ctx.core s.bank (s.bank.rdS f.cb).toNat (localLen nr f.len pitch) = some k → 1 ≤ nr → nr ≤ 65535 →
        boxCount (s.bank.rdPair f.ca).toNat st nr f.len ≤ 256 →
        ∃ o : COp, guarded f.g s (directCopy f kind opc st nr pitch) = .next (submit o s) ∧ RequestOf s o kind opc f.grp.toNat ∧ o.loc = k ∧
          o.len = f.len ∧ o.rows = nr ∧ o.stride = BitVec.ofInt 32 st ∧ 128 * o.pitch = pitch ∧
          o.boxes = copyBoxes (s.bank.rdPair f.ca).toNat st nr f.len pitch := by
      intro kind opc st nr pitch k hpi hv hl h1 h2 h3
      have hc : directCause f st nr pitch s = none := directCause_none hv (by rw [hl]; rfl) (by omega)
      refine ⟨directOp f kind opc st nr pitch s, ?_, ⟨rfl, rfl, rfl, rfl, rfl, rfl, rfl, rfl, rfl, rfl, rfl, rfl, rfl, rfl, rfl, rfl⟩, ?_, rfl, rfl, rfl,
        ?_, ?_⟩
      · rw [guarded_of_true _ h, directCopy_eq, copyRequested_submits hc hp]
      · exact congrArg (fun o => Option.getD o 0) hl
      · exact Nat.mul_div_cancel' (Nat.dvd_of_mod_eq_zero hpi)
      · exact if_neg (by rw [hc]; decide)
    refine List.forall_mem_cons.2 ⟨fun k hv hl h1 h2 h3 => ?_, List.forall_mem_cons.2 ⟨fun k hv hl h1 h2 h3 => ?_,
      List.forall_mem_cons.2 ⟨fun k hv hl h1 h2 h3 => ?_, List.forall_mem_cons.2 ⟨fun k hv hl h1 h2 h3 => ?_,
      fun _ h => absurd h List.not_mem_nil⟩⟩⟩⟩
    · exact hrow .load 0 0 1 0 k rfl hv hl h1 h2 h3
    · exact hrow .store 1 0 1 0 k rfl hv hl h1 h2 h3
    · exact hrow .load 2 _ _ _ k (Nat.mul_mod_left _ _) hv hl h1 h2 h3
    · exact hrow .store 3 _ _ _ k (Nat.mul_mod_left _ _) hv hl h1 h2 h3
  · have hc : ringCause f s = none := by rw [ringCause_some hv hr, if_neg (by omega)]
    refine ⟨ringOp f s, ?_, ⟨rfl, rfl, rfl, rfl, rfl, rfl, rfl, rfl, rfl, rfl, rfl, rfl, rfl, rfl, rfl, rfl⟩, rfl, rfl, rfl, if_neg (by rw [hc]; decide)⟩
    refine (show execCldr f s = _ from (execCldr_eq f s).trans (guarded_of_true _ h)).trans ?_
    rw [copyRequested_submits hc hp]
  · obtain ⟨ho, hb⟩ := atomPend_spec f s
    refine ⟨atomOp f s, atomPend f s, ?_, ⟨rfl, rfl, rfl, rfl, rfl, rfl, rfl, rfl, rfl, rfl, rfl, rfl, rfl, rfl, rfl, rfl⟩, rfl, rfl, rfl, rfl, rfl, rfl,
      rfl, ho, hb⟩
    refine (show execCatom f s = _ from (execCatom_eq f s).trans (guarded_of_true _ h)).trans ?_
    rw [catomBody, atomCause_none hva ha]
    exact congrArg Host.Outcome.next (if_neg (not_not.2 hp))

end Sys2Proof.Machine
end

section
/-! PROOF. Publications, and where the copy class traps: the obligations CopiesTrapOrWait and PublicationsComplete. -/

namespace Sys2Proof.Machine

open Sys2Proof

/-! ### Publications -/

section
variable {cause : Option (BitVec 8)} {f : CForm} {grp : Option Nat} {pkts : List (Packet × List (Nat × Nat))} {s : State} {c : BitVec 8}

/-- The request of a publication. -/
def publishOp (f : CForm) (grp : Option Nat) (pkts : List (Packet × List (Nat × Nat))) (s : State) : COp :=
  { newOp s .publish 0 grp with
    len := f.len, pkts := pkts, rel := f.rel, before := if f.rel then effectsWithin s 4 else []
    opnd := if pkts.any (fun p => cutEdgeOf s p.1) then 4 else 3 }

theorem publish_trap (h : cause = some c) : publish cause f grp pkts s = takeSlotTrap s c := requested_trap h

theorem publish_submits (h : cause = none) : publish cause f grp pkts s = submit (publishOp f grp pkts s) s := requested_submits h

end

section
variable {f : CForm} {la : Nat} {place : Option Nat} {t : Option Tensor} {bad : Bool}

theorem tileCause_misaligned (h : la % 4 ≠ 0) : tileCause f la place t bad = some causeMisaligned := firstCause_of_true _ _ (by simpa using h)

theorem tileCause_range (h : la % 4 = 0) (hp : place = none) : tileCause f la place t bad = some causeAddrRange := by
  unfold tileCause
  rw [firstCause_of_false _ _ (by simpa using h), firstCause_of_true _ _ (by rw [hp]; rfl)]

theorem tileCause_unknown (h : la % 4 = 0) (hp : place.isSome = true) (ht : t = none) : tileCause f la place t bad = some causeUnknownTensor := by
  unfold tileCause
  rw [firstCause_of_false _ _ (by simpa using h), firstCause_of_false _ _ (by simpa using hp), firstCause_of_true _ _ (by rw [ht]; rfl)]

/-- The checks of a tile whose tensor is known, once its address has passed. -/
theorem tileCause_known {x : Tensor} (h : la % 4 = 0) (hp : place.isSome = true) : tileCause f la place (some x) bad =
    if x.tileSize ≠ f.len then some causeTileSize else if bad then some causeReduction else none := by
  unfold tileCause
  rw [firstCause_of_false _ _ (by simpa using h), firstCause_of_false _ _ (by simpa using hp),
    firstCause_of_false _ _ (show (some x).isNone = false from rfl), firstCause_cons, firstCause_cons]
  refine if_congr ?_ rfl rfl
  simp

end

section
variable {f : CForm} {s : State}

/-- Where the tile of a publication lies. -/
def pubPlace (f : CForm) (s : State) : Option Nat := localSpan s s.ctx.core s.bank (s.bank.rdS f.ca).toNat f.len

/-- The tensor that a publication names. -/
def pubTensor (f : CForm) (s : State) : Option Tensor := namedTensor s (nameAt s f.cb)

/-- The packet of a PUB. -/
def pubPacket (f : CForm) (s : State) : Packet :=
  Packet.ofTensor (pubTensor f s) { taskPacket s (nameAt s f.cb) 0 (some f.grp.toNat) with gen := pubGen f 1 s, rel := f.rel }

theorem execPub_eq (f : CForm) (s : State) : execPub f s = guarded f.g s fun s =>
    publish (tileCause f (s.bank.rdS f.ca).toNat (pubPlace f s) (pubTensor f s) false) f (some f.grp.toNat)
      [(pubPacket f s, [((pubPlace f s).getD 0, f.len)])] s := by rfl

/-- A PUBC without a reduction. -/
def plainPub (f : CForm) (coll : Bool) (s : State) : Bool := coll && redOf f (pubTensor f s) = 0

/-- A contribution fails the checks of R349. -/
def contributionBad (f : CForm) (coll : Bool) (s : State) : Bool :=
  match pubTensor f s with
  | some t => !plainPub f coll s && badContribution f t (s.bank.rdS (f.ca + 1))
  | none => false

/-- The packet of a contribution. -/
def contributionPacket (f : CForm) (coll : Bool) (step run : Nat) (s : State) : Packet :=
  Packet.ofTensor (pubTensor f s) { taskPacket s (nameAt s f.cb) (if plainPub f coll s then 0 else 2) (some f.grp.toNat) with
    gen := pubGen f run s, rel := f.rel, coll := coll, step := step
    red := if plainPub f coll s then 0 else redOf f (pubTensor f s)
    cidx := if plainPub f coll s then 0 else (s.bank.rdS (f.ca + 1)).toNat % 2 ^ 16
    ccnt := if plainPub f coll s then 0 else ccntOf (s.bank.rdS (f.ca + 1)) (pubTensor f s) }

theorem contribute_eq (f : CForm) (coll : Bool) (step run : Nat) (s : State) : contribute f coll step run s =
    publish (tileCause f (s.bank.rdS f.ca).toNat (pubPlace f s) (pubTensor f s) (contributionBad f coll s)) f (some f.grp.toNat)
      [(contributionPacket f coll step run s, [((pubPlace f s).getD 0, f.len)])] s := by
  rfl

/-- The rows of a PUBR. -/
def pubrRows (f : CForm) (s : State) : Nat := (s.bank.rdS (f.ca + 1)).toNat

/-- A PUBR with no rows or too many. -/
def pubrSkip (f : CForm) (s : State) : Bool := pubrRows f s < 1 || 4096 < pubrRows f s

/-- Where the rows of a PUBR lie. -/
def pubrPlace (f : CForm) (s : State) : Option Nat :=
  if pubrSkip f s then none else localSpan s s.ctx.core s.bank (s.bank.rdS f.ca).toNat (pubrRows f s * f.len)

/-- Where the tags of a PUBR lie. -/
def pubrTags (f : CForm) (s : State) : Option Nat :=
  if pubrSkip f s then none else localSpan s s.ctx.core s.bank (s.bank.rdS (f.ca + 2)).toNat (4 * pubrRows f s)

/-- The checks of a PUBR. -/
def pubrCause (f : CForm) (s : State) : Option (BitVec 8) :=
  firstCause
    [(!pubrSkip f s && ((s.bank.rdS f.ca).toNat % 4 ≠ 0 || (s.bank.rdS (f.ca + 2)).toNat % 4 ≠ 0), causeMisaligned),
     (!pubrSkip f s && ((pubrPlace f s).isNone || (pubrTags f s).isNone), causeAddrRange),
     (pubrSkip f s, causeCopyLength), ((pubTensor f s).isNone, causeUnknownTensor),
     ((match pubTensor f s with | some t => t.tileSize < f.len + 4 | none => false), causeTileSize)]

/-- The packet of each row of a PUBR. -/
def pubrPacket (f : CForm) (s : State) : Packet :=
  Packet.ofTensor (pubTensor f s) { taskPacket s (nameAt s f.cb) 4 (some f.grp.toNat) with gen := pubGen f 3 s, rel := f.rel }

theorem execPubr_eq (f : CForm) (s : State) : execPubr f s = guarded f.g s fun s =>
    publish (pubrCause f s) f (some f.grp.toNat) (if (pubrCause f s).isSome then [] else (List.range (pubrRows f s)).map fun i =>
      (pubrPacket f s, [((pubrTags f s).getD 0 + 4 * i, 4), ((pubrPlace f s).getD 0 + i * f.len, f.len)])) s := by
  rfl

theorem pubrCause_length (h : pubrRows f s < 1 ∨ 4096 < pubrRows f s) : pubrCause f s = some causeCopyLength := by
  have hs : pubrSkip f s = true := by simpa [pubrSkip] using h
  rw [pubrCause, firstCause_of_false _ _ (by rw [hs]; rfl), firstCause_of_false _ _ (by rw [hs]; rfl), firstCause_of_true _ _ hs]

section
variable (h1 : 1 ≤ pubrRows f s) (h2 : pubrRows f s ≤ 4096)
include h1 h2

theorem pubrSkip_eq_false : pubrSkip f s = false := by
  simp only [pubrSkip, Bool.or_eq_false_iff, decide_eq_false_iff_not]
  omega

theorem pubrPlace_eq : pubrPlace f s = localSpan s s.ctx.core s.bank (s.bank.rdS f.ca).toNat (pubrRows f s * f.len) :=
  if_neg (by rw [pubrSkip_eq_false h1 h2]; decide)

theorem pubrTags_eq : pubrTags f s = localSpan s s.ctx.core s.bank (s.bank.rdS (f.ca + 2)).toNat (4 * pubrRows f s) :=
  if_neg (by rw [pubrSkip_eq_false h1 h2]; decide)

theorem pubrCause_misaligned (h : (s.bank.rdS f.ca).toNat % 4 ≠ 0 ∨ (s.bank.rdS (f.ca + 2)).toNat % 4 ≠ 0) :
    pubrCause f s = some causeMisaligned :=
  firstCause_of_true _ _ (by rw [pubrSkip_eq_false h1 h2]; simpa using h)

variable (ha : (s.bank.rdS f.ca).toNat % 4 = 0) (ht : (s.bank.rdS (f.ca + 2)).toNat % 4 = 0)
include ha ht

theorem pubrCause_range (h : pubrPlace f s = none ∨ pubrTags f s = none) : pubrCause f s = some causeAddrRange := by
  rw [pubrCause, firstCause_of_false _ _ (by simp only [ha, ht, ne_eq, not_true_eq_false, decide_false, Bool.or_self, Bool.and_false]), firstCause_of_true]
  rw [pubrSkip_eq_false h1 h2]
  simpa using h

/-- The checks of a PUBR whose rows and addresses have passed. -/
theorem pubrCause_placed (hp : (pubrPlace f s).isSome = true) (hg : (pubrTags f s).isSome = true) : pubrCause f s =
    match pubTensor f s with
    | none => some causeUnknownTensor
    | some x => if x.tileSize < f.len + 4 then some causeTileSize else none := by
  rw [pubrCause, firstCause_of_false _ _ (by simp only [ha, ht, ne_eq, not_true_eq_false, decide_false, Bool.or_self, Bool.and_false]), firstCause_of_false,
    firstCause_of_false _ _ (pubrSkip_eq_false h1 h2)]
  · cases pubTensor f s with
    | none => rfl
    | some x =>
      rw [firstCause_of_false _ _ (show (some x).isNone = false from rfl), firstCause_cons]
      refine if_congr ?_ rfl rfl
      simp
  · rw [Bool.and_eq_false_iff, Bool.or_eq_false_iff]
    exact Or.inr ⟨by simpa using hp, by simpa using hg⟩

end

/-! ### GETs, pips and prefetches -/

/-- The checks of a CGET. -/
def cgetCause (f : CForm) (s : State) : Option (BitVec 8) :=
  firstCause [((s.bank.rdS f.ca).toNat % 4 ≠ 0, causeMisaligned), ((pubPlace f s).isNone, causeAddrRange), (4096 < f.len, causeGetLength),
    ((pubTensor f s).isNone, causeUnknownTensor)]

/-- The response slots of a CGET. -/
def cgetRun (f : CForm) (s : State) : List Nat :=
  (freeRun (s.ctx.gets ++ slotsInUse s s.ctx.core s.ctx.bank) ((f.len + 511) / 512)).getD []

/-- The packet of a CGET. -/
def cgetPacket (f : CForm) (s : State) : Packet :=
  { taskPacket s (nameAt s f.cb) 6 none with
    gen := 0, gslot := (cgetRun f s).headD 0, op := s.opId, ask := f.len, pclass := match pubTensor f s with | some t => t.pclass | none => 0 }

theorem execCget_eq (f : CForm) (s : State) : execCget f s = guarded f.g s fun s => requested (cgetCause f s)
    { newOp s .get 0 (some f.grp.toNat) with
      loc := (pubPlace f s).getD 0, len := f.len, gslots := cgetRun f s, send := [.getRequest (cgetPacket f s)] } s := by
  rfl

theorem cgetCause_misaligned (h : (s.bank.rdS f.ca).toNat % 4 ≠ 0) : cgetCause f s = some causeMisaligned :=
  firstCause_of_true _ _ (by simpa using h)

theorem cgetCause_range (h : (s.bank.rdS f.ca).toNat % 4 = 0) (hp : pubPlace f s = none) : cgetCause f s = some causeAddrRange := by
  rw [cgetCause, firstCause_of_false _ _ (by simpa using h), firstCause_of_true _ _ (by rw [hp]; rfl)]

theorem cgetCause_length (h : (s.bank.rdS f.ca).toNat % 4 = 0) (hp : (pubPlace f s).isSome = true) (hl : 4096 < f.len) :
    cgetCause f s = some causeGetLength := by
  rw [cgetCause, firstCause_of_false _ _ (by simpa using h), firstCause_of_false _ _ (by simpa using hp), firstCause_of_true _ _ (by simpa using hl)]

theorem cgetCause_placed (h : (s.bank.rdS f.ca).toNat % 4 = 0) (hp : (pubPlace f s).isSome = true) (hl : f.len ≤ 4096) :
    cgetCause f s = if (pubTensor f s).isNone then some causeUnknownTensor else none := by
  rw [cgetCause, firstCause_of_false _ _ (by simpa using h), firstCause_of_false _ _ (by simpa using hp), firstCause_of_false _ _ (by simpa using hl)]
  rfl

/-- The packet of a PIP. -/
def pipPacket (f : CForm) (s : State) : Packet :=
  Packet.ofTensor (pubTensor f s) { taskPacket s (nameAt s f.cb) 1 none with gen := pubGen f 0 s, rel := f.rel }

theorem execPip_eq (f : CForm) (s : State) : execPip f s = guarded f.g s fun s =>
    publish (firstCause [((pubTensor f s).isNone, causeUnknownTensor)]) f none [(pipPacket f s, [])] s := by
  rfl

/-- The packet of a CPREF. -/
def cprefPacket (f : CForm) (s : State) : Packet := Packet.ofTensor (pubTensor f s) (taskPacket s (nameAt s f.cb) 8 none)

theorem execCpref_eq (f : CForm) (s : State) : execCpref f s = guarded f.g s fun s =>
    requested (firstCause [((pubTensor f s).isNone, causeUnknownTensor)])
      { newOp s .control 0 none with send := [.prefetchAtHome (cprefPacket f s)] } s := by
  rfl

end

/-- What a tensor gives a packet leaves the rest of it. -/
theorem Packet.ofTensor_eq (t : Option Tensor) (p : Packet) :
    Packet.ofTensor t p = { p with pclass := (Packet.ofTensor t p).pclass, retexp := (Packet.ofTensor t p).retexp } := by
  cases t <;> rfl

/-! ### Traps -/

section
variable {f : CForm} {s : State} (h : guardTrue f.g s.bank = true)
include h

theorem exec_copy (kind : OpKind) (opc : Nat) (st : Int) (nr pitch : Nat) :
    guarded f.g s (directCopy f kind opc st nr pitch) = .next (copyRequested (directCause f st nr pitch s) f (directOp f kind opc st nr pitch s) s) :=
  guarded_of_true _ h

theorem exec_cldr : exec (.cldr f) s = .next (copyRequested (ringCause f s) f (ringOp f s) s) :=
  show execCldr f s = _ from (execCldr_eq f s).trans (guarded_of_true _ h)

theorem exec_catom : exec (.catom f) s = .next (catomBody f s) :=
  show execCatom f s = _ from (execCatom_eq f s).trans (guarded_of_true _ h)

theorem exec_pub : exec (.pub f) s = .next (publish (tileCause f (s.bank.rdS f.ca).toNat (pubPlace f s) (pubTensor f s) false) f (some f.grp.toNat)
    [(pubPacket f s, [((pubPlace f s).getD 0, f.len)])] s) :=
  show execPub f s = _ from (execPub_eq f s).trans (guarded_of_true _ h)

theorem exec_pubred : exec (.pubred f) s = .next (contribute f false 0 2 s) :=
  show execPubred f s = _ from guarded_of_true _ h

theorem exec_pubc : exec (.pubc f) s = .next (contribute f true ((s.bank.rdS (f.ca + 2)).toNat % 2 ^ 16) 3 s) :=
  show execPubc f s = _ from guarded_of_true _ h

theorem exec_pubr : exec (.pubr f) s = .next (publish (pubrCause f s) f (some f.grp.toNat)
    (if (pubrCause f s).isSome then [] else (List.range (pubrRows f s)).map fun i =>
      (pubrPacket f s, [((pubrTags f s).getD 0 + 4 * i, 4), ((pubrPlace f s).getD 0 + i * f.len, f.len)])) s) :=
  show execPubr f s = _ from (execPubr_eq f s).trans (guarded_of_true _ h)

theorem exec_cget : exec (.cget f) s = .next (requested (cgetCause f s)
    { newOp s .get 0 (some f.grp.toNat) with
      loc := (pubPlace f s).getD 0, len := f.len, gslots := cgetRun f s, send := [.getRequest (cgetPacket f s)] } s) :=
  show execCget f s = _ from (execCget_eq f s).trans (guarded_of_true _ h)

theorem exec_pip : exec (.pip f) s = .next (publish (firstCause [((pubTensor f s).isNone, causeUnknownTensor)]) f none [(pipPacket f s, [])] s) :=
  show execPip f s = _ from (execPip_eq f s).trans (guarded_of_true _ h)

theorem exec_cpref : exec (.cpref f) s = .next (requested (firstCause [((pubTensor f s).isNone, causeUnknownTensor)])
    { newOp s .control 0 none with send := [.prefetchAtHome (cprefPacket f s)] } s) :=
  show execCpref f s = _ from (execCpref_eq f s).trans (guarded_of_true _ h)

/-- An instruction traps at its slot. -/
def TrapsAt (s : State) (i : Instr) (c : BitVec 8) : Prop := ∃ t, exec i s = .next t ∧ Trapped s t c s.ctx.slot

omit h in
theorem trapsAt_of_slotTrap {i : Instr} {u : State} {c : BitVec 8} (he : exec i s = .next u) (hu : u = takeSlotTrap s c) : TrapsAt s i c :=
  ⟨u, he, hu ▸ trapped_takeSlotTrap s c⟩

/-- The publications of one tile trap where their common checks fail. -/
theorem tile_traps {c : BitVec 8}
    (hc : ∀ bad, tileCause f (s.bank.rdS f.ca).toNat (pubPlace f s) (pubTensor f s) bad = some c) :
    ∀ i ∈ ([.pub f, .pubred f, .pubc f] : List Instr), TrapsAt s i c :=
  List.forall_mem_cons.2 ⟨trapsAt_of_slotTrap (exec_pub h) (publish_trap (hc _)),
    List.forall_mem_cons.2 ⟨trapsAt_of_slotTrap (exec_pubred h) ((contribute_eq _ _ _ _ _).trans (publish_trap (hc _))),
    List.forall_mem_cons.2 ⟨trapsAt_of_slotTrap (exec_pubc h) ((contribute_eq _ _ _ _ _).trans (publish_trap (hc _))),
    fun _ h => absurd h List.not_mem_nil⟩⟩⟩

/-- A direct copy traps at its checks, or takes page wait. -/
theorem directCopy_traps {i : Instr} {kind : OpKind} {opc : Nat} {st : Int} {nr pitch : Nat}
    (hi : exec i s = guarded f.g s (directCopy f kind opc st nr pitch)) :
    let va := (s.bank.rdPair f.ca).toNat
    let place := localSpan s s.ctx.core s.bank (s.bank.rdS f.cb).toNat (localLen nr f.len pitch)
    let many := nr < 1 ∨ 65535 < nr ∨ 256 < boxCount va st nr f.len
    (vaBad va st nr f.len = true → TrapsAt s i causeAddrRange) ∧ (place = none → TrapsAt s i causeAddrRange) ∧
      (vaBad va st nr f.len = false → place.isSome = true → many → TrapsAt s i causeCopyLength) ∧
      (vaBad va st nr f.len = false → place.isSome = true → ¬ many → (s.bank.group f.grp.toNat).faulted ≠ 0 →
        exec i s = .next (takePageWait s f.grp.toNat)) := by
  have he := hi.trans (exec_copy h kind opc st nr pitch)
  exact ⟨fun hv => trapsAt_of_slotTrap he (copyRequested_trap (directCause_va hv)),
    fun hl => trapsAt_of_slotTrap he (copyRequested_trap (directCause_local hl)),
    fun hv hl hm => trapsAt_of_slotTrap he (copyRequested_trap (directCause_many hv hl hm)),
    fun hv hl hm hp => he.trans (congrArg _ (copyRequested_waits (directCause_none hv hl hm) hp))⟩

theorem cldr_traps : let src := (s.bank.rdPair f.cb).toNat
    (vaBad src 0 1 f.len = true → TrapsAt s (.cldr f) causeAddrRange) ∧
      (vaBad src 0 1 f.len = false → s.bank.ring f.ca.toNat = none → TrapsAt s (.cldr f) causeRingRange) ∧
      ∀ r, vaBad src 0 1 f.len = false → s.bank.ring f.ca.toNat = some r →
        (r.count < slotsFor r f.len ∨ 256 < boxCount src 0 1 f.len → TrapsAt s (.cldr f) causeCopyLength) ∧
        (slotsFor r f.len ≤ r.count → boxCount src 0 1 f.len ≤ 256 → (s.bank.group f.grp.toNat).faulted ≠ 0 →
          exec (.cldr f) s = .next (takePageWait s f.grp.toNat)) := by
  have he := exec_cldr h
  refine ⟨fun hv => trapsAt_of_slotTrap he (copyRequested_trap (ringCause_va hv)),
    fun hv hr => trapsAt_of_slotTrap he (copyRequested_trap (ringCause_none hv hr)), fun r hv hr => ⟨fun hm => ?_, fun h1 h2 hp => ?_⟩⟩
  · exact trapsAt_of_slotTrap he (copyRequested_trap ((ringCause_some hv hr).trans (if_pos hm)))
  · exact he.trans (congrArg _ (copyRequested_waits ((ringCause_some hv hr).trans (if_neg (by omega))) hp))

theorem catom_traps : let va := (s.bank.rdPair f.ca).toNat
    (vaEnd ≤ va → TrapsAt s (.catom f) causeAddrRange) ∧ (va < vaEnd → va % atomWidth f ≠ 0 → TrapsAt s (.catom f) causeMisaligned) ∧
      (va < vaEnd → va % atomWidth f = 0 → (s.bank.group f.grp.toNat).faulted ≠ 0 → exec (.catom f) s = .next (takePageWait s f.grp.toNat)) := by
  have he := exec_catom h
  refine ⟨fun hv => trapsAt_of_slotTrap he ?_, fun hv ha => trapsAt_of_slotTrap he ?_, fun hv ha hp => he.trans (congrArg _ ?_)⟩
  · rw [catomBody, atomCause_range hv]
  · rw [catomBody, atomCause_misaligned hv ha]
  · rw [catomBody, atomCause_none hv ha]
    exact if_pos hp

omit h in
theorem contributionBad_of_some {coll : Bool} {x : Tensor} (hx : pubTensor f s = some x) :
    contributionBad f coll s = (!(coll && decide (redOf f (some x) = 0)) && badContribution f x (s.bank.rdS (f.ca + 1))) := by
  rw [contributionBad, plainPub, hx]

/-- What a GET and the publications of one tile take where their tile or its name fails. -/
theorem tile_checks : let la := (s.bank.rdS f.ca).toNat
    (∀ i ∈ ([.cget f, .pub f, .pubred f, .pubc f] : List Instr),
      (la % 4 ≠ 0 → TrapsAt s i causeMisaligned) ∧ (la % 4 = 0 → pubPlace f s = none → TrapsAt s i causeAddrRange)) ∧
    (la % 4 = 0 → (pubPlace f s).isSome = true → 4096 < f.len → TrapsAt s (.cget f) causeGetLength) ∧
    (la % 4 = 0 → (pubPlace f s).isSome = true → f.len ≤ 4096 → pubTensor f s = none → TrapsAt s (.cget f) causeUnknownTensor) ∧
    ∀ x, la % 4 = 0 → (pubPlace f s).isSome = true → pubTensor f s = some x →
      (x.tileSize ≠ f.len → ∀ i ∈ ([.pub f, .pubred f, .pubc f] : List Instr), TrapsAt s i causeTileSize) ∧
      (x.tileSize = f.len → badContribution f x (s.bank.rdS (f.ca + 1)) = true →
        TrapsAt s (.pubred f) causeReduction ∧ (redOf f (some x) ≠ 0 → TrapsAt s (.pubc f) causeReduction)) := by
  have hget := exec_cget h
  refine ⟨List.forall_mem_cons.2 ⟨⟨fun ha => trapsAt_of_slotTrap hget (requested_trap (cgetCause_misaligned ha)),
      fun ha hp => trapsAt_of_slotTrap hget (requested_trap (cgetCause_range ha hp))⟩, fun i hi => ⟨fun ha => ?_, fun ha hp => ?_⟩⟩,
    fun ha hp hl => trapsAt_of_slotTrap hget (requested_trap (cgetCause_length ha hp hl)),
    fun ha hp hl ht => trapsAt_of_slotTrap hget (requested_trap ((cgetCause_placed ha hp hl).trans (if_pos (by rw [ht]; rfl)))),
    fun x ha hp hx => ⟨fun hs => ?_, fun hs hb => ⟨?_, fun hr => ?_⟩⟩⟩
  · exact tile_traps h (fun _ => tileCause_misaligned ha) i hi
  · exact tile_traps h (fun _ => tileCause_range ha hp) i hi
  · exact tile_traps h fun bad => by rw [hx, tileCause_known ha hp, if_pos hs]
  · refine trapsAt_of_slotTrap (exec_pubred h) ((contribute_eq _ _ _ _ _).trans (publish_trap ?_))
    rw [contributionBad_of_some hx, hx, tileCause_known ha hp, if_neg (not_not.2 hs), hb]
    rfl
  · refine trapsAt_of_slotTrap (exec_pubc h) ((contribute_eq _ _ _ _ _).trans (publish_trap ?_))
    rw [contributionBad_of_some hx, hx, tileCause_known ha hp, if_neg (not_not.2 hs), hb, decide_eq_false hr]
    rfl

theorem pubr_traps : let la := (s.bank.rdS f.ca).toNat
    let ta := (s.bank.rdS (f.ca + 2)).toNat
    let place := localSpan s s.ctx.core s.bank la (pubrRows f s * f.len)
    let tags := localSpan s s.ctx.core s.bank ta (4 * pubrRows f s)
    (pubrRows f s < 1 ∨ 4096 < pubrRows f s → TrapsAt s (.pubr f) causeCopyLength) ∧
      (1 ≤ pubrRows f s → pubrRows f s ≤ 4096 →
        (la % 4 ≠ 0 ∨ ta % 4 ≠ 0 → TrapsAt s (.pubr f) causeMisaligned) ∧
        (la % 4 = 0 → ta % 4 = 0 →
          (place = none ∨ tags = none → TrapsAt s (.pubr f) causeAddrRange) ∧
          (place.isSome = true → tags.isSome = true →
            (pubTensor f s = none → TrapsAt s (.pubr f) causeUnknownTensor) ∧
            ∀ x, pubTensor f s = some x → x.tileSize < f.len + 4 → TrapsAt s (.pubr f) causeTileSize))) := by
  have he := exec_pubr h
  refine ⟨fun hl => trapsAt_of_slotTrap he (publish_trap (pubrCause_length hl)), fun h1 h2 => ⟨fun ha =>
    trapsAt_of_slotTrap he (publish_trap (pubrCause_misaligned h1 h2 ha)), fun ha ht => ?_⟩⟩
  rw [← pubrPlace_eq h1 h2, ← pubrTags_eq h1 h2]
  refine ⟨fun hp => trapsAt_of_slotTrap he (publish_trap (pubrCause_range h1 h2 ha ht hp)), fun hp hg => ⟨fun hx => ?_, fun x hx hs => ?_⟩⟩
  · refine trapsAt_of_slotTrap he (publish_trap ((pubrCause_placed h1 h2 ha ht hp hg).trans ?_))
    rw [hx]
  · refine trapsAt_of_slotTrap he (publish_trap ((pubrCause_placed h1 h2 ha ht hp hg).trans ?_))
    rw [hx]
    exact if_pos hs

theorem unknown_traps (hx : pubTensor f s = none) : TrapsAt s (.pip f) causeUnknownTensor ∧ TrapsAt s (.cpref f) causeUnknownTensor :=
  ⟨trapsAt_of_slotTrap (exec_pip h) (publish_trap (firstCause_of_true _ _ (by rw [hx]; rfl))),
    trapsAt_of_slotTrap (exec_cpref h) (requested_trap (firstCause_of_true _ _ (by rw [hx]; rfl)))⟩

end

/-- Settles O38. -/
theorem copiesTrapOrWait : Obligations.CopiesTrapOrWait := by
  refine ⟨fun f s h => ⟨?_, cldr_traps h, catom_traps h, tile_checks h, pubr_traps h⟩, fun f s h hx => ⟨?_, ?_⟩⟩
  · exact List.forall_mem_cons.2 ⟨directCopy_traps (i := .cld f) (kind := .load) (opc := 0) h rfl,
      List.forall_mem_cons.2 ⟨directCopy_traps (i := .cst f) (kind := .store) (opc := 1) h rfl,
      List.forall_mem_cons.2 ⟨directCopy_traps (i := .cld2d f) (kind := .load) (opc := 2) h rfl,
      List.forall_mem_cons.2 ⟨directCopy_traps (i := .cst2d f) (kind := .store) (opc := 3) h rfl, fun _ h => absurd h List.not_mem_nil⟩⟩⟩⟩
  · exact List.forall_mem_cons.2 ⟨(unknown_traps h hx).1, List.forall_mem_cons.2 ⟨(unknown_traps h hx).2, fun _ h => absurd h List.not_mem_nil⟩⟩
  · have hrow := fun ha hp => tile_traps h (c := causeUnknownTensor) fun bad => tileCause_unknown (bad := bad) ha hp hx
    exact List.forall_mem_cons.2 ⟨fun ha hp => hrow ha hp _ (by simp), List.forall_mem_cons.2 ⟨fun ha hp => hrow ha hp _ (by simp),
      List.forall_mem_cons.2 ⟨fun ha hp => hrow ha hp _ (by simp), fun _ h => absurd h List.not_mem_nil⟩⟩⟩

/-! ### Requests handed over -/

/-- What a tensor gives a packet leaves its fields but PCLASS and RETEXP. -/
theorem Packet.ofTensor_field {β : Type} (t : Option Tensor) (p : Packet) (g : Packet → β)
    (h : ∀ pc re, g { p with pclass := pc, retexp := re } = g p) : g (Packet.ofTensor t p) = g p := by
  rw [Packet.ofTensor_eq]
  exact h _ _

section
variable {f : CForm} {s : State} {t : Tensor} {k : Nat} (ha : (s.bank.rdS f.ca).toNat % 4 = 0) (hp : pubPlace f s = some k)
  (hx : pubTensor f s = some t) (hs : t.tileSize = f.len)
include ha hp hx hs

theorem tileCause_passes {bad : Bool} (hb : bad = false) : tileCause f (s.bank.rdS f.ca).toNat (pubPlace f s) (pubTensor f s) bad = none := by
  rw [hx, tileCause_known ha (by rw [hp]; rfl), if_neg (not_not.2 hs), hb]
  rfl

/-- A contribution that passes the checks hands over its tile. -/
theorem contribute_submits {coll : Bool} {step run : Nat} (hb : contributionBad f coll s = false) :
    contribute f coll step run s = submit (publishOp f (some f.grp.toNat) [(contributionPacket f coll step run s, [(k, f.len)])] s) s := by
  rw [contribute_eq, publish_submits (tileCause_passes ha hp hx hs hb), hp]
  rfl

end

section
variable {f : CForm} {s : State} {t : Tensor} (hx : pubTensor f s = some t)
include hx

theorem plainPub_of_red (hr : redOf f (some t) = 0) : plainPub f true s = true := by
  rw [plainPub, hx, hr]
  rfl

theorem contributionBad_of_passes {coll : Bool} (hb : badContribution f t (s.bank.rdS (f.ca + 1)) = false) : contributionBad f coll s = false := by
  rw [contributionBad_of_some hx, hb, Bool.and_false]

theorem contributionBad_of_red (hr : redOf f (some t) = 0) : contributionBad f true s = false := by
  rw [contributionBad_of_some hx, hr]
  rfl

end

/-- Settles O40. -/
theorem publicationsComplete : Obligations.PublicationsComplete := by
  intro f s t h (hx : pubTensor f s = some t)
  have hknown : (pubTensor f s).isNone = false := by rw [hx]; rfl
  have hnamed : firstCause [((pubTensor f s).isNone, causeUnknownTensor)] = none := firstCause_of_false _ _ hknown
  refine ⟨fun k ha hk hl => ?_, fun k ha (hk : pubPlace f s = some k) hs => ⟨?_, fun hr => ?_, fun hb => ⟨?_, ?_⟩⟩,
    fun k kt h1 h2 ha ht hk hkt hs => ?_, ?_, ?_⟩
  · have hp : pubPlace f s = some k := hk
    have hc : cgetCause f s = none := (cgetCause_placed ha (by rw [hp]; rfl) hl).trans (if_neg (by rw [hknown]; exact Bool.false_ne_true))
    refine ⟨_, cgetPacket f s, (exec_cget h).trans (congrArg _ (requested_submits hc)), rfl, congrArg (fun o => Option.getD o 0) hp, rfl, rfl, rfl, rfl, rfl,
      fun run hrun => ?_⟩
    have hr : cgetRun f s = run := congrArg (fun o => Option.getD o []) hrun
    exact ⟨hr, congrArg (fun l => l.headD 0) hr⟩
  · refine ⟨_, _, (exec_pub h).trans (congrArg _ (publish_submits (tileCause_passes ha hk hx hs rfl))), rfl, rfl, rfl,
      congrArg (fun o => [(pubPacket f s, [(Option.getD o 0, f.len)])]) hk, Packet.ofTensor_field _ _ Packet.name fun _ _ => rfl,
      Packet.ofTensor_field _ _ Packet.kind fun _ _ => rfl, Packet.ofTensor_field _ _ Packet.gen fun _ _ => rfl, ?_⟩
    rw [pubPacket, hx]
    rfl
  · have hq := plainPub_of_red hx hr
    refine ⟨_, _, (exec_pubc h).trans (congrArg _ (contribute_submits ha hk hx hs (contributionBad_of_red hx hr))), rfl, rfl,
      Packet.ofTensor_field _ _ Packet.name fun _ _ => rfl, (Packet.ofTensor_field _ _ Packet.kind fun _ _ => rfl).trans (if_pos hq),
      (Packet.ofTensor_field _ _ Packet.red fun _ _ => rfl).trans (if_pos hq), Packet.ofTensor_field _ _ Packet.coll fun _ _ => rfl,
      Packet.ofTensor_field _ _ Packet.step fun _ _ => rfl⟩
  · refine ⟨_, _, (exec_pubred h).trans (congrArg _ (contribute_submits ha hk hx hs (contributionBad_of_passes hx hb))), rfl, rfl,
      Packet.ofTensor_field _ _ Packet.name fun _ _ => rfl, Packet.ofTensor_field _ _ Packet.kind fun _ _ => rfl,
      (Packet.ofTensor_field _ _ Packet.red fun _ _ => rfl).trans (congrArg (redOf f) hx), Packet.ofTensor_field _ _ Packet.cidx fun _ _ => rfl,
      (Packet.ofTensor_field _ _ Packet.ccnt fun _ _ => rfl).trans (congrArg (ccntOf (s.bank.rdS (f.ca + 1))) hx)⟩
  · exact ⟨_, _, (exec_pubc h).trans (congrArg _ (contribute_submits ha hk hx hs (contributionBad_of_passes hx hb))), rfl, rfl,
      Packet.ofTensor_field _ _ Packet.name fun _ _ => rfl, Packet.ofTensor_field _ _ Packet.coll fun _ _ => rfl,
      Packet.ofTensor_field _ _ Packet.step fun _ _ => rfl⟩
  · have hp := (pubrPlace_eq h1 h2).trans hk
    have hg := (pubrTags_eq h1 h2).trans hkt
    have hc : pubrCause f s = none := (pubrCause_placed h1 h2 ha ht (by rw [hp]; rfl) (by rw [hg]; rfl)).trans (by rw [hx]; exact if_neg (by omega))
    refine ⟨_, pubrPacket f s, (exec_pubr h).trans (congrArg _ (publish_submits hc)), rfl, Packet.ofTensor_field _ _ Packet.kind fun _ _ => rfl,
      Packet.ofTensor_field _ _ Packet.name fun _ _ => rfl, ?_⟩
    rw [hc, hp, hg]
    rfl
  · exact ⟨_, _, (exec_pip h).trans (congrArg _ (publish_submits hnamed)), rfl, rfl, rfl,
      Packet.ofTensor_field _ _ Packet.name fun _ _ => rfl, Packet.ofTensor_field _ _ Packet.kind fun _ _ => rfl⟩
  · exact ⟨_, _, (exec_cpref h).trans (congrArg _ (requested_submits hnamed)), rfl, rfl,
      Packet.ofTensor_field _ _ Packet.name fun _ _ => rfl, Packet.ofTensor_field _ _ Packet.kind fun _ _ => rfl⟩

end Sys2Proof.Machine
end

section
/-! PROOF. Waiting, polling, fencing and cancelling of copy groups: the obligation CopyControlCompletes. -/

namespace Sys2Proof.Machine

open Sys2Proof

/-! ### What ending and cancelling leave of the operations -/

/-- An operation changed where it exists. -/
def opSet (m : KMap COp) (k : Nat) (f : COp → COp) : KMap COp :=
  match kget m k with
  | some x => kset m k (f x)
  | none => m

section
variable (s : State) (o : COp)

@[simp] theorem modOp_ops (k : Nat) (f : COp → COp) : (s.modOp k f).ops = opSet s.ops k f := by
  unfold State.modOp opSet
  cases kget s.ops k <;> rfl

@[simp] theorem raiseEvent_ops (c : Nat) (b : Bool) (e : Nat) : (raiseEvent s c b e).ops = s.ops := rfl

theorem leaveGroup_ops : (leaveGroup o s).ops = s.ops := by
  unfold leaveGroup
  cases o.grp with
  | none => rfl
  | some g =>
    dsimp only
    split <;> rfl

theorem leaveGroup_ctx : (leaveGroup o s).ctx = s.ctx := by
  unfold leaveGroup
  cases o.grp with
  | none => rfl
  | some g =>
    dsimp only
    split <;> rfl

theorem touchOp_ctx : (touchOp o s).ctx = s.ctx := by
  unfold touchOp
  split
  · rw [apply_ite State.ctx]
    exact ite_self _
  · rfl

theorem endOp_ctx : (endOp o s).ctx = s.ctx := (leaveGroup_ctx _ _).trans (touchOp_ctx s o)

@[simp] theorem endOp_ops : (endOp o s).ops = kdel s.ops o.id := leaveGroup_ops _ _

@[simp] theorem notePf_ops (up : Bool) : (notePf o up s).ops = s.ops := by
  unfold notePf
  cases o.grp <;> rfl

@[simp] theorem engineFull_ops (ws : List Nat) : (engineFull s ws).ops = s.ops := by
  cases ws with
  | nil => rfl
  | cons w ws =>
    unfold engineFull
    dsimp only
    cases spadOwner w <;> rfl

theorem foldl_ops {β : Type} {f : State → β → State} (hf : ∀ s x, (f s x).ops = s.ops) (l : List β) (s : State) : (l.foldl f s).ops = s.ops := by
  induction l generalizing s with
  | nil => rfl
  | cons x l ih => rw [List.foldl_cons, ih, hf]

@[simp] theorem fillDone_ops : (fillDone o s).ops = s.ops := by
  unfold fillDone
  split
  · rfl
  · refine foldl_ops (fun s j => ?_) _ s
    dsimp only
    rw [apply_ite State.ops]
    exact ite_self _

end

section
variable (o : COp)

/-- A copy that is cancelled at its engine. -/
def COp.stoppedAtEngine : COp := { o with cancelled := true, place := .engine }

/-- Nothing of a copy that is cancelled at its engine is on its way. -/
def COp.nothingComes : Bool :=
  boxesOver o.stoppedAtEngine && o.boxes.all (fun b => b.tr.isNone || b.done) && (o.kind ≠ .atomic || o.boxes.all fun b => b.tr.isNone)

/-- What is left of an operation that is cancelled (R393). -/
def COp.afterCancel : Option COp :=
  match o.place with
  | .queued => none
  | .network => if o.retryAt.isSome then none else some { o with cancelled := true }
  | .ended => some o
  | _ => if o.nothingComes then none else some o.stoppedAtEngine

/-- The operations once one of them is cancelled. -/
def opsCancelled (m : KMap COp) : KMap COp :=
  match o.place with
  | .queued => kdel m o.id
  | .network => if o.retryAt.isSome then kdel m o.id else opSet m o.id fun x => { x with cancelled := true }
  | .ended => m
  | _ => if o.nothingComes then kdel (opSet m o.id fun _ => o.stoppedAtEngine) o.id else opSet m o.id fun _ => o.stoppedAtEngine

theorem cancelOp_ops (s : State) : (cancelOp o s).ops = opsCancelled o s.ops := by
  unfold cancelOp opsCancelled COp.nothingComes
  cases o.place with
  | queued => exact endOp_ops _ _
  | network =>
    dsimp only
    split <;> simp
  | ended => rfl
  | _ =>
    dsimp only
    simp only [apply_ite State.ops, State.modBankAt, State.modCore_ops, fillDone_ops, engineFull_ops, endOp_ops, modOp_ops, notePf_ops, ite_self]
    rfl

end

/-! ### Cancelling the operations of a list -/

section
variable (m : KMap COp) (o : COp)

theorem kget_opSet_ne {k n : Nat} (f : COp → COp) (h : n ≠ k) : kget (opSet m k f) n = kget m n := by
  unfold opSet
  cases kget m k with
  | none => rfl
  | some x => exact kget_kset_ne m _ h

theorem kget_opSet_same (k : Nat) (f : COp → COp) : kget (opSet m k f) k = (kget m k).map f := by
  unfold opSet
  cases h : kget m k with
  | none => simp [h]
  | some x => simp

theorem kget_opsCancelled_ne {n : Nat} (h : n ≠ o.id) : kget (opsCancelled o m) n = kget m n := by
  unfold opsCancelled
  cases o.place with
  | queued => exact kget_kdel_ne m h
  | network =>
    dsimp only
    split
    · exact kget_kdel_ne m h
    · exact kget_opSet_ne m _ h
  | ended => rfl
  | _ =>
    dsimp only
    split
    · rw [kget_kdel_ne _ h, kget_opSet_ne m _ h]
    · exact kget_opSet_ne m _ h

variable {m o} (h : kget m o.id = some o ∨ kget m o.id = o.afterCancel)
include h

theorem kget_opsCancelled_same : kget (opsCancelled o m) o.id = o.afterCancel := by
  unfold opsCancelled
  unfold COp.afterCancel at h ⊢
  cases hp : o.place with
  | queued => exact kget_kdel_same m o.id
  | network =>
    rw [hp] at h
    dsimp only at h ⊢
    by_cases hr : o.retryAt.isSome = true
    · rw [if_pos hr, if_pos hr, kget_kdel_same]
    · rw [if_neg hr, if_neg hr, kget_opSet_same]
      rw [if_neg hr] at h
      rcases h with h | h <;> simp [h, hp]
  | ended =>
    rw [hp] at h
    exact h.elim id id
  | _ =>
    rw [hp] at h
    dsimp only at h ⊢
    by_cases hr : o.nothingComes = true
    · rw [if_pos hr, if_pos hr, kget_kdel_same]
    · rw [if_neg hr, if_neg hr, kget_opSet_same]
      rw [if_neg hr] at h
      rcases h with h | h <;> rw [h] <;> rfl

theorem mem_of_mem_opsCancelled {e : Nat × COp} (he : e ∈ opsCancelled o m) (hq : e.2.place = .queued) : e ∈ m := by
  have hset : ∀ {f : COp → COp} {e : Nat × COp}, (∀ x, kget m o.id = some x → (f x).place ≠ .queued) → e ∈ opSet m o.id f →
      e.2.place = .queued → e ∈ m := by
    intro f e hf he hq
    unfold opSet at he
    split at he
    · next x hx =>
      rcases mem_kset he with rfl | he
      · exact absurd hq (hf x hx)
      · exact he
    · exact he
  have hstop : o.stoppedAtEngine.place ≠ .queued := by
    show OpPlace.engine ≠ .queued
    decide
  unfold opsCancelled at he
  cases hp : o.place with
  | queued => rw [hp] at he; exact (List.mem_filter.1 he).1
  | network =>
    rw [hp] at he
    dsimp only at he
    split at he
    · exact (List.mem_filter.1 he).1
    · next hr =>
      refine hset (fun x hx => ?_) he hq
      unfold COp.afterCancel at h
      rw [hp, hx] at h
      simp only [if_neg hr, Option.some.injEq] at h
      rcases h with rfl | rfl <;> simp [hp]
  | ended => rw [hp] at he; exact he
  | _ =>
    rw [hp] at he
    dsimp only at he
    split at he
    · exact hset (fun _ _ => hstop) (List.mem_filter.1 he).1 hq
    · exact hset (fun _ _ => hstop) he hq

end

/-- The operations once those of a list are cancelled. -/
def allCancelled (l : List COp) (m : KMap COp) : KMap COp := l.foldl (fun m o => opsCancelled o m) m

theorem foldl_cancelOp_ops (l : List COp) (s : State) : (l.foldl (fun s o => cancelOp o s) s).ops = allCancelled l s.ops := by
  induction l generalizing s with
  | nil => rfl
  | cons o l ih => rw [List.foldl_cons, ih, cancelOp_ops]; rfl

theorem kget_allCancelled_ne {l : List COp} {m : KMap COp} {n : Nat} (h : ∀ o ∈ l, o.id ≠ n) : kget (allCancelled l m) n = kget m n := by
  induction l generalizing m with
  | nil => rfl
  | cons o l ih =>
    rw [List.forall_mem_cons] at h
    exact (ih h.2).trans (kget_opsCancelled_ne m o (Ne.symm h.1))

/-- Each operation of a list is as it was, or is cancelled already. -/
def Cancellable (l : List COp) (m : KMap COp) : Prop := ∀ o ∈ l, kget m o.id = some o ∨ kget m o.id = o.afterCancel

section
variable {o : COp} {l : List COp} {m : KMap COp} (hid : ∀ x ∈ o :: l, ∀ y ∈ o :: l, x.id = y.id → x = y) (h : Cancellable (o :: l) m)
include hid h

theorem Cancellable.tail : Cancellable l (opsCancelled o m) := by
  intro x hx
  by_cases he : x.id = o.id
  · rw [hid x (List.mem_cons_of_mem _ hx) o List.mem_cons_self he]
    exact Or.inr (kget_opsCancelled_same (h o List.mem_cons_self))
  · rw [kget_opsCancelled_ne m o he]
    exact h x (List.mem_cons_of_mem _ hx)

end

section
variable {l : List COp} {m : KMap COp} (hid : ∀ x ∈ l, ∀ y ∈ l, x.id = y.id → x = y) (h : Cancellable l m)
include hid h

theorem kget_allCancelled {o : COp} (ho : o ∈ l) : kget (allCancelled l m) o.id = o.afterCancel := by
  induction l generalizing m with
  | nil => exact absurd ho List.not_mem_nil
  | cons x l ih =>
    have hid' : ∀ x ∈ l, ∀ y ∈ l, x.id = y.id → x = y := fun a ha b hb => hid a (List.mem_cons_of_mem _ ha) b (List.mem_cons_of_mem _ hb)
    by_cases hl : o ∈ l
    · exact ih hid' (h.tail hid) hl
    · obtain rfl : o = x := (List.mem_cons.1 ho).resolve_right hl
      refine (kget_allCancelled_ne (l := l) fun y hy he => hl ?_).trans (kget_opsCancelled_same (h o List.mem_cons_self))
      exact hid y (List.mem_cons_of_mem _ hy) o List.mem_cons_self he ▸ hy

theorem mem_of_mem_allCancelled {e : Nat × COp} (he : e ∈ allCancelled l m) (hq : e.2.place = .queued) : e ∈ m := by
  induction l generalizing m with
  | nil => exact he
  | cons x l ih =>
    have hid' : ∀ x ∈ l, ∀ y ∈ l, x.id = y.id → x = y := fun a ha b hb => hid a (List.mem_cons_of_mem _ ha) b (List.mem_cons_of_mem _ hb)
    exact mem_of_mem_opsCancelled (h x List.mem_cons_self) (ih hid' (h.tail hid) he) hq

end

/-! ### What ending an operation does to its group -/

theorem group_modGroup_at (c : Nat) (b : Bool) (g : Nat) (f : CopyGroup → CopyGroup) (s : State) :
    (((modGroup c b g f s).core c).bank b).group g = f (((s.core c).bank b).group g) := by
  unfold modGroup State.modBankAt
  rw [State.core_modCore, Core.bank_modBank]
  exact Vector.getElem_set_self _

section
variable (o : COp) (s : State)

/-- An operation has left the count of its group. -/
def CopyGroup.left (x : CopyGroup) (o : COp) : CopyGroup :=
  { x with out := x.out - 1, fault := match x.fault with | some f => some f | none => o.fault }

/-- A group whose last operation has ended. -/
def CopyGroup.emptied (x : CopyGroup) : CopyGroup :=
  if x.clearing then { x with fault := none, faulted := 0, clearing := false, reported := false } else x

theorem leaveGroup_eq {g : Nat} (hg : o.grp = some g) : leaveGroup o s =
    if (((((modGroup o.core o.bank g (fun x => x.left o) s).core o.core).bank o.bank).group g).out = 0) then
      modGroup o.core o.bank g CopyGroup.emptied (raiseEvent (modGroup o.core o.bank g (fun x => x.left o) s) o.core o.bank 1)
    else modGroup o.core o.bank g (fun x => x.left o) s := by
  unfold leaveGroup
  rw [hg]
  rfl

theorem group_raiseEvent (c : Nat) (b : Bool) (e g : Nat) : (((raiseEvent s c b e).core c).bank b).group g = ((s.core c).bank b).group g := by
  unfold raiseEvent
  rw [State.core_modCore, Core.bank_modBank]
  rfl

theorem group_leaveGroup {g : Nat} (hg : o.grp = some g) : (((leaveGroup o s).core o.core).bank o.bank).group g =
    if ((((s.core o.core).bank o.bank).group g).left o).out = 0 then ((((s.core o.core).bank o.bank).group g).left o).emptied
    else (((s.core o.core).bank o.bank).group g).left o := by
  rw [leaveGroup_eq _ _ hg]
  simp only [group_modGroup_at]
  split
  · rw [group_modGroup_at, group_raiseEvent, group_modGroup_at]
  · exact group_modGroup_at _ _ _ _ _

@[simp] theorem touchOp_cores : (touchOp o s).cores = s.cores := by
  unfold touchOp
  split
  · rw [apply_ite State.cores]
    exact ite_self _
  · rfl

theorem group_endOp {g : Nat} (hg : o.grp = some g) : (((endOp o s).core o.core).bank o.bank).group g =
    if ((((s.core o.core).bank o.bank).group g).left o).out = 0 then ((((s.core o.core).bank o.bank).group g).left o).emptied
    else (((s.core o.core).bank o.bank).group g).left o := by
  have hb : ((((({ touchOp o s with ops := kdel s.ops o.id } : State).modBankAt o.core o.bank fun b =>
      { b with pending := b.pending.filter (fun p => p.op ≠ o.id) }).core o.core).bank o.bank).group g) = ((s.core o.core).bank o.bank).group g := by
    rw [State.modBankAt, State.core_modCore, Core.bank_modBank]
    unfold State.core
    rw [touchOp_cores]
    rfl
  unfold endOp
  dsimp only
  rw [group_leaveGroup _ _ hg, hb]

end

/-- A group that is cancelled is empty, without a fault, once as many operations as it counts have ended. -/
theorem group_ended {c : Nat} {b : Bool} {g : Nat} {l : List COp} (hl : l ≠ [])
    (hop : ∀ o ∈ l, o.core = c ∧ o.bank = b ∧ o.grp = some g) {s : State}
    (hout : (((s.core c).bank b).group g).out = l.length) (hclear : (((s.core c).bank b).group g).clearing = true) :
    let x := (((l.foldl (fun s o => endOp o s) s).core c).bank b).group g
    x.out = 0 ∧ x.fault = none ∧ x.faulted = 0 := by
  induction l generalizing s with
  | nil => exact absurd rfl hl
  | cons o r ih =>
    rw [List.forall_mem_cons] at hop
    obtain ⟨⟨rfl, rfl, hg⟩, hr⟩ := hop
    have he := group_endOp o s hg
    cases r with
    | nil =>
      have h0 : ((((s.core o.core).bank o.bank).group g).left o).out = 0 := by simp [CopyGroup.left, hout]
      rw [if_pos h0] at he
      rw [List.foldl_cons, List.foldl_nil, he]
      unfold CopyGroup.emptied
      rw [if_pos (show ((((s.core o.core).bank o.bank).group g).left o).clearing = true from hclear)]
      exact ⟨h0, rfl, rfl⟩
    | cons o' r =>
      have h0 : ((((s.core o.core).bank o.bank).group g).left o).out = (o' :: r).length := by simp [CopyGroup.left, hout]
      rw [if_neg (by rw [h0]; exact Nat.succ_ne_zero _)] at he
      rw [List.foldl_cons]
      refine ih (List.cons_ne_nil _ _) hr ?_ ?_
      · rw [he, h0]
      · rw [he]
        exact hclear

/-! ### The instructions -/

/-- A cancelled group, before its operations are. -/
def CopyGroup.cancelling (x : CopyGroup) : CopyGroup :=
  if x.out = 0 then { x with fault := none, faulted := 0, reported := false } else { x with clearing := true }

section
variable {f : CForm} {s : State}

/-- The state in which the operations of a cancelled group are cancelled. -/
def cancelStart (f : CForm) (s : State) : State := modGroup s.ctx.core s.ctx.bank f.grp.toNat CopyGroup.cancelling s

/-- The state in which they have been. -/
def cancelDone (f : CForm) (s : State) : State := (groupOps s f.grp.toNat).foldl (fun s o => cancelOp o s) (cancelStart f s)

theorem execCcancel_eq (f : CForm) (s : State) : execCcancel f s =
    guarded f.g s fun s => flushBank s.ctx.core s.ctx.bank 128 (cancelDone f s) := rfl

theorem exec_ccancel (h : guardTrue f.g s.bank = true) (hq : queuedOps (cancelDone f s) s.ctx.core s.ctx.bank = []) :
    exec (.ccancel f) s = .next (cancelDone f s) := by
  refine (show execCcancel f s = _ from (execCcancel_eq f s).trans (guarded_of_true _ h)).trans (congrArg _ ?_)
  exact flushBank_of_toEngine (by rw [hq]; exact fun _ h => absurd h List.not_mem_nil) 128

theorem cancelDone_ops : (cancelDone f s).ops = allCancelled (groupOps s f.grp.toNat) s.ops := foldl_cancelOp_ops _ _

theorem mem_groupOps {g : Nat} {o : COp} : o ∈ groupOps s g ↔
    ∃ k, (k, o) ∈ s.ops ∧ o.core = s.ctx.core ∧ o.bank = s.ctx.bank ∧ o.grp = some g := by
  simp [groupOps, and_assoc]

theorem bank_cancelStart : (cancelStart f s).bank =
    { s.bank with groups := s.bank.groups.set (Fin.ofNat 16 f.grp.toNat) (s.bank.group f.grp.toNat).cancelling } :=
  State.bank_modBank s _

theorem group_cancelStart : (cancelStart f s).bank.group f.grp.toNat = (s.bank.group f.grp.toNat).cancelling :=
  group_modGroup s f.grp.toNat _

theorem group_cancelStart_ne {g : Nat} (hg : g < 16) (h : g ≠ f.grp.toNat) : (cancelStart f s).bank.group g = s.bank.group g := by
  have hf := f.grp.isLt
  rw [bank_cancelStart, Bank.group, Bank.group]
  refine Vector.getElem_set_ne (Fin.isLt (Fin.ofNat 16 f.grp.toNat)) (Fin.isLt (Fin.ofNat 16 g)) fun he => h ?_
  simp only [Fin.ofNat] at he
  omega

/-- The cancelling of an empty group. -/
theorem cancelDone_of_empty (h : s.ops = []) : cancelDone f s = cancelStart f s := by
  rw [cancelDone, groupOps, h]
  rfl

section
variable (hops : ∀ x ∈ s.ops, kget s.ops x.1 = some x.2 ∧ x.2.id = x.1)
include hops

theorem kget_of_groupOps {g : Nat} {o : COp} (h : o ∈ groupOps s g) : kget s.ops o.id = some o := by
  obtain ⟨k, hk, -⟩ := mem_groupOps.1 h
  obtain ⟨hget, hid⟩ := hops _ hk
  exact hid ▸ hget

theorem groupOps_ids {g : Nat} : ∀ x ∈ groupOps s g, ∀ y ∈ groupOps s g, x.id = y.id → x = y := by
  intro x hx y hy he
  have h := kget_of_groupOps hops hx
  rw [he, kget_of_groupOps hops hy] at h
  exact (Option.some.inj h).symm

theorem groupOps_cancellable (g : Nat) : Cancellable (groupOps s g) s.ops := fun _ ho => Or.inl (kget_of_groupOps hops ho)

theorem kget_cancelDone {o : COp} (ho : o ∈ groupOps s f.grp.toNat) : kget (cancelDone f s).ops o.id = o.afterCancel := by
  rw [cancelDone_ops]
  exact kget_allCancelled (groupOps_ids hops) (groupOps_cancellable hops _) ho

/-- Where every queued operation of the bank is of the group that is cancelled, none is left. -/
theorem queuedOps_cancelDone (hall : ∀ x ∈ s.ops, x.2.core = s.ctx.core → x.2.bank = s.ctx.bank → x.2.place = .queued → x.2.grp = some f.grp.toNat) :
    queuedOps (cancelDone f s) s.ctx.core s.ctx.bank = [] := by
  refine List.map_eq_nil_iff.2 (List.filter_eq_nil_iff.2 fun e he hq => ?_)
  simp only [Bool.and_eq_true, decide_eq_true_eq] at hq
  obtain ⟨⟨⟨hc, hb⟩, -⟩, hq⟩ := hq
  have hold : e ∈ s.ops := mem_of_mem_allCancelled (groupOps_ids hops) (groupOps_cancellable hops _) (cancelDone_ops ▸ he) hq
  have hmem : e.2 ∈ groupOps s f.grp.toNat := mem_groupOps.2 ⟨e.1, hold, hc, hb, hall e hold hc hb hq⟩
  have hget := kget_cancelDone hops hmem
  obtain ⟨w, hw⟩ := kget_of_mem he
  rw [(hops e hold).2, hw, COp.afterCancel, hq] at hget
  exact Option.some_ne_none w hget

end

theorem cancelDone_mem : (cancelDone f s).mem = s.mem := mem_foldl _ (fun t o => cancelOp_mem o t) _ _

/-- A group of which nothing has been sent is empty once it is cancelled. -/
theorem group_cancelDone (hne : groupOps s f.grp.toNat ≠ []) (hout : (s.bank.group f.grp.toNat).out = (groupOps s f.grp.toNat).length)
    (hq : ∀ o ∈ groupOps s f.grp.toNat, o.place = .queued) :
    let x := (cancelDone f s).bank.group f.grp.toNat
    x.out = 0 ∧ x.fault = none ∧ x.faulted = 0 := by
  have hctx : ∀ (l : List COp) (t : State), (l.foldl (fun s o => endOp o s) t).ctx = t.ctx := by
    intro l
    induction l with
    | nil => exact fun _ => rfl
    | cons o l ih => exact fun t => (ih _).trans (endOp_ctx t o)
  have hend : cancelDone f s = (groupOps s f.grp.toNat).foldl (fun s o => endOp o s) (cancelStart f s) := by
    refine List.foldl_ext _ _ _ fun t o ho => ?_
    rw [cancelOp, hq o ho]
  have hlen : (s.bank.group f.grp.toNat).out ≠ 0 := by
    rw [hout]
    exact fun h => hne (List.eq_nil_of_length_eq_zero h)
  have hgrp : (((cancelStart f s).core s.ctx.core).bank s.ctx.bank).group f.grp.toNat = { s.bank.group f.grp.toNat with clearing := true } :=
    group_cancelStart.trans (if_neg hlen)
  rw [hend, State.bank, hctx]
  refine group_ended hne (fun o ho => ?_) ?_ ?_
  · obtain ⟨k, -, h⟩ := mem_groupOps.1 ho
    exact h
  · exact (congrArg CopyGroup.out hgrp).trans hout
  · exact congrArg CopyGroup.clearing hgrp

end

section
variable {o : COp}

theorem COp.afterCancel_engine (h1 : o.place ≠ .queued) (h2 : o.place ≠ .network) (h3 : o.place ≠ .ended) :
    o.afterCancel = if o.nothingComes then none else some { o with cancelled := true, place := .engine } := by
  unfold COp.afterCancel
  cases hp : o.place with
  | queued => exact absurd hp h1
  | network => exact absurd hp h2
  | ended => exact absurd hp h3
  | _ => rfl

theorem COp.nothingComes_of_box (h : ∃ b ∈ o.boxes, b.tr.isSome = true ∧ b.done = false) : o.nothingComes = false := by
  obtain ⟨b, hb, ht, hd⟩ := h
  unfold COp.nothingComes
  rw [Bool.and_eq_false_iff, Bool.and_eq_false_iff]
  refine Or.inl (Or.inr (List.all_eq_false.2 ⟨b, hb, ?_⟩))
  cases hx : b.tr with
  | none => rw [hx] at ht; exact absurd ht Bool.false_ne_true
  | some x => simp [hd]

end

/-- Settles O39. -/
theorem copyControlCompletes : Obligations.CopyControlCompletes := by
  intro f s h
  refine ⟨fun hn => ?_, fun c hc => ?_, ?_, fun hn => ?_, fun hn => ?_, fun hn ho => ?_, fun hops hall => ?_⟩
  · refine (show execCwait f s = _ from guarded_of_true _ h).trans (congrArg _ ?_)
    rw [hn]
  · obtain ⟨h1, h2, -, h4, -, -, -, -, -, -, -, -, hm, -⟩ :=
      trapped_takeTrap (modGroup s.ctx.core s.ctx.bank f.grp.toNat (fun x => { x with reported := true }) s) c
    refine ⟨_, (show execCwait f s = _ from guarded_of_true _ h).trans (congrArg _ ?_), h1, h2, h4, hm⟩
    rw [hc]
  · exact ⟨_, show execCpoll f s = _ from guarded_of_true _ h, writesScalar_wrS _ _ _⟩
  · refine (show execCfence f s = _ from guarded_of_true _ h).trans (congrArg _ ?_)
    rw [hn]
    rfl
  · refine ⟨_, (show execCfence f s = _ from guarded_of_true _ h).trans (congrArg _ (if_neg ?_)), rfl, rfl, rfl, rfl, rfl, rfl⟩
    simpa using hn
  · have hd : cancelDone f s = cancelStart f s := cancelDone_of_empty hn
    refine ⟨_, exec_ccancel h ?_, ?_⟩
    · rw [hd]
      show (s.ops.filter _).map _ = []
      rw [hn]
      rfl
    · rw [hd]
      refine ⟨onlyBank_modBank s _, ?_, group_cancelStart.trans (if_pos ho), fun g hg hne => group_cancelStart_ne hg hne⟩
      rw [bank_cancelStart]
  · refine ⟨_, exec_ccancel h (queuedOps_cancelDone hops hall), cancelDone_mem, fun n hn => ?_, fun o ho => ?_, fun hne hout hq => ?_⟩
    · rw [cancelDone_ops]
      exact kget_allCancelled_ne hn
    · rw [kget_cancelDone hops ho]
      refine ⟨fun hp => ?_, fun hp => ?_, fun h1 h2 h3 => ?_⟩
      · rw [COp.afterCancel, hp]
      · rw [COp.afterCancel, hp]
      · rw [COp.afterCancel_engine h1 h2 h3]
        refine ⟨?_, fun hb => by rw [COp.nothingComes_of_box hb]; rfl⟩
        split
        · exact Or.inl rfl
        · exact Or.inr rfl
    · exact group_cancelDone hne hout hq

end Sys2Proof.Machine
end

section
/-! PROOF. Subscriptions, phases and expert queries: the obligation SubscriptionsComplete. -/

namespace Sys2Proof.Machine

open Sys2Proof

/-! ### What a delivery leaves of the banks: whose slot executes, and the task in every bank -/

/-- Whose slot executes, and the task in every bank. -/
def State.seats (s : State) : IssueCtx × (Nat → Bool → Nat) := (s.ctx, fun c b => ((s.core c).bank b).task)

/-- The task of the bundle in execution is read off the seats. -/
theorem State.bank_task (s : State) : s.bank.task = s.seats.2 s.seats.1.core s.seats.1.bank := rfl

/-- A fold of steps that keep the seats keeps them. -/
theorem seats_foldl {α : Type} (g : State → α → State) (h : ∀ s a, (g s a).seats = s.seats) (l : List α) (s : State) :
    (l.foldl g s).seats = s.seats := by
  induction l generalizing s with
  | nil => rfl
  | cons x r ih => rw [List.foldl_cons, ih, h]

theorem modBankAt_seats (s : State) (c : Nat) (b : Bool) {f : Bank → Bank} (hf : ∀ k, (f k).task = k.task) : (s.modBankAt c b f).seats = s.seats := by
  refine Prod.ext rfl (funext fun d => funext fun e => ?_)
  show (((s.modCore c fun k => k.modBank b f).core d).bank e).task = ((s.core d).bank e).task
  by_cases hd : d = c
  · subst hd
    rw [State.core_modCore]
    by_cases he : e = b
    · subst he
      rw [Core.bank_modBank, hf]
    · rw [Core.bank_modBank_ne _ _ _ he]
  · rw [State.core_modCore_ne _ _ _ hd]

@[simp] theorem raiseEvent_seats (s : State) (core : Nat) (b : Bool) (e : Nat) : (raiseEvent s core b e).seats = s.seats :=
  modBankAt_seats s core b fun _ => rfl

@[simp] theorem engineFull_seats (s : State) (ws : List Nat) : (engineFull s ws).seats = s.seats := by
  cases ws with
  | nil => rfl
  | cons w ws =>
    unfold engineFull
    dsimp only
    split
    · rw [raiseEvent_seats, raiseEvent_seats]
      rfl
    · rfl

@[simp] theorem engineWrite_seats (s : State) (k : Nat) (bs : List Byte) (psn : Bool) : (engineWrite s k bs psn).seats = s.seats := by
  unfold engineWrite engineWriteBut
  dsimp only
  split
  · exact engineFull_seats _ _
  · exact engineFull_seats _ _

@[simp] theorem engineWriteLeft_seats (done : List Nat) (s : State) (k : Nat) (bs : List Byte) (psn : Bool) :
    (engineWriteLeft done s k bs psn).seats = s.seats := seats_foldl _ (fun t _ => engineWrite_seats t _ _ _) _ s

@[simp] theorem modTaskRing_seats (n k : Nat) (f : Ring → Ring) (s : State) : (modTaskRing n k f s).seats = s.seats := by
  unfold modTaskRing
  split
  · rfl
  · split
    · exact modBankAt_seats s _ _ fun _ => rfl
    · unfold State.modTask
      split <;> rfl

@[simp] theorem touch_seats (s : State) (launch counter : Nat) : (touch s launch counter).seats = s.seats := by rfl

@[simp] theorem touchPhase_seats (s : State) (launch p : Nat) : (touchPhase s launch p).seats = s.seats := by rfl

@[simp] theorem touchSource_seats (s : State) (launch p : Nat) : (touchSource s launch p).seats = s.seats := by rfl

@[simp] theorem postAbort_seats (s : State) (launch : Nat) (cause : BitVec 8) (detail : Word) : (postAbort s launch cause detail).seats = s.seats := by rfl

@[simp] theorem abortCode_seats (l : Nat) (code : BitVec 8) (src : BitVec 16) (s : State) : (abortCode l code src s).seats = s.seats := by rfl

@[simp] theorem State.modRouter_seats (s : State) (r : Nat) (f : Router → Router) : (State.modRouter s r f).seats = s.seats := by rfl

@[simp] theorem State.modTask_seats (s : State) (t : Nat) (f : TaskInst → TaskInst) : (State.modTask s t f).seats = s.seats := by
  unfold State.modTask
  split <;> rfl

@[simp] theorem State.bump_seats (s : State) : (State.bump s).seats = s.seats := by rfl

@[simp] theorem touchTraffic_seats (e : Event) (s : State) : (touchTraffic e s).seats = s.seats := by
  unfold touchTraffic
  split <;> rfl

@[simp] theorem takeOff_seats (e : Event) (s : State) : (takeOff e s).seats = s.seats := touchTraffic_seats _ _

@[simp] theorem post_seats (e : Event) (s : State) : (post e s).seats = s.seats := touchTraffic_seats _ _

@[simp] theorem rimQueue_seats (agent part : Nat) (w : RimWork) (s : State) : (rimQueue agent part w s).seats = s.seats := by rfl

@[simp] theorem rimWait_seats (agent part : Nat) (e : Event) (s : State) : (rimWait agent part e s).seats = s.seats := by simp [rimWait]

@[simp] theorem askRim_seats (q : Query) (s : State) : (askRim q s).seats = s.seats := by rfl

@[simp] theorem noteWay_seats (l : Nat) (p : Option Nat) (rs : List Nat) (s : State) : (noteWay l p rs s).seats = s.seats := by
  unfold noteWay
  split <;> rfl

@[simp] theorem notePath_seats (s0 : State) (e : Event) (s : State) : (notePath s0 e s).seats = s.seats := by
  unfold notePath
  split <;> simp

@[simp] theorem taskEvent_seats (n e : Nat) (s : State) : (taskEvent n e s).seats = s.seats := by
  unfold taskEvent
  (repeat' split) <;> simp

@[simp] theorem checkReady_seats (n : Nat) (s : State) : (checkReady n s).seats = s.seats := by
  unfold checkReady
  repeat' split <;> simp

@[simp] theorem modSub_seats (tgt : Target) (f : Sub → Sub) (s : State) : (modSub tgt f s).seats = s.seats := by simp [modSub]

@[simp] theorem countArrival_seats (tgt : Target) (p : Packet) (s : State) : (countArrival tgt p s).seats = s.seats := by simp [countArrival]

@[simp] theorem mapKept_seats (h : Nat) (f : Kept → Kept) (s : State) : (mapKept h f s).seats = s.seats := by rfl

@[simp] theorem listKey_seats (h : Nat) (p : Packet) (s : State) : (listKey h p s).seats = s.seats := by rfl

@[simp] theorem evictAs_seats (h n : Nat) (p : Packet) (s : State) : (evictAs h n p s).seats = s.seats := by
  unfold evictAs
  dsimp only
  split_ifs <;> simp

@[simp] theorem evictCopy_seats (h : Nat) (v : Kept) (s : State) : (evictCopy h v s).seats = s.seats := by simp [evictCopy]

@[simp] theorem makeRoom_seats (h g fuel : Nat) (s : State) : (makeRoom h g fuel s).2.seats = s.seats := by
  induction fuel generalizing s with
  | zero => rfl
  | succ fuel ih =>
    unfold makeRoom
    dsimp only
    split
    · rfl
    · split
      · rfl
      · rw [ih, evictCopy_seats]

@[simp] theorem noteServed_seats (h : Nat) (key : CopyKey) (s : State) : (noteServed h key s).seats = s.seats := by rfl

@[simp] theorem drainTransit_seats (p : Packet) (s : State) : (drainTransit p s).seats = s.seats := by
  unfold drainTransit
  split <;> rfl

@[simp] theorem takeTag_seats (r : Nat) (s : State) : (takeTag r s).seats = s.seats := makeRoom_seats _ _ _ s

@[simp] theorem takeHeld_seats (r : Nat) (p : Packet) (s : State) : (takeHeld r p s).2.seats = s.seats := by
  unfold takeHeld
  split
  · dsimp only
    split <;> simp
  · simp

@[simp] theorem holdDelivery_seats (r : Nat) (tgt : Target) (home k : Nat) (p : Packet) (s : State) :
    (holdDelivery r tgt home k p s).seats = s.seats := by
  unfold holdDelivery
  dsimp only
  split_ifs <;> simp

@[simp] theorem unpin_seats (home : Nat) (p : Packet) (s : State) : (unpin home p s).seats = s.seats := by rfl

theorem fetchLost_seats (home : Nat) (p : Packet) (why : QueryFor) {fetching : State → State} (h : ∀ s, (fetching s).seats = s.seats) (s : State) :
    (fetchLost home p why fetching s).seats = s.seats := by
  unfold fetchLost
  (repeat' split) <;> simp [h]

@[simp] theorem unask_seats (task : Nat) (x : Sub) (s : State) : (unask task x s).seats = s.seats := by simp [unask]

@[simp] theorem unhold_seats (r : Nat) (h : HeldDelivery) (s : State) : (unhold r h s).seats = s.seats := by
  unfold unhold
  (repeat' split) <;> simp

@[simp] theorem dropHeld_seats (r : Nat) (tgt : Target) (s : State) : (dropHeld r tgt s).seats = s.seats :=
  seats_foldl _ (fun t h => by simp) _ _

@[simp] theorem fillRing_seats (n : Nat) (t : TaskInst) (x : Sub) (p : Packet) (s : State) : (fillRing n t x p s).seats = s.seats := by
  unfold fillRing
  split <;> simp

@[simp] theorem deliver_seats (p : Packet) (r : Nat) (tgt : Target) (home : Nat) (s : State) : (deliver p r tgt home s).seats = s.seats := by
  unfold deliver
  dsimp only
  (repeat' split) <;> simp

@[simp] theorem releaseHeld_seats (r : Nat) (h : HeldDelivery) (t : TaskInst) (x : Sub) (p : Packet) (s : State) :
    (releaseHeld r h t x p s).seats = s.seats := by simp [releaseHeld]

@[simp] theorem refetch_seats (r : Nat) (h : HeldDelivery) (t : TaskInst) (u : Sub) (s : State) : (refetch r h t u s).seats = s.seats := by
  unfold refetch
  split
  · simp
  · refine fetchLost_seats _ _ _ ?_ s
    exact fun _ => rfl

@[simp] theorem releaseAt_seats (r : Nat) (tgt : Target) (s : State) : (releaseAt r tgt s).seats = s.seats := by
  unfold releaseAt
  (repeat' split) <;> simp

theorem State.seats_ev (s : State) (e : Option Event) : ({ s with ev := e } : State).seats = s.seats := rfl

@[simp] theorem finishDelivery_seats (tgt : Target) (s : State) : (finishDelivery tgt s).seats = s.seats := by
  refine seats_foldl _ (fun t x => ?_) _ s
  split
  · split
    · refine (State.seats_ev _ _).trans ?_
      rw [notePath_seats, drainTransit_seats, deliver_seats, takeOff_seats, State.seats_ev]
    · rfl
  · split
    · exact (State.seats_ev _ _).trans ((releaseAt_seats _ _ _).trans (State.seats_ev _ _))
    · rfl
  · rfl

/-! ### Subscribing -/

section
variable {f : CForm} {s : State} {x : TaskInst}

/-- The subscription that SUB records. -/
def newSub (f : CForm) (s : State) : Sub :=
  let p := s.bank.rdS f.ca
  let pat := subPattern (s.bank.rdPair f.cb) (s.bank.rdPair (f.cb + 2)) (p.getLsbD 9) (p.extractLsb' 10 2).toNat (p.extractLsb' 16 16)
    (s.bank.gen.extractLsb' 0 16) (taskNs s) s.bank.launch.toNat
  ⟨(p.extractLsb' 0 4).toNat, s.opId, pat, 0, (p.extractLsb' 4 4).toNat, p.getLsbD 8, true, .installing, 0, 0, false, patternHomes s pat, 0⟩

/-- The state in which SUB has recorded it. -/
def subscribed (f : CForm) (s : State) : State := (s.modTask s.bank.task fun t => { t with subs := t.subs ++ [newSub f s] }).bump

/-- The request with which its installs leave. -/
def installOp (f : CForm) (s : State) : COp :=
  { newOp (subscribed f s) .control 0 none with
    send := (installsOf s (s.ctx.core / 4) s.bank.task (newSub f s) s.bank.phase.toNat).map fun m => .install m }

/-- SUB of a slot that executes. -/
def subscribeBody (f : CForm) (s : State) : State :=
  match curTask s with
  | none => s
  | some t =>
    if subCause s t (s.bank.rdS f.ca) (s.bank.rdPair f.cb) (s.bank.rdPair (f.cb + 2)) then takeSlotTrap s causeSubscription
    else submit (installOp f s) (subscribed f s)

theorem execSubscribe_eq (f : CForm) (s : State) : execSubscribe f s = guarded f.g s (subscribeBody f) := rfl

theorem exec_subscribe (h : guardTrue f.g s.bank = true) : exec (.subscribe f) s = .next (subscribeBody f s) :=
  show execSubscribe f s = _ from (execSubscribe_eq f s).trans (guarded_of_true _ h)

theorem kget_subscribed (hx : curTask s = some x) : kget (subscribed f s).tasks s.bank.task = some { x with subs := x.subs ++ [newSub f s] } := by
  unfold subscribed State.modTask
  rw [show kget s.tasks s.bank.task = some x from hx]
  exact kget_kset_same _ _ _

/-! ### Unsubscribing -/

@[simp] theorem unhold_tasks (r : Nat) (h : HeldDelivery) (s : State) : (unhold r h s).tasks = s.tasks := by
  unfold unhold
  split
  · rfl
  · split
    · unfold takeOff touchTraffic
      split <;> rfl
    · rfl

theorem held_mapKept (r h : Nat) (g : Kept → Kept) (s : State) : ((mapKept h g s).router r).held = (s.router r).held := by
  unfold mapKept
  by_cases hr : r = h
  · subst hr
    rw [router_modRouter]
  · rw [State.router, State.modRouter, kgetD_kset_ne _ _ _ hr]
    rfl

theorem held_unhold (r r' : Nat) (h : HeldDelivery) (s : State) : ((unhold r h s).router r').held = (s.router r').held := by
  unfold unhold
  split
  · rfl
  · split
    · unfold takeOff touchTraffic
      split <;> rfl
    · exact held_mapKept _ _ _ _

/-- Discarding the held deliveries of a target leaves the tasks, and of the deliveries held at its router those of other targets. -/
theorem dropHeld_spec (r : Nat) (tgt : Target) (s : State) : (dropHeld r tgt s).tasks = s.tasks ∧
    ((dropHeld r tgt s).router r).held = (s.router r).held.filter fun h => h.tgt ≠ tgt := by
  have hfold : ∀ (l : List HeldDelivery) (t : State),
      (l.foldl (fun s h => touchPhase (unhold r h s) h.pkt.launch h.pkt.phase) t).tasks = t.tasks ∧
      ((l.foldl (fun s h => touchPhase (unhold r h s) h.pkt.launch h.pkt.phase) t).router r).held = (t.router r).held := by
    intro l
    induction l with
    | nil => exact fun t => ⟨rfl, rfl⟩
    | cons h l ih => exact fun t => ⟨(ih _).1.trans (unhold_tasks r h t), (ih _).2.trans (held_unhold r r h t)⟩
  refine ⟨(hfold _ _).1, (hfold _ _).2.trans ?_⟩
  rw [router_modRouter]

/-- UNSUB of a subscription that is found. -/
def unsubBody (y : Sub) (s : State) : State :=
  let tgt : Target := ⟨s.bank.task, y.index, y.uid⟩
  let u := unask s.bank.task y (finishDelivery tgt s)
  let u := u.modTask u.bank.task fun t => { t with subs := t.subs.filter fun z => z.index ≠ y.index }
  dropHeld (u.ctx.core / 4) tgt u

theorem execUnsub_eq (f : CForm) (s : State) : execUnsub f s = guarded f.g s fun s =>
    match curTask s with
    | none => s
    | some t =>
      match lowest (t.subs.filter fun x => x.dynamic && x.isFor (s.bank.rdPair f.cb) (s.bank.rdPair (f.cb + 2))) with
      | none => s
      | some y => submit { newOp (unsubBody y s) .control 0 none with
          send := removalsOf ((unsubBody y s).ctx.core / 4) (unsubBody y s).bank.task y } (unsubBody y s) := rfl

theorem unsubBody_seats (y : Sub) (s : State) : (unsubBody y s).seats = s.seats := by simp [unsubBody]

section
variable (y : Sub) (s : State)

theorem unsubBody_ctx : (unsubBody y s).ctx = s.ctx := congrArg Prod.fst (unsubBody_seats y s)

theorem unsubBody_task : (unsubBody y s).bank.task = s.bank.task := by
  rw [State.bank_task, unsubBody_seats, ← State.bank_task]

/-- The state in which nothing of a subscription is under way. -/
def settledFor (y : Sub) (s : State) : State := unask s.bank.task y (finishDelivery ⟨s.bank.task, y.index, y.uid⟩ s)

theorem settledFor_seats : (settledFor y s).seats = s.seats := by simp [settledFor]

theorem unsubBody_eq : unsubBody y s = dropHeld (s.ctx.core / 4) ⟨s.bank.task, y.index, y.uid⟩
    ((settledFor y s).modTask s.bank.task fun t => { t with subs := t.subs.filter fun z => z.index ≠ y.index }) := by
  have hc : ∀ g : TaskInst → TaskInst, ((settledFor y s).modTask s.bank.task g).ctx = s.ctx := fun g =>
    congrArg Prod.fst ((State.modTask_seats _ _ _).trans (settledFor_seats y s))
  have ht : (settledFor y s).bank.task = s.bank.task := by rw [State.bank_task, settledFor_seats, ← State.bank_task]
  show dropHeld (((settledFor y s).modTask (settledFor y s).bank.task _).ctx.core / 4) _ ((settledFor y s).modTask (settledFor y s).bank.task _) = _
  rw [ht, hc]

theorem index_of_unsubBody {k : TaskInst} (h : kget (unsubBody y s).tasks s.bank.task = some k) : ∀ z ∈ k.subs, z.index ≠ y.index := by
  rw [unsubBody_eq, (dropHeld_spec _ _ _).1] at h
  cases hw : kget (settledFor y s).tasks s.bank.task with
  | none =>
    rw [State.modTask, hw] at h
    exact absurd (hw.symm.trans h) (by simp)
  | some w =>
    rw [kget_modTask hw, Option.some.injEq] at h
    subst h
    intro z hz
    simpa using (List.mem_filter.1 hz).2

theorem held_unsubBody : ∀ h ∈ ((unsubBody y s).router (s.ctx.core / 4)).held, h.tgt ≠ ⟨s.bank.task, y.index, y.uid⟩ := by
  rw [unsubBody_eq, (dropHeld_spec _ _ _).2]
  intro h hh
  simpa using (List.mem_filter.1 hh).2

/-- A delivery of a target that is on its way is completed (R205). -/
def finishStep (tgt : Target) (s : State) (x : Event × List Nat) : State :=
  match x.1 with
  | .delivery p r t home =>
    if t = tgt then { notePath s x.1 (drainTransit p (deliver p r t home (takeOff x.1 { s with ev := some x.1 }))) with ev := s.ev } else s
  | .heldDeliveryRelease r t => if t = tgt then { releaseAt r t { s with ev := some x.1 } with ev := s.ev } else s
  | _ => s

theorem finishDelivery_eq (tgt : Target) : finishDelivery tgt s = s.early.foldl (finishStep tgt) s := rfl

/-- What is not under way to a target. -/
def NotFor (tgt : Target) (e : Event × List Nat) : Prop := (∀ p r g, e.1 ≠ .delivery p r tgt g) ∧ ∀ r, e.1 ≠ .heldDeliveryRelease r tgt

theorem finishStep_of_notFor {tgt : Target} {e : Event × List Nat} (h : NotFor tgt e) (s : State) : finishStep tgt s e = s := by
  obtain ⟨hd, hr⟩ := h
  unfold finishStep
  split
  · next p r u g hx => exact if_neg fun hu => hd p r g (hx.trans (by rw [hu]))
  · next r u hx => exact if_neg fun hu => hr r (hx.trans (by rw [hu]))
  · rfl

/-- Of a target of which no delivery has begun to write its slot, none is completed. -/
theorem finishDelivery_of_none {tgt : Target} (h : ∀ e ∈ s.early, NotFor tgt e) : finishDelivery tgt s = s := by
  rw [finishDelivery_eq]
  generalize s.early = l at h
  induction l with
  | nil => rfl
  | cons e l ih =>
    rw [List.forall_mem_cons] at h
    rw [List.foldl_cons, finishStep_of_notFor h.1, ih h.2]

variable {x : TaskInst}

theorem unask_router (n : Nat) : (unask n y s).router = s.router := by
  unfold unask modTaskRing
  split
  · rfl
  · split
    · rfl
    · unfold State.modTask
      split <;> rfl

theorem kget_unask {n : Nat} (hx : kget s.tasks n = some x) : ∃ rs, kget (unask n y s).tasks n = some { x with rings := rs } := by
  unfold unask modTaskRing
  rw [hx]
  dsimp only
  split
  · exact ⟨x.rings, hx⟩
  · exact ⟨_, kget_modTask hx _⟩

/-- What is left of a subscription that no delivery has begun to write for. -/
theorem unsubBody_quiet (hx : curTask s = some x)
    (h : ∀ e ∈ s.early, NotFor ⟨s.bank.task, y.index, y.uid⟩ e) :
    ((unsubBody y s).router (s.ctx.core / 4)).held =
      (s.router (s.ctx.core / 4)).held.filter (fun h => h.tgt ≠ ⟨s.bank.task, y.index, y.uid⟩) ∧
    ∃ rs, kget (unsubBody y s).tasks s.bank.task = some { x with subs := x.subs.filter fun z => z.index ≠ y.index, rings := rs } := by
  have hs : settledFor y s = unask s.bank.task y s := by rw [settledFor, finishDelivery_of_none s h]
  obtain ⟨rs, hrs⟩ := kget_unask y s hx
  rw [unsubBody_eq, (dropHeld_spec _ _ _).1, (dropHeld_spec _ _ _).2, hs]
  refine ⟨?_, rs, kget_modTask hrs _⟩
  rw [modTask_eq]
  show List.filter _ ((unask s.bank.task y s).router _).held = _
  rw [unask_router]

end

theorem exec_unsub (h : guardTrue f.g s.bank = true) {y : Sub} (hx : curTask s = some x)
    (hy : lowest (x.subs.filter fun y => y.dynamic && y.isFor (s.bank.rdPair f.cb) (s.bank.rdPair (f.cb + 2))) = some y) :
    exec (.unsub f) s = .next (submit { newOp (unsubBody y s) .control 0 none with
      send := removalsOf ((unsubBody y s).ctx.core / 4) (unsubBody y s).bank.task y } (unsubBody y s)) := by
  refine (show execUnsub f s = _ from (execUnsub_eq f s).trans (guarded_of_true _ h)).trans (congrArg _ ?_)
  rw [hx]
  dsimp only
  rw [hy]

theorem exec_unsub_none (h : guardTrue f.g s.bank = true) (hx : curTask s = some x)
    (hy : lowest (x.subs.filter fun y => y.dynamic && y.isFor (s.bank.rdPair f.cb) (s.bank.rdPair (f.cb + 2))) = none) :
    exec (.unsub f) s = .next s := by
  refine (show execUnsub f s = _ from (execUnsub_eq f s).trans (guarded_of_true _ h)).trans (congrArg _ ?_)
  rw [hx]
  dsimp only
  rw [hy]

/-! ### Queries -/

theorem remoteQuery_submits {kind : OpKind} {bad : Bool} {cause : BitVec 8} (hb : bad = false) :
    remoteQuery f kind bad cause s = submit { newOp s kind 0 none with
      dst := f.ca.toNat, opnd := (s.bank.rdS f.cb).toNat, send := [.remoteResult s.opId 0 0] } (pend f.ca.toNat s) := if_neg (by simp [hb])

theorem remoteQuery_traps {kind : OpKind} {bad : Bool} {cause : BitVec 8} (hb : bad = true) :
    remoteQuery f kind bad cause s = takeSlotTrap s cause := if_pos hb

/-- What a query of a bounded operand does. -/
theorem query_row {i : CForm → Instr} {kind : OpKind} {n : Nat} {cause : BitVec 8} (h : guardTrue f.g s.bank = true)
    (hi : exec (i f) s = guarded f.g s fun s => remoteQuery f kind (n ≤ (s.bank.rdS f.cb).toNat) cause s) :
    ((s.bank.rdS f.cb).toNat < n → ∃ (o : COp) (u : State), exec (i f) s = .next (submit o u) ∧ o.kind = kind ∧
      o.dst = f.ca.toNat ∧ o.opnd = (s.bank.rdS f.cb).toNat ∧ o.send = [.remoteResult s.opId 0 0] ∧
      u.bank.pending = s.bank.pending ++ (if f.ca = 0 then [] else [⟨f.ca.toNat, s.opId⟩])) ∧
    (n ≤ (s.bank.rdS f.cb).toNat → ∃ t, exec (i f) s = .next t ∧ Trapped s t cause s.ctx.slot) := by
  have he := hi.trans (guarded_of_true _ h)
  refine ⟨fun hn => ?_, fun hn => ⟨_, he.trans (congrArg _ (remoteQuery_traps (decide_eq_true hn))), trapped_takeSlotTrap s cause⟩⟩
  refine ⟨_, _, he.trans (congrArg _ (remoteQuery_submits (decide_eq_false (Nat.not_le.2 hn)))), rfl, rfl, rfl, rfl, ?_⟩
  rw [(pend_spec _ s).2.2.2]
  exact congrArg (s.bank.pending ++ ·) (pendOf_toNat _ _)

end

/-- Settles O41. -/
theorem subscriptionsComplete : Obligations.SubscriptionsComplete := by
  intro f s h
  refine ⟨fun x hx hc => ?_, fun x hx hc => ?_, fun x hx => ⟨fun hy => exec_unsub_none h hx hy, fun y hy => ?_⟩, ?_, fun hp => ?_, fun hp => ?_,
    ?_, fun hv => ?_, fun hv => ?_⟩
  · refine ⟨installOp f s, subscribed f s, newSub f s, (exec_subscribe h).trans (congrArg _ ?_), rfl, kget_subscribed hx, rfl, rfl, ?_, rfl⟩
    · rw [subscribeBody, hx]
      exact if_neg (by rw [hc]; exact Bool.false_ne_true)
    · show ((s.bank.rdS f.ca).extractLsb' 0 4).toNat = _
      simp [BitVec.extractLsb'_toNat]
  · refine ⟨_, (exec_subscribe h).trans (congrArg _ ?_), trapped_takeSlotTrap s _⟩
    rw [subscribeBody, hx]
    exact if_pos hc
  · refine ⟨_, unsubBody y s, exec_unsub h hx hy, rfl, ?_, fun k hk => index_of_unsubBody y s hk, held_unsubBody y s, unsubBody_quiet y s hx⟩
    show removalsOf ((unsubBody y s).ctx.core / 4) (unsubBody y s).bank.task y = _
    rw [unsubBody_ctx, unsubBody_task]
  · refine ⟨_, _, show execSubq f s = _ from guarded_of_true _ h, writesScalar_wrS _ _ _, fun x hx => ?_⟩
    rw [hx] <;> rfl
  · refine ⟨_, (show execPhase f s = _ from guarded_of_true _ h).trans (congrArg _ (if_neg (Nat.not_lt.2 hp))), ?_, ?_⟩
    · rw [touchSpan_eq]
      exact onlyBank_modBank s _
    · rw [touchSpan_eq]
      exact State.bank_modBank s _
  · exact ⟨_, (show execPhase f s = _ from guarded_of_true _ h).trans (congrArg _ (if_pos hp)), trapped_takeSlotTrap s _⟩
  · exact List.forall_mem_cons.2 ⟨query_row (i := .ertq) h rfl, List.forall_mem_cons.2 ⟨query_row (i := .sumpq) h rfl, fun _ h => absurd h List.not_mem_nil⟩⟩
  · exact ⟨_, (show execErth f s = _ from guarded_of_true _ h).trans (congrArg _ (if_neg (Nat.not_le.2 hv))), rfl, rfl⟩
  · exact ⟨_, (show execErth f s = _ from guarded_of_true _ h).trans (congrArg _ (if_pos hv)), trapped_takeSlotTrap s _⟩

end Sys2Proof.Machine
end

section
/-! PROOF. Work queues, commands and launch acceptance: the obligation CommandsComplete. -/

namespace Sys2Proof.Machine

open Sys2Proof

/-! ### Register writes of a queue -/

/-- A write that the access table admits is performed. -/
theorem checked_of_admitted {s : State} {k unit cls part : Nat} {wr rd : Bool} (h : admitted s k unit cls part wr rd = true) (yes no : State → State) :
    checked s k unit cls part wr rd yes no = yes s := if_pos h

theorem onBar_of_open {s : State} (h : barOpen s = true) (f : State → State) : onBar f s = f s := if_pos h

section
variable (x : WorkQueue) (en : Bool)

theorem WorkQueue.setEn_en : (x.setEn en).en = en := by
  unfold WorkQueue.setEn
  split
  · assumption
  · split <;> simp_all

/-- A change of EN leaves the other fields of the register. -/
theorem WorkQueue.setEn_fields : (x.setEn en).prio = x.prio ∧ (x.setEn en).log2 = x.log2 ∧ (x.setEn en).hold = x.hold ∧
    (x.setEn en).asg = x.asg ∧ (x.setEn en).part = x.part := by
  unfold WorkQueue.setEn
  split
  · exact ⟨rfl, rfl, rfl, rfl, rfl⟩
  · split <;> exact ⟨rfl, rfl, rfl, rfl, rfl⟩

/-- A change of EN clears the pointers where EN rises, and leaves them otherwise. -/
theorem WorkQueue.setEn_ptrs :
    (¬(x.en = false ∧ en = true) → (x.setEn en).head = x.head ∧ (x.setEn en).tail = x.tail) ∧
    (x.en = false → en = true → (x.setEn en).head = 0 ∧ (x.setEn en).tail = 0) := by
  unfold WorkQueue.setEn
  cases x.en <;> cases en <;> simp

end

/-- The register with the fields of QCTL that a write may set, EN apart (R75). -/
def WorkQueue.withCtl (x : WorkQueue) (v : Nat) : WorkQueue :=
  { x with prio := bitsNat v 18 16, log2 := if !x.en && 4 ≤ bitsNat v 15 12 && bitsNat v 15 12 ≤ 12 then bitsNat v 15 12 else x.log2 }

section
variable (s : State) (q v : Nat)

theorem queue_writeTail : (writeTail q v s).queue q =
    if 2 ^ (s.queue q).log2 ≤ v then { (s.queue q).setEn false with err := true } else { s.queue q with tail := v } := queue_modQueue _ _ _

theorem queue_writeCtlReg : (writeCtlReg q v s).queue q = ((s.queue q).withCtl v).setEn (bitsNat v 0 0 = 1 && (s.queue q).asg) :=
  queue_modQueue _ _ _

end

/-! ### The arbiter -/

section
variable {α : Type} (f : α → Nat)

/-- The first of the least entries of a list, from an entry in hand on. -/
def leastFrom (a : Option α) (x : α) : Option α :=
  match a with
  | none => some x
  | some y => if f x < f y then some x else some y

/-- Choosing the least entry of a list gives one of them, and none is less. -/
theorem foldl_leastFrom {l : List α} {y z : α} (h : l.foldl (leastFrom f) (some y) = some z) :
    (z = y ∨ z ∈ l) ∧ f z ≤ f y ∧ ∀ x ∈ l, f z ≤ f x := by
  induction l generalizing y with
  | nil =>
    obtain rfl := Option.some.inj h
    exact ⟨Or.inl rfl, Nat.le_refl _, fun _ h => absurd h List.not_mem_nil⟩
  | cons x l ih =>
    rw [List.foldl_cons] at h
    by_cases hx : f x < f y
    · rw [show leastFrom f (some y) x = some x from if_pos hx] at h
      obtain ⟨hm, hle, hall⟩ := ih h
      exact ⟨Or.inr (hm.elim (fun e => e ▸ List.mem_cons_self) (List.mem_cons_of_mem _)), by omega, List.forall_mem_cons.2 ⟨hle, hall⟩⟩
    · rw [show leastFrom f (some y) x = some y from if_neg hx] at h
      obtain ⟨hm, hle, hall⟩ := ih h
      exact ⟨hm.imp id (List.mem_cons_of_mem _), hle, List.forall_mem_cons.2 ⟨by omega, hall⟩⟩

theorem foldl_leastFrom_none {l : List α} {z : α} (h : l.foldl (leastFrom f) none = some z) : z ∈ l ∧ ∀ x ∈ l, f z ≤ f x := by
  cases l with
  | nil => exact absurd h (by simp)
  | cons x l =>
    obtain ⟨hm, hle, hall⟩ := foldl_leastFrom f (y := x) h
    exact ⟨hm.elim (fun e => e ▸ List.mem_cons_self) (List.mem_cons_of_mem _), List.forall_mem_cons.2 ⟨hle, hall⟩⟩

/-- A running maximum bounds what it has met. -/
theorem le_foldl_max {l : List α} {n : Nat} : n ≤ l.foldl (fun m x => max m (f x)) n ∧ ∀ x ∈ l, f x ≤ l.foldl (fun m x => max m (f x)) n := by
  induction l generalizing n with
  | nil => exact ⟨Nat.le_refl _, fun _ h => absurd h List.not_mem_nil⟩
  | cons x l ih =>
    obtain ⟨h1, h2⟩ := @ih (max n (f x))
    rw [List.foldl_cons]
    exact ⟨(Nat.le_max_left _ _).trans h1, List.forall_mem_cons.2 ⟨(Nat.le_max_right _ _).trans h1, h2⟩⟩

end

/-- How far a queue lies from the pointer of a level. -/
def queueDist (s : State) (level : Nat) (x : Nat × WorkQueue) : Nat := (x.1 + 16384 - s.ptrs.get (Fin.ofNat 8 level)) % 16384

/-- The highest priority of a ready queue. -/
def topLevel (s : State) : Nat := (readyQueues s).foldl (fun m x => max m x.2.prio) 0

theorem arbiterPick_eq (s : State) : arbiterPick s =
    ((readyQueues s).filter fun x => x.2.prio = topLevel s).foldl (leastFrom (queueDist s (topLevel s))) none := by
  unfold arbiterPick
  dsimp only
  congr 1
  funext a x
  cases a <;> rfl

theorem arbiterPick_spec {s : State} {q : Nat} {x : WorkQueue} (h : arbiterPick s = some (q, x)) :
    (q, x) ∈ s.queues ∧ queueReady s x = true ∧ ∀ y, y ∈ s.queues → queueReady s y.2 = true → y.2.prio ≤ x.prio ∧
      (y.2.prio = x.prio → queueDist s x.prio (q, x) ≤ queueDist s x.prio y) := by
  rw [arbiterPick_eq] at h
  obtain ⟨hm, hall⟩ := foldl_leastFrom_none _ h
  obtain ⟨hr, hp⟩ := List.mem_filter.1 hm
  obtain ⟨hq, hready⟩ := List.mem_filter.1 hr
  have hp : x.prio = topLevel s := by simpa using hp
  refine ⟨hq, hready, fun y hy hyr => ?_⟩
  have hyq : y ∈ readyQueues s := List.mem_filter.2 ⟨hy, hyr⟩
  rw [hp]
  exact ⟨(le_foldl_max fun e : Nat × WorkQueue => e.2.prio).2 y hyq, fun he => hall y (List.mem_filter.2 ⟨hyq, by simpa using he⟩)⟩

theorem queueReady_iff (s : State) (x : WorkQueue) : queueReady s x = true ↔ x.en = true ∧ x.asg = true ∧ x.hold = false ∧
    (s.part x.part).fwFault = false ∧ x.head ≠ x.tail ∧ x.busy = false ∧ (s.launches.filter fun l => l.2.part = x.part).length < 1024 ∧
    s.launches.length < 4096 := by
  rw [show (s.launches.filter fun l => l.2.part = x.part) = liveIn s x.part from rfl]
  simp only [queueReady, Bool.and_eq_true, Bool.not_eq_true', decide_eq_true_eq, ne_eq, and_assoc]

/-- The state in which the head command of a queue has been read. -/
def queueSelected (q : Nat) (x : WorkQueue) (s : State) : State :=
  ({ (s.modQueue q fun x => { x with busy := true }) with
    ptrs := s.ptrs.set (Fin.ofNat 8 x.prio) ((q + 1) % 16384)
    cmds := s.cmds ++ [(⟨q, readCommand s q x, s.opId, x.epoch, bitsNat (readCommand s q x) 9 9 = 1, none, [], none, 0⟩ : Cmd)] }).bump

/-! ### Commands -/

section
variable (c : Cmd) (s : State)

/-- The queue of a command once its head is past it. -/
def WorkQueue.past (x : WorkQueue) (c : Cmd) : WorkQueue := if x.en && x.epoch = c.epoch then { x with head := (x.head + 1) % 2 ^ x.log2 } else x

theorem queue_advance : (advance c s).queue c.q = (s.queue c.q).past c := queue_modQueue _ _ _

theorem queue_release : (release c s).queue c.q = { s.queue c.q with busy := false } :=
  queue_modQueue s c.q fun x => { x with busy := false }

variable (ident status cause detail : Nat)

/-- What the end of a command leaves. -/
theorem finishCmd_spec : let t := finishCmd c ident status cause detail s
    t.cmds = s.cmds.filter (fun x => x.q ≠ c.q) ∧ t.queue c.q = { (s.queue c.q).past c with busy := false } ∧ t.graphs = s.graphs := by
  have hw : ∀ r : Completion, (writeRecord r s).queue c.q = s.queue c.q := fun r => by
    rw [writeRecord_eq]
    rfl
  refine ⟨?_, ?_, ?_⟩
  · rw [finishCmd, release_eq, advance_eq, writeRecord_eq]
  · rw [finishCmd, queue_release, queue_advance, hw]
  · rw [finishCmd, release_eq, advance_eq, writeRecord_eq]

/-- Where the host takes the record of a command, it is written, with its interrupt. -/
theorem finishCmd_record (ha : c.cplAddr % 32 = 0) (hok : hostOk s (queuePort c.q) c.cplAddr 32 = true) :
    let t := finishCmd c ident status cause detail s
    t.mem = Memory.setBytes s.mem (hostKey (queuePort c.q) c.cplAddr) ((c.record ident status cause detail (taiNs s)).bytes (taiNs s)) ∧
      t.msix = if c.irq then s.msix ++ [vectorOf c.q] else s.msix := by
  have hw : ∀ r : Completion, r.q = c.q → r.cpl = c.cplAddr → writeRecord r s =
      if r.irq then { writeBytes s (hostKey (queuePort r.q) r.cpl) (r.bytes (taiNs s)) with msix := s.msix ++ [vectorOf r.q] }
      else writeBytes s (hostKey (queuePort r.q) r.cpl) (r.bytes (taiNs s)) := fun r hq hc => by
    unfold writeRecord
    rw [if_neg (by rw [hc, ha]; exact not_not.2 rfl), if_neg (by rw [hq, hc, hok]; decide)]
    rfl
  rw [finishCmd, release_eq, advance_eq, hw _ rfl rfl]
  show (if c.irq then _ else _ : State).mem = _ ∧ (if c.irq then _ else _ : State).msix = _
  cases c.irq <;> exact ⟨rfl, rfl⟩

end

/-- A command without a bad field goes on to its other checks. -/
theorem fieldsThen_of_none {c : Cmd} (h : c.badField = none) (f : State → State) (s : State) : fieldsThen c f s = f s := by
  rw [fieldsThen, h]

/-! ### UNLOAD -/

section
variable (c : Cmd) (s : State)

theorem freeNamespace_of_inUse (h : nsInUse s c.ns = true) : freeNamespace c s = s := if_pos h

/-- Freeing a namespace removes its graph and its command, and leaves the launches. -/
theorem freeNamespace_of_unused (h : nsInUse s c.ns = false) : (freeNamespace c s).graphs = kdel s.graphs c.ns ∧
    (freeNamespace c s).launches = s.launches ∧ (freeNamespace c s).cmds = s.cmds.filter (fun x => x.q ≠ c.q) := by
  rw [freeNamespace, if_neg (by rw [h]; exact Bool.false_ne_true)]
  dsimp only
  rw [release_eq, writeRecord_eq]
  exact ⟨rfl, rfl, rfl⟩

/-- A namespace of a live launch stays. -/
theorem kget_settle_inUse {l : List Cmd} {ns : Nat} {s : State} (h : s.launches.any (fun x => x.2.ns = ns) = true) :
    kget (l.foldl (fun s c => freeNamespace c s) s).graphs ns = kget s.graphs ns := by
  induction l generalizing s with
  | nil => rfl
  | cons c l ih =>
    rw [List.foldl_cons]
    cases hu : nsInUse s c.ns with
    | true => rw [freeNamespace_of_inUse c s hu, ih h]
    | false =>
      obtain ⟨hg, hl, -⟩ := freeNamespace_of_unused c s hu
      have hne : ns ≠ c.ns := by
        rintro rfl
        rw [nsInUse, h, Bool.true_or] at hu
        exact absurd hu (by decide)
      rw [ih (hl ▸ h), hg, kget_kdel_ne _ hne]

/-- What no launch and no checked command uses is used by none once another namespace is free. -/
theorem nsInUse_freeNamespace {ns : Nat} (h : nsInUse s ns = false) : nsInUse (freeNamespace c s) ns = false := by
  cases hu : nsInUse s c.ns with
  | true => rwa [freeNamespace_of_inUse c s hu]
  | false =>
    obtain ⟨-, hl, hc⟩ := freeNamespace_of_unused c s hu
    unfold nsInUse at h ⊢
    rw [Bool.or_eq_false_iff] at h ⊢
    refine ⟨hl ▸ h.1, ?_⟩
    rw [hc, List.any_eq_false]
    exact fun x hx => List.any_eq_false.1 h.2 x (List.mem_filter.1 hx).1

/-- Among the accepted UNLOADs of an unused namespace one frees it. -/
theorem kget_settle_unused {l : List Cmd} {ns : Nat} {s : State} (h : nsInUse s ns = false) (hc : (∃ c ∈ l, c.ns = ns) ∨ kget s.graphs ns = none) :
    kget (l.foldl (fun s c => freeNamespace c s) s).graphs ns = none := by
  induction l generalizing s with
  | nil => exact hc.elim (fun ⟨_, h, _⟩ => absurd h List.not_mem_nil) id
  | cons c l ih =>
    refine ih (nsInUse_freeNamespace c s h) ?_
    by_cases he : c.ns = ns
    · subst he
      exact Or.inr (by rw [(freeNamespace_of_unused c s h).1, kget_kdel_same])
    · refine hc.imp (fun ⟨d, hd, hn⟩ => ⟨d, (List.mem_cons.1 hd).resolve_left fun e => he (e ▸ hn), hn⟩) fun hg => ?_
      show kget (freeNamespace c s).graphs ns = none
      cases hu : nsInUse s c.ns with
      | true => rwa [freeNamespace_of_inUse c s hu]
      | false => rw [(freeNamespace_of_unused c s hu).1, kget_kdel_ne _ (Ne.symm he), hg]

end

/-- The state in which an UNLOAD has been accepted. -/
def unloadAccepted (c : Cmd) (g : Graph) (s : State) : State :=
  advance c (modCmd c.q (fun x => { x with waitFor := some c.ns, tstart := taiNs s })
    { s with graphs := kset s.graphs c.ns { g with unloading := true } })

section
variable {s : State} {q n : Nat} {c : Cmd} {g : Graph}

theorem startUnload_eq (hn : nsLoaded s c.q c.ns = true) (hg : kget s.graphs c.ns = some g) :
    startUnload c s = settleUnloads (unloadAccepted c g s) := by
  unfold startUnload
  rw [if_neg (by rw [hn]; decide), hg]
  rfl

theorem nsInUse_unloadAccepted (ns : Nat) : nsInUse (unloadAccepted c g s) ns = nsInUse s ns := by
  have hc : ∀ l : List Cmd, (l.map fun (x : Cmd) => if x.q = c.q then { x with waitFor := some c.ns, tstart := taiNs s } else x).any
      (fun c => c.opc = 3 && c.args.isSome && c.ns = ns) = l.any fun c => c.opc = 3 && c.args.isSome && c.ns = ns := by
    intro l
    rw [List.any_map]
    refine congrArg (List.any l) (funext fun x => ?_)
    rw [Function.comp]
    split <;> rfl
  unfold nsInUse
  exact congrArg (s.launches.any (fun x => x.2.ns = ns) || ·) (hc s.cmds)

theorem pendingCmd_spec (h : pendingCmd s q n = some c) : c ∈ s.cmds ∧ (c.opc = n ∨ n = 0 ∧ 4 < c.opc) := by
  unfold pendingCmd cmdOf at h
  obtain ⟨hf, hp⟩ := Option.filter_eq_some_iff.1 h
  refine ⟨List.mem_of_find?_eq_some hf, ?_⟩
  simp only [Bool.and_eq_true, Bool.or_eq_true, decide_eq_true_eq] at hp
  exact hp.2

/-- What an accepted UNLOAD leaves of its namespace. -/
theorem startUnload_spec (hc : pendingCmd s q 2 = some c) (hn : nsLoaded s c.q c.ns = true) (hg : kget s.graphs c.ns = some g) :
    (s.launches.any (fun x => x.2.ns = c.ns) = true → kget (startUnload c s).graphs c.ns = some { g with unloading := true }) ∧
      (nsInUse s c.ns = false → kget (startUnload c s).graphs c.ns = none) := by
  obtain ⟨hmem, hopc⟩ := pendingCmd_spec hc
  have hopc : c.opc = 2 := hopc.resolve_right fun h => absurd h.1 (by decide)
  rw [startUnload_eq hn hg, settleUnloads]
  refine ⟨fun h => ?_, fun h => ?_⟩
  · refine (kget_settle_inUse (s := unloadAccepted c g s) h).trans ?_
    exact kget_kset_same _ _ _
  · refine kget_settle_unused ((nsInUse_unloadAccepted c.ns).trans h) (Or.inl ⟨{ c with waitFor := some c.ns, tstart := taiNs s }, ?_, rfl⟩)
    refine List.mem_filter.2 ⟨List.mem_map.2 ⟨c, hmem, if_pos rfl⟩, ?_⟩
    rw [show ({ c with waitFor := some c.ns, tstart := taiNs s } : Cmd).opc = 2 from hopc]
    rfl

/-- The state in which a launch is live and its record emitted. -/
def recorded (c : Cmd) (args : List Word) (s : State) : State :=
  launchRec c.ident 0x0001 (leBytes 2 c.q ++ leBytes 2 c.ns ++ leBytes 2 c.gen)
    { s with launches := kset s.launches c.ident (newLaunch s c args) }

/-- The state in which its command is over. -/
def accepted (c : Cmd) (args : List Word) (s : State) : State :=
  release c (advance c (if sourceToCome (recorded c args s) c.ident then touchSource (recorded c args s) c.ident 0 else recorded c args s))

theorem recorded_fields (c : Cmd) (args : List Word) (s : State) :
    (recorded c args s).launches = kset s.launches c.ident (newLaunch s c args) ∧ (recorded c args s).cmds = s.cmds := by
  rw [recorded, launchRec_eq]
  exact ⟨rfl, rfl⟩

/-! ### LOAD, LAUNCH and ABORT -/

theorem loadGraph_spec {ns : Nat} (h64 : hostOk s (queuePort c.q) c.addr 64 = true)
    (hall : hostOk s (queuePort c.q) c.addr (readHeader (hostObject s (queuePort c.q) c.addr)).total = true)
    (hload : loadChecks (hostObject s (queuePort c.q) c.addr) = none) (hns : freeNs s = some ns)
    (hroom : deviceUsed s (s.queue c.q).part + (readHeader (hostObject s (queuePort c.q) c.addr)).total ≤ (s.part (s.queue c.q).part).devRoom) :
    (loadGraph c s).graphs = kset s.graphs ns (graphFrom (hostObject s (queuePort c.q) c.addr) (s.queue c.q).part) ∧
      (loadGraph c s).cmds = s.cmds.filter (fun x => x.q ≠ c.q) ∧ ((loadGraph c s).queue c.q).busy = false := by
  have he : loadGraph c s = installGraph c (s.queue c.q).part ns s := by
    unfold loadGraph
    dsimp only
    rw [if_neg (by rw [h64, hall]; decide), hload, hns]
    exact if_neg (Nat.not_lt.2 hroom)
  rw [he]
  obtain ⟨hc, hq, hg⟩ := finishCmd_spec c
    { writeBytes s ((Space.gobj ns).key 0) (readBytes s (hostKey (queuePort c.q) c.addr) (readHeader (hostObject s (queuePort c.q) c.addr)).total) with
      graphs := kset s.graphs ns (graphFrom (hostObject s (queuePort c.q) c.addr) (s.queue c.q).part) } ns 1 0 0
  exact ⟨hg, hc, congrArg WorkQueue.busy hq⟩

theorem checkLaunch_eq (hn : nsLoaded s c.q c.ns = true) (hp : partOf c.ident = (s.queue c.q).part) (hl : kget s.launches c.ident = none)
    (ha : hostOk s (queuePort c.q) c.addr c.argLen = true) (he : c.nwaf ≤ 1 ∨ hostOk s (queuePort c.q) c.cutAddr (8 * c.ncut) = true) :
    checkLaunch c s = if Config.admission s.nonce ≠ 0 then reject c 0x24 (Config.admission s.nonce).toNat s
      else modCmd c.q (fun x => { x with args := some (argWords s c), edges := cutEdges s c }) s := by
  unfold checkLaunch
  dsimp only
  rw [if_neg (by rw [hn]; decide), if_neg (by simp [hp, hl]), if_neg (by rw [ha]; decide), if_neg]
  rcases he with he | he
  · simp [Nat.not_lt.2 he]
  · simp [he]

theorem startAbort_spec (hp : partOf c.ident = (s.queue c.q).part) :
    if abortable s c.ident then (startAbort c s).aborts = s.aborts ++ [⟨c.ident, 0x05, BitVec.ofNat 32 c.q, s.now⟩]
    else (startAbort c s).cmds = s.cmds.filter (fun x => x.q ≠ c.q) ∧ ((startAbort c s).queue c.q).busy = false := by
  unfold startAbort
  rw [if_neg (not_not.2 hp)]
  split
  · rw [advance_eq]
    rfl
  · obtain ⟨hc, hq, -⟩ := finishCmd_spec c s c.ident 1 0 0
    exact ⟨hc, congrArg WorkQueue.busy hq⟩

theorem accepted_spec (args : List Word) : kget (accepted c args s).launches c.ident = some (newLaunch s c args) ∧
    (accepted c args s).cmds = s.cmds.filter (fun x => x.q ≠ c.q) ∧ ((accepted c args s).queue c.q).busy = false := by
  refine ⟨?_, ?_, by rw [accepted, queue_release]⟩
  · rw [accepted, release_eq, advance_eq, touchSource_eq]
    split <;> exact (congrArg (kget · c.ident) (recorded_fields c args s).1).trans (kget_kset_same _ _ _)
  · rw [accepted, release_eq, advance_eq, touchSource_eq]
    split <;> exact congrArg (List.filter _) (recorded_fields c args s).2

end

/-- Settles O42. -/
theorem commandsComplete : Obligations.CommandsComplete := by
  refine ⟨fun s q v part port hb hq ha hev => ?_, fun s q v part port hb hq ha hev => ?_, fun s q x h => arbiterPick_spec h, queueReady_iff,
    fun s q x hs hp hev => ?_, fun s q c hc hb ha hok hev => ?_, fun s q c ns hc hb h64 hall hload hns hroom hev => ?_,
    fun s q c g hc hb hn hg hev => ?_, fun s q c hc hb hn hp hl ha he hev => ?_, fun s q c hc hb hp hev => ?_, fun s q hf hev => ?_,
    fun s q c args hc hev => ?_⟩
  · have he : execQtailWrite s = .next (writeTail q v s) := by
      rw [execQtailWrite, hev]
      simp only [onBar_of_open hb, if_neg (Nat.not_le.2 hq), checked_of_admitted ha]
    refine ⟨_, he, fun h => (queue_writeTail s q v).trans (if_neg (Nat.not_le.2 h)), fun h => ?_⟩
    rw [queue_writeTail, if_pos h]
    obtain ⟨h1, h2⟩ := (WorkQueue.setEn_ptrs (s.queue q) false).1 (by simp)
    exact ⟨WorkQueue.setEn_en _ _, rfl, h2, h1⟩
  · have he : execQctlWrite s = .next (writeCtlReg q v s) := by
      rw [execQctlWrite, hev]
      simp only [onBar_of_open hb, if_neg (Nat.not_le.2 hq), checked_of_admitted ha]
    obtain ⟨h1, h2, h3, h4, h5⟩ := WorkQueue.setEn_fields ((s.queue q).withCtl v) (bitsNat v 0 0 = 1 && (s.queue q).asg)
    obtain ⟨h6, h7⟩ := WorkQueue.setEn_ptrs ((s.queue q).withCtl v) (bitsNat v 0 0 = 1 && (s.queue q).asg)
    have hen := WorkQueue.setEn_en ((s.queue q).withCtl v) (bitsNat v 0 0 = 1 && (s.queue q).asg)
    refine ⟨_, he, ?_⟩
    dsimp only
    rw [queue_writeCtlReg, hen]
    refine ⟨h1, rfl, h2.trans (if_congr ?_ rfl rfl), h3, h4, h5, h6, h7⟩
    simp [and_assoc]
  · have he : execQueueSelection s = .next (queueSelected q x s) := by
      rw [execQueueSelection]
      nth_rw 1 [hev]
      dsimp only
      rw [if_neg (by rw [hs]; decide), hp]
      rfl
    refine ⟨_, he, congrArg WorkQueue.busy (queue_modQueue s q fun x => { x with busy := true }), Vector.getElem_set_self _, _, rfl, rfl, rfl, rfl⟩
  · have he : execNop s = .next (finishCmd c c.ident 1 0 0 s) := by
      rw [execNop, hev]
      simp only [hc, fieldsThen_of_none hb]
    obtain ⟨h1, h2, -⟩ := finishCmd_spec c s c.ident 1 0 0
    obtain ⟨h3, h4⟩ := finishCmd_record c s c.ident 1 0 0 ha hok
    refine ⟨_, he, h1, congrArg WorkQueue.busy h2, fun hen hep => ?_, h3, h4⟩
    rw [h2, WorkQueue.past, if_pos (by simp [hen, hep])]
  · have he : execLoad s = .next (loadGraph c s) := by
      rw [execLoad, hev]
      simp only [hc, fieldsThen_of_none hb]
    exact ⟨_, he, loadGraph_spec h64 hall hload hns hroom⟩
  · have he : execUnload s = .next (startUnload c s) := by
      rw [execUnload, hev]
      simp only [hc, fieldsThen_of_none hb]
    exact ⟨_, he, startUnload_spec hc hn hg⟩
  · have hx : execLaunch s = .next (checkLaunch c s) := by
      rw [execLaunch, hev]
      simp only [hc, fieldsThen_of_none hb]
    refine ⟨_, hx, ?_⟩
    rw [checkLaunch_eq hn hp hl ha he]
    exact ⟨fun h => by rw [if_neg (not_not.2 h)]; rfl, fun h => if_pos h⟩
  · have he : execAbort s = .next (startAbort c s) := by
      rw [execAbort, hev]
      simp only [hc, fieldsThen_of_none hb]
    exact ⟨_, he, startAbort_spec hp⟩
  · have he : execCommandFenceRelease s = .next (modCmd q (fun c => { c with held := false }) s) := by
      rw [execCommandFenceRelease, hev]
      exact congrArg _ (if_pos hf)
    exact ⟨_, he, rfl⟩
  · have he : execLaunchAcceptance s = .next (accepted c args s) := by
      rw [execLaunchAcceptance]
      nth_rw 1 [hev]
      dsimp only
      rw [hc]
      rfl
    exact ⟨_, he, accepted_spec args⟩

end Sys2Proof.Machine
end

section

/-! PROOF. A copy step that does not do what is stated (R419) -/

namespace Sys2Proof.Machine
open Sys2Proof

/-- A row of one byte, published to tensor 0x301. -/
def onlyRow : Packet := { Packet.zero with name := mkName 1 0x301 5, launch := 0x10000001, payload := [1] }

/-- The sump that holds it, for entry 2 of partition 1. -/
def lastSump : Sump := ⟨1, 0x10000001, 2, [⟨onlyRow, 2⟩], 1, false⟩
/-- The rim request that forwards the row. -/
def unparkLast : RimReq := ⟨3, 1, 16, .unpark 1 2 0x10000001⟩

/-- A running device whose access tables admit every master and whose rim slots are partition 1's; entry 2 is resident and bound, and no home
is set up yet. -/
def boundOnly : State :=
  { State.reset with
    now := 4096
    mgmt := { Mgmt.reset with boot := .running, tables := [(0, 0xFFFFFF000000FF07)], rim := List.replicate 64 (true, 1) }
    parts := [(1, { Partition.reset with homes := [0] })]
    ert := [(65536 + 2, { ErtEntry.reset with st := 2, bind := 0x100301 })]
    sumps := [(3, lastSump)]
    rim := [unparkLast]
    ev := some (.rimRequestStart 0) }

/-- A subscription of the launch to every row of tensor 0x301. -/
def anyRow : Pattern := ⟨mkName 1 0x301 0, BitVec.ofNat 64 0xFFFFFFFF00000000, 0, 0, 0x10000001⟩

/-- The same with the view and the subscription at its home. -/
def lastParked : State :=
  let h := bindHome boundOnly 1 (boundOnly.ertEntry 1 2)
  boundOnly.modRouter h fun r => { r with
    experts := [⟨1, 2, 2, 0, [], none⟩], entries := [⟨anyRow, .home, [0, 0, 0, 0, 1], [], 1⟩] }

theorem lastParked_starts : (rimFirst lastParked 0 unparkLast && rimFits lastParked unparkLast) = true := by decide +kernel

/-- The request's agent is held from the start on. -/
def lastStarted : State := holdAgent (agentNow lastParked unparkLast) 16 { lastParked with rim := lastParked.rim.eraseIdx 0 }

theorem lastParked_forwards : mayForward lastParked 1 2 0x10000001 = true := by decide +kernel

theorem lastParked_oldest : oldestRow lastParked 1 2 0x10000001 = some ((3, lastSump), ⟨onlyRow, 2⟩) := by rfl

theorem lastStarted_goes : mayForward lastStarted 1 2 0x10000001 = true := by decide +kernel

theorem lastStarted_oldest : oldestRow lastStarted 1 2 0x10000001 = some ((3, lastSump), ⟨onlyRow, 2⟩) := by rfl

/-- The access table's first entry admits every unit. -/
theorem areaAdmits_of_first (s : State) (hs : s.mgmt.tables = [(0, 0xFFFFFF000000FF07)]) :
    areaAdmits s 1 2 onlyRow.header false = true := by
  have hu : Config.areaUnit 1 2 onlyRow.header % 2 ^ 24 ≤ 0xFFFFFF := by omega
  refine List.any_eq_true.2 ⟨0, by decide, ?_⟩
  rw [hs]
  simp only [tableAdmits, Bool.and_eq_true, decide_eq_true_eq]
  refine ⟨⟨⟨⟨⟨⟨by decide, Nat.zero_le _⟩, hu⟩, by decide⟩, by decide⟩, by decide⟩, by decide⟩

/-- What the request does once the table admits it. -/
def unparked (s : State) : State :=
  let s := refreshSump 1 2 (modSump 3 (fun u => { u with rows := u.rows.drop 1 }) s)
  let h := bindHome s 1 (s.ertEntry 1 2)
  let s := noteWay onlyRow.launch (some onlyRow.phase) (way (aditRouter (3 % 24)).1 h) (touchPhase s onlyRow.launch onlyRow.phase)
  freeEmptied 1 2 0x10000001 (forwardRow h 1 2 onlyRow s)

theorem startRim_unpark {part e l : Nat} (i : Nat) (r : RimReq) (s : State) (h : r.work = .unpark part e l) :
    startRim i r s = unparkRow part e l (holdAgent (agentNow s r) r.occ { s with rim := s.rim.eraseIdx i }) := by
  rw [startRim, h]

theorem exec_rimRequestStart {s : State} {i : Nat} {r : RimReq} (hev : s.ev = some (.rimRequestStart i)) (hr : s.rim[i]? = some r)
    (h : (rimFirst s i r && rimFits s r) = true) : exec .rimRequestStart s = .next (startRim i r s) := by
  show execRimRequestStart s = _
  rw [execRimRequestStart, hev]
  dsimp only
  rw [hr]
  exact congrArg _ (if_pos h)

theorem exec_lastParked : exec .rimRequestStart lastParked = .next (unparked lastStarted) := by
  have hrow : unparkRow 1 2 0x10000001 lastStarted = unparked lastStarted := by
    rw [unparkRow, lastStarted_oldest]
    dsimp only
    rw [lastStarted_goes]
    refine (if_neg (by decide)).trans ?_
    exact checked_of_admitted (areaAdmits_of_first lastStarted rfl) _ _
  rw [exec_rimRequestStart rfl rfl lastParked_starts, startRim_unpark 0 unparkLast lastParked rfl]
  exact congrArg _ hrow

/-- The sump is free: it has no order. -/
theorem lastSump_freed : (kget (unparked lastStarted).sumps 3).map (fun u => u.order) = some 0 := by decide +kernel

/-- Refutes O49: the sump whose last row is forwarded does not keep its other fields; it is freed (R419). -/
theorem not_copyStepsComplete : ¬ Obligations.CopyStepsComplete := by
  intro h
  obtain ⟨-, -, -, -, hunpark, -⟩ := h
  obtain ⟨hfirst, hfits⟩ := (Bool.and_eq_true _ _).mp lastParked_starts
  obtain ⟨t, ht, hsump, -⟩ := hunpark lastParked 0 unparkLast 1 2 0x10000001 (3, lastSump) ⟨onlyRow, 2⟩ rfl hfirst hfits rfl
    lastParked_oldest lastParked_forwards rfl (areaAdmits_of_first lastParked rfl) rfl
  cases ht.symm.trans exec_lastParked
  have horder := lastSump_freed
  rw [hsump] at horder
  exact absurd horder (by decide)

end Sys2Proof.Machine
end

section

/-! PROOF. A management step that does not do what is stated (R495) -/

namespace Sys2Proof.Machine
open Sys2Proof

/-- The record of a task's start, of class 0. -/
def startRecord : TraceRec := ⟨0, 0x10, 0, 0, 0, []⟩

/-- Core 0 has a record queued for field 0; software has since disabled every class of that field's buffer (CLEN is 0). -/
def classesOff : State :=
  { State.reset with
    fields := [(0, { FieldSt.reset with trace := { TraceBuf.reset with clen := 0 } })]
    traceUnits := [(0, [(0, startRecord)])]
    ev := some (.traceWrite 0) }

/-- A record of a disabled class is discarded (R495). -/
theorem writeTrace_of_disabled {f : Nat} {r : TraceRec} {s : State} (h : (s.field f).trace.writes r.code = false) :
    writeTrace f r s = s := by
  rw [writeTrace]
  exact if_pos (by rw [h]; rfl)

theorem exec_traceWrite_disabled {s : State} {f u : Nat} {r : TraceRec} (hev : s.ev = some (.traceWrite f))
    (hn : traceNext s f = some (u, r))
    (h : (((takeRecord u s).modField f fun x => { x with trace := { x.trace with served := u } }).field f).trace.writes r.code = false) :
    exec .traceWrite s = .next ((takeRecord u s).modField f fun x => { x with trace := { x.trace with served := u } }) := by
  show execTraceWrite s = _
  rw [execTraceWrite, hev]
  dsimp only
  rw [hn]
  exact congrArg _ (writeTrace_of_disabled h)

theorem classesOff_next : traceNext classesOff 0 = some (0, startRecord) := by decide +kernel

/-- Refutes O45: with its class disabled in CLEN the record is discarded (R495); WR does not advance. -/
theorem not_managementStepsComplete : ¬ Obligations.ManagementStepsComplete := by
  intro h
  obtain ⟨-, -, -, -, -, -, -, -, -, -, -, -, -, htrace, -⟩ := h
  obtain ⟨t, ht, -, hwr⟩ := htrace classesOff 0 0 startRecord classesOff_next (by decide) (by decide) rfl
  cases ht.symm.trans (exec_traceWrite_disabled rfl classesOff_next (by decide))
  exact absurd hwr (by decide)

end Sys2Proof.Machine
end

section

/-! PROOF. What the network's bookkeeping leaves unchanged (R342 to R347) -/

namespace Sys2Proof.Machine
open Sys2Proof

/-! ### Routers, the rim, the agenda and the change bits alone -/

/-- The name-match entries and the held crossings of every router. -/
def State.tables (s : State) (r : Nat) : List MatchEntry × List PortHold := ((s.router r).entries, (s.router r).holds)

/-- A step changes routers, rim requests, what is on its way, change bits and the operation counter alone, and no table of a router. -/
def NetOnly (s t : State) : Prop :=
  t = { s with routers := t.routers, rim := t.rim, agenda := t.agenda, changed := t.changed, opId := t.opId } ∧ t.tables = s.tables

theorem NetOnly.refl (s : State) : NetOnly s s := ⟨rfl, rfl⟩

theorem NetOnly.trans {s t u : State} (h : NetOnly s t) (k : NetOnly t u) : NetOnly s u := by
  obtain ⟨h1, h2⟩ := h
  obtain ⟨k1, k2⟩ := k
  exact ⟨by rw [k1, h1], k2.trans h2⟩

theorem netOnly_foldl {α : Type} (g : State → α → State) (h : ∀ s a, NetOnly s (g s a)) (l : List α) (s : State) :
    NetOnly s (l.foldl g s) := by
  induction l generalizing s with
  | nil => exact .refl s
  | cons a r ih => exact (h s a).trans (ih (g s a))

theorem netOnly_touchPhase (s : State) (l p : Nat) : NetOnly s (touchPhase s l p) := by rw [touchPhase_eq]; exact ⟨rfl, rfl⟩

theorem netOnly_touchTraffic (e : Event) (s : State) : NetOnly s (touchTraffic e s) := by rw [touchTraffic_eq]; exact ⟨rfl, rfl⟩

theorem netOnly_post (e : Event) (s : State) : NetOnly s (post e s) := by rw [post_eq]; exact ⟨rfl, rfl⟩

theorem netOnly_bump (s : State) : NetOnly s s.bump := ⟨rfl, rfl⟩

theorem netOnly_rimQueue (a p : Nat) (w : RimWork) (s : State) : NetOnly s (rimQueue a p w s) := ⟨rfl, rfl⟩

theorem State.router_modRouter_ne (s : State) (f : Router → Router) {q r : Nat} (h : r ≠ q) : (s.modRouter q f).router r = s.router r :=
  kgetD_kset_ne _ _ _ h

theorem netOnly_modRouter (s : State) (h : Nat) {f : Router → Router}
    (hf : ∀ x, (f x).entries = x.entries ∧ (f x).holds = x.holds) : NetOnly s (s.modRouter h f) := by
  refine ⟨rfl, funext fun r => ?_⟩
  unfold State.tables
  by_cases hr : r = h
  · obtain ⟨he, hh⟩ := hf (s.router h)
    rw [hr, router_modRouter, he, hh]
  · rw [State.router_modRouter_ne _ _ hr]

theorem netOnly_listKey (h : Nat) (p : Packet) (s : State) : NetOnly s (listKey h p s) :=
  netOnly_modRouter s h fun _ => ⟨rfl, rfl⟩

theorem netOnly_evictAs (h n : Nat) (p : Packet) (s : State) : NetOnly s (evictAs h n p s) := by
  unfold evictAs
  dsimp only
  split
  · split
    · exact netOnly_rimQueue _ _ _ s
    · exact netOnly_listKey h p s
  · split
    · exact netOnly_listKey h p s
    · exact .refl s

theorem netOnly_evictCopy (h : Nat) (v : Kept) (s : State) : NetOnly s (evictCopy h v s) :=
  (netOnly_modRouter s h (by intro; exact ⟨rfl, rfl⟩)).trans (netOnly_evictAs h v.stored v.pkt _)

theorem netOnly_makeRoom (h g fuel : Nat) (s : State) : NetOnly s (makeRoom h g fuel s).2 := by
  induction fuel generalizing s with
  | zero => exact .refl s
  | succ n ih =>
    unfold makeRoom
    dsimp only
    split
    · exact .refl s
    · split
      · exact .refl s
      · next v _ => exact (netOnly_evictCopy h v s).trans (ih _)

theorem netOnly_takeTag (r : Nat) (s : State) : NetOnly s (takeTag r s) := netOnly_makeRoom r 0 _ s

theorem netOnly_takeHeld (r : Nat) (p : Packet) (s : State) : NetOnly s (takeHeld r p s).2 := by
  have hm : NetOnly s (if Router.heldGranules (s.router r) + granules p ≤ 1024 then
      makeRoom r (granules p) ((s.router r).kept.length + 1) s else (false, s)).2 := by
    split
    · exact netOnly_makeRoom r _ _ s
    · exact .refl s
  unfold takeHeld
  dsimp only
  generalize (if Router.heldGranules (s.router r) + granules p ≤ 1024 then
      makeRoom r (granules p) ((s.router r).kept.length + 1) s else (false, s)) = m at hm ⊢
  split
  · exact hm
  · exact hm.trans (netOnly_takeTag r m.2)

theorem netOnly_retain (h : Nat) (p : Packet) (s : State) : NetOnly s (retain h p s) := by
  unfold retain retainAt
  dsimp only
  have h1 : NetOnly s (s.modRouter h fun r => { r with kept := r.kept.filter fun k => copyKey k.pkt ≠ copyKey p }) :=
    netOnly_modRouter s h fun _ => ⟨rfl, rfl⟩
  split
  · exact h1.trans ((netOnly_makeRoom h _ _ _).trans ((netOnly_modRouter _ h (by intro; exact ⟨rfl, rfl⟩)).trans (netOnly_bump _)))
  · exact h1.trans ((netOnly_makeRoom h _ _ _).trans ((netOnly_evictAs h _ p _).trans (netOnly_bump _)))

theorem netOnly_answerGet (h : Nat) (g p : Packet) (s : State) : NetOnly s (answerGet h g p s) := netOnly_post _ s

theorem netOnly_answerParked (h : Nat) (p : Packet) (s : State) : NetOnly s (answerParked h p s) :=
  (netOnly_modRouter s h (by intro; exact ⟨rfl, rfl⟩)).trans
    (netOnly_foldl _ (fun t g => (netOnly_touchPhase t _ _).trans (netOnly_answerGet h g p _)) _ _)

end Sys2Proof.Machine
end

section

/-! PROOF. What routers and homes do: the obligation NetworkStepsComplete. -/

namespace Sys2Proof.Machine
open Sys2Proof

/-! ### What is posted is on its way -/

theorem mem_agenda_post (e : Event) (s : State) : e ∈ (post e s).agenda := by rw [post_eq]; simp

theorem agenda_post (e : Event) (s : State) : (post e s).agenda = s.agenda ++ [e] := by rw [post_eq]

theorem agenda_postAll (es : List Event) (s : State) : (postAll es s).agenda = s.agenda ++ es := by rw [postAll_eq]

/-! ### Engine writes -/

theorem engineFull_eq (s : State) (ws : List Nat) :
    engineFull s ws = { s with full := (engineFull s ws).full, cores := (engineFull s ws).cores } := by
  unfold engineFull
  split
  · rfl
  · dsimp only
    split <;> rfl

/-- A step changes memory, its poison and full/empty bits, and cores alone. -/
def EngineOnly (s t : State) : Prop := t = { s with mem := t.mem, poison := t.poison, full := t.full, cores := t.cores }

theorem EngineOnly.trans {s t u : State} (h : EngineOnly s t) (k : EngineOnly t u) : EngineOnly s u := by
  unfold EngineOnly at *
  rw [k, h]

theorem engineOnly_engineWrite (s : State) (k : Nat) (bs : List Byte) (psn : Bool) : EngineOnly s (engineWrite s k bs psn) := by
  unfold EngineOnly engineWrite engineWriteBut
  rw [engineFull_eq]
  dsimp only
  split <;> rfl

theorem mem_engineWrite (s : State) (k : Nat) (bs : List Byte) (psn : Bool) : (engineWrite s k bs psn).mem = Memory.setBytes s.mem k bs := by
  unfold engineWrite engineWriteBut
  rw [engineFull_eq]
  dsimp only
  split <;> rfl

theorem engineOnly_engineWriteLeft (done : List Nat) (s : State) (k : Nat) (bs : List Byte) (psn : Bool) :
    EngineOnly s (engineWriteLeft done s k bs psn) := by
  unfold engineWriteLeft
  induction spansLeft 4 (k % 4) bs.length done generalizing s with
  | nil => rfl
  | cons x r ih => exact (engineOnly_engineWrite s _ _ psn).trans (ih _)

/-- With no word of a span written before, the span is written whole. -/
theorem mem_engineWriteLeft_nil (s : State) (k : Nat) (bs : List Byte) (psn : Bool) :
    (engineWriteLeft [] s k bs psn).mem = Memory.setBytes s.mem k bs := by
  show (engineWrite s (k + 0) ((bs.drop 0).take bs.length) psn).mem = _
  rw [mem_engineWrite]
  simp

/-! ### The subscriptions of the task instances -/

/-- The subscriptions of a task instance. -/
def State.subs (s : State) (n : Nat) : Option (List Sub) := (kget s.tasks n).map fun t => t.subs

theorem subOf_eq (s : State) (tgt : Target) : subOf s tgt = (s.subs tgt.task).bind fun l => l.find? fun x => x.isAt tgt := by
  unfold subOf State.subs
  cases kget s.tasks tgt.task <;> rfl

theorem subs_modTask (s : State) (n : Nat) {f : TaskInst → TaskInst}
    (hf : ∀ t, (f t).subs = t.subs) : (s.modTask n f).subs = s.subs := by
  funext m
  unfold State.subs
  by_cases hm : m = n
  · subst hm
    cases hk : kget s.tasks m with
    | none => simp [State.modTask, hk]
    | some t => simp [kget_modTask hk, hf]
  · rw [kget_modTask_ne hm]

theorem subs_modTaskRing (n k : Nat) (f : Ring → Ring) (s : State) : (modTaskRing n k f s).subs = s.subs := by
  unfold modTaskRing
  split
  · rfl
  · split
    · rfl
    · exact subs_modTask s n fun _ => rfl

theorem subs_taskEvent (n e : Nat) (s : State) : (taskEvent n e s).subs = s.subs := by
  unfold taskEvent
  split
  · split <;> rfl
  · rfl

theorem subs_of_netOnly {s t : State} (h : NetOnly s t) : t.subs = s.subs := by
  rw [h.1]; rfl

theorem subs_fillRing (n : Nat) (t : TaskInst) (x : Sub) (p : Packet) (s : State) : (fillRing n t x p s).subs = s.subs := by
  unfold fillRing
  split
  · rfl
  · dsimp only
    rw [subs_taskEvent, subs_modTaskRing, engineOnly_engineWriteLeft _ s _ _ p.psn]
    rfl

theorem subs_holdDelivery (r : Nat) (tgt : Target) (home k : Nat) (p : Packet) (s : State) :
    (holdDelivery r tgt home k p s).subs = s.subs := by
  have hold : ∀ (h : HeldDelivery) (u : State), NetOnly u (touchPhase (u.modRouter r fun x => { x with held := x.held ++ [h] }) p.launch p.phase) :=
    fun h u => (netOnly_modRouter u r (by intro; exact ⟨rfl, rfl⟩)).trans (netOnly_touchPhase _ _ _)
  have htake := netOnly_takeHeld r p (modTaskRing tgt.task k (fun g => g.ask (.delivery tgt.uid)) s)
  unfold holdDelivery
  dsimp only
  split
  · exact (subs_of_netOnly (htake.trans (hold _ _))).trans (subs_modTaskRing _ _ _ s)
  · exact (subs_of_netOnly ((htake.trans (hold _ _)).trans (netOnly_post _ _))).trans (subs_modTaskRing _ _ _ s)

theorem subs_checkReady (n : Nat) (s : State) : (checkReady n s).subs = s.subs := by
  unfold checkReady
  split
  · rfl
  · split
    · exact (congrArg (fun u => State.subs (State.bump u)) (touchSource_eq _ _ _)).trans (subs_modTask s n fun _ => rfl)
    · rfl

theorem subs_drainTransit (p : Packet) (s : State) : (drainTransit p s).subs = s.subs := by
  unfold drainTransit
  split
  · rfl
  · rw [touchPhase_eq]; rfl

/-- A change of a subscription that leaves its name reads as the change. -/
theorem subOf_modSub (s : State) (tgt : Target) {f : Sub → Sub} (hf : ∀ x, (f x).isAt tgt = x.isAt tgt) :
    subOf (modSub tgt f s) tgt = (subOf s tgt).map f := by
  unfold subOf modSub
  cases hk : kget s.tasks tgt.task with
  | none => simp [State.modTask, hk]
  | some t =>
    rw [kget_modTask hk]
    dsimp only
    rw [List.find?_map]
    have hp : ((fun x : Sub => x.isAt tgt) ∘ fun x : Sub => if x.isAt tgt then f x else x) = fun x : Sub => x.isAt tgt := by
      funext x
      by_cases hx : x.isAt tgt <;> simp [hx, hf]
    rw [hp]
    cases hx : t.subs.find? fun x => x.isAt tgt with
    | none => rfl
    | some x => simp [List.find?_some hx]

/-- A delivery to a subscription counts one arrival more, up to 65,535 (R341). -/
theorem arrivals_deliver {p : Packet} {r : Nat} {tgt : Target} {home : Nat} {s : State} {e : MatchEntry} {nd : Bool} {k : TaskInst} {x : Sub}
    (he : e ∈ (s.router r).entries) (hkind : e.kind = .loc tgt nd) (hk : kget s.tasks tgt.task = some k) (hx : subOf s tgt = some x) :
    ∃ y, subOf (deliver p r tgt home s) tgt = some y ∧ y.arrivals = min (x.arrivals + 1) 65535 := by
  have hcount : ∃ y, subOf (countArrival tgt p s) tgt = some y ∧ y.arrivals = min (x.arrivals + 1) 65535 := by
    refine ⟨_, (subOf_modSub s tgt ?_).trans (congrArg _ hx), rfl⟩
    exact fun _ => rfl
  suffices h : (deliver p r tgt home s).subs = (countArrival tgt p s).subs by
    simp only [subOf_eq, h] at hcount ⊢
    exact hcount
  unfold deliver
  split
  · next hno =>
    rw [Bool.not_eq_true', List.any_eq_false] at hno
    have := hno e he
    rw [hkind] at this
    simp at this
  · rw [hk, hx]
    dsimp only
    rw [subs_checkReady]
    split
    · split
      · exact subs_taskEvent _ _ _
      · rfl
    · split
      · exact subs_taskEvent _ _ _
      · split
        · exact subs_holdDelivery _ _ _ _ _ _
        · exact subs_fillRing _ _ _ _ _

/-! ### The clauses -/

theorem install_runs (s : State) (m : PathMsg) (r port : Nat) (rest : List (Nat × Nat)) (hl : liveLaunch s m.pat.launch = true)
    (hm : m.todo = (r, port) :: rest) :
    Runs .install (.install m) s fun t =>
      (2048 < (s.router r).entries.length + newEntries s m r → Event.installRefusal m ∈ t.agenda) ∧
      ((s.router r).entries.length + newEntries s m r ≤ 2048 →
        (if rest.isEmpty then Event.installAcknowledgement { m with todo := rest, done := m.done ++ [(r, port)] }
          else Event.install { m with todo := rest, done := m.done ++ [(r, port)] }) ∈ t.agenda) := by
  intro hev
  have he : execInstall s = .next (applyInstall m s) := by
    rw [execInstall, hev]
    exact congrArg _ (if_pos hl)
  refine ⟨_, he, fun hlt => ?_, fun hle => ?_⟩
  · rw [applyInstall, hm]
    dsimp only
    rw [if_pos hlt]
    exact mem_agenda_post _ _
  · rw [applyInstall, hm]
    dsimp only
    rw [if_neg (Nat.not_lt.2 hle)]
    split <;> exact mem_agenda_post _ _

/-- Without its home in them, no local entry of a message is ordered at the router (R337). -/
theorem orderedHere_dropLocal (m : PathMsg) (r : Nat) (s : State) : orderedHere (dropLocal m r s) m r = false := by
  unfold orderedHere dropLocal
  rw [router_modRouter, List.any_eq_false]
  intro e he
  obtain ⟨he, -⟩ := List.mem_filter.1 he
  obtain ⟨e0, -, rfl⟩ := List.mem_map.1 he
  by_cases hk : e0.kind = .loc m.tgt m.nodata
  · simp [hk, sdel]
  · simp [hk]

theorem orderedHere_countDown (m : PathMsg) (r q port : Nat) (s : State) (h : orderedHere s m r = false) :
    orderedHere (countDown m q port s) m r = false := by
  unfold orderedHere countDown at *
  by_cases hr : r = q
  · subst hr
    rw [router_modRouter, List.any_eq_false]
    intro e he
    obtain ⟨he, -⟩ := List.mem_filter.1 he
    obtain ⟨e0, he0, rfl⟩ := List.mem_map.1 he
    have h0 := List.any_eq_false.1 h e0 he0
    split
    · next hk => simpa using h0
    · exact h0
  · rw [State.router_modRouter_ne _ _ hr]
    exact h

theorem removal_runs (s : State) (m : PathMsg) (r port : Nat) (rest : List (Nat × Nat)) (hm : m.todo = (r, port) :: rest)
    (hd : m.done = []) (ho : orderedHere s m r = true) :
    Runs .removal (.removal m) s fun t =>
      orderedHere t m r = false ∧ (rest ≠ [] → Event.removal { m with todo := rest, done := [(r, port)] } ∈ t.agenda) := by
  intro hev
  have hgone : orderedHere (if !m.done.isEmpty || r = m.home then countDown m r port (dropLocal m r s) else dropLocal m r s) m r = false := by
    split
    · exact orderedHere_countDown m r r port _ (orderedHere_dropLocal m r s)
    · exact orderedHere_dropLocal m r s
  have he : execRemoval s = .next (if rest.isEmpty then (if !m.done.isEmpty || r = m.home then countDown m r port (dropLocal m r s) else dropLocal m r s)
      else post (.removal { m with todo := rest, done := [(r, port)] })
        (if !m.done.isEmpty || r = m.home then countDown m r port (dropLocal m r s) else dropLocal m r s)) := by
    rw [execRemoval, hev]
    simp only [hm, hd, ho, List.isEmpty_nil, Bool.not_true, Bool.and_false, Bool.false_eq_true, if_false, if_true, Bool.false_or,
      List.nil_append]
  refine ⟨_, he, ?_, fun hne => ?_⟩
  · split
    · exact hgone
    · unfold orderedHere at *
      rw [post_eq]
      exact hgone
  · rw [if_neg (by simpa using hne)]
    exact mem_agenda_post _ _

theorem delivery_runs (s : State) (p : Packet) (r : Nat) (tgt : Target) (home : Nat) (e : MatchEntry) (nd : Bool) (k : TaskInst) (x : Sub)
    (he : e ∈ (s.router r).entries) (hkind : e.kind = .loc tgt nd) (hk : kget s.tasks tgt.task = some k) (hx : subOf s tgt = some x) :
    Runs .delivery (.delivery p r tgt home) s fun t => ∃ y, subOf t tgt = some y ∧ y.arrivals = min (x.arrivals + 1) 65535 := by
  intro hev
  refine ⟨drainTransit p (deliver p r tgt home s), ?_, ?_⟩
  · show execDelivery s = _
    rw [execDelivery, hev]
  · dsimp only
    rw [subOf_eq, subs_drainTransit, ← subOf_eq]
    exact arrivals_deliver he hkind hk hx

theorem routers_modTaskRing (n k : Nat) (f : Ring → Ring) (s : State) : (modTaskRing n k f s).routers = s.routers := by
  unfold modTaskRing
  split
  · rfl
  · split
    · rfl
    · rw [modTask_eq]

theorem routers_taskEvent (n e : Nat) (s : State) : (taskEvent n e s).routers = s.routers := by
  unfold taskEvent
  split
  · split <;> rfl
  · rfl

theorem routers_fillRing (n : Nat) (t : TaskInst) (x : Sub) (p : Packet) (s : State) : (fillRing n t x p s).routers = s.routers := by
  unfold fillRing
  split
  · rfl
  · dsimp only
    rw [routers_taskEvent, routers_modTaskRing, engineOnly_engineWriteLeft _ s _ _ p.psn]

/-- A ring slot that the device has not begun to fill receives the payload whole (R345). -/
theorem mem_fillRing {n : Nat} {t : TaskInst} {x : Sub} {p : Packet} {s : State} {g : Ring} (hg : taskRing s t x.ring = some g)
    (hf : g.fills (.engine 0) = false) :
    (fillRing n t x p s).mem = Memory.setBytes s.mem ((Space.spad t.core).key (g.slotAddr g.slotNow)) p.payload := by
  rw [fillRing, hg]
  dsimp only
  rw [taskEvent_mem, modTaskRing_mem, hf, if_neg (by decide), mem_engineWriteLeft_nil]

theorem heldDeliveryRelease_runs (s : State) (r : Nat) (tgt : Target) (h : HeldDelivery) (k : TaskInst) (x : Sub) (g : Ring)
    (hh : heldReady s r tgt = some h) (hk : kget s.tasks tgt.task = some k) (hx : subOf s tgt = some x)
    (hg : taskRing s k x.ring = some g) (hd : h.dropped = false) (hf : g.fills (.engine 0) = false) :
    Runs .heldDeliveryRelease (.heldDeliveryRelease r tgt) s fun t =>
      (t.router r).held = (s.router r).held.erase h ∧
        t.mem = Memory.setBytes s.mem ((Space.spad k.core).key (g.slotAddr g.slotNow)) h.pkt.payload := by
  intro hev
  have he : execHeldDeliveryRelease s = .next (releaseHeld r h k x h.pkt s) := by
    rw [execHeldDeliveryRelease, hev]
    dsimp only
    rw [releaseAt, hh, hk, hx]
    exact congrArg _ (if_neg (by rw [hd]; decide))
  refine ⟨_, he, ?_, ?_⟩
  · have hr : (releaseHeld r h k x h.pkt s).routers = (s.modRouter r fun y => { y with held := y.held.erase h }).routers := by
      rw [releaseHeld, routers_fillRing, touchPhase_eq]
    exact congrArg Router.held ((congrArg (fun m => kgetD m r Router.reset) hr).trans (router_modRouter s r _))
  · unfold releaseHeld
    rw [mem_fillRing (g := g) (by rw [touchPhase_eq]; exact hg) hf, touchPhase_eq]
    rfl

theorem pinRequest_runs (s : State) (p : Packet) (r home : Nat) :
    Runs .pinRequest (.pinRequest p r home) s fun t =>
      (t.router home).kept = (s.router home).kept.map fun (k : Kept) =>
        if copyKey k.pkt = copyKey p then { k with pins := k.pins + 1 } else k := by
  intro hev
  refine ⟨pinKey home (copyKey p) s, ?_, congrArg Router.kept (router_modRouter s home _)⟩
  show execPinRequest s = _
  rw [execPinRequest, hev]

theorem copyExpiry_runs (s : State) (h : Nat) :
    Runs .copyExpiry (.copyExpiry h) s fun t =>
      (t.router h).kept = (s.router h).kept.map fun (k : Kept) => if k.expiry ≤ 2 * s.now then { k with expired := true } else k := by
  intro hev
  refine ⟨mapKept h (fun k => if k.expiry ≤ 2 * s.now then { k with expired := true } else k) s, ?_,
    congrArg Router.kept (router_modRouter s h _)⟩
  show execCopyExpiry s = _
  rw [execCopyExpiry, hev]

theorem routers_foldl_touchPhase {α : Type} (l p : α → Nat) (xs : List α) (s : State) :
    (xs.foldl (fun s y => touchPhase s (l y) (p y)) s).routers = s.routers := by
  induction xs generalizing s with
  | nil => rfl
  | cons y r ih => rw [List.foldl_cons, ih, touchPhase_eq]

theorem now_foldl_touchPhase {α : Type} (l p : α → Nat) (xs : List α) (s : State) :
    (xs.foldl (fun s y => touchPhase s (l y) (p y)) s).now = s.now := by
  induction xs generalizing s with
  | nil => rfl
  | cons y r ih => rw [List.foldl_cons, ih, touchPhase_eq]

theorem contribution_runs (s : State) (p : Packet) (cover : List Nat) (r : Nat) (hl : liveLaunch s p.launch = true) :
    Runs .contribution (.contribution p cover r) s fun t =>
      (r = homeOf s p.name p.launch → t = contributeHome r p cover s) ∧
      (r ≠ homeOf s p.name p.launch → Router.granules (s.router r) + granules p ≤ 2048 → tagsOf s r < 4096 →
        (t.router r).partials = absorb 17 ⟨p, cover, s.now + 32, false⟩ (s.router r).partials) := by
  intro hev
  have hstart : execContribution s = .next (if r = homeOf s p.name p.launch then contributeHome r p cover s
      else if !meetsPartner (s.router r) p cover && (2048 < Router.granules (s.router r) + granules p || 4096 ≤ tagsOf s r) then
        post (.contribution p cover (nextHop r (homeOf s p.name p.launch)).1) s
      else contributeRouter r p cover s) := by
    rw [execContribution, hev]
    exact congrArg _ (if_neg (by rw [hl]; decide))
  refine ⟨_, hstart, fun hr => if_pos hr, fun hr hgran htags => ?_⟩
  rw [if_neg hr, if_neg (by simp [Nat.not_lt.2 hgran, Nat.not_le.2 htags]), contributeRouter, router_modRouter]
  unfold State.router
  rw [routers_foldl_touchPhase, now_foldl_touchPhase, touchPhase_eq]

theorem partnerTimeout_runs (s : State) (r i : Nat) (x : Partial) (hx : (s.router r).partials[i]? = some x) :
    Runs .partnerTimeout (.partnerTimeout r i) s fun t =>
      (t.router r).partials = (s.router r).partials.eraseIdx i ∧
        Event.contribution x.pkt x.cover (nextHop r (homeOf s x.pkt.name x.pkt.launch)).1 ∈ t.agenda := by
  intro hev
  have he : execPartnerTimeout s = .next (post (.contribution x.pkt x.cover (nextHop r (homeOf s x.pkt.name x.pkt.launch)).1)
      (touchPhase (s.modRouter r fun y => { y with partials := y.partials.eraseIdx i }) x.pkt.launch x.pkt.phase)) := by
    rw [execPartnerTimeout, hev]
    dsimp only
    rw [hx]
    rfl
  refine ⟨_, he, ?_, mem_agenda_post _ _⟩
  have hr : ∀ e u, (post e (touchPhase u x.pkt.launch x.pkt.phase)).router r = u.router r := fun e u => by rw [post_eq, touchPhase_eq]; rfl
  exact congrArg Router.partials ((hr _ _).trans (router_modRouter s r _))

theorem getRequest_runs (s : State) (p : Packet) (k : Kept) (hl : liveLaunch s p.launch = true)
    (hk : youngest (s.router (homeOf s p.name p.launch)) p.name p.launch = some k) :
    Runs .getRequest (.getRequest p) s fun t =>
      Event.getResponse { p with payload := k.pkt.payload.take p.ask, psn := k.pkt.psn, kind := 9, dstCl := p.srcCl, dstCb := p.srcCb,
                                 srcCl := homeOf s p.name p.launch, srcCb := 0 } 0 ∈ t.agenda := by
  intro hev
  have he : execGetRequest s = .next (answerGet (homeOf s p.name p.launch) p k.pkt
      (noteServed (homeOf s p.name p.launch) (copyKey k.pkt) s)) := by
    rw [execGetRequest, hev]
    dsimp only
    rw [hl, if_pos rfl, getHome, hk]
  exact ⟨_, he, mem_agenda_post _ _⟩

theorem queryReply_runs (s : State) (q : Query) (g p : Packet) (pos : Nat) (hl : liveLaunch s q.launch = true) (hw : q.why = .get g) :
    Runs .queryReply (.queryReply q (.tile p pos)) s fun t =>
      Event.getResponse { g with payload := p.payload.take g.ask, psn := p.psn, kind := 9, dstCl := g.srcCl, dstCb := g.srcCb,
                                 srcCl := q.home, srcCb := 0 } 0 ∈ t.agenda := by
  intro hev
  have he : execQueryReply s = .next (answerGet q.home g p
      (noteServed q.home (copyKey p) (retainReply q p pos (unreserve q s)))) := by
    rw [execQueryReply, hev]
    dsimp only
    rw [hl]
    refine congrArg _ ((if_neg (by decide)).trans ?_)
    simp only [serveReply, hw]
  exact ⟨_, he, mem_agenda_post _ _⟩

theorem prefetchAtHome_runs (s : State) (p : Packet) (x : Tensor) (hl : liveLaunch s p.launch = true)
    (hy : youngest (s.router (homeOf s p.name p.launch)) p.name p.launch = none)
    (hx : tensorOf s (nsOf p.name) (tnumOf p.name) = some x) (hc : x.pclass ≠ 0) :
    Runs .prefetchAtHome (.prefetchAtHome p) s fun t =>
      ∃ rq, t.rim = s.rim ++ [rq] ∧ rq.agent = queryAgent s p.name p.launch ∧ rq.part = partOf p.launch ∧
        rq.work = .step (.rimQuery ⟨homeOf s p.name p.launch, p.name, p.gen, p.launch, p.phase, decide (x.pclass = 2), .prefetch, s.opId,
          [], 0, false⟩) := by
  intro hev
  have he : execPrefetchAtHome s = .next (askRim ⟨homeOf s p.name p.launch, p.name, p.gen, p.launch, p.phase, decide (x.pclass = 2),
      .prefetch, s.opId, [], 0, false⟩ s) := by
    rw [execPrefetchAtHome, hev]
    dsimp only
    rw [hy, hx]
    exact congrArg _ (if_neg (by simp [hc, hl]))
  refine ⟨_, he, ?_⟩
  dsimp only
  rw [askRim, rimWait, touchTraffic_eq]
  exact ⟨_, rfl, rfl, rfl, rfl⟩

/-! ### Crossings of cut edges -/

theorem waitsAtPort_of_free {s : State} {l k : Nat} {p : Packet} (hk : crossingPort s l p = some k) (hh : holdsFor s k = []) :
    waitsAtPort s l p = false := by
  rw [waitsAtPort, hk]
  dsimp only
  rw [hh]

theorem waitsAtPort_of_none {s : State} {l : Nat} {p : Packet} (hk : crossingPort s l p = none) : waitsAtPort s l p = true := by
  rw [waitsAtPort, hk]

theorem noteStep_of_not_coll (l : Nat) {p : Packet} (s : State) (h : p.coll = false) : noteStep l p s = s := by
  unfold noteStep
  exact if_pos (by rw [h]; rfl)

theorem crossing_sent_runs (s : State) (l : Nat) (p : Packet) (k : Nat) (q : Nat × Nat) (hc : p.coll = false)
    (hk : crossingPort s l p = some k) (hh : holdsFor s k = []) (hq : (s.link k).peer = some q) :
    Runs .cutEdgeCrossing (.cutEdgeCrossing l p false) s fun t => t.outbox = s.outbox ++ [.forward q.1 p] := by
  intro hev
  have he : execCutEdgeCrossing s = .next (sendAcross k p s) := by
    rw [execCutEdgeCrossing, hev]
    dsimp only
    rw [waitsAtPort_of_free hk hh, if_neg (by decide), if_neg (by decide), hk]
    dsimp only
    rw [hh]
    rfl
  refine ⟨_, he, ?_⟩
  dsimp only
  rw [sendAcross, noteStep_of_not_coll k s hc]
  dsimp only [passOn]
  rw [touchPhase_eq, hq]
  rfl

/-- A crossing joins the end of its port's holds: with its payload where the bin has room, else its key alone, with a pin on its home's copy. -/
theorem holdAtPort_spec (l : Nat) (p : Packet) (s : State) :
    ∃ h, holdsFor (holdAtPort l p s) l = holdsFor s l ++ [h] ∧ h.pkt.name = p.name ∧ h.pkt.gen = p.gen ∧ h.home = homeOf s p.name p.launch ∧
      (h.dropped = false → h.pkt.payload = p.payload) ∧
      (h.dropped = true → h.pkt.payload = [] ∧
        Event.pinRequest { p with payload := [] } (linkRouter l).1 (homeOf s p.name p.launch) ∈ (holdAtPort l p s).agenda) := by
  have htake : ((takeHeld (linkRouter l).1 p s).2.router (linkRouter l).1).holds = (s.router (linkRouter l).1).holds :=
    congrArg Prod.snd (congrFun (netOnly_takeHeld (linkRouter l).1 p s).2 (linkRouter l).1)
  have hhold : ∀ (h : PortHold) (u : State), h.port = l → (u.router (linkRouter l).1).holds = (s.router (linkRouter l).1).holds →
      holdsFor (touchPhase (u.modRouter (linkRouter l).1 fun x => { x with holds := x.holds ++ [h] }).bump p.launch p.phase) l =
        holdsFor s l ++ [h] := by
    intro h u hp hu
    have ht : ∀ v : State, holdsFor (touchPhase v p.launch p.phase) l = holdsFor v l := fun v => by rw [touchPhase_eq]; rfl
    refine (ht _).trans ?_
    show ((u.modRouter (linkRouter l).1 fun x => { x with holds := x.holds ++ [h] }).router (linkRouter l).1).holds.filter
      (fun h => h.port = l) = _
    rw [router_modRouter, hu, List.filter_append]
    simp [holdsFor, hp]
  unfold holdAtPort
  dsimp only
  split
  · exact ⟨_, hhold _ _ rfl htake, rfl, rfl, rfl, fun _ => rfl, fun h => Bool.noConfusion h⟩
  · exact ⟨_, (congrArg (fun u => holdsFor u l) (post_eq _ _)).trans (hhold _ _ rfl htake), rfl, rfl, rfl, fun h => Bool.noConfusion h,
      fun _ => ⟨rfl, mem_agenda_post _ _⟩⟩

theorem crossing_held_runs (s : State) (l : Nat) (p : Packet) (hl : l < 96) (hk : crossingPort s l p = none) :
    Runs .cutEdgeCrossing (.cutEdgeCrossing l p false) s fun t =>
      ∃ h, holdsFor t l = holdsFor s l ++ [h] ∧ h.pkt.name = p.name ∧ h.pkt.gen = p.gen ∧ h.home = homeOf s p.name p.launch ∧
        (h.dropped = false → h.pkt.payload = p.payload) ∧
        (h.dropped = true → h.pkt.payload = [] ∧ Event.pinRequest { p with payload := [] } (linkRouter l).1 (homeOf s p.name p.launch) ∈ t.agenda) := by
  intro hev
  have he : execCutEdgeCrossing s = .next (holdAtPort l p s) := by
    rw [execCutEdgeCrossing, hev]
    dsimp only
    rw [if_neg (by decide), if_pos (waitsAtPort_of_none hk), if_pos (by simp [hl]), hk]
    rfl
  exact ⟨_, he, holdAtPort_spec l p s⟩

theorem crossing_enters (s : State) (l : Nat) (p : Packet) (hc : p.coll = false) (hev : s.ev = some (.cutEdgeCrossing l p true)) :
    execCutEdgeCrossing s = .next (enterAt l { p with org := .peer } s) := by
  rw [execCutEdgeCrossing, hev]
  dsimp only
  rw [noteStep_of_not_coll l s hc, if_pos rfl]

theorem crossing_contributes_runs (s : State) (l : Nat) (p : Packet) (hc : p.coll = false) (h2 : p.kind = 2) :
    Runs .cutEdgeCrossing (.cutEdgeCrossing l p true) s fun t =>
      Event.contribution { p with org := .peer } [p.cidx] (linkRouter l).1 ∈ t.agenda := by
  intro hev
  refine ⟨_, crossing_enters s l p hc hev, ?_⟩
  unfold enterAt
  rw [if_pos h2]
  exact mem_agenda_post _ _

theorem crossing_publishes_runs (s : State) (l : Nat) (p : Packet) (hc : p.coll = false) (h2 : p.kind ≠ 2) (h4 : p.kind ≠ 4) :
    Runs .cutEdgeCrossing (.cutEdgeCrossing l p true) s fun t => Event.publicationAtHome { p with org := .peer } ∈ t.agenda := by
  intro hev
  refine ⟨_, crossing_enters s l p hc hev, ?_⟩
  unfold enterAt
  rw [if_neg h2, if_neg h4]
  exact mem_agenda_post _ _

/-- Settles O48. -/
theorem networkStepsComplete : Obligations.NetworkStepsComplete :=
  ⟨install_runs, removal_runs, fun s p r tgt home nd _ _ _ _ k x he hk hx => delivery_runs s p r tgt home _ nd k x he rfl hk hx,
    heldDeliveryRelease_runs, pinRequest_runs, copyExpiry_runs, contribution_runs, partnerTimeout_runs, getRequest_runs, queryReply_runs,
    prefetchAtHome_runs, crossing_sent_runs, crossing_held_runs, crossing_contributes_runs, crossing_publishes_runs⟩

end Sys2Proof.Machine
end

section

/-! PROOF. What housekeeping leaves alone: the time, which launches are discarded, which clusters and fields stand, whose the task instances are; causes
of abort are only added (R481). -/

namespace Sys2Proof.Machine
open Sys2Proof

/-- The time, what has been decided of each launch, and which clusters and fields stand. -/
def State.standing (s : State) :
    Nat × (Nat → Option (Bool × Option AbortCause)) × (Nat → Bool × Bool × Bool) × (Nat → Bool) :=
  (s.now, fun l => (kget s.launches l).map fun x => (x.discarded, x.abort),
    fun k => ((s.cluster k).mapped, (s.cluster k).stopped, (s.cluster k).retired), fun f => (s.field f).lost)

/-- From `s` to `t` nothing of `standing` changes, causes of abort are only added (none unless `may`), and no launch gets its first task instance. -/
structure Calm (may : Bool) (s t : State) : Prop where
  standing : t.standing = s.standing
  aborts : ∃ l, t.aborts = s.aborts ++ l ∧ (may = false → l = [])
  owners : ∀ n ∈ t.tasks, ∃ m ∈ s.tasks, m.2.launch = n.2.launch

section
variable {may : Bool} {s t u : State}

@[simp] theorem Calm.refl (may : Bool) (s : State) : Calm may s s := ⟨rfl, ⟨[], by simp⟩, fun n hn => ⟨n, hn, rfl⟩⟩

theorem Calm.trans (h : Calm may s t) (k : Calm may t u) : Calm may s u := by
  obtain ⟨l, hl, hl0⟩ := h.aborts
  obtain ⟨m, hm, hm0⟩ := k.aborts
  refine ⟨k.standing.trans h.standing, ⟨l ++ m, by rw [hm, hl, List.append_assoc], fun hf => by rw [hl0 hf, hm0 hf]; rfl⟩, fun n hn => ?_⟩
  obtain ⟨y, hy, hyn⟩ := k.owners n hn
  obtain ⟨x, hx, hxy⟩ := h.owners y hy
  exact ⟨x, hx, hxy.trans hyn⟩

/-- A state that differs elsewhere alone. -/
theorem Calm.congr (h : Calm may s t) (h1 : u.standing = t.standing) (h2 : u.aborts = t.aborts)
    (h3 : u.tasks = t.tasks) : Calm may s u := ⟨h1.trans h.standing, by rw [h2]; exact h.aborts, by rw [h3]; exact h.owners⟩

theorem Calm.aborts_mem (h : Calm may s t) {a : AbortCause} (ha : a ∈ s.aborts) : a ∈ t.aborts := by
  obtain ⟨l, hl, -⟩ := h.aborts
  rw [hl]
  exact List.mem_append_left _ ha

theorem Calm.aborts_eq (h : Calm false s t) : t.aborts = s.aborts := by
  obtain ⟨l, hl, hl0⟩ := h.aborts
  rw [hl, hl0 rfl, List.append_nil]

theorem Calm.weaken (h : Calm false s t) : Calm true s t := ⟨h.standing, ⟨[], by rw [h.aborts_eq]; simp⟩, h.owners⟩

theorem calm_foldl {α : Type} {g : State → α → State} (h : ∀ t a, Calm may s t → Calm may s (g t a)) {l : List α} (ht : Calm may s t) :
    Calm may s (l.foldl g t) := by
  induction l generalizing t with
  | nil => exact ht
  | cons x r ih => exact ih (h t x ht)

theorem calm_ite {p : Prop} [Decidable p] (ht : Calm may s t) (hu : Calm may s u) : Calm may s (if p then t else u) := by
  split
  · exact ht
  · exact hu

/-! ### Single changes -/

theorem calm_touch {l k : Nat} (h : Calm may s t) : Calm may s (touch t l k) := h.congr rfl rfl rfl
theorem calm_touchPhase {l k : Nat} (h : Calm may s t) : Calm may s (touchPhase t l k) := h.congr rfl rfl rfl
theorem calm_touchSource {l k : Nat} (h : Calm may s t) : Calm may s (touchSource t l k) := by rw [touchSource_eq]; exact h.congr rfl rfl rfl
theorem calm_touchTraffic {e : Event} (h : Calm may s t) : Calm may s (touchTraffic e t) := by rw [touchTraffic_eq]; exact h.congr rfl rfl rfl
theorem calm_post {e : Event} (h : Calm may s t) : Calm may s (post e t) := by rw [post_eq]; exact h.congr rfl rfl rfl
theorem calm_postAll {es : List Event} (h : Calm may s t) : Calm may s (postAll es t) := by rw [postAll_eq]; exact h.congr rfl rfl rfl
theorem calm_bump (h : Calm may s t) : Calm may s t.bump := h.congr rfl rfl rfl
theorem calm_note {k d : Nat} (h : Calm may s t) : Calm may s (t.note k d) := h.congr rfl rfl rfl
theorem calm_passOn {l p r : Nat} (h : Calm may s t) : Calm may s (passOn l p r t) := by
  refine calm_touchPhase ?_
  exact h.congr rfl rfl rfl
theorem calm_violate {k n c p : Nat} {wr : Bool} (h : Calm may s t) : Calm may s (violate t k n c p wr) := h.congr rfl rfl rfl
theorem calm_modCore {c : Nat} {f : Core → Core} (h : Calm may s t) : Calm may s (t.modCore c f) := h.congr rfl rfl rfl
theorem calm_modBankAt {c : Nat} {b : Bool} {f : Bank → Bank} (h : Calm may s t) : Calm may s (t.modBankAt c b f) := h.congr rfl rfl rfl
theorem calm_modRouter {r : Nat} {f : Router → Router} (h : Calm may s t) : Calm may s (t.modRouter r f) := h.congr rfl rfl rfl
theorem calm_modErt {p e : Nat} {f : ErtEntry → ErtEntry} (h : Calm may s t) : Calm may s (t.modErt p e f) := h.congr rfl rfl rfl
theorem calm_setSlot {f k : Nat} {v : SlotState} (h : Calm may s t) : Calm may s (t.setSlot f k v) := h.congr rfl rfl rfl
theorem calm_modOp {o : Nat} {f : COp → COp} (h : Calm may s t) : Calm may s (t.modOp o f) := by rw [modOp_eq]; exact h.congr rfl rfl rfl
theorem calm_writeBytes {k : Nat} {bs : List Byte} (h : Calm may s t) : Calm may s (writeBytes t k bs) := h.congr rfl rfl rfl
theorem calm_markPoison {ws : List Nat} (h : Calm may s t) : Calm may s (markPoison t ws) := h.congr rfl rfl rfl
theorem calm_clearPoison {ws : List Nat} (h : Calm may s t) : Calm may s (clearPoison t ws) := h.congr rfl rfl rfl
theorem calm_storeBytes {k : Nat} {bs : List Byte} (h : Calm may s t) : Calm may s (storeBytes t k bs) := h.congr rfl rfl rfl
theorem calm_raiseEvent {c : Nat} {b : Bool} {e : Nat} (h : Calm may s t) : Calm may s (raiseEvent t c b e) := h.congr rfl rfl rfl

/-- An added cause of abort. -/
theorem calm_postAbort {l : Nat} {c : BitVec 8} {d : Word} (h : Calm true s t) : Calm true s (postAbort t l c d) := by
  obtain ⟨m, hm, -⟩ := h.aborts
  exact ⟨h.standing, ⟨m ++ [⟨l, c, d, t.now⟩], by rw [← List.append_assoc, ← hm]; rfl, fun h => absurd h (by decide)⟩, h.owners⟩

theorem calm_abortCode {l : Nat} {c : BitVec 8} {src : BitVec 16} (h : Calm true s t) : Calm true s (abortCode l c src t) :=
  calm_postAbort h

/-- A change of a cluster that leaves whether it stands. -/
theorem calm_modCluster {k : Nat} {f : Cluster → Cluster} (h : Calm may s t)
    (hf : ∀ x, ((f x).mapped, (f x).stopped, (f x).retired) = (x.mapped, x.stopped, x.retired)) : Calm may s (t.modCluster k f) := by
  refine h.congr ?_ rfl rfl
  refine Prod.ext rfl (Prod.ext rfl (Prod.ext (funext fun j => ?_) rfl))
  by_cases hj : j = k
  · subst hj
    exact (congrArg (fun x : Cluster => (x.mapped, x.stopped, x.retired)) (cluster_modCluster t j f)).trans (hf _)
  · exact congrArg (fun x : Cluster => (x.mapped, x.stopped, x.retired)) (kgetD_kset_ne _ _ _ hj)

/-- A change of a field that leaves whether it is lost. -/
theorem calm_modField {k : Nat} {f : FieldSt → FieldSt} (h : Calm may s t) (hf : ∀ x, (f x).lost = x.lost) : Calm may s (t.modField k f) := by
  refine h.congr ?_ rfl rfl
  refine Prod.ext rfl (Prod.ext rfl (Prod.ext rfl (funext fun j => ?_)))
  by_cases hj : j = k
  · subst hj
    exact (congrArg FieldSt.lost (field_modField t j f)).trans (hf _)
  · exact congrArg FieldSt.lost (kgetD_kset_ne _ _ _ hj)

/-- A change of a launch that leaves whether it is discarded, and why. -/
theorem calm_modLaunch {l : Nat} {f : Launch → Launch} (h : Calm may s t)
    (hf : ∀ x, ((f x).discarded, (f x).abort) = (x.discarded, x.abort)) : Calm may s (t.modLaunch l f) := by
  rw [modLaunch_eq]
  refine h.congr ?_ rfl rfl
  refine Prod.ext rfl (Prod.ext (funext fun j => ?_) rfl)
  show Option.map _ _ = Option.map _ _
  by_cases hj : j = l
  · subst hj
    cases hk : kget t.launches j with
    | none => simp [State.modLaunch, hk]
    | some x => simp [kget_modLaunch hk, hf]
  · unfold State.modLaunch
    split
    · exact congrArg _ (kget_kset_ne _ _ hj)
    · rfl

theorem mem_of_kget {α : Type} {m : KMap α} {k : Nat} {v : α} (h : kget m k = some v) : (k, v) ∈ m := by
  induction m with
  | nil => cases h
  | cons x r ih =>
    unfold kget at h
    split at h
    · next hk =>
      cases h
      rw [hk]
      exact List.mem_cons_self
    · exact List.mem_cons_of_mem _ (ih h)

/-- What is written under the key of an entry. -/
theorem mem_of_mem_kset {α : Type} {m : KMap α} {k : Nat} {v : α} {n : Nat × α} (h : n ∈ kset m k v) : n = (k, v) ∨ n ∈ m := by
  induction m with
  | nil => exact .inl (by simpa [kset] using h)
  | cons x r ih =>
    unfold kset at h
    split at h
    · rcases List.mem_cons.1 h with h | h
      · exact .inl h
      · exact .inr (List.mem_cons_of_mem _ h)
    · split at h
      · rcases List.mem_cons.1 h with h | h
        · exact .inl h
        · exact .inr h
      · rcases List.mem_cons.1 h with h | h
        · exact .inr (h ▸ List.mem_cons_self)
        · exact (ih h).imp_right (List.mem_cons_of_mem _)

/-- Task instances of launches that have some. -/
theorem Calm.with_tasks (h : Calm may s t) {m : KMap TaskInst} (hm : ∀ n ∈ m, ∃ y ∈ t.tasks, y.2.launch = n.2.launch) :
    Calm may s { t with tasks := m } := by
  refine ⟨h.standing, h.aborts, fun n hn => ?_⟩
  obtain ⟨y, hy, hyn⟩ := hm n hn
  obtain ⟨x, hx, hxy⟩ := h.owners y hy
  exact ⟨x, hx, hxy.trans hyn⟩

theorem calm_modTask {n : Nat} {f : TaskInst → TaskInst} (h : Calm may s t) (hf : ∀ x, (f x).launch = x.launch) : Calm may s (t.modTask n f) := by
  unfold State.modTask
  split
  · next x hx =>
    refine h.with_tasks fun y hy => ?_
    rcases mem_of_mem_kset hy with rfl | hy
    · exact ⟨(n, x), mem_of_kget hx, (hf x).symm⟩
    · exact ⟨y, hy, rfl⟩
  · exact h

theorem calm_emit {f n : Nat} {r : TraceRec} (h : Calm may s t) : Calm may s (emit t f n r) := by
  unfold emit
  dsimp only
  split
  · exact h
  · split
    · exact h.congr rfl rfl rfl
    · exact calm_modField h fun _ => rfl

theorem calm_emitCore {c : Nat} {b : Bool} {code : BitVec 16} {p : List Byte} (h : Calm may s t) : Calm may s (emitCore t c b code p) :=
  calm_emit h

theorem Calm.of_netOnly (h : Calm may s t) (k : NetOnly t u) : Calm may s u := by
  rw [k.1]
  exact h.congr rfl rfl rfl

theorem calm_engineWriteBut {late : List Nat} {k : Nat} {bs : List Byte} {psn : Bool} (h : Calm may s t) :
    Calm may s (engineWriteBut late t k bs psn) := by
  unfold engineWriteBut
  rw [engineFull_eq]
  dsimp only
  split <;> exact h.congr rfl rfl rfl

theorem calm_engineWrite {k : Nat} {bs : List Byte} {psn : Bool} (h : Calm may s t) : Calm may s (engineWrite t k bs psn) :=
  calm_engineWriteBut h

end
end Sys2Proof.Machine
end

section

/-! PROOF. The housekeeping steps that are calm (R209, R303, R325, R409, R411, R432, R473) -/

namespace Sys2Proof.Machine
open Sys2Proof

section
variable {may : Bool} {s t : State}

theorem calm_times {f : State → State} {n : Nat} (hf : ∀ t, Calm may s t → Calm may s (f t)) (h : Calm may s t) : Calm may s (times n f t) := by
  induction n generalizing t with
  | zero => exact h
  | succ n ih => exact ih (hf t h)

/-! ### Copies -/

theorem calm_modGroup {c : Nat} {b : Bool} {g : Nat} {f : CopyGroup → CopyGroup} (h : Calm may s t) : Calm may s (modGroup c b g f t) :=
  calm_modBankAt h

theorem calm_leaveGroup {o : COp} (h : Calm may s t) : Calm may s (leaveGroup o t) := by
  unfold leaveGroup
  split
  · exact h
  · exact calm_ite (calm_modGroup (calm_raiseEvent (calm_modGroup h))) (calm_modGroup h)

theorem calm_touchOp {o : COp} (h : Calm may s t) : Calm may s (touchOp o t) := by
  unfold touchOp
  split
  · exact calm_ite (calm_touchPhase h) h
  · exact h

theorem calm_endOp {o : COp} (h : Calm may s t) : Calm may s (endOp o t) := by
  refine calm_leaveGroup (calm_modBankAt ?_)
  exact (calm_touchOp h).congr rfl rfl rfl

theorem calm_fillDone {o : COp} (h : Calm may s t) : Calm may s (fillDone o t) := by
  unfold fillDone
  split
  · exact h
  · exact calm_foldl (fun _ _ h => calm_ite (calm_raiseEvent (calm_modBankAt h)) h) h

theorem calm_markDone {o : COp} {i : Nat} (h : Calm may s t) : Calm may s (markDone o i t) := calm_modOp h
theorem calm_dropGot {o : COp} {b : Box} (h : Calm may s t) : Calm may s (dropGot o b t) := calm_modOp h
theorem calm_readSpan {o : COp} {b : Box} {x : Trans} {y : Nat × Nat} (h : Calm may s t) : Calm may s (readSpan o b x t y) := calm_modOp h
theorem calm_takeUnits {o : COp} {b : Box} {x : Trans} {y : Nat × Nat} (h : Calm may s t) : Calm may s (takeUnits o b x y t) :=
  calm_foldl (fun _ _ h => calm_ite h (calm_modOp h)) h

theorem calm_putPieces {late : List Nat} {ps : List (Nat × Nat)} {src : Nat} (h : Calm may s t) : Calm may s (putPieces late ps src t) := by
  induction ps generalizing src t with
  | nil => exact h
  | cons p r ih => exact ih (calm_markPoison (calm_engineWriteBut h))

theorem calm_getPieces {ps : List (Nat × Nat)} {dst : Nat} (h : Calm may s t) : Calm may s (getPieces ps dst t) := by
  induction ps generalizing dst t with
  | nil => exact h
  | cons p r ih => exact ih (calm_markPoison (calm_storeBytes h))

theorem calm_putGot {late : List Nat} {engine : Bool} {at' : Nat → Nat → List (Nat × Nat)} {g : Nat × List Byte × Bool} (h : Calm may s t) :
    Calm may s (putGot late engine at' t g) := by
  have hps : ∀ (ps : List (Nat × Nat)) (a : State × List Byte), Calm may s a.1 →
      Calm may s (ps.foldl (fun (a : State × List Byte) p =>
        (if engine then engineWriteBut late a.1 p.1 (a.2.take p.2) false else storeBytes a.1 p.1 (a.2.take p.2), a.2.drop p.2)) a).1 := by
    intro ps
    induction ps with
    | nil => exact fun _ h => h
    | cons p r ih => exact fun a ha => ih _ (calm_ite (calm_engineWriteBut ha) (calm_storeBytes ha))
  exact calm_ite (calm_markPoison (hps _ _ h)) (hps _ _ h)

theorem calm_moveBytes {o : COp} {i : Nat} {b : Box} {x : Trans} {rest : List (Nat × Nat)} {y : Nat × Nat} (h : Calm may s t) :
    Calm may s (moveBytes o i b x rest t y) := by
  unfold moveBytes
  exact calm_ite (calm_ite (calm_getPieces h) (calm_putPieces h)) (calm_foldl (fun _ _ h => calm_putGot h) (calm_takeUnits h))

theorem calm_moveAll {o : COp} {i : Nat} {b : Box} {x : Trans} {l : List (Nat × Nat)} (h : Calm may s t) : Calm may s (moveAll o i b x l t) := by
  induction l generalizing t with
  | nil => exact h
  | cons y r ih => exact ih (calm_moveBytes h)

theorem calm_failPage {o : COp} {c : BitVec 8} (h : Calm may s t) : Calm may s (failPage o c t) := calm_post h

theorem calm_noteAccess {o : COp} {x : Trans} (h : Calm may s t) : Calm may s (noteAccess o x t) :=
  calm_ite (calm_violate h) (calm_ite (calm_violate h) h)

theorem calm_performPage {o : COp} {i : Nat} {b : Box} {x : Trans} {checked : Bool} (h : Calm may s t) :
    Calm may s (performPage o i b x checked t) := by
  have hs : Calm may s (markDone o i ((boxLeft t o i b).foldl (pageSpan o b x) t)) :=
    calm_markDone (calm_foldl (fun _ _ h => calm_writeBytes h) h)
  unfold performPage
  split
  · exact calm_failPage (calm_ite (calm_violate h) h)
  · dsimp only
    split
    · exact calm_ite (calm_endOp hs) hs
    · exact hs

theorem calm_performFetch {o : COp} {i : Nat} {b : Box} {x : Trans} (h : Calm may s t) : Calm may s (performFetch o i b x t) := by
  have hs : Calm may s (markDone o i ((boxLeft t o i b).foldl (readSpan o b x) t)) :=
    calm_markDone (calm_foldl (fun _ _ h => calm_readSpan h) h)
  unfold performFetch
  dsimp only
  split
  · refine calm_ite hs ?_
    split
    · exact calm_post (calm_endOp hs)
    · exact calm_endOp hs
  · exact hs

/-- A box of a page that fails aborts no launch. -/
theorem calm_failBox {o : COp} {c : BitVec 8} (hp : may = false → o.kind = .page) (h : Calm may s t) : Calm may s (failBox o c t) := by
  unfold failBox
  cases may with
  | false => rw [if_pos (hp rfl)]; exact calm_failPage h
  | true => exact calm_ite (calm_failPage h) (calm_ite (calm_abortCode h) (calm_abortCode h))

theorem calm_performCopy {o : COp} {i : Nat} {b : Box} {x : Trans} {checked : Bool} (h : Calm true s t) :
    Calm true s (performCopy o i b x checked t) := by
  have hs : Calm true s (markDone o i (dropGot o b (moveAll o i b x (boxLeft t o i b) t))) := calm_markDone (calm_dropGot (calm_moveAll h))
  unfold performCopy
  refine calm_ite (calm_abortCode h) ?_
  dsimp only
  split
  · exact calm_ite (calm_endOp (calm_ite (calm_fillDone hs) hs)) (calm_ite (calm_fillDone hs) hs)
  · exact hs

theorem calm_performBox {o : COp} {i : Nat} {b : Box} {x : Trans} (hp : may = false → o.kind = .page) (h : Calm may s t) :
    Calm may s (performBox o i b x t) := by
  unfold performBox
  dsimp only
  split
  · exact calm_failBox hp (calm_noteAccess h)
  · split
    · exact calm_performPage h
    · next hk =>
      cases may with
      | false => exact absurd (hp rfl) hk
      | true => exact calm_ite (calm_performFetch h) (calm_performCopy h)

theorem calm_finishBoxes {mine : COp → Bool} (hp : may = false → ∀ o, mine o = true → o.kind = .page) (h : Calm may s t) :
    Calm may s (finishBoxes mine t) := by
  refine calm_foldl (fun t x h => ?_) h
  (repeat' split)
  case isTrue hm => exact calm_performBox (fun hf => hp hf _ ((Bool.and_eq_true _ _).mp hm).1) h
  all_goals exact h

theorem calm_sinkReply {mine : COp → Bool} {e : Event} (h : Calm may s t) : Calm may s (sinkReply mine t e) := by
  unfold sinkReply
  split
  · split
    · exact calm_ite (calm_passOn h) h
    · exact h
  · exact h

theorem calm_discardOps {mine : COp → Bool} (hp : may = false → ∀ o, mine o = true → o.kind = .page) (h : Calm may s t) :
    Calm may s (discardOps mine t) := by
  have hk : Calm may s (((finishBoxes mine t).ops.filter fun o => mine o.2).foldl (fun s o => touchOp o.2 s) (finishBoxes mine t)) :=
    calm_foldl (fun _ _ h => calm_touchOp h) (calm_finishBoxes hp h)
  exact (calm_foldl (fun _ _ h => calm_sinkReply h) hk).congr rfl rfl rfl

theorem calm_killCopies {c : Nat} {b : Bool} (h : Calm true s t) : Calm true s (killCopies c b t) :=
  calm_discardOps (fun h => absurd h (by decide)) h

/-! ### The matrix array -/

theorem calm_writeRow {c z row : Nat} {vals : List Nat} {psn : Nat → Bool} (h : Calm may s t) : Calm may s (writeRow c z row vals psn t) :=
  calm_markPoison (calm_clearPoison (calm_writeBytes h))

theorem calm_orFlags {c z : Nat} {bits : BitVec 8} (h : Calm may s t) : Calm may s (orFlags c z bits t) := calm_modCore h
theorem calm_notePsn {c z : Nat} {any : Bool} (h : Calm may s t) : Calm may s (notePsn c z any t) := calm_ite (calm_orFlags h) h
theorem calm_progress {c z id : Nat} {f : RowProg → RowProg} (h : Calm may s t) : Calm may s (progress c z id f t) := calm_modCore h
theorem calm_recordFault {c : Nat} {q : MOp} {z : Option Nat} {code : BitVec 8} (h : Calm may s t) : Calm may s (recordFault c q z code t) :=
  calm_modCore h
theorem calm_recordOnce {c : Nat} {p : PortOp} {code : BitVec 8} (h : Calm may s t) : Calm may s (recordOnce c p code t) :=
  calm_ite h (calm_modCore (calm_recordFault h))
theorem calm_modEntry {k num : Nat} {f : MEntry → MEntry} (h : Calm may s t) : Calm may s (modEntry k num f t) := calm_modCluster h fun _ => rfl

theorem calm_readUnit {c : Nat} {q : MOp} {i : Nat} (h : Calm may s t) : Calm may s (readUnit c q i t) := by
  unfold readUnit
  refine calm_ite h ?_
  split
  · exact h
  · exact calm_ite (calm_passOn (calm_modBankAt h)) h

theorem calm_writeUnit {c : Nat} {p : PortOp} {key : Nat} {bs : List Byte} {bad ws : List Nat} (h : Calm may s t) :
    Calm may s (writeUnit c p key bs bad ws t) :=
  calm_ite (calm_recordOnce h) (calm_foldl (fun _ _ h => calm_markPoison (calm_engineWrite h)) h)

theorem calm_sides {a b : KMap Word} (h : Calm may s t) : Calm may s { t with rmax := a, rsum := b } := h.congr rfl rfl rfl
theorem calm_rsum {b : KMap Word} (h : Calm may s t) : Calm may s { t with rsum := b } := h.congr rfl rfl rfl

theorem calm_zeroRow {c z row : Nat} (h : Calm may s t) : Calm may s (zeroRow c z row t) := by
  unfold zeroRow
  exact calm_sides (calm_clearPoison (calm_writeRow h))

theorem calm_rescaleRow {c : Nat} {p : PortOp} (h : Calm may s t) : Calm may s (rescaleRow c p t) := by
  unfold rescaleRow
  refine calm_ite (calm_recordOnce h) (calm_readUnit (calm_notePsn (calm_orFlags ?_)))
  exact calm_ite (calm_markPoison (calm_rsum (calm_writeRow h))) (calm_rsum (calm_writeRow h))

theorem calm_transposeRow {c : Nat} {p : PortOp} (h : Calm may s t) : Calm may s (transposeRow c p t) := by
  unfold transposeRow
  exact calm_progress (calm_notePsn (calm_orFlags (calm_writeRow h)))

theorem calm_portRow {c : Nat} {p : PortOp} (h : Calm may s t) : Calm may s (portRow c p t) := by
  unfold portRow
  split
  · exact calm_zeroRow h
  · exact calm_orFlags (calm_writeUnit h)
  · exact calm_foldl (fun _ _ h => calm_notePsn (calm_writeUnit h)) h
  · exact calm_ite (calm_recordOnce h) (calm_notePsn (calm_orFlags (calm_writeRow h)))
  · exact calm_rescaleRow h
  · exact calm_transposeRow h
  · exact h

theorem calm_releaseAll {c : Nat} {q : MOp} (h : Calm may s t) : Calm may s (releaseAll c q t) :=
  calm_ite (calm_passOn (calm_modBankAt h)) (calm_modBankAt h)

theorem calm_settleEntry {k num : Nat} (h : Calm may s t) : Calm may s (settleEntry k num t) := by
  unfold settleEntry
  dsimp only
  split
  · exact h
  · exact calm_ite h (calm_modCluster h fun _ => rfl)

theorem calm_abortSeg {k num : Nat} {g : Seg} {code : Option (BitVec 8)} {wflt : Bool} (h : Calm may s t) :
    Calm may s (abortSeg k num g code wflt t) := by
  unfold abortSeg
  refine calm_settleEntry (calm_modEntry (calm_releaseAll (calm_modCore (calm_progress ?_))))
  split
  · exact calm_recordFault (calm_orFlags h)
  · exact calm_orFlags h

theorem standing_foldl_drop (es : List MEntry) (x : Cluster) :
    ((es.foldl (fun x e => x.drop e.num) x).mapped, (es.foldl (fun x e => x.drop e.num) x).stopped,
      (es.foldl (fun x e => x.drop e.num) x).retired) = (x.mapped, x.stopped, x.retired) := by
  induction es generalizing x with
  | nil => rfl
  | cons e r ih => exact ih _

theorem calm_killMatrix {c : Nat} {b : Bool} (h : Calm may s t) : Calm may s (killMatrix c b t) := by
  have hland : Calm may s (landSome c b t) := calm_foldl (fun _ _ h => calm_ite (calm_storeBytes h) h) h
  unfold killMatrix
  refine calm_foldl (fun _ _ h => calm_foldl (fun _ _ h => calm_ite (calm_abortSeg h) h) h) (calm_modCluster (calm_modCore ?_) ?_)
  · exact calm_foldl (fun _ _ h => calm_progress (calm_orFlags h)) (calm_foldl (fun _ _ h => calm_ite h (calm_portRow h)) hland)
  · exact fun x => standing_foldl_drop _ x

theorem calm_returnSlots {c : Nat} {b : Bool} (h : Calm may s t) : Calm may s (returnSlots c b t) := calm_times (fun _ h => calm_passOn h) h

/-! ### Task instances -/

theorem calm_leaveGang {x : TaskInst} (h : Calm may s t) : Calm may s (leaveGang x t) := by
  unfold leaveGang
  split
  · exact h.congr rfl rfl rfl
  · exact h

theorem calm_doneWaiting {n : Nat} (h : Calm may s t) : Calm may s (doneWaiting n t) := h.congr rfl rfl rfl

theorem calm_emptyBank {c : Nat} {b : Bool} (h : Calm may s t) : Calm may s (emptyBank c b t) := calm_modCore h

theorem calm_killBank {c : Nat} {b : Bool} {why : Nat} (h : Calm true s t) : Calm true s (killBank c b why t) := by
  have hk : Calm true s ((returnSlots c b (killCopies c b (killMatrix c b (emitCore t c b 0x0012 (leBytes 1 why))))).modBankAt c b clearGroups) :=
    calm_modBankAt (calm_returnSlots (calm_killCopies (calm_killMatrix (calm_emitCore h))))
  unfold killBank
  refine calm_doneWaiting (calm_emptyBank ?_)
  split
  · exact calm_leaveGang hk
  · exact hk

theorem calm_unhold {r : Nat} {d : HeldDelivery} (h : Calm may s t) : Calm may s (unhold r d t) := by
  unfold unhold
  refine calm_ite h ?_
  split
  · exact calm_touchTraffic (h.congr rfl rfl rfl)
  · unfold unpin mapKept
    exact calm_modRouter h

theorem calm_dropHeld {r : Nat} {tgt : Target} (h : Calm may s t) : Calm may s (dropHeld r tgt t) :=
  calm_foldl (fun _ _ h => calm_touchPhase (calm_unhold h)) (calm_modRouter h)

theorem calm_removeSubs {n : Nat} {x : TaskInst} (h : Calm may s t) : Calm may s (removeSubs n x t) :=
  calm_ite h (calm_foldl (fun _ _ h => calm_dropHeld (calm_postAll h)) h)

theorem calm_dropTask {n : Nat} (h : Calm may s t) : Calm may s { t with tasks := kdel t.tasks n } :=
  h.with_tasks fun y hy => ⟨y, List.mem_of_mem_filter hy, rfl⟩

theorem calm_finishTask {c : Nat} {b : Bool} {counted : Nat} (h : Calm may s t) : Calm may s (finishTask c b counted t) := by
  unfold finishTask
  refine calm_doneWaiting (calm_emptyBank ?_)
  dsimp only
  split
  · exact calm_touchSource (calm_modLaunch (calm_leaveGang (calm_dropTask (calm_returnSlots (calm_removeSubs (calm_emitCore h))))) fun _ => rfl)
  · exact calm_emitCore h

theorem calm_cutShort {c : Nat} {b : Bool} (h : Calm true s t) : Calm true s (cutShort c b t) :=
  calm_modBankAt (calm_finishTask (calm_killCopies (calm_killMatrix h)))

theorem calm_killTask {x : Nat × TaskInst} (h : Calm true s t) : Calm true s (killTask t x) :=
  calm_ite (calm_cutShort h) (calm_ite (calm_killBank h) (calm_removeSubs h))

theorem calm_notePending {l : Nat} (h : Calm may s t) : Calm may s (notePending l t) := calm_ite h (calm_modLaunch h fun _ => rfl)

/-- The requeued instance is its own launch's. -/
theorem calm_requeue {n : Nat} {f : TaskInst → TaskInst} (h : Calm may s t) (hf : ∀ x, (f x).launch = x.launch) :
    Calm may s (requeue n f t) := by
  unfold requeue
  split
  · exact h
  · next x hx =>
    obtain ⟨m, hm, hml⟩ := h.owners _ (mem_of_kget hx)
    have hn : Calm may s (notePending x.launch (removeSubs n x t)) := calm_notePending (calm_removeSubs h)
    refine calm_ite (calm_touchSource (calm_bump ?_)) (calm_bump ?_)
    all_goals
      refine ⟨hn.standing, hn.aborts, fun y hy => ?_⟩
      rcases mem_of_mem_kset hy with rfl | hy
      · refine ⟨m, hm, ?_⟩
        dsimp only
        rw [hf]
        exact hml
      · exact hn.owners y (List.mem_of_mem_filter hy)

theorem calm_resubscribe {k : Nat} (h : Calm may s t) : Calm may s (resubscribe k t) :=
  calm_foldl (fun _ _ h => calm_foldl (fun _ _ h => calm_ite (calm_requeue h (by intro; rfl)) h) h) h

theorem calm_killUnit {n why : Nat} {f : TaskInst → TaskInst} (h : Calm true s t) (hf : ∀ x, (f x).launch = x.launch) :
    Calm true s (killUnit n why f t) := by
  refine calm_foldl (fun _ _ h => calm_requeue (calm_killBank h) ?_) h
  exact fun _ => hf _

theorem calm_overrunKill {c : Nat} {b : Bool} (h : Calm true s t) : Calm true s (overrunKill c b t) := by
  unfold overrunKill
  dsimp only
  split
  · exact h
  · exact calm_ite (calm_postAbort (calm_modBankAt h)) (calm_ite (calm_abortCode (calm_modBankAt h)) (calm_killUnit (calm_modTask h fun _ => rfl) fun _ => rfl))

theorem calm_overrunFirst {m : Nat × TaskInst} (h : Calm true s t) : Calm true s (overrunFirst m t) := by
  unfold overrunFirst
  split
  · exact h
  · exact calm_ite (calm_overrunKill h) h

theorem calm_preemptKill {m : Nat × TaskInst} (h : Calm true s t) : Calm true s (preemptKill m t) := by
  unfold preemptKill
  split
  · exact h
  · exact calm_ite (calm_killUnit h fun _ => rfl) h

theorem calm_preemptAll {ms : List (Nat × TaskInst)} (h : Calm true s t) : Calm true s (preemptAll ms t) := by
  have hk : Calm true s (ms.foldl (fun s m => preemptKill m s) (ms.foldl (fun s m => overrunFirst m s) t)) :=
    calm_foldl (fun _ _ h => calm_preemptKill h) (calm_foldl (fun _ _ h => calm_overrunFirst h) h)
  exact calm_ite hk (calm_foldl (fun _ _ h => calm_modCore h) hk)

theorem calm_failTask {m : Nat × TaskInst} (h : Calm true s t) : Calm true s (failTask t m) :=
  calm_requeue (calm_ite (calm_cutShort h) (calm_killBank h)) fun _ => rfl

/-! ### Sumps and the network of a launch -/

theorem calm_refreshSump {p e : Nat} (h : Calm may s t) : Calm may s (refreshSump p e t) := by
  unfold refreshSump
  exact calm_modErt h

theorem calm_modSump {i : Nat} {f : Sump → Sump} (h : Calm may s t) : Calm may s (modSump i f t) := by
  unfold modSump
  split
  · exact h.congr rfl rfl rfl
  · exact h

theorem calm_noteWay {l : Nat} {p : Option Nat} {rs : List Nat} (h : Calm may s t) : Calm may s (noteWay l p rs t) := by
  unfold noteWay
  split
  · exact h
  · exact h.congr rfl rfl rfl

theorem calm_sumpPip {i code : Nat} (h : Calm may s t) : Calm may s (sumpPip i code t) := by
  unfold sumpPip
  split
  · exact calm_post (calm_noteWay (calm_emit h))
  · exact h

theorem calm_freeSump {code : Nat} {x : Nat × Sump} (h : Calm may s t) : Calm may s (freeSump code t x) :=
  calm_refreshSump (calm_modSump (calm_foldl (fun _ _ h => calm_touchPhase h) (calm_sumpPip h)))

theorem calm_dropSumps {l : Nat} (h : Calm may s t) : Calm may s (dropSumps l t) := calm_foldl (fun _ _ h => calm_freeSump h) h
theorem calm_dropNetwork {l : Nat} (h : Calm may s t) : Calm may s (dropNetwork l t) := h.congr rfl rfl rfl
theorem calm_touchAll {l : Nat} (h : Calm may s t) : Calm may s (touchAll l t) := calm_foldl (fun _ _ h => calm_touch h) h

/-! ### Pages -/

theorem calm_setEntry {p e st : Nat} {f : ErtEntry → ErtEntry} (h : Calm may s t) : Calm may s (setEntry p e st f t) :=
  calm_ite (calm_modErt h) (calm_post (calm_modErt h))

theorem calm_freeSlot {f k : Nat} (h : Calm may s t) : Calm may s (freeSlot f k t) :=
  calm_foldl (fun _ _ h => calm_ite (calm_modCluster h (by intro; rfl)) h) (calm_setSlot h)

theorem calm_evict {p e : Nat} (h : Calm may s t) : Calm may s (evict p e t) := by
  unfold evict
  exact calm_freeSlot (calm_setEntry h)

theorem calm_pageInto {p e f k : Nat} (h : Calm may s t) : Calm may s (pageInto p e f k t) := by
  have hs : Calm may s (setEntry p e 1 (fun x => { x with field := f, slot := k, wanting := false }) (t.setSlot f k .loading)) :=
    calm_setEntry (calm_setSlot h)
  unfold pageInto
  exact calm_ite (calm_post hs) (hs.congr rfl rfl rfl)

theorem calm_askPolicy {p e : Nat} {ev : Bool} (h : Calm may s t) : Calm may s (askPolicy p e ev t) := calm_bump (calm_note (h.congr rfl rfl rfl))

theorem calm_pageHardware {p e : Nat} (h : Calm may s t) : Calm may s (pageHardware p e t) := by
  unfold pageHardware
  split
  · exact calm_pageInto h
  · exact calm_modErt h

theorem calm_evictHardware {p e : Nat} (h : Calm may s t) : Calm may s (evictHardware p e t) := by
  unfold evictHardware
  split
  · exact calm_pageInto (calm_evict h)
  · exact calm_modErt h

theorem calm_evictFor {p e : Nat} (h : Calm may s t) : Calm may s (evictFor p e t) :=
  calm_ite (calm_askPolicy (calm_modErt h)) (calm_evictHardware h)

theorem calm_pageStart {p e : Nat} (h : Calm may s t) : Calm may s (pageStart p e t) :=
  calm_ite h (calm_ite (calm_ite (calm_ite (calm_askPolicy (h.congr rfl rfl rfl)) (calm_pageHardware (h.congr rfl rfl rfl))) h)
    (calm_ite (calm_ite (calm_askPolicy h) (calm_pageHardware h)) (calm_evictFor h)))

theorem calm_retryPages {p : Nat} (h : Calm may s t) : Calm may s (retryPages p t) := calm_foldl (fun _ _ h => calm_pageStart h) h

theorem calm_dropPage {p e : Nat} {code : BitVec 8} (h : Calm may s t) : Calm may s (dropPage p e code t) :=
  calm_ite (calm_setEntry h) (calm_evict h)

theorem calm_dropFailures {g : Event → Bool} (h : Calm may s t) : Calm may s { t with agenda := t.agenda.filter g } := h.congr rfl rfl rfl

theorem calm_loseEntries {f : Nat} (h : Calm may s t) : Calm may s (loseEntries f t) := by
  unfold loseEntries
  refine calm_foldl (fun _ _ h => calm_retryPages h) (calm_foldl (fun _ _ h => calm_setEntry h) (calm_dropFailures (calm_discardOps ?_ h)))
  exact fun _ o ho => of_decide_eq_true ((Bool.and_eq_true _ _).mp ho).1

theorem calm_mem {m : List Host.Cell} (h : Calm may s t) : Calm may s { t with mem := m } := h.congr rfl rfl rfl

theorem calm_clearStore {f : Nat} (h : Calm may s t) : Calm may s (clearStore f t) := by
  unfold clearStore
  exact calm_mem (calm_foldl (fun _ _ h => calm_freeSlot h) h)

end
end Sys2Proof.Machine
end

section

/-! PROOF. What homes and ERT agents do: the obligation ExpertStepsComplete. -/

namespace Sys2Proof.Machine
open Sys2Proof

/-! ### Deliveries of what is forwarded (R338, R341) -/

theorem tables_eq_iff {s t : State} : t.tables = s.tables ↔ ∀ r, (t.router r).entries = (s.router r).entries ∧ (t.router r).holds = (s.router r).holds := by
  refine funext_iff.trans (forall_congr' fun r => ?_)
  exact Prod.ext_iff

/-- The tree of a packet is read off the name-match entries. -/
theorem spread_congr {s t : State} (h : t.tables = s.tables) (home : Nat) (p : Packet) (f r : Nat) : spread t home p f r = spread s home p f r := by
  have he := fun r => (tables_eq_iff.1 h r).1
  induction f generalizing r with
  | zero => rfl
  | succ f ih => simp only [spread, localsFor, portsFor, he, ih]

theorem netOnly_addTransit (id : Nat) (p : Packet) (s : State) (r : Nat) : NetOnly s (addTransit id p s r) :=
  (netOnly_makeRoom r _ _ s).trans (netOnly_modRouter _ r fun _ => ⟨rfl, rfl⟩)

theorem netOnly_postAll (es : List Event) (s : State) : NetOnly s (postAll es s) := by rw [postAll_eq]; exact ⟨rfl, rfl⟩

theorem netOnly_forward (h : Nat) (p : Packet) (s : State) : NetOnly s (forward h p s) := by
  unfold forward
  dsimp only
  split
  · exact netOnly_postAll _ s
  · exact (netOnly_foldl _ (fun t r => netOnly_addTransit _ p t r) _ s).trans ((netOnly_bump _).trans (netOnly_postAll _ _))

/-- Every subscriber that a packet's tree reaches gets a delivery of it. -/
theorem delivery_mem_forward {h : Nat} {p : Packet} {s : State} {x : Nat × Target} (hx : x ∈ spread s h p 128 h) :
    ∃ n, Event.delivery { p with op := n } x.1 x.2 h ∈ (forward h p s).agenda := by
  unfold forward
  dsimp only
  split
  · refine ⟨0, ?_⟩
    rw [agenda_postAll]
    exact List.mem_append_right _ (List.mem_map.2 ⟨x, List.mem_dedup.2 hx, rfl⟩)
  · refine ⟨s.opId, ?_⟩
    rw [agenda_postAll]
    exact List.mem_append_right _ (List.mem_map.2 ⟨x, List.mem_dedup.2 hx, rfl⟩)

theorem mem_crossOut {e : Event} {p : Packet} {s : State} (h : e ∈ s.agenda) : e ∈ (crossOut p s).agenda := by
  unfold crossOut
  generalize (if p.org = .peer then [] else cutPeers s p) = qs
  induction qs generalizing s with
  | nil => exact h
  | cons q r ih =>
    refine ih ?_
    rw [agenda_post]
    exact List.mem_append_left _ h

theorem ert_crossOut (p : Packet) (s : State) : (crossOut p s).ert = s.ert := by
  unfold crossOut
  generalize (if p.org = .peer then [] else cutPeers s p) = qs
  induction qs generalizing s with
  | nil => rfl
  | cons q r ih => rw [List.foldl_cons, ih, post_eq]

theorem publicationAtHome_runs (s : State) (p : Packet) (hl : liveLaunch s p.launch = true) (hb : boundEntry s (partOf p.launch) p.name = none)
    (hc : p.coll = false) :
    Runs .publicationAtHome (.publicationAtHome p) s fun t =>
      ∀ x, x ∈ spread s (homeOf s p.name p.launch) p 128 (homeOf s p.name p.launch) →
        ∃ n, Event.delivery { p with op := n } x.1 x.2 (homeOf s p.name p.launch) ∈ t.agenda := by
  intro hev
  have hnet : NetOnly s (answerParked (homeOf s p.name p.launch) p (retain (homeOf s p.name p.launch) { p with op := 0 } s)) :=
    (netOnly_retain _ _ s).trans (netOnly_answerParked _ _ _)
  have hert : (publishHome (homeOf s p.name p.launch) p s).ert = s.ert := by
    rw [publishHome, ert_crossOut, (hnet.trans (netOnly_forward _ _ _)).1]
  have he : execPublicationAtHome s = .next (publishHome (homeOf s p.name p.launch) p s) := by
    rw [execPublicationAtHome, hev]
    dsimp only
    rw [hl]
    refine congrArg _ ((if_neg (by decide)).trans ?_)
    rw [if_neg (by rw [hc]; exact Bool.false_ne_true)]
    have hb' : boundEntry (publishHome (homeOf s p.name p.launch) p s) (partOf p.launch) p.name = none := by
      unfold boundEntry
      rw [hert]
      exact hb
    rw [hb']
  refine ⟨_, he, fun x hx => ?_⟩
  obtain ⟨n, hn⟩ := delivery_mem_forward ((spread_congr hnet.2 _ p _ _).symm ▸ hx)
  exact ⟨n, mem_crossOut hn⟩

theorem rowAtHome_unbound_runs (s : State) (p : Packet) (hl : liveLaunch s p.launch = true)
    (hb : boundEntry s (partOf p.launch) p.name = none) :
    Runs .rowAtHome (.rowAtHome p) s fun t =>
      ∀ x, x ∈ spread s (homeOf s p.name p.launch) p 128 (homeOf s p.name p.launch) →
        ∃ n, Event.delivery { p with op := n } x.1 x.2 (homeOf s p.name p.launch) ∈ t.agenda := by
  intro hev
  have he : execRowAtHome s = .next (crossOut p (forward (homeOf s p.name p.launch) p s)) := by
    rw [execRowAtHome, hev]
    dsimp only
    rw [hl]
    refine congrArg _ ((if_neg (by decide)).trans ?_)
    rw [hb]
  refine ⟨_, he, fun x hx => ?_⟩
  obtain ⟨n, hn⟩ := delivery_mem_forward hx
  exact ⟨n, mem_crossOut hn⟩

theorem rowAtHome_lost_runs (s : State) (p : Packet) (e : Nat) (hl : liveLaunch s p.launch = true)
    (hb : boundEntry s (partOf p.launch) p.name = some e)
    (hv : (viewOf s (homeOf s p.name p.launch) (partOf p.launch) e).st = 4) :
    Runs .rowAtHome (.rowAtHome p) s fun t =>
      t.aborts = s.aborts ++
        [⟨p.launch, 0x04, BitVec.ofNat 32 (viewOf s (homeOf s p.name p.launch) (partOf p.launch) e).field, s.now⟩] := by
  intro hev
  have he : execRowAtHome s = .next (postAbort s p.launch 0x04
      (BitVec.ofNat 32 (viewOf s (homeOf s p.name p.launch) (partOf p.launch) e).field)) := by
    rw [execRowAtHome, hev]
    dsimp only
    rw [hl]
    refine congrArg _ ((if_neg (by decide)).trans ?_)
    rw [hb]
    exact if_pos hv
  exact ⟨_, he, rfl⟩

/-! ### Entries, slots and views -/

section
variable (s : State) (p e : Nat) (f : ErtEntry → ErtEntry)

@[simp] theorem ertEntry_modErt : (s.modErt p e f).ertEntry p e = f (s.ertEntry p e) := by simp [State.modErt, State.ertEntry]

theorem ert_post (x : Event) : (post x s).ert = s.ert := by rw [post_eq]

theorem slots_post (x : Event) : (post x s).slots = s.slots := by rw [post_eq]

/-- What an entry holds after a change of its state (R414). -/
theorem ertEntry_setEntry (st : Nat) : (setEntry p e st f s).ertEntry p e = { f (s.ertEntry p e) with st := st } := by
  unfold setEntry
  dsimp only
  split
  · exact ertEntry_modErt s p e _
  · unfold State.ertEntry
    rw [ert_post]
    exact ertEntry_modErt s p e _

theorem slots_setEntry (st : Nat) : (setEntry p e st f s).slots = s.slots := by
  unfold setEntry
  dsimp only
  split
  · rfl
  · rw [slots_post]
    rfl

end

theorem slot_congr {s t : State} (h : t.slots = s.slots) (f k : Nat) : t.slot f k = s.slot f k := by
  unfold State.slot
  rw [h]

@[simp] theorem slot_setSlot (s : State) (f k : Nat) (v : SlotState) : (s.setSlot f k v).slot f k = v := by simp [State.slot, State.setSlot]

theorem ert_slots_foldl_modCluster (g : Cluster → Cluster) (cs : List Nat) (s : State) :
    (cs.foldl (fun s c => if (kget s.clusters c).isSome then s.modCluster c g else s) s).ert = s.ert ∧
      (cs.foldl (fun s c => if (kget s.clusters c).isSome then s.modCluster c g else s) s).slots = s.slots := by
  induction cs generalizing s with
  | nil => exact ⟨rfl, rfl⟩
  | cons c r ih =>
    rw [List.foldl_cons]
    split
    · exact ih (s.modCluster c g)
    · exact ih s

theorem ert_freeSlot (f k : Nat) (s : State) : (freeSlot f k s).ert = s.ert := by
  unfold freeSlot
  exact (ert_slots_foldl_modCluster _ _ (s.setSlot f k .free)).1

theorem slots_freeSlot (f k : Nat) (s : State) : (freeSlot f k s).slots = (s.setSlot f k .free).slots := by
  unfold freeSlot
  exact (ert_slots_foldl_modCluster _ _ (s.setSlot f k .free)).2

theorem ertEntry_evict (s : State) (part e : Nat) : ((evict part e s).ertEntry part e).st = 0 := by
  unfold evict State.ertEntry
  dsimp only
  rw [ert_freeSlot]
  exact congrArg ErtEntry.st (ertEntry_setEntry s part e _ 0)

theorem slot_freeSlot (s : State) (f k : Nat) : (freeSlot f k s).slot f k = .free :=
  (slot_congr (slots_freeSlot f k s) f k).trans (slot_setSlot s f k .free)

theorem slot_evict (s : State) (part e : Nat) : (evict part e s).slot (s.ertEntry part e).field (s.ertEntry part e).slot = .free := by
  unfold evict
  exact slot_freeSlot _ _ _

theorem slot_pageInto (s : State) (part e f k : Nat) : (pageInto part e f k s).slot f k = .loading := by
  have h : (setEntry part e 1 (fun x => { x with field := f, slot := k, wanting := false }) (s.setSlot f k .loading)).slot f k = .loading :=
    (slot_congr (slots_setEntry _ _ _ _ _) f k).trans (slot_setSlot s f k .loading)
  unfold pageInto
  dsimp only
  split
  · exact (slot_congr (slots_post _ _) f k).trans h
  · exact h

/-- A home's view of an entry reads as changed. -/
theorem viewOf_modView (s : State) (h part e : Nat) (f : ExpertView → ExpertView)
    (hf : ∀ v, (f v).part = v.part ∧ (f v).e = v.e) :
    viewOf (modView h part e f s) h part e = f (viewOf s h part e) := by
  have hv : (viewOf s h part e).part = part ∧ (viewOf s h part e).e = e := by
    unfold viewOf
    cases hx : (s.router h).experts.find? fun v => v.part = part && v.e = e with
    | none => exact ⟨rfl, rfl⟩
    | some v => simpa using List.find?_some hx
  obtain ⟨h1, h2⟩ := hf (viewOf s h part e)
  obtain ⟨h3, h4⟩ := hv
  have hfind : ((modView h part e f s).router h).experts.find? (fun v => v.part = part && v.e = e) = some (f (viewOf s h part e)) := by
    rw [modView, router_modRouter, List.find?_cons_of_pos (by rw [h1, h2, h3, h4]; simp)]
  exact congrArg (Option.getD · _) hfind

theorem stateNotice_runs (s : State) (part e st f : Nat) (hb : (s.ertEntry part e).bind ≠ 0) (h0 : st ≠ 0) (h4 : st ≠ 4) :
    Runs .stateNotice (.stateNotice part e st f) s fun t =>
      (viewOf t (bindHome s part (s.ertEntry part e)) part e).st = st ∧
        (viewOf t (bindHome s part (s.ertEntry part e)) part e).field = f := by
  intro hev
  have he : execStateNotice s = .next (modView (bindHome s part (s.ertEntry part e)) part e (fun v => { v with st := st, field := f }) s) := by
    rw [execStateNotice, hev]
    dsimp only
    rw [if_neg hb, if_neg (by simp [h0]), if_neg h4]
  refine ⟨_, he, ?_⟩
  dsimp only
  rw [viewOf_modView s _ part e (fun v => { v with st := st, field := f }) fun _ => ⟨rfl, rfl⟩]
  exact ⟨rfl, rfl⟩

/-! ### Writes of an entry and commands (R415, R429) -/

/-- An admitted write of a whole free entry whose BIND becomes 0. -/
theorem ertWrite_runs (s : State) (part e v : Nat) (m : Master) (hp : part < 16) (he : e < 65536) (hb : barOpen s = true)
    (ha : admitted s 2 (part * 65536 + e) m.cls m.part true false = true) (hst : (s.ertEntry part e).st = 0)
    (hbind : bitsNat (overlay (ertImage (s.ertEntry part e)) 0 32 v) 223 192 = 0) :
    Runs .ertWrite (.ertWrite ⟨0x1000000 + part * 0x200000 + e * 32, 32, v, m, 2, true⟩) s fun t =>
      t.ertEntry part e = { s.ertEntry part e with
        bind := 0, home := bitsNat (overlay (ertImage (s.ertEntry part e)) 0 32 v) 120 64,
        tiles := bitsNat (overlay (ertImage (s.ertEntry part e)) 0 32 v) 27 17 } := by
  intro hev
  have hpart : (0x1000000 + part * 0x200000 + e * 32 - 0x1000000) / 0x200000 = part := by omega
  have hent : (0x1000000 + part * 0x200000 + e * 32 - 0x1000000) % 0x200000 / 32 = e := by omega
  have hoff : (0x1000000 + part * 0x200000 + e * 32 - 0x1000000) % 32 = 0 := by omega
  have hexec : execErtWrite s = .next (writeErt part e 0 32 v m s) := by
    rw [execErtWrite, hev]
    refine congrArg _ ((onBar_of_open hb _).trans ?_)
    unfold ertAccess
    dsimp only
    rw [hpart, hent, hoff, if_neg (by simp; omega)]
    exact checked_of_admitted ha _ _
  refine ⟨_, hexec, ?_⟩
  have hfree : ∀ u : State, (bindView part e u).ert = u.ert := by
    intro u
    unfold bindView
    dsimp only
    split <;> rfl
  generalize hw : overlay (ertImage (s.ertEntry part e)) 0 32 v = w at hbind ⊢
  have hnew : writeErt part e 0 32 v m s =
      (if (0 : Nat) ≠ (s.ertEntry part e).bind then
        bindView part e (s.modErt part e fun x => { x with bind := 0, home := bitsNat w 120 64, tiles := bitsNat w 27 17 })
      else s.modErt part e fun x => { x with bind := 0, home := bitsNat w 120 64, tiles := bitsNat w 27 17 }) := by
    unfold writeErt
    dsimp only
    rw [hw, hbind, hst, if_neg (by decide), if_neg (by simp), if_neg (by simp)]
  have hmod := ertEntry_modErt s part e fun x => { x with bind := 0, home := bitsNat w 120 64, tiles := bitsNat w 27 17 }
  rw [hnew]
  split
  · exact (congrArg (fun m => kgetD m (part * 65536 + e) ErtEntry.reset) (hfree _)).trans hmod
  · exact hmod

theorem ertcmdPrefetch_runs (s : State) (part e : Nat) (m : Master) (hb : barOpen s = true)
    (ha : admitted s 2 (part * 65536 + e) m.cls m.part true false = true) (hst : (s.ertEntry part e).st = 2) :
    Runs .ertcmdPrefetch (.ertcmdPrefetch part e m) s fun t => t = s.modErt part e fun x => { x with lastuse := taiNs s } := by
  intro hev
  refine ⟨_, ?_, rfl⟩
  show execErtcmdPrefetch s = _
  rw [execErtcmdPrefetch, hev]
  refine congrArg _ ((onBar_of_open hb _).trans ((checked_of_admitted ha _ _).trans ?_))
  simp [hintAt, hst]

theorem ertcmdPin_runs (s : State) (part e : Nat) (m : Master) (hb : barOpen s = true)
    (ha : admitted s 2 (part * 65536 + e) m.cls m.part true false = true) (hst : (s.ertEntry part e).st = 1) :
    Runs .ertcmdPin (.ertcmdPin part e m) s fun t => t = s.modErt part e fun x => { x with pinned := true } := by
  intro hev
  refine ⟨_, ?_, rfl⟩
  show execErtcmdPin s = _
  rw [execErtcmdPin, hev]
  refine congrArg _ ((onBar_of_open hb _).trans ((checked_of_admitted ha _ _).trans ?_))
  simp [hintAt, hst]

theorem ertcmdUnpin_runs (s : State) (part e : Nat) (m : Master) (hb : barOpen s = true)
    (ha : admitted s 2 (part * 65536 + e) m.cls m.part true false = true) (hst : (s.ertEntry part e).st = 1) :
    Runs .ertcmdUnpin (.ertcmdUnpin part e m) s fun t => t = s.modErt part e fun x => { x with pinned := false } := by
  intro hev
  refine ⟨_, ?_, rfl⟩
  show execErtcmdUnpin s = _
  rw [execErtcmdUnpin, hev]
  refine congrArg _ ((onBar_of_open hb _).trans ((checked_of_admitted ha _ _).trans ?_))
  simp [hintAt, hst]

theorem ertcmdRelease_runs (s : State) (part e : Nat) (m : Master) (hb : barOpen s = true)
    (ha : admitted s 2 (part * 65536 + e) m.cls m.part true false = true) (hev' : evictable s part e = true) :
    Runs .ertcmdRelease (.ertcmdRelease part e m) s fun t =>
      t = retryPages part (evict part e s) ∧ ((evict part e s).ertEntry part e).st = 0 ∧
        (evict part e s).slot (s.ertEntry part e).field (s.ertEntry part e).slot = .free := by
  intro hev
  refine ⟨_, ?_, rfl, ertEntry_evict s part e, slot_evict s part e⟩
  show execErtcmdRelease s = _
  rw [execErtcmdRelease, hev]
  exact congrArg _ ((onBar_of_open hb _).trans ((checked_of_admitted ha _ _).trans (if_pos hev')))

theorem hintAtErtAgent_runs (s : State) (part e l ph : Nat) (ha : admitted s 2 (part * 65536 + e) 0 part true false = true)
    (hst : (s.ertEntry part e).st = 2) :
    Runs .hintAtErtAgent (.hintAtErtAgent part e 0 l ph) s fun t => t = s.modErt part e fun x => { x with lastuse := taiNs s } := by
  intro hev
  refine ⟨_, ?_, rfl⟩
  show execHintAtErtAgent s = _
  rw [execHintAtErtAgent, hev]
  refine congrArg _ ((checked_of_admitted ha _ _).trans ?_)
  simp [hintAt, hst]

/-! ### Pages -/

theorem pageSeal_runs (s : State) (part e : Nat) (hs : sealable s part e = true) :
    Runs .pageSeal (.pageSeal part e) s fun t =>
      ∃ u, t = retryPages part (noticeDistributors part e u) ∧
        u.slot (s.ertEntry part e).field (s.ertEntry part e).slot = .sealed ∧
        (u.ertEntry part e).st = if (s.ertEntry part e).pinned then 3 else 2 := by
  intro hev
  have he : execPageSeal s = .next (retryPages part (noticeDistributors part e
      (setEntry part e (if (s.ertEntry part e).pinned then 3 else 2)
        (fun x => { x with pinned := false, lastuse := taiNs (s.setSlot (s.ertEntry part e).field (s.ertEntry part e).slot .sealed) })
        (s.setSlot (s.ertEntry part e).field (s.ertEntry part e).slot .sealed)))) := by
    rw [execPageSeal, hev]
    dsimp only
    rw [hs]
    rfl
  refine ⟨_, he, _, rfl, ?_, congrArg ErtEntry.st (ertEntry_setEntry _ _ _ _ _)⟩
  exact (slot_congr (slots_setEntry _ _ _ _ _) _ _).trans (slot_setSlot _ _ _ _)

/-- The device as the operations of a failed page end. -/
def pageEnded (part e : Nat) (s : State) : State :=
  { discardOps (fun o => o.kind = .page && o.part = part && o.dst = e) s with
    agenda := (discardOps (fun o => o.kind = .page && o.part = part && o.dst = e) s).agenda.filter
      (fun x => match x with | .pageFailure p k _ => !(p = part && k = e) | _ => true) }

theorem calm_pageEnded (part e : Nat) (s : State) : Calm true s (pageEnded part e s) :=
  calm_dropFailures (calm_discardOps (fun h => absurd h (by decide)) (Calm.refl true s))

/-- Every launch of a list is aborted, and nothing takes a cause back. -/
theorem mem_aborts_foldl_abortCode {α : Type} (launch : α → Nat) {us : List α} {u : α} (hu : u ∈ us) (code : BitVec 8) (src : BitVec 16) (s : State) :
    ⟨launch u, 0x02, trapDetail code src, s.now⟩ ∈ (us.foldl (fun s u => abortCode (launch u) code src s) s).aborts := by
  induction us generalizing s with
  | nil => cases hu
  | cons v r ih =>
    rw [List.foldl_cons]
    rcases List.mem_cons.1 hu with rfl | hu
    · have hc : Calm true (abortCode (launch u) code src s)
          (r.foldl (fun s u => abortCode (launch u) code src s) (abortCode (launch u) code src s)) :=
        calm_foldl (fun _ _ h => calm_abortCode h) (Calm.refl _ _)
      exact hc.aborts_mem (List.mem_append_right _ (List.mem_singleton.2 rfl))
    · exact ih hu _

theorem pageFailure_runs (s : State) (part e : Nat) (code : BitVec 8) (hst : (s.ertEntry part e).st = 1) :
    Runs .pageFailure (.pageFailure part e code) s fun t =>
      (∀ u, u ∈ sumpsFor s part e none → ⟨u.2.launch, 0x02, trapDetail code aditSource, s.now⟩ ∈ t.aborts) ∧
        ∃ u, t = retryPages part (dropPage part e code u) := by
  intro hev
  have he : execPageFailure s = .next (retryPages part (dropPage part e code ((sumpsFor s part e none).foldl (freeSump 5)
      ((sumpsFor s part e none).foldl (fun s u => abortCode u.2.launch code aditSource s) (pageEnded part e s))))) := by
    rw [execPageFailure, hev]
    exact congrArg _ (if_neg (by rw [hst]; decide))
  refine ⟨_, he, fun u hu => ?_, _, rfl⟩
  have hnow : (pageEnded part e s).now = s.now := congrArg Prod.fst (calm_pageEnded part e s).standing
  have hmem := mem_aborts_foldl_abortCode (fun u : Nat × Sump => u.2.launch) hu code aditSource (pageEnded part e s)
  rw [hnow] at hmem
  exact (calm_retryPages (calm_dropPage (calm_foldl (fun _ _ h => calm_freeSump h) (Calm.refl true _)))).aborts_mem hmem

/-! ### Policies -/

theorem policyAnswer_late_runs (s : State) (part handle a b : Nat) (r : PolicyReq) (hr : policyOf s part handle = some r)
    (hst : (s.ertEntry part r.e).st = 0) (hl : policyLate s r = true) :
    Runs .policyAnswer (.policyAnswer part handle a b) s fun t =>
      t = answered part r.e (policyDefault r { s with policy := s.policy.erase r }) := by
  intro hev
  refine ⟨_, ?_, rfl⟩
  show execPolicyAnswer s = _
  rw [execPolicyAnswer, hev]
  dsimp only
  rw [hr]
  refine congrArg _ ((if_neg (by rw [not_not]; exact hst)).trans (congrArg _ (if_pos hl)))

theorem policyAnswer_field_runs (s : State) (part handle a b : Nat) (r : PolicyReq) (hr : policyOf s part handle = some r)
    (hst : (s.ertEntry part r.e).st = 0) (he : r.evict = false) (hl : policyLate s r = false)
    (hf : (pagingFields s part).contains a = true) (hs : (freeSlots s part a).contains b = true) :
    Runs .policyAnswer (.policyAnswer part handle a b) s fun t =>
      t = answered part r.e (pageInto part r.e a b { s with policy := s.policy.erase r }) ∧
        (pageInto part r.e a b { s with policy := s.policy.erase r }).slot a b = .loading := by
  intro hev
  refine ⟨_, ?_, rfl, slot_pageInto _ _ _ _ _⟩
  show execPolicyAnswer s = _
  rw [execPolicyAnswer, hev]
  dsimp only
  rw [hr]
  have hgo : ((pagingFields s part).contains a && (freeSlots s part a).contains b) = true := by rw [hf, hs]; rfl
  refine congrArg _ ((if_neg (by rw [not_not]; exact hst)).trans (congrArg _ ?_))
  refine (if_neg (Bool.eq_false_iff.1 hl)).trans ((if_neg (Bool.eq_false_iff.1 he)).trans ?_)
  exact if_pos hgo

theorem policyTimeout_runs (s : State) (part handle : Nat) (r : PolicyReq) (hr : policyOf s part handle = some r) (hl : policyLate s r = true) :
    Runs .policyTimeout (.policyTimeout part handle) s fun t =>
      t = answered r.part r.e (policyDefault r { s with policy := s.policy.erase r }) := by
  intro hev
  refine ⟨_, ?_, rfl⟩
  show execPolicyTimeout s = _
  rw [execPolicyTimeout, hev]
  dsimp only
  rw [hr]
  exact congrArg _ (if_pos hl)

theorem residencyNotice_runs (s : State) (part e f n : Nat) (x : TaskInst) (hx : kget s.tasks n = some x) (hst : x.st = .pending)
    (hp : partOf x.launch = part) (he : expertEntry s x = some e) :
    Runs .residencyNotice (.residencyNotice part e f) s fun t => kget t.tasks n = some { x with field := f } := by
  intro hev
  refine ⟨{ s with tasks := s.tasks.map fun (x : Nat × TaskInst) =>
          (x.1, if x.2.st = .pending && partOf x.2.launch = part && expertEntry s x.2 = some e then { x.2 with field := f } else x.2) }, ?_, ?_⟩
  · show execResidencyNotice s = _
    rw [execResidencyNotice, hev]
  · refine (kget_map s.tasks _ n x hx).trans (congrArg some (if_pos ?_))
    simp [hst, hp, he]

/-! ### Sumps -/

theorem kget_modSump {s : State} {i : Nat} {u : Sump} (h : kget s.sumps i = some u) (f : Sump → Sump) :
    kget (modSump i f s).sumps i = some (f u) := by simp [modSump, h]

/-- A row joins the youngest sump of its launch and entry while that has room (R416). -/
theorem rowParking_runs (s : State) (part : Nat) (r : ParkedRow) (u : Nat × Sump) (hl : liveLaunch s r.pkt.launch = true)
    (hlast : (sumpsFor s part r.entry (some r.pkt.launch)).getLast? = some u) (hu : kget s.sumps u.1 = some u.2)
    (hroom : parkedBytes s part + r.pkt.payload.length ≤ (s.part part).parkRoom) (hlen : u.2.rows.length < 4096)
    (ha : areaAdmits s part 2 r.pkt.header true = true) :
    Runs .rowParking (.rowParking part r) s fun t => kget t.sumps u.1 = some { u.2 with rows := u.2.rows ++ [r] } := by
  intro hev
  have he : execRowParking s = .next (refreshSump part r.entry (parkIn u.1 r s)) := by
    rw [execRowParking, hev]
    dsimp only
    rw [hl]
    refine congrArg _ ((if_pos rfl).trans ((checked_of_admitted ha _ _).trans ?_))
    rw [parkRow, hlast]
    dsimp only
    rw [if_neg (by simpa using Nat.not_lt.2 hroom), if_pos hlen]
  refine ⟨_, he, ?_⟩
  show kget (parkIn u.1 r s).sumps u.1 = _
  rw [parkIn, touchPhase_eq]
  exact kget_modSump hu _

/-- A sump's pip is recorded, counted and sent, and changes nothing else (R421). -/
theorem sumpPip_eq (i code : Nat) (s : State) : sumpPip i code s =
    { s with fields := (sumpPip i code s).fields, traceUnits := (sumpPip i code s).traceUnits, counters := (sumpPip i code s).counters,
             agenda := (sumpPip i code s).agenda, changed := (sumpPip i code s).changed } := by
  unfold sumpPip
  split
  · rw [devicePip, post_eq]
    unfold noteWay
    rw [emit_eq]
    split <;> rfl
  · rfl

theorem rim_modSump (i : Nat) (f : Sump → Sump) (s : State) : (modSump i f s).rim = s.rim := by
  unfold modSump
  split <;> rfl

/-- A request joins the rim queue last. -/
theorem rim_rimQueue (agent part : Nat) (w : RimWork) (s : State) :
    ∃ r, (rimQueue agent part w s).rim = s.rim ++ [r] ∧ r.part = part ∧ r.agent = agent ∧ r.work = w := ⟨_, rfl, rfl, rfl, rfl⟩

theorem sumpDrain_row_runs (s : State) (part e l : Nat) (u : Nat × Sump) (y : ParkedRow) (hd : drainReady s part e l = true)
    (ho : oldestRow s part e l = some (u, y)) :
    Runs .sumpDrain (.sumpDrain part e l) s fun t =>
      ∃ r, t.rim = s.rim ++ [r] ∧ r.part = part ∧ r.agent = u.1 % 24 ∧ r.work = .unpark part e l := by
  intro hev
  have he : execSumpDrain s = .next (rimQueue (u.1 % 24) part (.unpark part e l)
      (if u.2.draining then s else modSump u.1 (fun u => { u with draining := true }) (sumpPip u.1 3 s))) := by
    rw [execSumpDrain, hev]
    dsimp only
    rw [hd]
    refine congrArg _ ((if_neg (by decide)).trans ?_)
    rw [ho]
  have hrim : (if u.2.draining then s else modSump u.1 (fun u => { u with draining := true }) (sumpPip u.1 3 s)).rim = s.rim := by
    split
    · rfl
    · rw [rim_modSump, sumpPip_eq]
  obtain ⟨r, hr, hpart, hagent, hwork⟩ := rim_rimQueue (u.1 % 24) part (.unpark part e l)
    (if u.2.draining then s else modSump u.1 (fun u => { u with draining := true }) (sumpPip u.1 3 s))
  exact ⟨_, he, r, hr.trans (congrArg (· ++ [r]) hrim), hpart, hagent, hwork⟩

/-- A sump holds nothing. -/
def Sump.freed (u : Sump) : Prop := u.rows = [] ∧ u.order = 0

theorem sumps_foldl_touchPhase {α : Type} (l p : α → Nat) (xs : List α) (s : State) :
    (xs.foldl (fun s y => touchPhase s (l y) (p y)) s).sumps = s.sumps := by
  induction xs generalizing s with
  | nil => rfl
  | cons y r ih => rw [List.foldl_cons, ih, touchPhase_eq]

/-- Freeing a sump frees it, and leaves the others (R419). -/
theorem kget_freeSump (code : Nat) (s : State) (u : Nat × Sump) (i : Nat) :
    (i ≠ u.1 → kget (freeSump code s u).sumps i = kget s.sumps i) ∧
      ∀ y, kget (freeSump code s u).sumps u.1 = some y → y.freed := by
  have hs : (freeSump code s u).sumps =
      (modSump u.1 (fun u => { u with rows := [], order := 0, draining := false, launch := 0, entry := 0 })
        (u.2.rows.foldl (fun s r => touchPhase s r.pkt.launch r.pkt.phase) (sumpPip u.1 code s))).sumps := rfl
  have hin : (u.2.rows.foldl (fun s r => touchPhase s r.pkt.launch r.pkt.phase) (sumpPip u.1 code s)).sumps = s.sumps := by
    rw [sumps_foldl_touchPhase, sumpPip_eq]
  rw [hs, modSump, hin]
  cases hu : kget s.sumps u.1 with
  | none => exact ⟨fun _ => by rw [hin], fun y hy => by rw [hin, hu] at hy; cases hy⟩
  | some x =>
    refine ⟨fun hi => kget_kset_ne _ _ hi, fun y hy => ?_⟩
    cases (kget_kset_same _ _ _).symm.trans hy
    exact ⟨rfl, rfl⟩

theorem kget_foldl_freeSump (code : Nat) {us : List (Nat × Sump)} {u : Nat × Sump} (s : State)
    (h : u ∈ us ∨ ∀ y, kget s.sumps u.1 = some y → y.freed) {y : Sump} (hy : kget (us.foldl (freeSump code) s).sumps u.1 = some y) : y.freed := by
  induction us generalizing s with
  | nil => exact h.elim (fun h => absurd h List.not_mem_nil) fun h => h y hy
  | cons v r ih =>
    obtain ⟨hne, heq⟩ := kget_freeSump code s v u.1
    refine ih (freeSump code s v) ?_ hy
    by_cases hv : u.1 = v.1
    · exact .inr fun z hz => heq z (by rw [← hv]; exact hz)
    · refine h.imp (fun hu => (List.mem_cons.1 hu).resolve_left fun h => hv (by rw [h])) fun hf z hz => hf z ?_
      rw [← hne hv]
      exact hz

theorem sumpDrain_empty_runs (s : State) (part e l : Nat) (hd : drainReady s part e l = true) (ho : oldestRow s part e l = none) :
    Runs .sumpDrain (.sumpDrain part e l) s fun t =>
      ∀ u y, u ∈ sumpsFor s part e (some l) → kget t.sumps u.1 = some y → y.rows = [] ∧ y.order = 0 := by
  intro hev
  have hout : parkingOut s part e l = false := by
    unfold drainReady at hd
    rw [ho] at hd
    simpa using ((Bool.and_eq_true _ _).mp hd).2
  have he : execSumpDrain s = .next (freeEmptied part e l s) := by
    rw [execSumpDrain, hev]
    dsimp only
    rw [hd]
    refine congrArg _ ((if_neg (by decide)).trans ?_)
    rw [ho]
  refine ⟨_, he, fun u y hu hy => ?_⟩
  rw [freeEmptied, ho, hout, if_neg (by decide)] at hy
  exact kget_foldl_freeSump 4 s (.inl hu) hy

/-- Settles O50. -/
theorem expertStepsComplete : Obligations.ExpertStepsComplete :=
  ⟨publicationAtHome_runs, ertWrite_runs, ertcmdPrefetch_runs, ertcmdPin_runs, ertcmdUnpin_runs, ertcmdRelease_runs, hintAtErtAgent_runs,
    rowAtHome_unbound_runs, rowAtHome_lost_runs, pageSeal_runs, pageFailure_runs, policyAnswer_late_runs, policyAnswer_field_runs,
    policyTimeout_runs, stateNotice_runs, rowParking_runs, residencyNotice_runs, sumpDrain_row_runs, sumpDrain_empty_runs⟩

end Sys2Proof.Machine
end

section

/-! PROOF. What the launch processor does with live launches: the obligation LaunchesProgress. -/

namespace Sys2Proof.Machine
open Sys2Proof

/-! ### Groups of wafers and the gate (R90, R91) -/

theorem waferAcknowledgement_runs (s : State) (g n w l : Nat) (x : Launch) (h : groupLaunch s g = some (l, x)) :
    Runs .waferAcknowledgement (.waferAcknowledgement g n w) s fun t =>
      if x.nwaf ≠ n ∨ x.wafidx = w ∨ w ∈ x.acks then t.aborts = s.aborts ++ [⟨l, 0x08, BitVec.ofNat 32 w, s.now⟩]
      else t.launches = (s.modLaunch l fun x => { x with acks := sadd x.acks w }).launches := by
  intro hev
  have he : execWaferAcknowledgement s = .next (if x.nwaf ≠ n || x.wafidx = w || x.acks.contains w then
      postAbort s l 0x08 (BitVec.ofNat 32 w) else s.modLaunch l fun x => { x with acks := sadd x.acks w }) := by
    rw [execWaferAcknowledgement, hev]
    dsimp only
    rw [h]
  have hc : (x.nwaf ≠ n || x.wafidx = w || x.acks.contains w) = true ↔ x.nwaf ≠ n ∨ x.wafidx = w ∨ w ∈ x.acks := by simp [or_assoc]
  refine ⟨_, he, ?_⟩
  dsimp only
  by_cases hm : x.nwaf ≠ n ∨ x.wafidx = w ∨ w ∈ x.acks
  · rw [if_pos hm, if_pos (hc.2 hm)]
    rfl
  · rw [if_neg hm, if_neg (fun h => hm (hc.1 h))]

theorem gateTimeout_runs (s : State) (l : Nat) (x : Launch) (h : kget s.launches l = some x) (hl : gateLate s l = true) :
    Runs .gateTimeout (.gateTimeout l) s fun t => t.aborts = s.aborts ++ [⟨l, 0x07, BitVec.ofNat 32 (missingMask x 0), s.now⟩] := by
  intro hev
  have he : execGateTimeout s = .next (postAbort s l 0x07 (BitVec.ofNat 32 (missingMask x 0))) := by
    rw [execGateTimeout, hev]
    dsimp only
    rw [h]
    exact congrArg _ (if_pos hl)
  exact ⟨_, he, rfl⟩

theorem peerAbort_runs (s : State) (g w l : Nat) (x : Launch) (h : groupPart s g = some (l, x)) :
    Runs .peerAbort (.peerAbort g w) s fun t =>
      if x.discarded ∨ x.retiring then t = s else t.aborts = s.aborts ++ [⟨l, 0x06, BitVec.ofNat 32 w, s.now⟩] ∧
        ∃ y, kget t.launches l = some y ∧ y.told = true := by
  intro hev
  have he : execPeerAbort s = .next (if x.discarded || x.retiring then s
      else postAbort (s.modLaunch l fun x => { x with told := true }) l 0x06 (BitVec.ofNat 32 w)) := by
    rw [execPeerAbort, hev]
    dsimp only
    rw [h]
  refine ⟨_, he, ?_⟩
  dsimp only
  by_cases hx : x.discarded ∨ x.retiring
  · rw [if_pos hx, if_pos (by simpa using hx)]
  · rw [if_neg hx, if_neg (by simpa using hx)]
    have hsome : (kget s.launches l).isSome := by
      obtain ⟨y, hy⟩ := kget_of_mem (List.mem_of_find?_eq_some h)
      rw [hy]
      rfl
    obtain ⟨y, hy⟩ := Option.isSome_iff_exists.1 hsome
    refine ⟨?_, _, kget_modLaunch hy _, rfl⟩
    rw [modLaunch_eq]
    rfl

theorem cutEdgeInstalled_runs (s : State) (l : Nat) (x : Launch) (h : kget s.launches l = some x) (he : edgesToInstall s l = true) :
    Runs .cutEdgeInstalled (.cutEdgeInstalled l) s fun t =>
      kget t.launches l = some { x with edgesIn := true } ∧ t.outbox = s.outbox ++ [.ack x.group x.nwaf x.wafidx] := by
  intro hev
  have hex : execCutEdgeInstalled s = .next { (s.modLaunch l fun x => { x with edgesIn := true }) with
      outbox := s.outbox ++ [.ack x.group x.nwaf x.wafidx] } := by
    rw [execCutEdgeInstalled, hev]
    dsimp only
    rw [h, he]
    rfl
  exact ⟨_, hex, kget_modLaunch h _, rfl⟩

theorem peerSweepResult_runs (s : State) (g w : Nat) (v : List Bool) (l : Nat) (x : Launch) (h : groupLaunch s g = some (l, x)) :
    Runs .peerSweepResult (.peerSweepResult g w v) s fun t =>
      t.launches = (s.modLaunch l fun x => { x with peerViews := x.peerViews ++ [(w, v)] }).launches := by
  intro hev
  refine ⟨_, ?_, rfl⟩
  show execPeerSweepResult s = _
  rw [execPeerSweepResult, hev]
  dsimp only
  rw [h]

/-! ### Launch firmware (R85, R86, R502) -/

theorem firmwareAbort_runs (s : State) (part l code : Nat) (hp : partOf l = part) (ha : abortable s l = true) :
    Runs .firmwareAbort (.firmwareAbort part l code) s fun t => t.aborts = s.aborts ++ [⟨l, 0x09, BitVec.ofNat 32 code, s.now⟩] := by
  intro hev
  have he : execFirmwareAbort s = .next (postAbort s l 0x09 (BitVec.ofNat 32 code)) := by
    rw [execFirmwareAbort, hev]
    exact congrArg _ (if_pos (by rw [hp, ha]; simp))
  exact ⟨_, he, rfl⟩

theorem controlPip_runs (s : State) (part l code : Nat) (hp : partOf l = part) (hl : (kget s.launches l).isSome = true) :
    Runs .controlPip (.controlPip part l code) s fun t =>
      ∃ p, t.agenda = s.agenda ++ [.publicationAtHome p] ∧ p.name = mkName 0 3 l ∧ p.gen = BitVec.ofNat 16 code ∧ p.launch = l ∧
        p.phase = frontier s l := by
  intro hev
  have he : execControlPip s = .next (devicePip 3 l (BitVec.ofNat 16 code) l (frontier s l) false s) := by
    rw [execControlPip, hev]
    exact congrArg _ (if_pos (by rw [hp, hl]; simp))
  exact ⟨_, he, _, agenda_post _ _, rfl, rfl, rfl, rfl⟩

/-- The launches that an abort of a partition ends. -/
theorem abortPartition_eq (part : Nat) (s : State) : abortPartition part s =
    { s with aborts := s.aborts ++ (s.launches.filter fun l => l.2.part = part && !l.2.discarded && !l.2.retiring).map fun l =>
      ⟨l.1, 0x09, BitVec.ofNat 32 (s.free 4), s.now⟩ } := by
  have hfold : ∀ (ls : List (Nat × Launch)) (u : State),
      ls.foldl (fun s x => if x.2.discarded || x.2.retiring then s else postAbort s x.1 0x09 (BitVec.ofNat 32 (s.free 4))) u =
        { u with aborts := u.aborts ++ (ls.filter fun l => !l.2.discarded && !l.2.retiring).map fun l =>
          ⟨l.1, 0x09, BitVec.ofNat 32 (u.free 4), u.now⟩ } := by
    intro ls
    induction ls with
    | nil => intro u; simp
    | cons y r ih =>
      intro u
      rw [List.foldl_cons]
      by_cases hy : (y.2.discarded || y.2.retiring) = true
      · rw [if_pos hy, ih, List.filter_cons_of_neg (by rw [← Bool.not_or, hy]; decide)]
      · rw [if_neg hy, ih, List.filter_cons_of_pos (by rw [← Bool.not_or, Bool.eq_false_iff.2 hy]; rfl)]
        show ({ u with aborts := u.aborts ++ [_] ++ _ } : State) = _
        rw [List.append_assoc]
        rfl
  rw [abortPartition, hfold, liveIn, List.filter_filter]
  simp only [Bool.and_comm, Bool.and_assoc]

theorem firmwareFault_runs (s : State) (part : Nat) :
    Runs .firmwareFault (.firmwareFault part) s fun t =>
      (t.part part).fwFault = true ∧
        (∃ d, t.aborts = s.aborts ++ (s.launches.filter fun l => l.2.part = part && !l.2.discarded && !l.2.retiring).map fun l =>
          ⟨l.1, 0x09, d, s.now⟩) ∧
        t.queues = s.queues.map fun (x : Nat × WorkQueue) => (x.1, if x.2.asg && x.2.part = part then { x.2 with hold := true } else x.2) := by
  intro hev
  have he : execFirmwareFault s = .next (holdQueues part true (abortPartition part (s.modPart part fun p => { p with fwFault := true }))) := by
    rw [execFirmwareFault, hev]
  refine ⟨_, he, ?_⟩
  dsimp only
  rw [abortPartition_eq]
  exact ⟨congrArg Partition.fwFault (part_modPart s part fun p => { p with fwFault := true }), ⟨_, rfl⟩, rfl⟩

theorem launchFirmwareReload_stopped_runs (s : State) (part : Nat) (d : List Byte) (h : s.mgmt.boot ≠ .running) :
    Runs .launchFirmwareReload (.launchFirmwareReload part d) s fun t => t = s := by
  intro hev
  refine ⟨_, ?_, rfl⟩
  show execLaunchFirmwareReload s = _
  rw [execLaunchFirmwareReload, hev]
  exact congrArg _ (if_pos h)

theorem launchFirmwareReload_runs (s : State) (part : Nat) (d : List Byte) (h : s.mgmt.boot = .running) :
    Runs .launchFirmwareReload (.launchFirmwareReload part d) s fun t =>
      (t.part part).fwFault = false ∧
        t.mgmt.meas = lmod s.mgmt.meas 2 (fun m => sha384 (m ++ d)) ∧
        t.queues = if (s.part part).fwFault then s.queues.map fun (x : Nat × WorkQueue) =>
          (x.1, if x.2.asg && x.2.part = part then { x.2 with hold := false } else x.2) else s.queues := by
  intro hev
  have he : execLaunchFirmwareReload s = .next (if (s.part part).fwFault then
      holdQueues part false ((extendMeas 2 d s).modPart part fun p => { p with fwFault := false }) else extendMeas 2 d s) := by
    rw [execLaunchFirmwareReload, hev]
    exact congrArg _ (if_neg (not_not.2 h))
  refine ⟨_, he, ?_⟩
  dsimp only
  by_cases hf : (s.part part).fwFault = true
  · rw [if_pos hf, if_pos hf]
    exact ⟨congrArg Partition.fwFault (part_modPart (extendMeas 2 d s) part fun p => { p with fwFault := false }), rfl, rfl⟩
  · rw [if_neg hf, if_neg hf]
    exact ⟨Bool.eq_false_iff.2 hf, rfl, rfl⟩

/-! ### Sweeps (R457, R459, R461) -/

theorem sweepStart_runs (s : State) (l : Nat) (hd : sweepDue s l = true) :
    Runs .sweepStart (.sweepStart l) s fun t =>
      (∃ x, kget t.launches l = some x ∧ x.sweeping = some (sweepView s l) ∧ x.nextSweep = s.now + sweepInterval s x.part) ∧
        t.changed = s.changed.filter (fun k => k / 64 ≠ l) := by
  intro hev
  cases hx : kget s.launches l with
  | none =>
    rw [sweepDue, hx] at hd
    cases hd
  | some x =>
    let told : State := if x.joint then { s with outbox := s.outbox ++ [.sweep x.group x.wafidx (peerReport (sweepView s l))] } else s
    have he : execSweepStart s = .next (freeCounters l
        { (told.modLaunch l fun x => { x with sweeping := some (sweepView s l), nextSweep := told.now + sweepInterval told x.part }) with
          changed := told.changed.filter fun k => k / 64 ≠ l }) := by
      rw [execSweepStart]
      nth_rw 1 [hev]
      dsimp only
      rw [hx, hd]
      rfl
    have ht : told.launches = s.launches ∧ told.changed = s.changed ∧ told.now = s.now ∧ told.parts = s.parts := by
      by_cases hj : x.joint = true
      · rw [show told = _ from if_pos hj]
        exact ⟨rfl, rfl, rfl, rfl⟩
      · rw [show told = s from if_neg hj]
        exact ⟨rfl, rfl, rfl, rfl⟩
    obtain ⟨hlaunches, hchanged, hnow, hparts⟩ := ht
    have hint : sweepInterval told x.part = sweepInterval s x.part := by rw [sweepInterval, sweepInterval, State.part, State.part, hparts]
    have hk := kget_modLaunch (hlaunches ▸ hx : kget told.launches l = some x) fun x =>
      { x with sweeping := some (sweepView s l), nextSweep := told.now + sweepInterval told x.part }
    refine ⟨_, he, ⟨_, hk, rfl, ?_⟩, congrArg (List.filter fun k => k / 64 ≠ l) hchanged⟩
    dsimp only
    rw [hnow, hint]

/-- The launch `l` is as it was, but for phases that have closed since. -/
def ClosedMore (l : Nat) (qs : List Nat) (s : State) : Prop :=
  ∃ y, kget s.launches l = some y ∧ y.sweeping = none ∧ ∀ q ∈ qs, q ∈ y.closed

theorem closePhase_launches (l : Nat) (s : State) (q : Nat) : (closePhase l s q).launches =
    (s.modLaunch l fun x => { x with closed := sadd x.closed q, frontier := lowestOpen (sadd x.closed q) }).launches := by
  unfold closePhase
  dsimp only
  rw [postAll_eq]
  unfold devicePip
  rw [post_eq, launchRec_eq]

/-- Phases close one after the other, and stay closed. -/
theorem closedMore_foldl_closePhase {l : Nat} (qs : List Nat) {rs : List Nat} {s : State} (h : ClosedMore l rs s) :
    ClosedMore l (rs ++ qs) (qs.foldl (closePhase l) s) := by
  induction qs generalizing rs s with
  | nil => simpa using h
  | cons q r ih =>
    obtain ⟨y, hy, hs, hc⟩ := h
    have hnext : ClosedMore l (rs ++ [q]) (closePhase l s q) := by
      have hk := (congrArg (kget · l) (closePhase_launches l s q)).trans
        (kget_modLaunch hy fun x => { x with closed := sadd x.closed q, frontier := lowestOpen (sadd x.closed q) })
      refine ⟨_, hk, hs, fun p hp => ?_⟩
      rw [List.mem_append, List.mem_singleton] at hp
      exact (mem_sadd _ _ _).2 (hp.symm.imp id (hc p))
    rw [List.foldl_cons, ← List.singleton_append, ← List.append_assoc]
    exact ih hnext

/-- A change that leaves the sweep and the closed phases. -/
theorem ClosedMore.modLaunch {l : Nat} {qs : List Nat} {s : State} (h : ClosedMore l qs s) (f : Launch → Launch)
    (hf : ∀ x, (f x).sweeping = x.sweeping ∧ (f x).closed = x.closed) : ClosedMore l qs (s.modLaunch l f) := by
  obtain ⟨y, hy, hs, hc⟩ := h
  obtain ⟨hfs, hfc⟩ := hf y
  exact ⟨_, kget_modLaunch hy f, hfs.trans hs, hfc ▸ hc⟩

theorem ClosedMore.deadlock {l : Nat} {qs : List Nat} {s : State} (h : ClosedMore l qs s) (quiet still : Bool) :
    ClosedMore l qs (deadlock l quiet still s) := by
  unfold Machine.deadlock
  split
  · exact h
  · split
    · exact h
    · split
      · exact h.modLaunch (fun x => { x with moved := s.now }) fun _ => ⟨rfl, rfl⟩
      · split <;> exact h

theorem closedMore_start {s : State} {l : Nat} {x : Launch} (hx : kget s.launches l = some x) (f : Launch → Launch)
    (hf : ∀ x, (f x).sweeping = none) : ClosedMore l [] (s.modLaunch l f) :=
  ⟨_, kget_modLaunch hx f, hf x, fun _ hq => absurd hq List.not_mem_nil⟩

theorem sweepEnd_runs (s : State) (l : Nat) (x : Launch) (v : SweepView) (rs : List (List Bool)) (hx : kget s.launches l = some x)
    (hv : x.sweeping = some v) (hr : peerReports x = some rs) (hd : x.discarded = false) :
    Runs .sweepEnd (.sweepEnd l) s fun t =>
      ∃ y, kget t.launches l = some y ∧ y.sweeping = none ∧
        ∀ q, q ∈ closing x ((List.range 16).map fun p => jointly (v.clean.getD p false) rs p)
          (jointly (if x.joint then v.ended else allEnded s l) rs 16) → q ∈ y.closed := by
  intro hev
  have he : execSweepEnd s = .next (liveSweep l x v rs s) := by
    rw [execSweepEnd, hev]
    dsimp only
    rw [hx]
    dsimp only
    rw [hv, hr]
    exact congrArg _ (if_neg (Bool.eq_false_iff.1 hd))
  refine ⟨_, he, ?_⟩
  show ClosedMore l _ (liveSweep l x v rs s)
  unfold liveSweep
  dsimp only
  generalize (if x.joint then v.ended else allEnded s l) = ended, (if x.joint then v.still else allStill s l) = still
  split
  · refine (closedMore_foldl_closePhase _ (rs := []) ?_).modLaunch (fun y => { y with retiring := true }) fun _ => ⟨rfl, rfl⟩
    exact closedMore_start hx _ fun _ => rfl
  · refine (closedMore_foldl_closePhase _ (rs := []) ?_).deadlock _ _
    exact closedMore_start hx _ fun _ => rfl

/-- Events are only added, and no bank changes its task. -/
def EventsMore (s t : State) : Prop := ∀ c b, ((t.core c).bank b).status = ((s.core c).bank b).status ∧
  ((t.core c).bank b).launch = ((s.core c).bank b).launch ∧
  ∀ e, ((s.core c).bank b).events.getLsbD e = true → ((t.core c).bank b).events.getLsbD e = true

theorem EventsMore.refl (s : State) : EventsMore s s := fun _ _ => ⟨rfl, rfl, fun _ h => h⟩

theorem EventsMore.trans {s t u : State} (h : EventsMore s t) (k : EventsMore t u) : EventsMore s u := fun c b =>
  ⟨(k c b).1.trans (h c b).1, (k c b).2.1.trans (h c b).2.1, fun e he => (k c b).2.2 e ((h c b).2.2 e he)⟩

theorem bank_raiseEvent (s : State) (c : Nat) (b : Bool) (e : Nat) : ((raiseEvent s c b e).core c).bank b =
    { (s.core c).bank b with events := ((s.core c).bank b).events ||| ((1#16) <<< e) } := by
  rw [raiseEvent, State.core_modCore, Core.bank_modBank]

theorem bank_raiseEvent_ne (s : State) {c d : Nat} {b z : Bool} (e : Nat) (h : (d, z) ≠ (c, b)) :
    ((raiseEvent s c b e).core d).bank z = (s.core d).bank z := by
  unfold raiseEvent
  by_cases hd : d = c
  · subst hd
    rw [State.core_modCore, Core.bank_modBank_ne _ _ _ fun hz => h (by rw [hz])]
  · rw [State.core_modCore_ne _ _ _ hd]

theorem eventsMore_raiseEvent (s : State) (c : Nat) (b : Bool) (e : Nat) : EventsMore s (raiseEvent s c b e) := by
  intro d z
  by_cases h : (d, z) = (c, b)
  · obtain ⟨rfl, rfl⟩ := Prod.mk.inj h
    rw [bank_raiseEvent]
    exact ⟨rfl, rfl, fun k hk => by rw [BitVec.getLsbD_or, hk, Bool.true_or]⟩
  · rw [bank_raiseEvent_ne s e h]
    exact ⟨rfl, rfl, fun _ h => h⟩

/-- The notice of a closed phase at one bank. -/
def closeNoticeAt (l : Nat) (s : State) (x : Nat × Bool) : State :=
  if ((s.core x.1).bank x.2).status ≠ .empty && ((s.core x.1).bank x.2).launch.toNat = l then raiseEvent s x.1 x.2 5 else s

theorem eventsMore_closeNoticeAt (l : Nat) (s : State) (x : Nat × Bool) : EventsMore s (closeNoticeAt l s x) := by
  unfold closeNoticeAt
  split
  · exact eventsMore_raiseEvent s _ _ _
  · exact EventsMore.refl s

/-- Every bank of the notice that holds a task of the launch has event 5 (R461). -/
theorem closeNotices_raise (l : Nat) (xs : List (Nat × Bool)) (s : State) :
    EventsMore s (xs.foldl (closeNoticeAt l) s) ∧ ∀ x ∈ xs, ((s.core x.1).bank x.2).status ≠ .empty → ((s.core x.1).bank x.2).launch.toNat = l →
      (((xs.foldl (closeNoticeAt l) s).core x.1).bank x.2).events.getLsbD 5 = true := by
  induction xs generalizing s with
  | nil => exact ⟨EventsMore.refl s, fun x hx => absurd hx List.not_mem_nil⟩
  | cons y r ih =>
    obtain ⟨hmore, hset⟩ := ih (closeNoticeAt l s y)
    have hy := eventsMore_closeNoticeAt l s y
    refine ⟨hy.trans hmore, fun x hx hst hl => ?_⟩
    rcases List.mem_cons.1 hx with rfl | hx
    · refine (hmore x.1 x.2).2.2 5 ?_
      rw [closeNoticeAt, if_pos (by simp [hst, hl]), bank_raiseEvent]
      simp
    · obtain ⟨h1, h2, -⟩ := hy x.1 x.2
      exact hset x hx (by rw [h1]; exact hst) (by rw [h2]; exact hl)

theorem phaseCloseNotice_runs (s : State) (l r p : Nat) :
    Runs .phaseCloseNotice (.phaseCloseNotice l r p) s fun t =>
      ∀ c b, c ∈ coresOf r → ((s.core c).bank b).status ≠ .empty → ((s.core c).bank b).launch.toNat = l →
        ((t.core c).bank b).events.getLsbD 5 = true := by
  intro hev
  have hflat : ∀ (cs : List Nat) (u : State), cs.foldl (fun s c => [false, true].foldl (fun s b => closeNoticeAt l s (c, b)) s) u =
      (cs.flatMap fun c => [(c, false), (c, true)]).foldl (closeNoticeAt l) u := by
    intro cs
    induction cs with
    | nil => exact fun _ => rfl
    | cons c r ih => exact fun u => ih _
  have he : execPhaseCloseNotice s = .next (((coresOf r).flatMap fun c => [(c, false), (c, true)]).foldl (closeNoticeAt l) s) := by
    rw [execPhaseCloseNotice, hev, ← hflat]
    rfl
  refine ⟨_, he, fun c b hc => (closeNotices_raise l _ s).2 (c, b) (List.mem_flatMap.2 ⟨c, hc, ?_⟩)⟩
  cases b <;> simp

/-! ### The end of a launch (R481, R486) -/

theorem launches_foldl_settle (f : Cmd → State → State) (hf : ∀ c s, (f c s).launches = s.launches) (cs : List Cmd) (s : State) :
    (cs.foldl (fun s c => f c s) s).launches = s.launches := by
  induction cs generalizing s with
  | nil => rfl
  | cons c r ih => exact (ih _).trans (hf c s)

theorem launches_freeNamespace (c : Cmd) (s : State) : (freeNamespace c s).launches = s.launches := by
  cases h : nsInUse s c.ns with
  | true => rw [freeNamespace_of_inUse c s h]
  | false => exact (freeNamespace_of_unused c s h).2.1

/-- A launch that has ended is no longer live. -/
theorem kget_endLaunch (l status cause detail : Nat) (s : State) : kget (endLaunch l status cause detail s).launches l = none := by
  unfold endLaunch
  cases hx : kget s.launches l with
  | none => exact hx
  | some x =>
    dsimp only
    unfold settleUnloads settleAborts
    rw [launches_foldl_settle _ launches_freeNamespace, launches_foldl_settle]
    · unfold dropPeers
      split <;> exact kget_kdel_same _ _
    · intro c u
      rw [release_eq, writeRecord_eq]

theorem launchRetirement_runs (s : State) (l : Nat) (h : retirable s l = true) :
    Runs .launchRetirement (.launchRetirement l) s fun t => kget t.launches l = none := by
  intro hev
  have he : execLaunchRetirement s = .next (endLaunch l 1 0 0 (dropSumps l s)) := by
    rw [execLaunchRetirement, hev]
    exact congrArg _ (if_pos h)
  exact ⟨_, he, kget_endLaunch l 1 0 0 _⟩

/-- After the discard the launch has its cause, and none of its tasks is left. -/
theorem discardLaunch_spec {l : Nat} {x : Launch} (a : AbortCause) {s : State} (hx : kget s.launches l = some x) :
    (∃ y, kget (discardLaunch l a s).launches l = some y ∧ y.discarded = true ∧ y.abort = some a) ∧
      ∀ n, n ∈ (discardLaunch l a s).tasks → n.2.launch ≠ l := by
  unfold discardLaunch
  rw [hx]
  dsimp only
  generalize hf : (fun (y : Launch) => { y with
    abort := some a, discarded := true, sweeping := none, last := none, discardClean := 0,
    peerViews := [], tasks := if a.cause = 0x07 then missingMask x 32 else y.tasks }) = f
  have hfate : (kget (s.modLaunch l f).launches l).map (fun x => (x.discarded, x.abort)) = some (true, some a) := by
    rw [kget_modLaunch hx f, ← hf]
    rfl
  generalize s.modLaunch l f = t at hfate ⊢
  have hkilled : Calm true t ((tasksOf t l).foldl killTask t) := calm_foldl (fun _ _ h => calm_killTask h) (Calm.refl true t)
  generalize (tasksOf t l).foldl killTask t = u at hkilled ⊢
  have hdropped := hkilled.with_tasks (m := u.tasks.filter fun (t : Nat × TaskInst) => t.2.launch ≠ l)
    fun n hn => ⟨n, (List.mem_filter.1 hn).1, rfl⟩
  generalize hw : ({ u with tasks := u.tasks.filter fun (t : Nat × TaskInst) => t.2.launch ≠ l } : State) = w at hdropped ⊢
  have hgone : ∀ n ∈ w.tasks, n.2.launch ≠ l := by
    intro n hn
    rw [← hw] at hn
    simpa using (List.mem_filter.1 hn).2
  have hsumps := calm_dropSumps (l := l) (calm_dropNetwork (l := l)
    (calm_discardOps (mine := fun o => o.launch = l && o.kind ≠ .page) (fun h => absurd h (by decide)) (Calm.refl true w)))
  have hend := calm_touchAll (l := l) (calm_ite (p := (1 < x.nwaf && !x.told) = true) (hsumps.congr (u := { dropSumps l (dropNetwork l
    (discardOps (fun o => o.launch = l && o.kind ≠ .page) w)) with outbox := (dropSumps l (dropNetwork l
    (discardOps (fun o => o.launch = l && o.kind ≠ .page) w))).outbox ++ [.abort x.group x.wafidx] }) rfl rfl rfl) hsumps)
  refine ⟨?_, fun n hn => ?_⟩
  · have hkeep := congrFun (congrArg (fun z => z.2.1) (hdropped.trans hend).standing) l
    obtain ⟨y, hy, hxy⟩ := Option.map_eq_some_iff.1 (hkeep.trans hfate)
    exact ⟨y, hy, congrArg Prod.fst hxy, congrArg Prod.snd hxy⟩
  · obtain ⟨m, hm, hml⟩ := hend.owners n hn
    exact hml ▸ hgone m hm

theorem launchAbort_runs (s : State) (l : Nat) (x : Launch) (a : AbortCause) (ha : firstAbort s l = some a) (hx : kget s.launches l = some x)
    (hr : x.retiring = false) (hd : x.discarded = false) :
    Runs .launchAbort (.launchAbort l) s fun t =>
      (∃ y, kget t.launches l = some y ∧ y.discarded = true ∧ y.abort = some a) ∧ ∀ n, n ∈ t.tasks → n.2.launch ≠ l := by
  intro hev
  have he : execLaunchAbort s = .next (discardLaunch l a { s with aborts := s.aborts.filter fun (a : AbortCause) => a.launch ≠ l }) := by
    rw [execLaunchAbort, hev]
    dsimp only
    rw [ha, hx]
    exact congrArg _ (if_neg (by rw [hr, hd]; decide))
  exact ⟨_, he, discardLaunch_spec a (s := { s with aborts := s.aborts.filter fun (a : AbortCause) => a.launch ≠ l }) hx⟩

/-- Settles O43. -/
theorem launchesProgress : Obligations.LaunchesProgress :=
  ⟨waferAcknowledgement_runs, gateTimeout_runs, peerAbort_runs, firmwareAbort_runs, controlPip_runs, firmwareFault_runs,
    launchFirmwareReload_stopped_runs, launchFirmwareReload_runs, sweepStart_runs, sweepEnd_runs, phaseCloseNotice_runs, launchRetirement_runs,
    launchAbort_runs, cutEdgeInstalled_runs, peerSweepResult_runs⟩

end Sys2Proof.Machine
end

section

/-! PROOF. What errors, lost parts, tenant switches, links and the debugger do: the obligation FaultStepsComplete. -/

namespace Sys2Proof.Machine
open Sys2Proof

/-! ### Partitions (R333, R475) -/

theorem tenantSwitch_hold_runs (s : State) (part : Nat) (fs : List Nat) :
    Runs .tenantSwitch (.tenantSwitch part fs 1) s fun t =>
      t.queues = s.queues.map fun (x : Nat × WorkQueue) => (x.1, if x.2.asg && x.2.part = part then { x.2 with hold := true } else x.2) := by
  intro hev
  have he : execTenantSwitch s = .next (holdQueues part true s) := by
    rw [execTenantSwitch, hev]
    exact congrArg _ (if_pos rfl)
  exact ⟨_, he, rfl⟩

theorem tenantSwitch_fields_runs (s : State) (part : Nat) (fs : List Nat) (hl : (s.launches.filter fun x => x.2.part = part) = []) :
    Runs .tenantSwitch (.tenantSwitch part fs 5) s fun t =>
      t = s.modPart part fun p =>
        { p with fields := p.fields.filter (fun f => !fs.contains f), noArm := p.noArm.filter (fun f => !fs.contains f), stale := true } := by
  intro hev
  refine ⟨_, ?_, rfl⟩
  show execTenantSwitch s = _
  rw [execTenantSwitch, hev]
  exact congrArg _ (if_pos (show (liveIn s part).isEmpty = true by rw [liveIn, hl]; rfl))

theorem homeTableRebuild_runs (s : State) (part : Nat) (hd : rebuildDue s part = true) :
    Runs .homeTableRebuild (.homeTableRebuild part) s fun t =>
      t = moveViews part (s.modPart part fun p =>
        { p with fields := liveFields s part, homes := homeTable s (liveFields s part), stale := false }) := by
  intro hev
  refine ⟨_, ?_, rfl⟩
  show execHomeTableRebuild s = _
  rw [execHomeTableRebuild, hev]
  exact congrArg _ (if_neg (by rw [hd]; decide))

/-! ### Clusters (R476) -/

/-- Whether a cluster stands is read off `State.standing`. -/
theorem Calm.cluster {may : Bool} {s t : State} (h : Calm may s t) (k : Nat) :
    (t.cluster k).mapped = (s.cluster k).mapped ∧ (t.cluster k).stopped = (s.cluster k).stopped ∧ (t.cluster k).retired = (s.cluster k).retired := by
  have hk := congrFun (congrArg (fun z => z.2.2.1) h.standing) k
  exact ⟨congrArg Prod.fst hk, congrArg (fun z => z.2.1) hk, congrArg (fun z => z.2.2) hk⟩

theorem Calm.now {may : Bool} {s t : State} (h : Calm may s t) : t.now = s.now := congrArg Prod.fst h.standing

theorem Calm.lost {may : Bool} {s t : State} (h : Calm may s t) (f : Nat) : (t.field f).lost = (s.field f).lost :=
  congrFun (congrArg (fun z => z.2.2.2) h.standing) f

theorem clusterRetirement_runs (s : State) (k : Nat) (h : (s.cluster k).mapped = false) :
    Runs .clusterRetirement (.clusterRetirement k) s fun t => (t.cluster k).mapped = true ∧ (t.cluster k).retired = true := by
  intro hev
  have he : execClusterRetirement s = .next (preemptAll (runningOn (resubscribe k (s.modCluster k fun x => { x with mapped := true, retired := true })) k)
      (resubscribe k (s.modCluster k fun x => { x with mapped := true, retired := true }))) := by
    rw [execClusterRetirement, hev]
    exact congrArg _ (if_neg (Bool.eq_false_iff.1 h))
  have hc := fun ms => calm_preemptAll (ms := ms) (calm_resubscribe (k := k)
    (Calm.refl true (s.modCluster k fun x => { x with mapped := true, retired := true })))
  have hs := cluster_modCluster s k fun x => { x with mapped := true, retired := true }
  obtain ⟨hm, -, hr⟩ := (hc _).cluster k
  exact ⟨_, he, hm.trans (congrArg Cluster.mapped hs), hr.trans (congrArg Cluster.retired hs)⟩

theorem clusterFailure_runs (s : State) (k : Nat) (h : (s.cluster k).stopped = false) :
    Runs .clusterFailure (.clusterFailure k) s fun t =>
      (t.cluster k).mapped = true ∧ (t.cluster k).stopped = true ∧
        ∀ m, m ∈ runningOn s k → ⟨m.2.launch, 0x02, trapDetail 0x2E (sourceOf (4 * k) false), s.now⟩ ∈ t.aborts := by
  intro hev
  have he : execClusterFailure s = .next (resubscribe k ((runningOn s k).foldl failTask
      (((runningOn s k).map fun m => m.2.launch).dedup.foldl (fun s l => abortCode l 0x2E (sourceOf (4 * k) false) s)
        (s.modCluster k fun x => { x with mapped := true, stopped := true })))) := by
    rw [execClusterFailure, hev]
    exact congrArg _ (if_neg (Bool.eq_false_iff.1 h))
  have hab := calm_foldl (g := fun s l => abortCode l 0x2E (sourceOf (4 * k) false) s) (l := ((runningOn s k).map fun m => m.2.launch).dedup)
    (fun _ _ h => calm_abortCode h) (Calm.refl true (s.modCluster k fun x => { x with mapped := true, stopped := true }))
  have hend : ∀ u, Calm true u (resubscribe k ((runningOn s k).foldl failTask u)) := fun u =>
    calm_resubscribe (calm_foldl (fun _ _ h => calm_failTask h) (Calm.refl true u))
  have hs := cluster_modCluster s k fun x => { x with mapped := true, stopped := true }
  obtain ⟨hm, hst, -⟩ := (hab.trans (hend _)).cluster k
  refine ⟨_, he, hm.trans (congrArg Cluster.mapped hs), hst.trans (congrArg Cluster.stopped hs), fun m hm => (hend _).aborts_mem ?_⟩
  exact mem_aborts_foldl_abortCode id (List.mem_dedup.2 (List.mem_map.2 ⟨m, hm, rfl⟩)) _ _ (s.modCluster k _)

/-! ### Lost fields (R432, R483, R484) -/

theorem slots_foldl {α : Type} {g : State → α → State} (hg : ∀ t a, (g t a).slots = t.slots) (l : List α) (s : State) :
    (l.foldl g s).slots = s.slots := by
  induction l generalizing s with
  | nil => rfl
  | cons a r ih => exact (ih _).trans (hg s a)

theorem slots_dropSumps (l : Nat) (s : State) : (dropSumps l s).slots = s.slots := by
  refine slots_foldl (fun t u => ?_) _ s
  have hmod : ∀ (i : Nat) (f : Sump → Sump) (u : State), (modSump i f u).slots = u.slots := by
    intro i f u
    unfold modSump
    split <;> rfl
  show (modSump u.1 _ _).slots = _
  rw [hmod, slots_foldl (fun t r => by rw [touchPhase_eq]), sumpPip_eq]

theorem slot_freeSlot_of_free (f m : Nat) {n : Nat} {s : State} (h : s.slot f n = .free) : (freeSlot f m s).slot f n = .free := by
  rw [slot_congr (slots_freeSlot f m s), State.slot, State.setSlot]
  by_cases hm : f * 48 + n = f * 48 + m
  · rw [hm]
    exact kgetD_kset_same _ _ _ _
  · rw [kgetD_kset_ne _ _ _ hm]
    exact h

theorem slot_foldl_freeSlot (f : Nat) {n : Nat} (l : List Nat) (s : State) (h : n ∈ l ∨ s.slot f n = .free) :
    (l.foldl (fun s n => freeSlot f n s) s).slot f n = .free := by
  induction l generalizing s with
  | nil => exact h.elim (fun h => absurd h List.not_mem_nil) id
  | cons m r ih =>
    rw [List.foldl_cons]
    refine ih (freeSlot f m s) ?_
    by_cases hm : n = m
    · subst hm
      exact .inr (slot_freeSlot s f n)
    · exact h.imp (fun h => (List.mem_cons.1 h).resolve_left hm) (slot_freeSlot_of_free f m)

theorem slots_with_mem (s : State) (m : List Host.Cell) : ({ s with mem := m } : State).slots = s.slots := rfl

/-- Every slot of a lost field's weight store is free. -/
theorem slot_clearStore (f : Nat) {n : Nat} (hn : n < 48) (s : State) : (clearStore f s).slot f n = .free := by
  have hmem : n ∈ List.range 48 := List.mem_range.2 hn
  unfold clearStore
  dsimp only
  generalize List.range 48 = l at hmem ⊢
  exact (slot_congr (slots_with_mem _ _) f n).trans (slot_foldl_freeSlot f l s (.inl hmem))

theorem entriesIn_iff (s : State) (f : Nat) (e : Nat × Nat) :
    e ∈ entriesIn s f ↔ ∃ k, k ∈ s.ert ∧ k.2.field = f ∧ 1 ≤ k.2.st ∧ k.2.st ≤ 3 ∧ e = (k.1 / 65536, k.1 % 65536) := by
  unfold entriesIn
  rw [List.mem_map]
  refine exists_congr fun k => ?_
  rw [List.mem_filter]
  simp only [Bool.and_eq_true, decide_eq_true_eq, and_assoc, eq_comm (a := e)]

theorem lostWith_iff (s : State) (f l : Nat) (x : Launch) : lostWith s f (entriesIn s f) l x = true ↔
    (∃ k, k ∈ s.tasks ∧ k.2.launch = l ∧ (k.2.field = f ∨ (k.2.st.bound = true ∧ fieldOf k.2.core = f))) ∨
    (∃ e, e ∈ s.agenda ∧ Event.ofLaunch l e = true ∧ eventInField s f e = true) ∨
    (∃ r, r ∈ s.routers ∧
      ((∃ h, h ∈ r.2.held ∧ h.pkt.launch = l ∧ (fieldOfCluster r.1 = f ∨ Packet.sentFrom h.pkt f = true)) ∨
        (∃ h, h ∈ r.2.holds ∧ h.pkt.launch = l ∧ Packet.sentFrom h.pkt f = true) ∨
        (∃ p, p ∈ r.2.partials ∧ p.pkt.launch = l ∧ p.ends ≠ 0 ∧ Packet.sentFrom p.pkt f = true) ∨
        ∃ y, y ∈ r.2.transit ∧ y.pkt.launch = l ∧ Packet.sentFrom y.pkt f = true)) ∨
    (∃ o, o ∈ s.ops ∧ o.2.launch = l ∧ o.2.ofTask = true ∧ fieldOf o.2.core = f) ∨
    (∃ e, e ∈ entriesIn s f ∧ l ∈ launchesParked s e.1 e.2) ∨
    ∃ e, e ∈ entriesIn s f ∧ e.1 = x.part ∧ (s.ertEntry e.1 e.2).bind ≠ 0 ∧ (s.ertEntry e.1 e.2).bind / 2 ^ 20 = x.ns := by
  simp only [lostWith, TaskInst.inField, List.any_eq_true, Bool.or_eq_true, Bool.and_eq_true, decide_eq_true_eq, List.contains_iff_mem, and_assoc, or_assoc]

/-- The causes of abort of a lost field, one for each launch. -/
theorem aborts_foldl_lose (f : Nat) (ls : List (Nat × Launch)) (s : State) :
    (ls.foldl (fun s l => dropSumps l.1 (postAbort s l.1 0x04 (BitVec.ofNat 32 f))) s).aborts =
      s.aborts ++ ls.map fun l => ⟨l.1, 0x04, BitVec.ofNat 32 f, s.now⟩ := by
  induction ls generalizing s with
  | nil => simp
  | cons l r ih =>
    have hd := calm_dropSumps (l := l.1) (Calm.refl false (postAbort s l.1 0x04 (BitVec.ofNat 32 f)))
    have hnow : (dropSumps l.1 (postAbort s l.1 0x04 (BitVec.ofNat 32 f))).now = s.now := hd.now
    rw [List.foldl_cons, ih, hd.aborts_eq, hnow]
    show (s.aborts ++ [_]) ++ _ = _
    rw [List.append_assoc]
    rfl

/-- Clusters that stop. -/
theorem stopped_foldl (ks : List Nat) {k : Nat} (s : State) (h : k ∈ ks ∨ (s.cluster k).stopped = true) :
    ((ks.foldl (fun s k => s.modCluster k fun x => { x with stopped := true, mapped := true }) s).cluster k).stopped = true := by
  induction ks generalizing s with
  | nil => exact h.elim (fun h => absurd h List.not_mem_nil) id
  | cons j r ih =>
    refine ih _ ?_
    by_cases hj : k = j
    · subst hj
      exact .inr (congrArg Cluster.stopped (cluster_modCluster s k fun x => { x with stopped := true, mapped := true }))
    · refine h.imp (fun h => (List.mem_cons.1 h).resolve_left hj) fun h => ?_
      exact (congrArg Cluster.stopped (kgetD_kset_ne _ _ _ hj)).trans h

theorem stop_keeps (ks : List Nat) (s : State) :
    ∃ cs, ks.foldl (fun s k => s.modCluster k fun x => { x with stopped := true, mapped := true }) s = { s with clusters := cs } := by
  induction ks generalizing s with
  | nil => exact ⟨_, rfl⟩
  | cons k r ih => exact ih (s.modCluster k fun x => { x with stopped := true, mapped := true })

/-- The device as a field's clusters and store have stopped (R483). -/
def fieldStopped (f : Nat) (s : State) : State :=
  (clustersOf f).foldl (fun s k => s.modCluster k fun x => { x with stopped := true, mapped := true }) (s.modField f fun x => { x with lost := true })

/-- The launches that the loss of a field aborts. -/
def lostLaunches (f : Nat) (s : State) : List (Nat × Launch) :=
  s.launches.filter fun l => lostWith s f (entriesIn s f) l.1 l.2 && !l.2.discarded && !l.2.retiring

theorem loseField_eq {s : State} {f : Nat} (hl : (s.field f).lost = false) : ∃ ps, loseField f s =
    { (lostLaunches f s).foldl (fun s l => dropSumps l.1 (postAbort s l.1 0x04 (BitVec.ofNat 32 f)))
        (clearStore f (loseEntries f (fieldStopped f s))) with parts := ps } := ⟨_, if_neg (Bool.eq_false_iff.1 hl)⟩

theorem fieldStopped_spec (f : Nat) (s : State) : ((fieldStopped f s).field f).lost = true ∧ (fieldStopped f s).aborts = s.aborts ∧
    (fieldStopped f s).now = s.now ∧ ∀ k ∈ clustersOf f, ((fieldStopped f s).cluster k).stopped = true := by
  have hstop := fun k (hk : k ∈ clustersOf f) => stopped_foldl (clustersOf f) (s.modField f fun x => { x with lost := true }) (.inl hk)
  obtain ⟨cs, hcs⟩ := stop_keeps (clustersOf f) (s.modField f fun x => { x with lost := true })
  refine ⟨?_, ?_, ?_, hstop⟩
  · rw [fieldStopped, hcs]
    exact congrArg FieldSt.lost (field_modField s f fun x => { x with lost := true })
  · rw [fieldStopped, hcs]
    rfl
  · rw [fieldStopped, hcs]
    rfl

theorem fieldLoss_runs (s : State) (f : Nat) (hf : f < 84) (hl : (s.field f).lost = false) :
    Runs .fieldLoss (.fieldLoss f) s fun t =>
      (t.field f).lost = true ∧ (∀ k, k ∈ clustersOf f → (t.cluster k).stopped = true) ∧ (∀ n, n < 48 → t.slot f n = .free) ∧
        t.aborts = s.aborts ++ (s.launches.filter fun l =>
          lostWith s f (entriesIn s f) l.1 l.2 && !l.2.discarded && !l.2.retiring).map fun l => ⟨l.1, 0x04, BitVec.ofNat 32 f, s.now⟩ := by
  intro hev
  have he : execFieldLoss s = .next (loseField f s) := by
    rw [execFieldLoss, hev]
    exact congrArg _ (if_pos hf)
  refine ⟨_, he, ?_⟩
  obtain ⟨ps, hps⟩ := loseField_eq hl
  obtain ⟨hlost, haborts, hnow, hstop⟩ := fieldStopped_spec f s
  have hstore := calm_clearStore (f := f) (calm_loseEntries (f := f) (Calm.refl false (fieldStopped f s)))
  have hslots := fun n (hn : n < 48) => slot_clearStore f hn (loseEntries f (fieldStopped f s))
  rw [hps]
  rw [show (s.launches.filter fun l => lostWith s f (entriesIn s f) l.1 l.2 && !l.2.discarded && !l.2.retiring) = lostLaunches f s from rfl]
  generalize fieldStopped f s = u at *
  generalize clearStore f (loseEntries f u) = w at *
  have habort := aborts_foldl_lose f (lostLaunches f s) w
  have hend := hstore.weaken.trans (calm_foldl (g := fun s l => dropSumps l.1 (postAbort s l.1 0x04 (BitVec.ofNat 32 f))) (l := lostLaunches f s)
    (fun _ _ h => calm_dropSumps (calm_postAbort h)) (Calm.refl true w))
  have hslot := fun n (hn : n < 48) => (slot_congr (slots_foldl (fun t l => slots_dropSumps l.1 (postAbort t l.1 0x04 (BitVec.ofNat 32 f)))
    (lostLaunches f s) w) f n).trans (hslots n hn)
  rw [hstore.aborts_eq, haborts, hstore.now, hnow] at habort
  exact ⟨(hend.lost f).trans hlost, fun k hk => (hend.cluster k).2.1.trans (hstop k hk), hslot, habort⟩

/-! ### Errors and freezes (R240, R241, R472) -/

/-- An error record leaves the clusters, the cores and the poison. -/
theorem errorRec_eq (k : Nat) (code src : BitVec 16) (unit count : Nat) (s : State) : errorRec k code src unit count s =
    { s with fields := (errorRec k code src unit count s).fields, traceUnits := (errorRec k code src unit count s).traceUnits } := by
  rw [errorRec, emit_eq]

theorem cluster_errorRec (k : Nat) (code src : BitVec 16) (unit count : Nat) (s : State) (j : Nat) :
    (errorRec k code src unit count s).cluster j = s.cluster j := by
  rw [errorRec_eq]
  rfl

theorem correctableError_runs (s : State) (k unit : Nat) (hu : unit < 6) (hf : (s.cluster k).freeze = none) (hc : (s.cluster k).ce < 2 ^ 24 - 1) :
    Runs .correctableError (.correctableError k unit) s fun t =>
      t.cluster k = { s.cluster k with ce := (s.cluster k).ce + 1, freeze := some (s.clk (4 * k) + 16) } := by
  intro hev
  have he : ∃ f, execCorrectableError s =
      .next (errorRec k 0x0041 (sourceOf (4 * k) false) unit ((s.modCluster k f).cluster k).ce (s.modCluster k f)) ∧
        f (s.cluster k) = { s.cluster k with ce := (s.cluster k).ce + 1, freeze := some (s.clk (4 * k) + 16) } := by
    rw [execCorrectableError, hev]
    refine ⟨_, rfl, ?_⟩
    dsimp only
    rw [if_neg (Nat.not_le.2 hu), hf, Nat.min_eq_left (by omega)]
  obtain ⟨f, he, hf⟩ := he
  exact ⟨_, he, (cluster_errorRec _ _ _ _ _ _ k).trans ((cluster_modCluster s k f).trans hf)⟩

theorem mem_poisonUnit (k : Nat) (s : State) : k / 4 * 4 ∈ (poisonUnit k 4 s).poison ∧ ∀ w ∈ s.poison, w ∈ (poisonUnit k 4 s).poison := by
  unfold poisonUnit markPoison
  exact ⟨(mem_foldl_sadd _ _ _).2 (.inl (List.mem_map.2 ⟨0, List.mem_range.2 (by decide), rfl⟩)), fun w hw => (mem_foldl_sadd _ _ _).2 (.inr hw)⟩

theorem uncorrectableError_runs (s : State) (k c o : Nat) :
    Runs .uncorrectableError (.uncorrectableError k 0 (.scratchpad c o)) s fun t =>
      (t.cluster k).ue = min ((s.cluster k).ue + 1) 255 ∧ (Space.spad c).key o / 4 * 4 ∈ t.poison ∧ ∀ w, w ∈ s.poison → w ∈ t.poison := by
  intro hev
  let hit : State := s.modCluster k fun x => { x with ue := min (x.ue + 1) 255 }
  have he : execUncorrectableError s = .next (poisonUnit ((Space.spad c).key o) 4 (errorRec k 0x0042 (sourceOf c false) 0 (hit.cluster k).ue hit)) := by
    rw [execUncorrectableError, hev]
    rfl
  refine ⟨_, he, ?_, ?_, fun w hw => ?_⟩
  · exact congrArg Cluster.ue ((cluster_errorRec _ _ _ _ _ hit k).trans (cluster_modCluster s k fun x => { x with ue := min (x.ue + 1) 255 }))
  · exact (mem_poisonUnit _ _).1
  · refine (mem_poisonUnit _ _).2 w ?_
    rw [errorRec_eq]
    exact hw

/-- A change of each of some cores, none of them named twice. -/
theorem core_foldl_modCore (f : Core → Core) {cs : List Nat} (hn : cs.Nodup) (s : State) (c : Nat) :
    (cs.foldl (fun s c => s.modCore c f) s).core c = if c ∈ cs then f (s.core c) else s.core c := by
  induction cs generalizing s with
  | nil => rfl
  | cons d r ih =>
    obtain ⟨hd, hr⟩ := List.nodup_cons.1 hn
    rw [List.foldl_cons, ih hr]
    by_cases hc : c = d
    · subst hc
      rw [if_neg hd, if_pos List.mem_cons_self, State.core_modCore]
    · rw [State.core_modCore_ne _ _ _ hc]
      exact if_congr (by rw [List.mem_cons, or_iff_right hc]) rfl rfl

theorem clusters_foldl_modCore (f : Core → Core) (cs : List Nat) (s : State) : (cs.foldl (fun s c => s.modCore c f) s).clusters = s.clusters := by
  induction cs generalizing s with
  | nil => rfl
  | cons d r ih => exact ih (s.modCore d f)

theorem coresOf_nodup (k : Nat) : (coresOf k).Nodup := by simp [coresOf]

theorem clk_of_mem_coresOf {s : State} {k c : Nat} (h : c ∈ coresOf k) : s.clk c = s.clk (4 * k) := by
  have hk : c / 4 = k := by
    simp only [coresOf, List.mem_cons, List.not_mem_nil, or_false] at h
    omega
  rw [State.clk, State.clk, hk, Nat.mul_div_cancel_left k (by decide)]

theorem core_moveTimes (k : Nat) (s : State) (c : Nat) : (moveTimes k s).core c =
    if c ∈ coresOf k then (s.core c).moveTimes (s.clk (4 * k) - frozenFor s k) (frozenFor s k) else s.core c :=
  core_foldl_modCore _ (coresOf_nodup k) _ c

theorem cluster_moveTimes (k : Nat) (s : State) : (moveTimes k s).cluster k =
    { s.cluster k with entries := (s.cluster k).entries.map fun e => { e with began := e.began + frozenFor s k } } := by
  unfold moveTimes
  dsimp only
  rw [State.cluster, clusters_foldl_modCore]
  exact cluster_modCluster s k _

theorem freezeEnd_runs (s : State) (k : Nat) (h : frozenOver s k = true) :
    Runs .freezeEnd (.freezeEnd k) s fun t =>
      (t.cluster k).freeze = (if (s.cluster k).refreeze then some (s.clk (4 * k) + 16) else none) ∧ (t.cluster k).refreeze = false ∧
      (t.cluster k).entries = (s.cluster k).entries.map (fun e => { e with began := e.began + frozenFor s k }) ∧
      (∀ c b, c ∈ coresOf k → ((t.core c).bank b).pauseUntil =
          moveTime (s.clk c - frozenFor s k) (frozenFor s k) ((s.core c).bank b).pauseUntil ∧
        ((t.core c).bank b).s = ((s.core c).bank b).s ∧ ((t.core c).bank b).pc = ((s.core c).bank b).pc) ∧
      ∀ c, c ∉ coresOf k → t.core c = s.core c := by
  intro hev
  have he : execFreezeEnd s = .next ((moveTimes k s).modCluster k fun x =>
      { x with freeze := if x.refreeze then some (s.clk (4 * k) + 16) else none, refreeze := false }) := by
    rw [execFreezeEnd, hev]
    exact congrArg _ (if_pos h)
  have hcl := cluster_modCluster (moveTimes k s) k fun x =>
    { x with freeze := if x.refreeze then some (s.clk (4 * k) + 16) else none, refreeze := false }
  rw [cluster_moveTimes] at hcl
  refine ⟨_, he, congrArg Cluster.freeze hcl, congrArg Cluster.refreeze hcl, congrArg Cluster.entries hcl, fun c b hc => ?_, fun c hc => ?_⟩
  · rw [show ∀ f, ((moveTimes k s).modCluster k f).core c = (moveTimes k s).core c from fun _ => rfl, core_moveTimes, if_pos hc, clk_of_mem_coresOf hc]
    cases b <;> exact ⟨rfl, rfl, rfl⟩
  · exact (core_moveTimes k s c).trans (if_neg hc)

/-! ### Refresh windows (R237) -/

theorem refreshWindow_runs (s : State) (f : Nat) (h : windowDue s f = true) :
    Runs .refreshWindow (.refreshWindow f) s fun t =>
      t = s.modField f fun x =>
        { x with refCur := s.now / 1024 % 16, refAct := s.now % 1024 < 48, refNext := s.now / 1024 + 1 } := by
  intro hev
  refine ⟨_, ?_, rfl⟩
  show execRefreshWindow s = _
  rw [execRefreshWindow, hev]
  exact congrArg _ (if_pos h)

theorem refreshWindowEnd_runs (s : State) (f : Nat) (h : windowOver s f = true) :
    Runs .refreshWindowEnd (.refreshWindowEnd f) s fun t => t = s.modField f fun x => { x with refAct := false } := by
  intro hev
  refine ⟨_, ?_, rfl⟩
  show execRefreshWindowEnd s = _
  rw [execRefreshWindowEnd, hev]
  exact congrArg _ (if_pos h)

/-! ### Links and routers (R483, R515, R516) -/

/-- Every launch of a list is aborted, and nothing takes a cause back. -/
theorem mem_aborts_foldl_postAbort (code : BitVec 8) (detail : Word) {ls : List (Nat × Launch)} {l : Nat × Launch} (hl : l ∈ ls) (s : State) :
    ∃ a, a ∈ (ls.foldl (fun s l => postAbort s l.1 code detail) s).aborts ∧ a.launch = l.1 ∧ a.cause = code := by
  induction ls generalizing s with
  | nil => cases hl
  | cons x r ih =>
    rw [List.foldl_cons]
    rcases List.mem_cons.1 hl with rfl | hl
    · have hc : Calm true (postAbort s l.1 code detail) (r.foldl (fun s l => postAbort s l.1 code detail) (postAbort s l.1 code detail)) :=
        calm_foldl (fun _ _ h => calm_postAbort h) (Calm.refl _ _)
      exact ⟨_, hc.aborts_mem (List.mem_append_right _ (List.mem_singleton.2 rfl)), rfl, rfl⟩
    · exact ih hl _

/-- Of some launches those that are not discarded or retiring are aborted, and nothing else changes. -/
theorem foldl_postAbort (code : BitVec 8) (detail : Word) (ls : List (Nat × Launch)) (s : State) :
    ∃ as, ls.foldl (fun s l => if l.2.discarded || l.2.retiring then s else postAbort s l.1 code detail) s = { s with aborts := s.aborts ++ as } ∧
      ∀ l ∈ ls, l.2.discarded = false → l.2.retiring = false → ∃ a ∈ as, a.launch = l.1 ∧ a.cause = code := by
  induction ls generalizing s with
  | nil => exact ⟨[], by simp, fun l hl => absurd hl List.not_mem_nil⟩
  | cons x r ih =>
    obtain ⟨as, has, hmem⟩ := ih (if x.2.discarded || x.2.retiring then s else postAbort s x.1 code detail)
    rw [List.foldl_cons, has]
    by_cases hx : (x.2.discarded || x.2.retiring) = true
    · rw [if_pos hx]
      refine ⟨as, rfl, fun l hl hd hr => ?_⟩
      rcases List.mem_cons.1 hl with rfl | hl
      · rw [hd, hr] at hx
        cases hx
      · exact hmem l hl hd hr
    · rw [if_neg hx]
      refine ⟨⟨x.1, code, detail, s.now⟩ :: as, ?_, fun l hl hd hr => ?_⟩
      · show ({ s with aborts := (s.aborts ++ [_]) ++ as } : State) = _
        rw [List.append_assoc]
        rfl
      · rcases List.mem_cons.1 hl with rfl | hl
        · exact ⟨_, List.mem_cons_self, rfl, rfl⟩
        · obtain ⟨a, ha, h⟩ := hmem l hl hd hr
          exact ⟨a, List.mem_cons_of_mem _ ha, h⟩

theorem linkPortFailure_runs (s : State) (p : Nat) (h : portLost s p = true) :
    Runs .linkPortFailure (.linkPortFailure p) s fun t =>
      (t.link p).peer = none ∧ ∀ l, l ∈ s.launches → edgeOn s p l.2 = true → l.2.discarded = false → l.2.retiring = false →
        ∃ a, a ∈ t.aborts ∧ a.launch = l.1 ∧ a.cause = 0x06 := by
  intro hev
  have he : ∃ d, execLinkPortFailure s = .next (((s.launches.filter fun l => edgeOn s p l.2 && !l.2.discarded && !l.2.retiring).foldl
      (fun s l => postAbort s l.1 0x06 d) s).modLink p fun x => { x with peer := none }) := by
    rw [execLinkPortFailure, hev]
    dsimp only
    rw [if_neg (by rw [h]; decide)]
    exact ⟨_, rfl⟩
  obtain ⟨d, he⟩ := he
  refine ⟨_, he, ?_, fun l hl hedge hd hr => ?_⟩
  · exact congrArg LinkPort.peer (link_modLink _ p fun x => { x with peer := none })
  · have hin : l ∈ s.launches.filter fun l => edgeOn s p l.2 && !l.2.discarded && !l.2.retiring := by simp [hl, hedge, hd, hr]
    exact mem_aborts_foldl_postAbort 0x06 d hin s

/-- A failed router aborts every live launch, and its image stops (R483). -/
theorem routerFailure_runs (s : State) (r : Nat) :
    Runs .routerFailure (.routerFailure r) s fun t =>
      (t.router r).stopped = true ∧ (s.mgmt.boot = .running → t.mgmt.boot = .dead) ∧
        ∀ l, l ∈ s.launches → l.2.discarded = false → l.2.retiring = false → ∃ a, a ∈ t.aborts ∧ a.launch = l.1 ∧ a.cause = 0x04 := by
  intro hev
  have he : execRouterFailure s = .next (abortAll (fieldOfCluster r) (needsReset (s.modRouter r fun x => { x with stopped := true }))) := by
    rw [execRouterFailure, hev]
  have hreset : ∃ m, needsReset (s.modRouter r fun x => { x with stopped := true }) = { s.modRouter r fun x => { x with stopped := true } with mgmt := m } ∧
      (s.mgmt.boot = .running → m.boot = .dead) := by
    unfold needsReset
    by_cases hb : s.mgmt.boot = .running
    · exact ⟨_, if_pos hb, fun _ => rfl⟩
    · exact ⟨s.mgmt, if_neg hb, fun h => absurd h hb⟩
  obtain ⟨m, hm, hdead⟩ := hreset
  refine ⟨_, he, ?_⟩
  dsimp only
  rw [hm]
  obtain ⟨as, has, hmem⟩ := foldl_postAbort 0x04 (BitVec.ofNat 32 (fieldOfCluster r)) s.launches
    { s.modRouter r fun x => { x with stopped := true } with mgmt := m }
  rw [show abortAll (fieldOfCluster r) { s.modRouter r fun x => { x with stopped := true } with mgmt := m } = _ from has]
  refine ⟨congrArg Router.stopped (router_modRouter s r fun x => { x with stopped := true }), hdead, fun l hl hd hr => ?_⟩
  obtain ⟨a, ha, h⟩ := hmem l hl hd hr
  exact ⟨a, List.mem_append_right _ ha, h⟩

theorem linkPortFails_runs (s : State) (p : Nat) (h : (s.link p).up = true) :
    Runs .linkPortFails (.linkPortFails p) s fun t => t.link p = { s.link p with up := false, since := s.now } := by
  intro hev
  have he : execLinkPortFails s = .next (s.modLink p fun x => if x.up then { x with up := false, since := s.now } else x) := by
    rw [execLinkPortFails, hev]
  exact ⟨_, he, (link_modLink s p _).trans (if_pos h)⟩

theorem linkPortRetrained_runs (s : State) (p : Nat) (h : (s.link p).peer.isSome = true) (hl : portLost s p = false) :
    Runs .linkPortRetrained (.linkPortRetrained p) s fun t => t.link p = { s.link p with up := true } := by
  intro hev
  have he : execLinkPortRetrained s = .next (s.modLink p fun x => if x.peer.isSome then { x with up := true } else x) := by
    rw [execLinkPortRetrained, hev]
    exact congrArg _ (if_neg (Bool.eq_false_iff.1 hl))
  exact ⟨_, he, (link_modLink s p _).trans (if_pos h)⟩

theorem linkCrcReplay_runs (s : State) (p : Nat) :
    Runs .linkCrcReplay (.linkCrcReplay p) s fun t => t = s.modLink p fun x => { x with replays := x.replays + 1 } := by
  intro hev
  have he : execLinkCrcReplay s = .next (s.modLink p fun x => { x with replays := x.replays + 1 }) := by rw [execLinkCrcReplay, hev]
  exact ⟨_, he, rfl⟩

/-! ### The debugger (R477 to R480) -/

theorem debugAccess_of_may {s : State} {c : Nat} {m : Master} {w wr : Bool} (h : debugMay s c m w wr) (yes : State → State) :
    debugAccess c wr m w yes s = yes s := by
  unfold debugAccess
  rcases h with hw | ⟨hb, hm, ha⟩
  · exact if_pos hw
  · cases w with
    | true => rfl
    | false =>
      dsimp only
      rw [if_neg (by decide), if_neg (by rw [hb]; decide), if_neg (not_not.2 hm)]
      exact checked_of_admitted ha _ _

/-- A write that the debugger may not make is a violation. -/
theorem debugAccess_refused {s : State} {c : Nat} {m : Master} (hb : barOpen s = true) (h : ¬ debugMay s c m false true) (yes : State → State) :
    debugAccess c true m false yes s = violate s 6 ((0x200000 + 32 * c) / 4096) m.cls m.part true := by
  unfold debugAccess
  dsimp only
  rw [if_neg (by decide), if_neg (by rw [hb]; decide)]
  by_cases hm : m.cls = 5
  · rw [if_neg (not_not.2 hm), hm]
    exact if_neg fun ha => h (.inr ⟨hb, hm, ha⟩)
  · rw [if_pos hm]
    rfl

theorem debugHalt_runs (s : State) (c : Nat) (h : haltDue s c = true) :
    Runs .debugHalt (.debugHalt c) s fun t => (t.core c).dbg.halted = true ∧ (t.core c).dbg.reason = .request := by
  intro hev
  have he : execDebugHalt s = .next (haltCore c .request s) := by
    rw [execDebugHalt, hev]
    exact congrArg _ (if_pos h)
  exact ⟨_, he, haltCore_dbg c .request s⟩

theorem stepEnd_runs (s : State) (c : Nat) (h : stepOver s c = true) :
    Runs .stepEnd (.stepEnd c) s fun t => (t.core c).dbg.halted = true ∧ (t.core c).dbg.reason = .stepEnded := by
  intro hev
  have he : execStepEnd s = .next (haltCore c .stepEnded s) := by
    rw [execStepEnd, hev]
    exact congrArg _ (if_pos h)
  exact ⟨_, he, haltCore_dbg c .stepEnded s⟩

theorem pc_resumeBank (k : Bank) (now : Nat) : (resumeBank k now).pc = k.iaddr := by
  unfold resumeBank Bank.startClock
  dsimp only
  split <;> split <;> rfl

/-- A core that goes on does so at IADDR of its running bank (R478, R480). -/
theorem resumeCore_spec (c : Nat) (step : Bool) {s : State} {b : Bool} (hb : (s.core c).running = some b) :
    ((resumeCore c step s).core c).dbg.halted = false ∧ ((resumeCore c step s).core c).dbg.stepping = step ∧
      (((resumeCore c step s).core c).bank b).pc = ((s.core c).bank b).iaddr := by
  unfold resumeCore
  rw [State.core_modCore, hb]
  refine ⟨rfl, rfl, ?_⟩
  cases b <;> exact pc_resumeBank _ _

theorem debugStep_runs (s : State) (c : Nat) (b : Bool) (m : Master) (w : Bool) (hm : debugMay s c m w true) (hd : (s.core c).dbg.den = true)
    (hh : (s.core c).dbg.halted = true) (hb : (s.core c).running = some b) :
    Runs .debugStep (.debugStep c m w) s fun t =>
      (t.core c).dbg.halted = false ∧ (t.core c).dbg.stepping = true ∧ ((t.core c).bank b).pc = ((s.core c).bank b).iaddr := by
  intro hev
  have he : execDebugStep s = .next (resumeCore c true s) := by
    rw [execDebugStep, hev]
    exact congrArg _ ((debugAccess_of_may hm _).trans (if_pos (by rw [hd, hh, hb]; rfl)))
  exact ⟨_, he, resumeCore_spec c true hb⟩

theorem debugRun_runs (s : State) (c : Nat) (b : Bool) (m : Master) (w : Bool) (hm : debugMay s c m w true) (hd : (s.core c).dbg.den = true)
    (hh : (s.core c).dbg.halted = true) (hb : (s.core c).running = some b) :
    Runs .debugRun (.debugRun c m w) s fun t =>
      (t.core c).dbg.halted = false ∧ (t.core c).dbg.stepping = false ∧ ((t.core c).bank b).pc = ((s.core c).bank b).iaddr := by
  intro hev
  have he : execDebugRun s = .next (resumeCore c false s) := by
    rw [execDebugRun, hev]
    exact congrArg _ ((debugAccess_of_may hm _).trans (if_pos (by rw [hd, hh]; rfl)))
  exact ⟨_, he, resumeCore_spec c false hb⟩

theorem dbgdataRead_runs (s : State) (c v : Nat) (m : Master) (w : Bool) (hm : debugMay s c m w false) (hh : (s.core c).dbg.halted = true) :
    Runs .dbgdataAccess (.dbgdataAccess c false v m w) s fun t =>
      t.mgmt.reads = s.mgmt.reads ++ [(readItem (atBank c (s.core c).dbg.abank s) (s.core c).dbg.item.toNat).toNat] := by
  intro hev
  have he : execDbgdataAccess s = .next (answer (if (s.core c).dbg.halted then
      (readItem (atBank c (s.core c).dbg.abank s) (s.core c).dbg.item.toNat).toNat else 0) s) := by
    rw [execDbgdataAccess, hev]
    exact congrArg _ (debugAccess_of_may hm _)
  refine ⟨_, he, ?_⟩
  rw [if_pos hh]
  rfl

theorem dbgdataWrite_runs (s : State) (c v : Nat) (m : Master) (w : Bool) (d : BitVec 5) (hm : debugMay s c m w true)
    (hh : (s.core c).dbg.halted = true) (hi : (s.core c).dbg.item.toNat = 0x400 + d.toNat) (hd : d ≠ 0) :
    Runs .dbgdataAccess (.dbgdataAccess c true v m w) s fun t =>
      ((t.core c).bank (s.core c).dbg.abank).rdS d = BitVec.ofNat 32 v := by
  intro hev
  have hlt := d.isLt
  have hreg : BitVec.ofNat 5 (0x400 + d.toNat) = d := by
    apply BitVec.eq_of_toNat_eq
    rw [BitVec.toNat_ofNat]
    omega
  have he : execDbgdataAccess s = .next ((atBank c (s.core c).dbg.abank s).modBank fun b => b.wrS d (BitVec.ofNat 32 v)) := by
    rw [execDbgdataAccess, hev]
    refine congrArg _ ((debugAccess_of_may hm _).trans ((if_pos rfl).trans ((if_pos hh).trans ?_)))
    rw [writeItem, hi, if_neg (by omega), if_neg (by omega), if_pos (by omega), hreg]
  refine ⟨_, he, ?_⟩
  have hbank : (((atBank c (s.core c).dbg.abank s).modBank fun b => b.wrS d (BitVec.ofNat 32 v)).core c).bank (s.core c).dbg.abank =
      ((s.core c).bank (s.core c).dbg.abank).wrS d (BitVec.ofNat 32 v) := State.bank_modBank (atBank c (s.core c).dbg.abank s) _
  dsimp only
  rw [hbank, Bank.rdS_wrS, if_pos ⟨rfl, hd⟩]

theorem dbgdataRefused_runs (s : State) (c v : Nat) (m : Master) (hb : barOpen s = true) (h : ¬ debugMay s c m false true) :
    Runs .dbgdataAccess (.dbgdataAccess c true v m false) s fun t => t = violate s 6 ((0x200000 + 32 * c) / 4096) m.cls m.part true := by
  intro hev
  refine ⟨_, ?_, rfl⟩
  show execDbgdataAccess s = _
  rw [execDbgdataAccess, hev]
  exact congrArg _ (debugAccess_refused hb h _)

/-- Settles O46. -/
theorem faultStepsComplete : Obligations.FaultStepsComplete :=
  ⟨tenantSwitch_hold_runs, tenantSwitch_fields_runs, homeTableRebuild_runs, clusterRetirement_runs, clusterFailure_runs, fieldLoss_runs,
    lostWith_iff, entriesIn_iff, correctableError_runs, freezeEnd_runs, uncorrectableError_runs, refreshWindow_runs, refreshWindowEnd_runs,
    linkPortFailure_runs, linkPortFails_runs, linkPortRetrained_runs, linkCrcReplay_runs, routerFailure_runs, debugHalt_runs, debugStep_runs,
    stepEnd_runs, debugRun_runs, dbgdataRead_runs, dbgdataWrite_runs, dbgdataRefused_runs⟩

end Sys2Proof.Machine
end

section

/-! PROOF. Rounding to a multiple of a step (R51): what `roundAt` makes of an exact magnitude, over the rationals. -/

namespace Sys2Proof.Machine
open Sys2Proof

/-- A magnitude of `n + δ` steps, `0 ≤ δ < 1`, is rounded away from zero (R51). -/
def RMode.Up (mode : RMode) (neg : Bool) (n : Nat) (δ : ℚ) : Prop :=
  match mode with
  | .rne => 1 / 2 < δ ∨ (δ = 1 / 2 ∧ n % 2 = 1)
  | .rna => 1 / 2 ≤ δ
  | .rtz => False
  | .rdn => neg = true ∧ δ ≠ 0
  | .rup => neg = false ∧ δ ≠ 0

/-- The magnitude `x` is rounded to `r` steps of length `g`: it lies `δ` steps beyond `n` of them. -/
structure Rounded (mode : RMode) (neg : Bool) (x g : ℚ) (r : Nat) (inexact : Bool) (n : Nat) (δ : ℚ) : Prop where
  nonneg : 0 ≤ δ
  lt_one : δ < 1
  split : x = (n + δ) * g
  steps : (r = n ∧ ¬ mode.Up neg n δ) ∨ (r = n + 1 ∧ mode.Up neg n δ)
  inexact_iff : inexact = true ↔ δ ≠ 0

theorem RMode.not_up_zero (mode : RMode) (neg : Bool) (n : Nat) : ¬ mode.Up neg n 0 := by
  cases mode <;> simp [RMode.Up]

theorem two_zpow_pos (e : ℤ) : (0 : ℚ) < 2 ^ e := zpow_pos (by norm_num) e

/-- A power of two split at an exponent. -/
theorem two_zpow_add (a b : ℤ) : (2 : ℚ) ^ (a + b) = 2 ^ a * 2 ^ b := zpow_add₀ (by norm_num) a b

theorem two_zpow_toNat {a : ℤ} (h : 0 ≤ a) : (2 : ℚ) ^ a = ((2 ^ a.toNat : Nat) : ℚ) := by
  rw [Nat.cast_pow, Nat.cast_ofNat, ← zpow_natCast, Int.toNat_of_nonneg h]

/-- The test of `roundAt` on the discarded part is `RMode.Up` on its share of a step. -/
theorem roundsUp_iff (mode : RMode) (neg : Bool) (n rem k : Nat) :
    roundsUp mode neg (decide (n % 2 = 1)) rem (2 ^ k) = true ↔ mode.Up neg n ((rem : ℚ) / 2 ^ (k + 1)) := by
  have hpos : (0 : ℚ) < 2 ^ (k + 1) := by positivity
  have hlt : (1 : ℚ) / 2 < (rem : ℚ) / 2 ^ (k + 1) ↔ 2 ^ k < rem := by
    rw [lt_div_iff₀ hpos, pow_succ, ← Nat.cast_lt (α := ℚ)]
    push_cast
    constructor <;> intro h <;> linarith
  have hle : (1 : ℚ) / 2 ≤ (rem : ℚ) / 2 ^ (k + 1) ↔ 2 ^ k ≤ rem := by
    rw [le_div_iff₀ hpos, pow_succ, ← Nat.cast_le (α := ℚ)]
    push_cast
    constructor <;> intro h <;> linarith
  have heq : (rem : ℚ) / 2 ^ (k + 1) = 1 / 2 ↔ rem = 2 ^ k := by
    rw [div_eq_iff hpos.ne', pow_succ, ← Nat.cast_inj (R := ℚ)]
    push_cast
    constructor <;> intro h <;> linarith
  have hne : (rem : ℚ) / 2 ^ (k + 1) ≠ 0 ↔ rem ≠ 0 := by simp [div_eq_zero_iff, hpos.ne']
  cases mode with
  | rne => simp only [roundsUp, RMode.Up, hlt, heq, Bool.or_eq_true, Bool.and_eq_true, decide_eq_true_eq]
  | rna => simp only [roundsUp, RMode.Up, hle, decide_eq_true_eq]
  | rtz => simp only [roundsUp, RMode.Up, Bool.false_eq_true]
  | rdn => simp only [roundsUp, RMode.Up, hne, Bool.and_eq_true, decide_eq_true_eq]
  | rup => simp only [roundsUp, RMode.Up, hne, Bool.and_eq_true, decide_eq_true_eq, Bool.not_eq_true']

/-- `roundAt` rounds `m · 2^e` to a multiple of `2^q`. -/
theorem roundAt_rounded (mode : RMode) (neg : Bool) (m : Nat) (e q : ℤ) :
    ∃ n δ, Rounded mode neg ((m : ℚ) * 2 ^ e) (2 ^ q) (roundAt mode neg m e q).1 (roundAt mode neg m e q).2 n δ := by
  unfold roundAt
  by_cases h : q ≤ e
  · rw [if_pos h]
    refine ⟨m * 2 ^ (e - q).toNat, 0, le_rfl, one_pos, ?_, .inl ⟨rfl, mode.not_up_zero neg _⟩, by simp⟩
    have he : (2 : ℚ) ^ e = 2 ^ (e - q) * 2 ^ q := by rw [← two_zpow_add, sub_add_cancel]
    rw [he, two_zpow_toNat (by omega)]
    push_cast
    ring
  · rw [if_neg h]
    obtain ⟨k, hk⟩ : ∃ k : Nat, (q - e).toNat = k + 1 := ⟨(q - e).toNat - 1, by omega⟩
    rw [hk]
    dsimp only
    rw [Nat.add_sub_cancel]
    have hpos : (0 : ℚ) < 2 ^ (k + 1) := by positivity
    refine ⟨m / 2 ^ (k + 1), ((m % 2 ^ (k + 1) : Nat) : ℚ) / 2 ^ (k + 1), by positivity, ?_, ?_, ?_, ?_⟩
    · rw [div_lt_one hpos]
      exact_mod_cast Nat.mod_lt m (by positivity)
    · have hq : (2 : ℚ) ^ q = 2 ^ (k + 1) * 2 ^ e := by
        rw [← zpow_natCast, ← two_zpow_add]
        congr 1
        push_cast
        omega
      have hm : (m : ℚ) = 2 ^ (k + 1) * ((m / 2 ^ (k + 1) : Nat) : ℚ) + ((m % 2 ^ (k + 1) : Nat) : ℚ) := by
        exact_mod_cast (Nat.div_add_mod m (2 ^ (k + 1))).symm
      rw [hq, add_mul, div_mul_eq_mul_div, mul_comm (((m % 2 ^ (k + 1) : Nat) : ℚ)), mul_assoc (2 ^ (k + 1) : ℚ),
        mul_div_cancel_left₀ _ hpos.ne']
      conv_lhs => rw [hm]
      ring
    · rw [← roundsUp_iff]
      split
      · next hup => exact .inr ⟨rfl, hup⟩
      · next hup => exact .inl ⟨rfl, hup⟩
    · simp [div_eq_zero_iff, hpos.ne']

section
variable {mode : RMode} {neg inexact : Bool} {x g : ℚ} {r n : Nat} {δ : ℚ} (h : Rounded mode neg x g r inexact n δ)
include h

theorem Rounded.le_of_steps : r ≤ n + 1 := by
  rcases h.steps with ⟨hr, -⟩ | ⟨hr, -⟩ <;> omega

theorem Rounded.le_steps : n ≤ r := by
  rcases h.steps with ⟨hr, -⟩ | ⟨hr, -⟩ <;> omega

theorem Rounded.below (hg : 0 < g) : (n : ℚ) * g ≤ x := by
  rw [h.split]
  exact mul_le_mul_of_nonneg_right (le_add_of_nonneg_right h.nonneg) hg.le

theorem Rounded.above (hg : 0 < g) : x < ((n + 1 : Nat) : ℚ) * g := by
  rw [h.split]
  refine mul_lt_mul_of_pos_right ?_ hg
  push_cast
  exact add_lt_add_right h.lt_one _

/-- The number of whole steps is at least that of a multiple that the magnitude reaches. -/
theorem Rounded.le_of_mul_le (hg : 0 < g) {j : Nat} (hj : (j : ℚ) * g ≤ x) : j ≤ n := by
  have := lt_of_mul_lt_mul_right (hj.trans_lt (h.above hg)) hg.le
  exact Nat.lt_succ_iff.1 (by exact_mod_cast this)

theorem Rounded.lt_of_lt_mul (hg : 0 < g) {j : Nat} (hj : x < (j : ℚ) * g) : n < j := by
  exact_mod_cast lt_of_mul_lt_mul_right ((h.below hg).trans_lt hj) hg.le

/-- The rounding is inexact where the rounded value differs. -/
theorem Rounded.inexact_iff_ne (hg : 0 < g) : inexact = true ↔ (r : ℚ) * g ≠ x := by
  rw [h.inexact_iff, h.split, not_iff_not, mul_left_inj' hg.ne']
  rcases h.steps with ⟨hr, -⟩ | ⟨hr, hup⟩
  · rw [hr]
    constructor <;> intro he <;> linarith
  · rw [hr]
    push_cast
    have h1 := h.lt_one
    constructor
    · intro he
      rw [he] at hup
      exact absurd hup (mode.not_up_zero neg n)
    · intro he
      linarith

end

end Sys2Proof.Machine
end

section

/-! PROOF. The patterns of a float format as numbers (R46), and which of them lie about an exact magnitude. -/

namespace Sys2Proof.Machine
open Sys2Proof

/-- A value is a whole number of at most `b + 1` bits, times a power of two no less than `2^lo`. -/
def OnGrid (b : Nat) (lo : ℤ) (w : ℚ) : Prop := ∃ (m : Nat) (e : ℤ), w = (m : ℚ) * 2 ^ e ∧ m < 2 ^ (b + 1) ∧ lo ≤ e

/-- No value of the grid lies strictly between the multiples of the step about `x`. -/
theorem Rounded.gap {mode : RMode} {neg inexact : Bool} {x : ℚ} {q : ℤ} {r n : Nat} {δ : ℚ} (h : Rounded mode neg x (2 ^ q) r inexact n δ) {b : Nat}
    {lo : ℤ} (hq : q = lo ∨ (2 : ℚ) ^ (q + b) ≤ x) {w : ℚ} (hw : OnGrid b lo w) : w ≤ n * 2 ^ q ∨ ((n + 1 : Nat) : ℚ) * 2 ^ q ≤ w := by
  obtain ⟨m, e, rfl, hm, he⟩ := hw
  have hg := two_zpow_pos q
  by_cases hqe : q ≤ e
  · have hsplit : (m : ℚ) * 2 ^ e = ((m * 2 ^ (e - q).toNat : Nat) : ℚ) * 2 ^ q := by
      rw [show e = (e - q) + q by ring, two_zpow_add, two_zpow_toNat (by omega), add_sub_cancel_right]
      push_cast
      ring
    rw [hsplit]
    rcases Nat.lt_or_ge n (m * 2 ^ (e - q).toNat) with hn | hn
    · exact .inr (mul_le_mul_of_nonneg_right (by exact_mod_cast hn) hg.le)
    · exact .inl (mul_le_mul_of_nonneg_right (by exact_mod_cast hn) hg.le)
  · refine .inl ?_
    have hx : (2 : ℚ) ^ (q + b) ≤ x := hq.resolve_left (by omega)
    have hn : 2 ^ b ≤ n := by
      refine h.le_of_mul_le hg ?_
      rw [add_comm, two_zpow_add] at hx
      exact_mod_cast hx
    calc (m : ℚ) * 2 ^ e ≤ 2 ^ (b + 1) * 2 ^ e := by
          refine mul_le_mul_of_nonneg_right ?_ (two_zpow_pos e).le
          exact_mod_cast hm.le
      _ = 2 ^ b * 2 ^ (e + 1) := by
          rw [two_zpow_add, pow_succ]
          ring
      _ ≤ 2 ^ b * 2 ^ q := by
          refine mul_le_mul_of_nonneg_left (zpow_le_zpow_right₀ (by norm_num) (by omega)) (by positivity)
      _ ≤ n * 2 ^ q := by
          refine mul_le_mul_of_nonneg_right ?_ hg.le
          exact_mod_cast hn

namespace FFmt
variable (t : FFmt)

theorem mb_pos : 0 < t.mb := by cases t <;> decide
theorem one_lt_emaxField : 1 < t.emaxField := by cases t <;> decide

/-- The least exponent of a format's patterns. -/
def lowExp : ℤ := 1 - (t.bias : ℤ) - t.mb

theorem sign_eq (neg : Bool) : t.sign neg = neg.toNat * 2 ^ (t.eb + t.mb) := by
  cases neg
  · exact (Nat.zero_mul _).symm
  · exact (Nat.one_mul _).symm

theorem code_div_lt {c : Nat} (hc : c < t.emaxField * 2 ^ t.mb) : c / 2 ^ t.mb < t.emaxField := Nat.div_lt_of_lt_mul (by rwa [mul_comm])

/-- A code below that of the infinity, with a sign, decodes to a finite value. -/
theorem decode_sign_add (neg : Bool) {c : Nat} (hc : c < t.emaxField * 2 ^ t.mb) : t.decode (t.sign neg + c) =
    if c / 2 ^ t.mb = 0 then .fin neg (c % 2 ^ t.mb) t.lowExp
    else .fin neg (2 ^ t.mb + c % 2 ^ t.mb) ((c / 2 ^ t.mb : Nat) - (t.bias : ℤ) - t.mb) := by
  have hdiv := t.code_div_lt hc
  have hlt : c / 2 ^ t.mb < 2 ^ t.eb := hdiv.trans (Nat.sub_lt (by positivity) one_pos)
  have hv : t.sign neg + c = c + neg.toNat * 2 ^ t.eb * 2 ^ t.mb := by rw [sign_eq, pow_add, Nat.mul_assoc, Nat.add_comm]
  have hmod : (t.sign neg + c) % 2 ^ t.mb = c % 2 ^ t.mb := by rw [hv, Nat.add_mul_mod_self_right]
  have hexp : (t.sign neg + c) / 2 ^ t.mb % 2 ^ t.eb = c / 2 ^ t.mb := by
    rw [hv, Nat.add_mul_div_right _ _ (by positivity), Nat.add_mul_mod_self_right, Nat.mod_eq_of_lt hlt]
  have hneg : ((t.sign neg + c) / 2 ^ (t.eb + t.mb) % 2 = 1) ↔ neg = true := by
    rw [sign_eq, Nat.add_comm, Nat.add_mul_div_right _ _ (by positivity), Nat.div_eq_of_lt (hc.trans t.infCode_lt)]
    cases neg <;> decide
  unfold decode
  dsimp only
  rw [hmod, hexp, if_neg hdiv.ne]
  simp only [hneg, Bool.decide_eq_true]
  rfl

/-- The value of the code of `r` steps of `2^k` above the least exponent. -/
theorem rat_decode_code (neg : Bool) {k r : Nat} (hr : r ≤ 2 ^ (t.mb + 1)) (hk : k = 0 ∨ 2 ^ t.mb ≤ r)
    (hc : k * 2 ^ t.mb + r < t.emaxField * 2 ^ t.mb) : ∃ m e, t.decode (t.sign neg + (k * 2 ^ t.mb + r)) = .fin neg m e ∧
      (m : ℚ) * 2 ^ e = (r : ℚ) * 2 ^ ((k : ℤ) + t.lowExp) := by
  have hpos : 0 < 2 ^ t.mb := by positivity
  rw [t.decode_sign_add neg hc]
  have hsucc : 2 ^ (t.mb + 1) = 2 ^ t.mb + 2 ^ t.mb := by ring
  rcases Nat.lt_or_ge r (2 ^ t.mb) with hlt | hge
  · have hk0 : k = 0 := hk.resolve_right (Nat.not_le.2 hlt)
    subst hk0
    rw [Nat.zero_mul, Nat.zero_add, Nat.div_eq_of_lt hlt, if_pos rfl, Nat.mod_eq_of_lt hlt]
    exact ⟨_, _, rfl, by rw [Nat.cast_zero, zero_add]⟩
  rcases Nat.lt_or_ge r (2 ^ (t.mb + 1)) with hlt | htop
  · have hcode : k * 2 ^ t.mb + r = (r - 2 ^ t.mb) + (k + 1) * 2 ^ t.mb := by
      rw [Nat.add_mul]
      omega
    have hrest : r - 2 ^ t.mb < 2 ^ t.mb := by omega
    rw [hcode, Nat.add_mul_div_right _ _ hpos, Nat.add_mul_mod_self_right, Nat.div_eq_of_lt hrest, Nat.mod_eq_of_lt hrest, Nat.zero_add,
      if_neg (Nat.succ_ne_zero k), Nat.add_sub_cancel' hge]
    refine ⟨_, _, rfl, ?_⟩
    rw [lowExp]
    congr 2
    push_cast
    ring
  · obtain rfl : r = 2 ^ (t.mb + 1) := le_antisymm hr htop
    have hcode : k * 2 ^ t.mb + 2 ^ (t.mb + 1) = 0 + (k + 2) * 2 ^ t.mb := by ring
    rw [hcode, Nat.add_mul_div_right _ _ hpos, Nat.add_mul_mod_self_right, Nat.zero_div, Nat.zero_mod, Nat.zero_add,
      if_neg (Nat.succ_ne_zero _), Nat.add_zero]
    refine ⟨_, _, rfl, ?_⟩
    rw [lowExp, show ((k + 2 : Nat) : ℤ) - t.bias - t.mb = 1 + ((k : ℤ) + (1 - t.bias - t.mb)) by push_cast; ring, two_zpow_add 1]
    push_cast
    ring

/-- The magnitude of every finite pattern is on the grid of its format. -/
theorem onGrid_decode {p : Nat} (hf : (t.decode p).isFin = true) : OnGrid t.mb t.lowExp |(t.decode p).rat| := by
  have habs : ∀ (neg : Bool) (m : Nat) (e : ℤ), |FVal.rat (.fin neg m e)| = (m : ℚ) * 2 ^ e := by
    intro neg m e
    have hn : (0 : ℚ) ≤ (m : ℚ) * 2 ^ e := by positivity
    cases neg
    · rw [FVal.rat, if_neg Bool.false_ne_true, one_mul, abs_of_nonneg hn]
    · rw [FVal.rat, if_pos rfl, mul_assoc, neg_one_mul, abs_neg, abs_of_nonneg hn]
  have hmod : p % 2 ^ t.mb < 2 ^ t.mb := Nat.mod_lt _ (by positivity)
  have hsucc : 2 ^ (t.mb + 1) = 2 ^ t.mb + 2 ^ t.mb := by ring
  unfold decode at hf ⊢
  dsimp only at hf ⊢
  split at hf
  · split at hf <;> cases hf
  next he =>
    rw [if_neg he]
    split
    · rw [habs]
      exact ⟨_, _, rfl, by omega, le_rfl⟩
    next h0 =>
      rw [habs]
      refine ⟨_, _, rfl, by omega, ?_⟩
      rw [lowExp]
      omega

end FFmt

end Sys2Proof.Machine
end

section

/-! PROOF. One rounding of an exact magnitude to a float format (R51, R54, R56, R57): overflow, underflow, and the pattern that the mode takes. -/

namespace Sys2Proof.Machine
open Sys2Proof

/-! ### The limits that a rounding reaches -/

/-- The exponent of the leading bit brackets a magnitude. -/
theorem leadExp_bounds {m : Nat} (hm : m ≠ 0) (e : ℤ) : (2 : ℚ) ^ leadExp m e ≤ (m : ℚ) * 2 ^ e ∧ (m : ℚ) * 2 ^ e < 2 ^ (leadExp m e + 1) := by
  have hlead : leadExp m e = (Nat.log2 m : ℤ) + e := by
    rw [leadExp, bitLen, if_neg hm]
    push_cast
    ring
  have hlo : 2 ^ Nat.log2 m ≤ m := Nat.log2_self_le hm
  have hhi : m < 2 ^ (Nat.log2 m + 1) := Nat.lt_log2_self
  rw [hlead, add_right_comm, two_zpow_add, two_zpow_add (_ + 1)]
  refine ⟨mul_le_mul_of_nonneg_right ?_ (two_zpow_pos e).le, mul_lt_mul_of_pos_right ?_ (two_zpow_pos e)⟩
  · exact_mod_cast hlo
  · exact_mod_cast hhi

/-- A magnitude beyond the limit has reached it. -/
theorem RMode.reaches_of_le (mode : RMode) (neg : Bool) {x l g : ℚ} (hg : 0 < g) (h : l ≤ x) : mode.Reaches neg x l g := by
  cases mode <;> cases neg <;> simp only [RMode.Reaches] <;> linarith

/-- A magnitude that a whole step keeps from the limit does not reach it. -/
theorem RMode.not_reaches_of_lt (mode : RMode) (neg : Bool) {x l g : ℚ} (hg : 0 < g) (h : x < l - g) : ¬ mode.Reaches neg x l g := by
  cases mode <;> cases neg <;> simp only [RMode.Reaches, not_le, not_lt] <;> linarith

/-- Less than a step below the limit, the mode decides (R51); the step below is odd. -/
theorem RMode.reaches_iff_up (mode : RMode) (neg : Bool) {g δ : ℚ} {n : Nat} (hg : 0 < g) (h0 : 0 ≤ δ) (h1 : δ < 1) (hn : n % 2 = 1) :
    mode.Reaches neg ((n + δ) * g) (((n + 1 : Nat) : ℚ) * g) g ↔ mode.Up neg n δ := by
  have hl : (((n + 1 : Nat) : ℚ)) * g = n * g + g := by
    push_cast
    ring
  have hx : ((n : ℚ) + δ) * g = n * g + δ * g := by ring
  have hhalf : n * g + g - g / 2 ≤ n * g + δ * g ↔ 1 / 2 ≤ δ := by
    constructor <;> intro h <;> nlinarith
  have hnot : ¬ n * g + g ≤ n * g + δ * g := by nlinarith
  have hpos : n * g + g - g < n * g + δ * g ↔ δ ≠ 0 := by
    constructor
    · intro h hz
      rw [hz] at h
      linarith
    · intro h
      have := mul_pos (lt_of_le_of_ne h0 (Ne.symm h)) hg
      linarith
  have htie : (1 / 2 < δ ∨ δ = 1 / 2 ∧ n % 2 = 1) ↔ 1 / 2 ≤ δ := by
    rw [and_iff_left hn, le_iff_lt_or_eq, eq_comm]
  rw [hl, hx]
  cases mode <;> cases neg <;> simp only [RMode.Reaches, RMode.Up, hhalf, hnot, hpos, htie] <;> simp

/-- The rounded magnitude is at least `2^(i + 1)` just where the magnitude reaches that limit; below it the step is the one of its binade. -/
theorem Rounded.reaches_iff {mode : RMode} {neg inexact : Bool} {x : ℚ} {q i : ℤ} {r n b : Nat} {δ : ℚ}
    (h : Rounded mode neg x (2 ^ q) r inexact n δ) (hlow : x < 2 ^ (i + 1) → q ≤ i - b) (htop : (2 : ℚ) ^ i ≤ x → x < 2 ^ (i + 1) → q = i - b)
    (hbig : (2 : ℚ) ^ (i + 1) ≤ x → (2 : ℚ) ^ (i + 1) ≤ n * 2 ^ q) :
    (2 : ℚ) ^ (i + 1) ≤ r * 2 ^ q ↔ mode.Reaches neg x (2 ^ (i + 1)) (2 ^ (i - b)) := by
  have hg := two_zpow_pos q
  have hG := two_zpow_pos (i - b)
  rcases lt_or_ge x ((2 : ℚ) ^ (i + 1)) with hx | hx
  · have hq := hlow hx
    have hl : (2 : ℚ) ^ (i + 1) = ((2 ^ (i + 1 - q).toNat : Nat) : ℚ) * 2 ^ q := by
      rw [← two_zpow_toNat (by omega), ← two_zpow_add, sub_add_cancel]
    have hstep : (2 : ℚ) ^ (i - b) = ((2 ^ (i - b - q).toNat : Nat) : ℚ) * 2 ^ q := by
      rw [← two_zpow_toNat (by omega), ← two_zpow_add, sub_add_cancel]
    have hle : (2 : ℚ) ^ (i + 1) ≤ r * 2 ^ q ↔ 2 ^ (i + 1 - q).toNat ≤ r := by
      rw [hl, mul_le_mul_iff_left₀ hg, Nat.cast_le]
    rw [hle]
    rcases lt_or_ge x ((2 : ℚ) ^ (i + 1) - 2 ^ (i - b)) with hlt | hge
    · refine iff_of_false ?_ (mode.not_reaches_of_lt neg hG hlt)
      have hj : 1 ≤ 2 ^ (i - b - q).toNat := Nat.one_le_two_pow
      have hjl : 2 ^ (i - b - q).toNat ≤ 2 ^ (i + 1 - q).toNat := Nat.pow_le_pow_right (by decide) (by omega)
      have hn : n < 2 ^ (i + 1 - q).toNat - 2 ^ (i - b - q).toNat := by
        refine h.lt_of_lt_mul hg ?_
        rw [Nat.cast_sub hjl, sub_mul, ← hl, ← hstep]
        exact hlt
      have hr := h.le_of_steps
      omega
    · have hhalf : (2 : ℚ) ^ i ≤ x := by
        have hb : (2 : ℚ) ^ (i - b) ≤ 2 ^ i := zpow_le_zpow_right₀ (by norm_num) (by omega)
        have htwo : (2 : ℚ) ^ (i + 1) = 2 ^ i * 2 := by rw [two_zpow_add, zpow_one]
        linarith
      obtain rfl := htop hhalf hx
      have hK : i + 1 - (i - b) = ((b + 1 : Nat) : ℤ) := by
        push_cast
        ring
      rw [hK, Int.toNat_natCast] at hl ⊢
      have hn1 : n < 2 ^ (b + 1) := h.lt_of_lt_mul hg (hl ▸ hx)
      have hn2 : 2 ^ (b + 1) - 1 ≤ n := by
        refine h.le_of_mul_le hg ?_
        rw [Nat.cast_sub Nat.one_le_two_pow, sub_mul, ← hl, Nat.cast_one, one_mul]
        exact hge
      have hnb : n + 1 = 2 ^ (b + 1) := by omega
      have hodd : n % 2 = 1 := by
        rw [pow_succ] at hnb
        omega
      rw [hl, ← hnb, h.split, mode.reaches_iff_up neg hg h.nonneg h.lt_one hodd]
      rcases h.steps with ⟨hr, hup⟩ | ⟨hr, hup⟩
      · exact iff_of_false (by omega) hup
      · exact iff_of_true hr.ge hup
  · refine iff_of_true ((hbig hx).trans (mul_le_mul_of_nonneg_right ?_ hg.le)) (mode.reaches_of_le neg hG hx)
    exact_mod_cast h.le_steps

/-! ### The value that a mode takes -/

/-- What a mode asks of the magnitude `v` that it takes for `x`, against another value `w` of the format with the sign of `x` turned to plus. -/
def RMode.Takes (mode : RMode) (neg : Bool) (x v w : ℚ) (even : Prop) : Prop :=
  match mode with
  | .rne => |x - v| ≤ |x - w| ∧ (|x - v| = |x - w| → v ≠ w → even)
  | .rna => |x - v| ≤ |x - w| ∧ (|x - v| = |x - w| → v ≠ w → |w| < |v|)
  | .rtz => v ≤ x ∧ (|w| ≤ x → |w| ≤ v)
  | .rdn => if neg then x ≤ v ∧ (x ≤ w → v ≤ w) else v ≤ x ∧ (w ≤ x → w ≤ v)
  | .rup => if neg then v ≤ x ∧ (w ≤ x → w ≤ v) else x ≤ v ∧ (x ≤ w → v ≤ w)

/-- What a mode asks where the magnitude is cut down to the multiple below. -/
theorem RMode.takes_down (mode : RMode) (neg : Bool) {n : Nat} {g δ w : ℚ} (hg : 0 < g) (h0 : 0 ≤ δ) (hup : ¬ mode.Up neg n δ)
    (hw : w ≤ n * g ∨ n * g + g ≤ w) (haw : |w| ≤ n * g ∨ n * g + g ≤ |w|) (h1 : δ < 1) :
    mode.Takes neg (n * g + δ * g) (n * g) w (n % 2 = 0) := by
  have hd0 : 0 ≤ δ * g := mul_nonneg h0 hg.le
  have hd1 : δ * g < g := by nlinarith
  have hv : |(n : ℚ) * g + δ * g - n * g| = δ * g := by rw [add_sub_cancel_left, abs_of_nonneg hd0]
  have hfar : (w ≤ n * g → |(n : ℚ) * g + δ * g - w| = n * g + δ * g - w) ∧ (n * g + g ≤ w → |(n : ℚ) * g + δ * g - w| = w - (n * g + δ * g)) :=
    ⟨fun h => abs_of_nonneg (by linarith), fun h => by rw [abs_sub_comm]; exact abs_of_nonneg (by linarith)⟩
  have hzero : ¬ δ ≠ 0 → δ * g = 0 := fun h => by rw [not_not.1 h, zero_mul]
  cases mode with
  | rne =>
    obtain ⟨hle, htie⟩ := not_or.1 hup
    have hhalf : δ * g ≤ g / 2 := by nlinarith [not_lt.1 hle]
    rw [RMode.Takes, hv]
    rcases hw with hw | hw
    · rw [hfar.1 hw]
      exact ⟨by linarith, fun h hne => absurd (by linarith) hne⟩
    · rw [hfar.2 hw]
      refine ⟨by linarith, fun h _ => ?_⟩
      have hδ : δ = 1 / 2 := by
        have : δ * g = 1 / 2 * g := by linarith
        exact mul_right_cancel₀ hg.ne' this
      exact Nat.mod_two_ne_one.1 fun ho => htie ⟨hδ, ho⟩
  | rna =>
    have hhalf : δ * g < g / 2 := by nlinarith [not_le.1 hup]
    rw [RMode.Takes, hv]
    rcases hw with hw | hw
    · rw [hfar.1 hw]
      exact ⟨by linarith, fun h hne => absurd (by linarith) hne⟩
    · rw [hfar.2 hw]
      exact ⟨by linarith, fun h _ => by linarith⟩
  | rtz => exact ⟨by linarith, fun h => haw.resolve_right (by linarith)⟩
  | rdn =>
    rw [RMode.Takes]
    cases neg with
    | true =>
      have hz := hzero fun h => hup ⟨rfl, h⟩
      rw [if_pos rfl, hz, add_zero]
      exact ⟨le_rfl, id⟩
    | false => exact ⟨by linarith, fun h => hw.resolve_right (by linarith)⟩
  | rup =>
    rw [RMode.Takes]
    cases neg with
    | true => exact ⟨by linarith, fun h => hw.resolve_right (by linarith)⟩
    | false =>
      have hz := hzero fun h => hup ⟨rfl, h⟩
      rw [if_neg Bool.false_ne_true, hz, add_zero]
      exact ⟨le_rfl, id⟩

/-- What a mode asks where the magnitude goes up to the multiple above. -/
theorem RMode.takes_up (mode : RMode) (neg : Bool) {n : Nat} {g δ w : ℚ} (hg : 0 < g) (h1 : δ < 1) (hup : mode.Up neg n δ)
    (hw : w ≤ n * g ∨ n * g + g ≤ w) (h0 : 0 ≤ δ) :
    mode.Takes neg (n * g + δ * g) (n * g + g) w ((n + 1) % 2 = 0) := by
  have hn : (0 : ℚ) ≤ n * g := by positivity
  have hd0 : 0 ≤ δ * g := mul_nonneg h0 hg.le
  have hd1 : δ * g < g := by nlinarith
  have hv : |(n : ℚ) * g + δ * g - (n * g + g)| = g - δ * g := by
    rw [abs_sub_comm, add_sub_add_left_eq_sub]
    exact abs_of_nonneg (by linarith)
  have hfar : (w ≤ n * g → |(n : ℚ) * g + δ * g - w| = n * g + δ * g - w) ∧ (n * g + g ≤ w → |(n : ℚ) * g + δ * g - w| = w - (n * g + δ * g)) :=
    ⟨fun h => abs_of_nonneg (by linarith), fun h => by rw [abs_sub_comm]; exact abs_of_nonneg (by linarith)⟩
  have hpos : δ ≠ 0 → 0 < δ * g := fun h => mul_pos (lt_of_le_of_ne h0 (Ne.symm h)) hg
  cases mode with
  | rne =>
    have hhalf : g / 2 ≤ δ * g := by
      rcases hup with h | ⟨h, -⟩
      · nlinarith
      · rw [h]
        linarith
    rw [RMode.Takes, hv]
    rcases hw with hw | hw
    · rw [hfar.1 hw]
      refine ⟨by linarith, fun h _ => ?_⟩
      have hδ : ¬ 1 / 2 < δ := fun hlt => by nlinarith
      have hodd := (hup.resolve_left hδ).2
      omega
    · rw [hfar.2 hw]
      exact ⟨by linarith, fun h hne => absurd (by linarith) hne⟩
  | rna =>
    have hhalf : g / 2 ≤ δ * g := by
      have : 1 / 2 ≤ δ := hup
      nlinarith
    rw [RMode.Takes, hv]
    rcases hw with hw | hw
    · rw [hfar.1 hw]
      refine ⟨by linarith, fun h _ => ?_⟩
      have hwn : w = n * g := by linarith
      rw [hwn, abs_of_nonneg hn, abs_of_nonneg (by linarith)]
      linarith
    · rw [hfar.2 hw]
      exact ⟨by linarith, fun h hne => absurd (by linarith) hne⟩
  | rtz => exact hup.elim
  | rdn =>
    obtain ⟨rfl, hδ⟩ := hup
    have := hpos hδ
    exact ⟨by linarith, fun h => hw.resolve_left (by linarith)⟩
  | rup =>
    obtain ⟨rfl, hδ⟩ := hup
    have := hpos hδ
    exact ⟨by linarith, fun h => hw.resolve_left (by linarith)⟩

theorem Rounded.takes {mode : RMode} {neg inexact : Bool} {x g : ℚ} {r n : Nat} {δ : ℚ} (h : Rounded mode neg x g r inexact n δ) (hg : 0 < g) {w : ℚ}
    (hw : w ≤ n * g ∨ ((n + 1 : Nat) : ℚ) * g ≤ w) (haw : |w| ≤ n * g ∨ ((n + 1 : Nat) : ℚ) * g ≤ |w|) :
    mode.Takes neg x (r * g) w (r % 2 = 0) := by
  have hsucc : ((n + 1 : Nat) : ℚ) * g = n * g + g := by
    push_cast
    ring
  rw [hsucc] at hw haw
  rw [h.split, add_mul]
  rcases h.steps with ⟨hr, hup⟩ | ⟨hr, hup⟩
  · rw [hr]
    exact mode.takes_down neg hg h.nonneg hup hw haw h.lt_one
  · rw [hr, hsucc]
    exact mode.takes_up neg hg h.lt_one hup hw h.nonneg

/-! ### The code of a rounded magnitude -/

namespace FFmt
variable (t : FFmt)

/-- The exponent of the step to which a magnitude is rounded. -/
def stepExp (m : Nat) (e : ℤ) : ℤ := max (leadExp m e - t.mb) t.lowExp

theorem roundCode_eq (mode : RMode) (neg : Bool) (m : Nat) (e : ℤ) : roundCode t.mb (1 - (t.bias : ℤ)) mode neg m e =
    ((t.stepExp m e - t.lowExp).toNat * 2 ^ t.mb + (roundAt mode neg m e (t.stepExp m e)).1, (roundAt mode neg m e (t.stepExp m e)).2,
      decide (leadExp (roundAt mode neg m e (leadExp m e - t.mb)).1 (leadExp m e - t.mb) < 1 - (t.bias : ℤ))) := rfl

theorem stepExp_cases (m : Nat) (e : ℤ) : t.stepExp m e = t.lowExp ∨ t.stepExp m e + t.mb = leadExp m e := by
  rw [stepExp]
  omega

/-- A code reaches that of the infinity just where its value reaches the limit of the format. -/
theorem infCode_le_iff {k r : Nat} (hr : r ≤ 2 ^ (t.mb + 1)) (hk : k = 0 ∨ 2 ^ t.mb ≤ r) :
    t.emaxField * 2 ^ t.mb ≤ k * 2 ^ t.mb + r ↔ (2 : ℚ) ^ ((t.emaxField : ℤ) - 1 - t.bias + 1) ≤ (r : ℚ) * 2 ^ ((k : ℤ) + t.lowExp) := by
  obtain ⟨d, hd⟩ : ∃ d, t.emaxField = d + 2 := ⟨t.emaxField - 2, by have := t.one_lt_emaxField; omega⟩
  have hpos : 0 < 2 ^ t.mb := by positivity
  have hsucc : 2 ^ (t.mb + 1) = 2 ^ t.mb * 2 := pow_succ _ _
  have hval : (2 : ℚ) ^ ((t.emaxField : ℤ) - 1 - t.bias + 1) ≤ (r : ℚ) * 2 ^ ((k : ℤ) + t.lowExp) ↔ 2 ^ t.mb * 2 ^ (d + 1) ≤ r * 2 ^ k := by
    have hl : (2 : ℚ) ^ ((t.emaxField : ℤ) - 1 - t.bias + 1) = ((2 ^ t.mb * 2 ^ (d + 1) : Nat) : ℚ) * 2 ^ t.lowExp := by
      push_cast
      rw [← zpow_natCast, ← zpow_natCast, ← two_zpow_add, ← two_zpow_add, hd, lowExp]
      congr 1
      push_cast
      ring
    have hr' : (r : ℚ) * 2 ^ ((k : ℤ) + t.lowExp) = ((r * 2 ^ k : Nat) : ℚ) * 2 ^ t.lowExp := by
      rw [two_zpow_add, zpow_natCast]
      push_cast
      ring
    rw [hl, hr', mul_le_mul_iff_left₀ (two_zpow_pos _), Nat.cast_le]
  rw [hval, hd]
  rcases Nat.lt_or_ge k (d + 1) with hlt | hge
  · have hstep : 2 ^ k * 2 ≤ 2 ^ (d + 1) := by
      rw [← pow_succ]
      exact Nat.pow_le_pow_right (by decide) hlt
    have hk2 : k * 2 ^ t.mb ≤ d * 2 ^ t.mb := Nat.mul_le_mul_right _ (Nat.lt_succ_iff.1 hlt)
    have hcode : (d + 2) * 2 ^ t.mb = d * 2 ^ t.mb + 2 ^ (t.mb + 1) := by
      rw [hsucc]
      ring
    have hlim : 2 ^ t.mb * 2 ^ (d + 1) = 2 ^ (t.mb + 1) * 2 ^ d := by ring
    rw [hcode, hlim]
    constructor
    · intro h
      have hd' : d * 2 ^ t.mb ≤ k * 2 ^ t.mb := by omega
      have hdk : d = k := le_antisymm (Nat.le_of_mul_le_mul_right hd' hpos) (Nat.lt_succ_iff.1 hlt)
      subst hdk
      exact Nat.mul_le_mul_right _ (by omega)
    · intro h
      have hr0 : r = 2 ^ (t.mb + 1) := by
        by_contra hne
        have hkd : 2 ^ k ≤ 2 ^ d := Nat.pow_le_pow_right (by decide) (Nat.lt_succ_iff.1 hlt)
        have : r * 2 ^ k < 2 ^ (t.mb + 1) * 2 ^ d :=
          (Nat.mul_lt_mul_of_pos_right (lt_of_le_of_ne hr hne) (by positivity)).trans_le (Nat.mul_le_mul_left _ hkd)
        omega
      rw [hr0] at h ⊢
      have hdk : d ≤ k := by
        by_contra hlt'
        have : 2 ^ k < 2 ^ d := Nat.pow_lt_pow_right (by decide) (Nat.not_le.1 hlt')
        exact absurd (Nat.le_of_mul_le_mul_left h (by positivity)) (Nat.not_le.2 this)
      exact Nat.add_le_add_right (Nat.mul_le_mul_right _ hdk) _
  · have hstep : 2 ^ (d + 1) ≤ 2 ^ k := Nat.pow_le_pow_right (by decide) hge
    have hr1 : 2 ^ t.mb ≤ r := hk.resolve_left (by omega)
    refine iff_of_true ?_ (Nat.mul_le_mul hr1 hstep)
    calc (d + 2) * 2 ^ t.mb = (d + 1) * 2 ^ t.mb + 2 ^ t.mb := by ring
      _ ≤ k * 2 ^ t.mb + r := Nat.add_le_add (Nat.mul_le_mul_right _ hge) hr1

section
variable {mode : RMode} {neg : Bool} {m : Nat} {e : ℤ}

/-- The code of a rounded magnitude has at most one bit more than the format, and all of them above the subnormal range. -/
theorem code_bounds {inexact : Bool} {r n : Nat} {δ : ℚ} (hm : m ≠ 0)
    (h : Rounded mode neg ((m : ℚ) * 2 ^ e) (2 ^ t.stepExp m e) r inexact n δ) :
    r ≤ 2 ^ (t.mb + 1) ∧ ((t.stepExp m e - t.lowExp).toNat = 0 ∨ 2 ^ t.mb ≤ r) := by
  obtain ⟨hlo, hhi⟩ := leadExp_bounds hm e
  have hg := two_zpow_pos (t.stepExp m e)
  have hn : n < 2 ^ (t.mb + 1) := by
    refine h.lt_of_lt_mul hg (hhi.trans_le ?_)
    rw [Nat.cast_pow, Nat.cast_ofNat, ← zpow_natCast, ← two_zpow_add]
    refine zpow_le_zpow_right₀ (by norm_num) ?_
    have : leadExp m e - t.mb ≤ t.stepExp m e := le_max_left _ _
    push_cast
    omega
  refine ⟨h.le_of_steps.trans hn, (t.stepExp_cases m e).imp (fun h => by rw [h, sub_self]; rfl) fun hq => le_trans ?_ h.le_steps⟩
  refine h.le_of_mul_le hg ?_
  rw [Nat.cast_pow, Nat.cast_ofNat, ← zpow_natCast, ← two_zpow_add, add_comm, hq]
  exact hlo

end

end FFmt

end Sys2Proof.Machine
end

section

/-! PROOF. The rounding of a finite value to a float format is the one rounding of R51 and R56. -/

namespace Sys2Proof.Machine
open Sys2Proof

/-- A power of two lies at or below a magnitude just where its exponent does. -/
theorem two_zpow_le_iff {m : Nat} (hm : m ≠ 0) (e i : ℤ) : (2 : ℚ) ^ i ≤ (m : ℚ) * 2 ^ e ↔ i ≤ leadExp m e := by
  obtain ⟨hlo, hhi⟩ := leadExp_bounds hm e
  constructor
  · intro h
    exact Int.lt_add_one_iff.1 ((zpow_lt_zpow_iff_right₀ (by norm_num)).1 (h.trans_lt hhi))
  · intro h
    exact (zpow_le_zpow_right₀ (by norm_num) h).trans hlo

/-- `Rounded.reaches_iff` for a step within the binade of the magnitude, or below the binade of the limit. -/
theorem Rounded.reaches_iff_lead {mode : RMode} {neg inexact : Bool} {m r n b : Nat} {e q i : ℤ} {δ : ℚ} (hm : m ≠ 0)
    (h : Rounded mode neg ((m : ℚ) * 2 ^ e) (2 ^ q) r inexact n δ) (hq : leadExp m e - b ≤ q) (hqi : q = leadExp m e - b ∨ q ≤ i - b) :
    (2 : ℚ) ^ (i + 1) ≤ r * 2 ^ q ↔ mode.Reaches neg ((m : ℚ) * 2 ^ e) (2 ^ (i + 1)) (2 ^ (i - b)) := by
  refine h.reaches_iff (fun hx => ?_) (fun hi hx => ?_) fun hx => ?_
  · have := mt (two_zpow_le_iff hm e (i + 1)).2 (not_le.2 hx)
    omega
  · have h1 := mt (two_zpow_le_iff hm e (i + 1)).2 (not_le.2 hx)
    have h2 := (two_zpow_le_iff hm e i).1 hi
    omega
  · have hlead := (two_zpow_le_iff hm e (i + 1)).1 hx
    obtain rfl := hqi.resolve_right (by omega)
    have hb : ((2 ^ b : Nat) : ℚ) * 2 ^ (leadExp m e - b) = 2 ^ leadExp m e := by
      rw [Nat.cast_pow, Nat.cast_ofNat, ← zpow_natCast, ← two_zpow_add, add_sub_cancel]
    have hn : 2 ^ b ≤ n := h.le_of_mul_le (two_zpow_pos _) (hb ▸ (leadExp_bounds hm e).1)
    calc (2 : ℚ) ^ (i + 1) ≤ 2 ^ leadExp m e := zpow_le_zpow_right₀ (by norm_num) hlead
      _ = ((2 ^ b : Nat) : ℚ) * 2 ^ (leadExp m e - b) := hb.symm
      _ ≤ n * 2 ^ (leadExp m e - b) := mul_le_mul_of_nonneg_right (by exact_mod_cast hn) (two_zpow_pos _).le

/-- The sign of a value, as a factor. -/
def signRat (neg : Bool) : ℚ := if neg then -1 else 1

theorem FVal.rat_fin (neg : Bool) (m : Nat) (e : ℤ) : FVal.rat (.fin neg m e) = signRat neg * ((m : ℚ) * 2 ^ e) := mul_assoc _ _ _

theorem signRat_mul_self (neg : Bool) : signRat neg * signRat neg = 1 := by cases neg <;> norm_num [signRat]

theorem abs_signRat_mul (neg : Bool) (x : ℚ) : |signRat neg * x| = |x| := by cases neg <;> simp [signRat]

namespace FFmt
variable (t : FFmt) {mode : RMode} {neg : Bool} {m : Nat} {e : ℤ}

theorem tiny_iff {inexact : Bool} {r n : Nat} {δ : ℚ} (hm : m ≠ 0)
    (h : Rounded mode neg ((m : ℚ) * 2 ^ e) (2 ^ (leadExp m e - t.mb)) r inexact n δ) :
    leadExp r (leadExp m e - t.mb) < 1 - (t.bias : ℤ) ↔
      ¬ mode.Reaches neg ((m : ℚ) * 2 ^ e) (2 ^ (1 - (t.bias : ℤ))) (2 ^ (-(t.bias : ℤ) - t.mb)) := by
  have hreach := h.reaches_iff_lead (b := t.mb) (i := -(t.bias : ℤ)) hm le_rfl (.inl rfl)
  rw [show -(t.bias : ℤ) + 1 = 1 - t.bias by ring] at hreach
  have hb : ((2 ^ t.mb : Nat) : ℚ) * 2 ^ (leadExp m e - t.mb) = 2 ^ leadExp m e := by
    rw [Nat.cast_pow, Nat.cast_ofNat, ← zpow_natCast, ← two_zpow_add, add_sub_cancel]
  have hn : 2 ^ t.mb ≤ n := h.le_of_mul_le (two_zpow_pos _) (hb ▸ (leadExp_bounds hm e).1)
  have hr : r ≠ 0 := by
    have := h.le_steps
    have : 0 < 2 ^ t.mb := by positivity
    omega
  rw [← hreach, two_zpow_le_iff hr, not_le]

/-- The code of a rounded magnitude is that of the infinity or beyond just where the format overflows. -/
theorem overflow_iff {inexact : Bool} {r n : Nat} {δ : ℚ} (hm : m ≠ 0)
    (h : Rounded mode neg ((m : ℚ) * 2 ^ e) (2 ^ t.stepExp m e) r inexact n δ) :
    t.emaxField * 2 ^ t.mb ≤ (t.stepExp m e - t.lowExp).toNat * 2 ^ t.mb + r ↔
      mode.Reaches neg ((m : ℚ) * 2 ^ e) (2 ^ ((t.emaxField : ℤ) - t.bias)) (2 ^ ((t.emaxField : ℤ) - 1 - t.bias - t.mb)) := by
  obtain ⟨hr, hk⟩ := t.code_bounds hm h
  have hlow : t.lowExp ≤ t.stepExp m e := le_max_right _ _
  have hE := t.one_lt_emaxField
  have hi : (t.emaxField : ℤ) - 1 - t.bias + 1 = t.emaxField - t.bias := by ring
  rw [t.infCode_le_iff hr hk, Int.toNat_of_nonneg (by omega), sub_add_cancel]
  rw [h.reaches_iff_lead (b := t.mb) hm (le_max_left _ _) ?_, hi]
  rcases t.stepExp_cases m e with hq | hq
  · right
    rw [hq, lowExp]
    omega
  · left
    omega

/-- The pattern of a rounded magnitude is the one that the mode takes (R51). -/
theorem nearest_of_rounded {inexact : Bool} {q : ℤ} {r n p : Nat} {δ x : ℚ} (h : Rounded mode neg x (2 ^ q) r inexact n δ)
    (hq : q = t.lowExp ∨ (2 : ℚ) ^ (q + t.mb) ≤ x) (hx : 0 ≤ x) (hp : (t.decode p).rat = signRat neg * (r * 2 ^ q)) (heven : r % 2 = 0 → p % 2 = 0) :
    t.Nearest mode (signRat neg * x) p := by
  intro y _ hy
  have hg := two_zpow_pos q
  have hrv : (0 : ℚ) ≤ r * 2 ^ q := by positivity
  have hgap := h.gap hq (t.onGrid_decode hy)
  obtain ⟨w, hw⟩ : ∃ w, (t.decode y).rat = signRat neg * w :=
    ⟨signRat neg * (t.decode y).rat, by rw [← mul_assoc, signRat_mul_self, one_mul]⟩
  rw [hw, abs_signRat_mul] at hgap
  have hgapw : w ≤ n * 2 ^ q ∨ ((n + 1 : Nat) : ℚ) * 2 ^ q ≤ w := by
    rcases le_or_gt 0 w with h0 | h0
    · rwa [abs_of_nonneg h0] at hgap
    · exact .inl (h0.le.trans (by positivity))
  have htakes := h.takes hg hgapw hgap
  dsimp only
  rw [hp, hw]
  have hdist : ∀ a b : ℚ, |signRat neg * a - signRat neg * b| = |a - b| := fun a b => by rw [← mul_sub, abs_signRat_mul]
  have hinj : ∀ a b : ℚ, signRat neg * a ≠ signRat neg * b → a ≠ b := fun a b hne hab => hne (by rw [hab])
  cases mode with
  | rne =>
    simp only [hdist]
    exact ⟨htakes.1, fun h hne => heven (htakes.2 h (hinj _ _ hne))⟩
  | rna =>
    simp only [hdist, abs_signRat_mul]
    exact ⟨htakes.1, fun h hne => htakes.2 h (hinj _ _ hne)⟩
  | rtz =>
    simp only [abs_signRat_mul, abs_of_nonneg hx, abs_of_nonneg hrv]
    exact htakes
  | rdn => cases neg <;> simpa [signRat, RMode.Takes] using htakes
  | rup => cases neg <;> simpa [signRat, RMode.Takes] using htakes

/-- A finite non-zero value is rounded once (R51, R54, R56, R57). -/
theorem round_roundsTo (hm : m ≠ 0) : t.RoundsTo mode (signRat neg * ((m : ℚ) * 2 ^ e)) (t.round mode false neg m e).1 (t.round mode false neg m e).2 := by
  obtain ⟨n, δ, h⟩ := roundAt_rounded mode neg m e (t.stepExp m e)
  obtain ⟨n', δ', h'⟩ := roundAt_rounded mode neg m e (leadExp m e - t.mb)
  have hover := t.overflow_iff hm h
  have htiny := t.tiny_iff hm h'
  obtain ⟨hr, hk⟩ := t.code_bounds hm h
  have hpos : (0 : ℚ) < (m : ℚ) * 2 ^ e := mul_pos (by exact_mod_cast Nat.pos_of_ne_zero hm) (two_zpow_pos e)
  have hneg : decide (signRat neg * ((m : ℚ) * 2 ^ e) < 0) = neg := by
    cases neg <;> simp [signRat, hpos.le, hpos]
  unfold RoundsTo round
  dsimp only
  rw [hneg, abs_signRat_mul, abs_of_pos hpos, if_neg hm, roundCode_eq]
  dsimp only
  generalize roundAt mode neg m e (leadExp m e - t.mb) = u at h' htiny ⊢
  generalize roundAt mode neg m e (t.stepExp m e) = v at h hover hr hk ⊢
  by_cases hc : t.emaxField * 2 ^ t.mb ≤ (t.stepExp m e - t.lowExp).toNat * 2 ^ t.mb + v.1
  · rw [if_pos hc]
    refine ⟨rfl, rfl, iff_of_true rfl (hover.1 hc), fun _ => ⟨rfl, rfl, ?_⟩, fun hn => absurd (hover.1 hc) hn⟩
    cases mode <;> cases neg <;> rfl
  · rw [if_neg hc]
    obtain ⟨M, E, hdec, hval⟩ := t.rat_decode_code neg hr hk (not_le.1 hc)
    have hlow : t.lowExp ≤ t.stepExp m e := le_max_right _ _
    rw [Int.toNat_of_nonneg (by omega), sub_add_cancel] at hval
    have hrat : (t.decode (t.sign neg + ((t.stepExp m e - t.lowExp).toNat * 2 ^ t.mb + v.1))).rat = signRat neg * (v.1 * 2 ^ t.stepExp m e) := by
      rw [hdec, FVal.rat_fin, hval]
    have hne : v.2 = true ↔ signRat neg * (v.1 * 2 ^ t.stepExp m e) ≠ signRat neg * ((m : ℚ) * 2 ^ e) := by
      rw [h.inexact_iff_ne (two_zpow_pos _), Ne, Ne, mul_right_inj' (by cases neg <;> norm_num [signRat])]
    have heven : v.1 % 2 = 0 → (t.sign neg + ((t.stepExp m e - t.lowExp).toNat * 2 ^ t.mb + v.1)) % 2 = 0 := fun hv => by
      obtain ⟨b, hb⟩ := Nat.exists_eq_succ_of_ne_zero t.mb_pos.ne'
      have hcode : t.sign neg + ((t.stepExp m e - t.lowExp).toNat * 2 ^ t.mb + v.1) =
          v.1 + 2 * ((neg.toNat * 2 ^ t.eb + (t.stepExp m e - t.lowExp).toNat) * 2 ^ b) := by
        rw [sign_eq, pow_add, hb, Nat.succ_eq_add_one, pow_succ]
        ring
      rw [hcode, Nat.add_mul_mod_self_left, hv]
    have hstep : t.stepExp m e = t.lowExp ∨ (2 : ℚ) ^ (t.stepExp m e + t.mb) ≤ (m : ℚ) * 2 ^ e :=
      by
      refine (t.stepExp_cases m e).imp_right fun hq => ?_
      rw [hq]
      exact (leadExp_bounds hm e).1
    refine ⟨rfl, rfl, iff_of_false Bool.false_ne_true (mt hover.2 hc), fun hn => absurd (hover.2 hn) hc, fun _ => ⟨?_, ?_, ?_, ?_, ?_, ?_⟩⟩
    · exact t.sign_add_lt neg ((not_le.1 hc).trans t.infCode_lt)
    · rw [hdec]
      rfl
    · rw [hdec]
      rfl
    · exact t.nearest_of_rounded h hstep hpos.le hrat heven
    · rw [hrat]
      exact hne
    · rw [hrat, Bool.and_eq_true, decide_eq_true_eq, htiny, hne, and_comm]

end FFmt

end Sys2Proof.Machine
end

section

/-! PROOF. Exact sums of products and NaN operands (R47, R56, R58): the obligation FloatValues. -/

namespace Sys2Proof.Machine
open Sys2Proof

/-! ### Exact sums of products of finite values -/

theorem FVal.eq_fin {v : FVal} (h : v.isFin = true) : ∃ n m e, v = .fin n m e := by
  cases v with
  | nan _ => cases h
  | inf _ => cases h
  | fin n m e => exact ⟨n, m, e, rfl⟩

theorem signRat_bne (a b : Bool) : signRat (a != b) = signRat a * signRat b := by cases a <;> cases b <;> norm_num [signRat]

/-- The product of finite values is finite and exact. -/
theorem FVal.mul_fin {v w : FVal} (hv : v.isFin = true) (hw : w.isFin = true) : (v.mul w).isFin = true ∧ (v.mul w).rat = v.rat * w.rat := by
  obtain ⟨n, m, e, rfl⟩ := eq_fin hv
  obtain ⟨n', m', e', rfl⟩ := eq_fin hw
  refine ⟨rfl, ?_⟩
  rw [FVal.mul, rat_fin, rat_fin, rat_fin, signRat_bne, two_zpow_add]
  push_cast
  ring

theorem foldl_mul_fin (l : List FVal) (hl : ∀ v ∈ l, v.isFin = true) {a : FVal} (ha : a.isFin = true) :
    (l.foldl FVal.mul a).isFin = true ∧ (l.foldl FVal.mul a).rat = a.rat * (l.map FVal.rat).prod := by
  induction l generalizing a with
  | nil => exact ⟨ha, (mul_one _).symm⟩
  | cons v r ih =>
    obtain ⟨hv, hr⟩ := List.forall_mem_cons.1 hl
    obtain ⟨hfin, hrat⟩ := FVal.mul_fin ha hv
    obtain ⟨h1, h2⟩ := ih hr hfin
    exact ⟨h1, by rw [List.foldl_cons, h2, hrat, List.map_cons, List.prod_cons, mul_assoc]⟩

theorem termVal_fin {l : List FVal} (hl : ∀ v ∈ l, v.isFin = true) : (termVal l).isFin = true ∧ (termVal l).rat = (l.map FVal.rat).prod := by
  obtain ⟨h1, h2⟩ := foldl_mul_fin l hl (a := FVal.one) rfl
  refine ⟨h1, h2.trans ?_⟩
  rw [show FVal.one.rat = 1 by norm_num [FVal.one, FVal.rat], one_mul]

theorem FVal.expOr_le_bound (d : ℤ) (v : FVal) : v.expOr d ≤ d := by
  unfold FVal.expOr
  split
  · split
    · exact le_rfl
    · exact min_le_left _ _
  · exact le_rfl

theorem foldl_expOr_le (vs : List FVal) (d : ℤ) : vs.foldl (fun q v => v.expOr q) d ≤ d := by
  induction vs generalizing d with
  | nil => exact le_rfl
  | cons v r ih => exact (ih _).trans (v.expOr_le_bound d)

/-- The exponent of a sum is at most that of every non-zero term. -/
theorem foldl_expOr_le_exp {vs : List FVal} {n : Bool} {m : Nat} {e : ℤ} (hm : m ≠ 0) (h : FVal.fin n m e ∈ vs) (d : ℤ) :
    vs.foldl (fun q v => v.expOr q) d ≤ e := by
  induction vs generalizing d with
  | nil => cases h
  | cons v r ih =>
    rcases List.mem_cons.1 h with rfl | h
    · refine (foldl_expOr_le r _).trans ?_
      exact (FVal.expOr_le n m e d).resolve_left hm
    · exact ih h _

/-- A finite value as a multiple of a power of two below it. -/
theorem FVal.at_mul {v : FVal} (hv : v.isFin = true) {q : ℤ} (h : ∀ n m e, v = .fin n m e → m ≠ 0 → q ≤ e) : ((v.at q : ℤ) : ℚ) * 2 ^ q = v.rat := by
  obtain ⟨n, m, e, rfl⟩ := eq_fin hv
  exact FVal.at_mul_zpow n m e q (or_iff_not_imp_left.2 (h n m e rfl))

theorem foldl_at_mul {vs : List FVal} (hv : ∀ v ∈ vs, v.isFin = true) {q : ℤ} (h : ∀ n m e, FVal.fin n m e ∈ vs → m ≠ 0 → q ≤ e) (a : ℤ) :
    ((vs.foldl (fun a v => a + v.at q) a : ℤ) : ℚ) * 2 ^ q = (a : ℚ) * 2 ^ q + (vs.map FVal.rat).sum := by
  induction vs generalizing a with
  | nil => simp
  | cons v r ih =>
    obtain ⟨hv0, hr⟩ := List.forall_mem_cons.1 hv
    have h0 := FVal.at_mul hv0 (q := q) fun n m e he => h n m e (he ▸ List.mem_cons_self)
    rw [List.foldl_cons, ih hr (fun n m e he => h n m e (List.mem_cons_of_mem _ he)), List.map_cons, List.sum_cons, ← h0, Int.cast_add]
    ring

/-- The integer that a sum of finite values is, at its exponent. -/
def sumAt (vs : List FVal) : ℤ := vs.foldl (fun a v => a + v.at (minExp vs)) 0

theorem sumAt_mul {vs : List FVal} (hv : ∀ v ∈ vs, v.isFin = true) : ((sumAt vs : ℤ) : ℚ) * 2 ^ minExp vs = (vs.map FVal.rat).sum := by
  have h := foldl_at_mul hv (q := minExp vs) (fun n m e he hm => foldl_expOr_le_exp hm he 0) 0
  rwa [Int.cast_zero, zero_mul, zero_add] at h

theorem sumTerms_fin (mode : RMode) {ts : List (List FVal)} (h : ∀ l ∈ ts, ∀ v ∈ l, v.isFin = true) :
    sumTerms mode ts = (sumFinite mode (ts.map termVal), Fl.none) := by
  have hfin : ∀ v : FVal, v.isFin = true → v.isNan = false ∧ v.isInf = false ∧ v.isSnan = false := by
    intro v hv
    obtain ⟨n, m, e, rfl⟩ := FVal.eq_fin hv
    exact ⟨rfl, rfl, rfl⟩
  have hnone : ∀ f : FVal → Bool, (∀ v : FVal, v.isFin = true → f v = false) → (ts.any fun l => l.any f) = false := by
    intro f hf
    simp only [List.any_eq_false, Bool.not_eq_true]
    exact fun l hl v hv => hf v (h l hl v hv)
  have hnan := hnone FVal.isNan fun v hv => (hfin v hv).1
  have hsnan := hnone FVal.isSnan fun v hv => (hfin v hv).2.2
  have hinv : ts.any termInvalid = false := by
    simp only [List.any_eq_false, Bool.not_eq_true, termInvalid, Bool.and_eq_false_iff]
    exact fun l hl => .inl fun v hv => (hfin v (h l hl v hv)).2.1
  have hinf : (((ts.filter fun t => !t.any FVal.isNan).map termVal).filter FVal.isInf) = [] := by
    rw [List.filter_eq_nil_iff]
    intro v hv
    obtain ⟨l, hl, rfl⟩ := List.mem_map.1 hv
    rw [(hfin _ (termVal_fin (h l (List.mem_filter.1 hl).1)).1).2.1]
    exact Bool.false_ne_true
  unfold sumTerms
  dsimp only
  rw [hinf, hinv, hnan, hsnan]
  rfl

theorem Fl.none_or (x : Fl) : Fl.none.or x = x := by simp [Fl.or, Fl.none]

/-- A sum of products of finite values is rounded once, and an exact zero has the sign of R56. -/
theorem roundTerms_fin (t : FFmt) (m : RMode) (ts : List (List FVal)) (h : ∀ l, l ∈ ts → ∀ v, v ∈ l → v.isFin = true) :
    let x : ℚ := (ts.map fun l => (l.map FVal.rat).prod).sum
    let r := t.roundTerms m ts
    (x ≠ 0 → t.RoundsTo m x r.1 r.2) ∧
      (x = 0 → r.2 = Fl.none ∧ r.1 = t.sign (if ts.all fun l => (termVal l).neg then true
        else if ts.any fun l => (termVal l).neg then decide (m = .rdn) else false)) := by
  intro x r
  have hvals : ∀ v ∈ ts.map termVal, v.isFin = true := by
    intro v hv
    obtain ⟨l, hl, rfl⟩ := List.mem_map.1 hv
    exact (termVal_fin (h l hl)).1
  have hx : x = (sumAt (ts.map termVal) : ℚ) * 2 ^ minExp (ts.map termVal) := by
    rw [sumAt_mul hvals, List.map_map]
    exact congrArg List.sum (List.map_congr_left fun l hl => (termVal_fin (h l hl)).2.symm)
  have hr : r = t.encode m false (sumFinite m (ts.map termVal)) := by
    show t.roundTerms m ts = _
    rw [FFmt.roundTerms, sumTerms_fin m h]
    exact Prod.ext rfl (Fl.none_or _)
  have hg := two_zpow_pos (minExp (ts.map termVal))
  constructor
  · intro hne
    have hs : sumAt (ts.map termVal) ≠ 0 := fun h0 => hne (by rw [hx, h0]; simp)
    have hsum : sumFinite m (ts.map termVal) =
        .fin (decide (sumAt (ts.map termVal) < 0)) (sumAt (ts.map termVal)).natAbs (minExp (ts.map termVal)) := if_neg hs
    have hval : x = signRat (decide (sumAt (ts.map termVal) < 0)) * (((sumAt (ts.map termVal)).natAbs : ℚ) * 2 ^ minExp (ts.map termVal)) := by
      rw [hx, ← mul_assoc]
      congr 1
      rcases lt_or_ge (sumAt (ts.map termVal)) 0 with hlt | hge
      · rw [decide_eq_true hlt, signRat, if_pos rfl, Nat.cast_natAbs, abs_of_neg hlt]
        push_cast
        ring
      · rw [decide_eq_false (not_lt.2 hge), signRat, if_neg Bool.false_ne_true, Nat.cast_natAbs, abs_of_nonneg hge, one_mul]
    rw [hr, hsum, hval]
    exact t.round_roundsTo (Int.natAbs_ne_zero.2 hs)
  · intro h0
    have hs : sumAt (ts.map termVal) = 0 := by
      rw [hx] at h0
      exact_mod_cast (mul_eq_zero.1 h0).resolve_right hg.ne'
    have hsum : ∃ e, sumFinite m (ts.map termVal) = .fin (if ts.all fun l => (termVal l).neg then true
        else if ts.any fun l => (termVal l).neg then decide (m = .rdn) else false) 0 e := by
      refine ⟨0, (if_pos hs).trans ?_⟩
      simp only [List.all_map, List.any_map, Function.comp_def]
      split
      · rfl
      · split <;> rfl
    obtain ⟨e, hsum⟩ := hsum
    rw [hr, hsum]
    exact ⟨rfl, rfl⟩

theorem FVal.negate_rat (v : FVal) : v.negate.rat = -v.rat := by
  cases v with
  | nan _ => exact neg_zero.symm
  | inf _ => exact neg_zero.symm
  | fin n m e => cases n <;> simp [FVal.negate, FVal.rat]

theorem FVal.negate_isFin (v : FVal) : v.negate.isFin = v.isFin := by cases v <;> rfl

/-- The basic operations on finite operands are exact and rounded once. -/
theorem basicOps_round (t : FFmt) (m : RMode) (a b d : Nat) (ha : (t.decode a).isFin = true) (hb : (t.decode b).isFin = true)
    (hd : (t.decode d).isFin = true) :
    let x := (t.decode a).rat
    let y := (t.decode b).rat
    let z := (t.decode d).rat
    ∀ e ∈ ([(fAdd, x + y), (fSub, x - y), (fMul, x * y), (fMa, x * y + z), (fMs, x * y - z), (fNma, z - x * y)] :
        List ((FFmt → RMode → Nat → Nat → Nat → Nat × Fl) × ℚ)),
      e.2 ≠ 0 → t.RoundsTo m e.2 (e.1 t m a b d).1 (e.1 t m a b d).2 := by
  intro x y z e he hne
  have hna : (t.decode a).negate.isFin = true := (FVal.negate_isFin _).trans ha
  have hnb : (t.decode b).negate.isFin = true := (FVal.negate_isFin _).trans hb
  have hnd : (t.decode d).negate.isFin = true := (FVal.negate_isFin _).trans hd
  have hts : ∀ (ts : List (List FVal)), (∀ l ∈ ts, ∀ v ∈ l, v.isFin = true) → ∀ q : ℚ, (ts.map fun l => (l.map FVal.rat).prod).sum = q → q ≠ 0 →
      t.RoundsTo m q (t.roundTerms m ts).1 (t.roundTerms m ts).2 := fun ts h q hq h0 => by
    obtain ⟨hround, -⟩ := roundTerms_fin t m ts h
    rw [hq] at hround
    exact hround h0
  simp only [List.mem_cons, List.not_mem_nil, or_false] at he
  rcases he with rfl | rfl | rfl | rfl | rfl | rfl
  · exact hts [[t.decode a], [t.decode b]] (by simp [ha, hb]) _ (by simp [x, y]) hne
  · exact hts [[t.decode a], [(t.decode b).negate]] (by simp [ha, hnb]) _ (by simp [x, y, FVal.negate_rat, sub_eq_add_neg]) hne
  · exact hts [[t.decode a, t.decode b]] (by simp [ha, hb]) _ (by simp [x, y]) hne
  · exact hts [[t.decode a, t.decode b], [t.decode d]] (by simp [ha, hb, hd]) _ (by simp [x, y, z]) hne
  · exact hts [[t.decode a, t.decode b], [(t.decode d).negate]] (by simp [ha, hb, hnd]) _ (by simp [x, y, z, FVal.negate_rat, sub_eq_add_neg]) hne
  · exact hts [[(t.decode a).negate, t.decode b], [t.decode d]] (by simp [hna, hb, hd]) _
      (by simp [x, y, z, FVal.negate_rat, sub_eq_add_neg, add_comm]) hne

/-! ### NaN operands -/

theorem conflict_of_length_le_one {l : List FVal} (h : l.length ≤ 1) : (l.any FVal.neg && l.any fun v => !v.neg) = false := by
  match l, h with
  | [], _ => rfl
  | [v], _ => simp

/-- A NaN among the factors makes a sum a NaN; with at most one term free of NaNs, NV tells of 0 × ∞ and of signalling NaNs alone. -/
theorem sumTerms_nan (mode : RMode) {ts : List (List FVal)} (hn : (ts.any fun l => l.any FVal.isNan) = true) (hl : ts.length ≤ 2) :
    sumTerms mode ts = (.nan false, if ts.any termInvalid || ts.any (fun l => l.any FVal.isSnan) then Fl.inv else Fl.none) := by
  have hlen : (((ts.filter fun t => !t.any FVal.isNan).map termVal).filter FVal.isInf).length ≤ 1 := by
    refine (List.length_filter_le _ _).trans ?_
    rw [List.length_map]
    obtain ⟨l, hmem, hnan⟩ := List.any_eq_true.1 hn
    have : (ts.filter fun t => !t.any FVal.isNan).length < ts.length :=
      List.length_filter_lt_length_iff_exists.2 ⟨l, hmem, by rw [hnan]; decide⟩
    omega
  unfold sumTerms
  dsimp only
  rw [conflict_of_length_le_one hlen, hn, Bool.or_false, Bool.or_true, if_pos rfl]

theorem roundTerms_nan (t : FFmt) (mode : RMode) {ts : List (List FVal)} (hn : (ts.any fun l => l.any FVal.isNan) = true) (hl : ts.length ≤ 2) :
    (t.roundTerms mode ts).1 = t.cnan ∧ (t.roundTerms mode ts).2.nv = (ts.any termInvalid || ts.any fun l => l.any FVal.isSnan) := by
  rw [FFmt.roundTerms, sumTerms_nan mode hn hl]
  refine ⟨rfl, ?_⟩
  cases ts.any termInvalid || ts.any (fun l => l.any FVal.isSnan) <;> rfl

theorem FVal.isZero_isInf_of_isNan {v : FVal} (h : v.isNan = true) : v.isZero = false ∧ v.isInf = false := by
  cases v with
  | nan _ => exact ⟨rfl, rfl⟩
  | inf _ => cases h
  | fin _ _ _ => cases h

theorem FVal.eq_nan {v : FVal} (h : v.isNan = true) : ∃ sig, v = .nan sig := by
  cases v with
  | nan sig => exact ⟨sig, rfl⟩
  | inf _ => cases h
  | fin _ _ _ => cases h

theorem termInvalid_single (v : FVal) : termInvalid [v] = false := by cases v <;> rfl

theorem termInvalid_pair (v w : FVal) : termInvalid [v, w] = ((v.isZero && w.isInf) || (v.isInf && w.isZero)) := by
  cases v <;> cases w <;> simp [termInvalid, FVal.isInf, FVal.isZero]

section
variable (v : FVal)
@[simp] theorem FVal.negate_isNan : v.negate.isNan = v.isNan := by cases v <;> rfl
@[simp] theorem FVal.negate_isSnan : v.negate.isSnan = v.isSnan := by cases v <;> rfl
@[simp] theorem FVal.negate_isInf : v.negate.isInf = v.isInf := by cases v <;> rfl
@[simp] theorem FVal.negate_isZero : v.negate.isZero = v.isZero := by cases v <;> rfl
end

theorem minMax_nan (t : FFmt) (isMax : Bool) {a b : Nat} (h : ((t.decode a).isNan || (t.decode b).isNan) = true) :
    (t.minMax isMax a b).1 = t.cnan ∧ (t.minMax isMax a b).2.nv = ((t.decode a).isSnan || (t.decode b).isSnan) := by
  rw [FFmt.minMax, if_pos h]
  refine ⟨rfl, ?_⟩
  dsimp only
  cases (t.decode a).isSnan || (t.decode b).isSnan <;> rfl

theorem twoOps_nan (t : FFmt) (m : RMode) (a b d : Nat) (h : (t.decode a).isNan = true ∨ (t.decode b).isNan = true) :
    ∀ op ∈ ([fAdd, fSub, fMul, fun t _ a b _ => t.minMax false a b, fun t _ a b _ => t.minMax true a b] :
        List (FFmt → RMode → Nat → Nat → Nat → Nat × Fl)),
      (op t m a b d).1 = t.cnan ∧ (op t m a b d).2.nv = ((t.decode a).isSnan || (t.decode b).isSnan) := by
  have hpair : termInvalid [t.decode a, t.decode b] = false := by
    rw [termInvalid_pair]
    rcases h with h | h
    · obtain ⟨hz, hi⟩ := FVal.isZero_isInf_of_isNan h
      rw [hz, hi]
      rfl
    · obtain ⟨hz, hi⟩ := FVal.isZero_isInf_of_isNan h
      rw [hz, hi, Bool.and_false, Bool.and_false]
      rfl
  intro op hop
  simp only [List.mem_cons, List.not_mem_nil, or_false] at hop
  rcases hop with rfl | rfl | rfl | rfl | rfl
  · obtain ⟨h1, h2⟩ := roundTerms_nan t m (ts := [[t.decode a], [t.decode b]]) (by simpa using h) (by simp)
    exact ⟨h1, h2.trans (by simp [termInvalid_single])⟩
  · obtain ⟨h1, h2⟩ := roundTerms_nan t m (ts := [[t.decode a], [(t.decode b).negate]]) (by simpa using h) (by simp)
    exact ⟨h1, h2.trans (by simp [termInvalid_single])⟩
  · obtain ⟨h1, h2⟩ := roundTerms_nan t m (ts := [[t.decode a, t.decode b]]) (by simpa using h) (by simp)
    exact ⟨h1, h2.trans (by simp [hpair])⟩
  · exact minMax_nan t false (by simpa using h)
  · exact minMax_nan t true (by simpa using h)

theorem fusedOps_nan (t : FFmt) (m : RMode) (a b d : Nat)
    (h : (t.decode a).isNan = true ∨ (t.decode b).isNan = true ∨ (t.decode d).isNan = true) :
    ∀ op ∈ ([fMa, fMs, fNma] : List (FFmt → RMode → Nat → Nat → Nat → Nat × Fl)),
      (op t m a b d).1 = t.cnan ∧ (op t m a b d).2.nv = (((t.decode a).isSnan || (t.decode b).isSnan || (t.decode d).isSnan) ||
        (((t.decode a).isZero && (t.decode b).isInf) || ((t.decode a).isInf && (t.decode b).isZero))) := by
  intro op hop
  simp only [List.mem_cons, List.not_mem_nil, or_false] at hop
  rcases hop with rfl | rfl | rfl
  · obtain ⟨h1, h2⟩ := roundTerms_nan t m (ts := [[t.decode a, t.decode b], [t.decode d]]) (by simpa [or_assoc] using h) (by simp)
    exact ⟨h1, h2.trans (by simp [termInvalid_single, termInvalid_pair, Bool.or_comm])⟩
  · obtain ⟨h1, h2⟩ := roundTerms_nan t m (ts := [[t.decode a, t.decode b], [(t.decode d).negate]]) (by simpa [or_assoc] using h) (by simp)
    exact ⟨h1, h2.trans (by simp [termInvalid_single, termInvalid_pair, Bool.or_comm])⟩
  · obtain ⟨h1, h2⟩ := roundTerms_nan t m (ts := [[(t.decode a).negate, t.decode b], [t.decode d]]) (by simpa [or_assoc] using h) (by simp)
    exact ⟨h1, h2.trans (by simp [termInvalid_single, termInvalid_pair, Bool.or_comm])⟩

theorem fClamp_nan (t : FFmt) (a b d : Nat) (h : (t.decode a).isNan = true ∨ (t.decode b).isNan = true ∨ (t.decode d).isNan = true) :
    (fClamp t a b d).1 = t.cnan ∧ (fClamp t a b d).2.nv = ((t.decode a).isSnan || (t.decode b).isSnan || (t.decode d).isSnan) := by
  rw [fClamp]
  rw [if_pos (by simpa [or_assoc] using h)]
  refine ⟨rfl, ?_⟩
  cases (t.decode a).isSnan || (t.decode b).isSnan || (t.decode d).isSnan <;> rfl

theorem fLerp_nan (t : FFmt) (m : RMode) (a b d : Nat) (h : (t.decode a).isNan = true ∨ (t.decode b).isNan = true ∨ (t.decode d).isNan = true) :
    (fLerp t m a b d).1 = t.cnan ∧
      (((t.decode a).isSnan || (t.decode b).isSnan || (t.decode d).isSnan) = true → (fLerp t m a b d).2.nv = true) := by
  have hsum : ∃ fl, sumTerms m [[t.decode b, (sumTerms m [[t.decode a], [(t.decode d).negate]]).1], [t.decode d]] = (.nan false, fl) := by
    refine ⟨_, sumTerms_nan m ?_ (by simp)⟩
    rcases h with h | h | h
    · rw [sumTerms_nan m (by simp [h]) (by simp)]
      simp [FVal.isNan]
    · simp [h]
    · simp [h]
  obtain ⟨fl, hsum⟩ := hsum
  rw [fLerp]
  dsimp only
  rw [hsum]
  refine ⟨rfl, fun hs => ?_⟩
  rw [if_pos hs]
  rfl

theorem functions_nan (m : RMode) (a b d : Nat) (h : (FFmt.f32.decode a).isNan = true) :
    ∀ op ∈ ([fFun .exp2, fFun .log2, fFun .rcp, fFun .rsq, fFun .sqrt, fRnd] : List (RMode → Nat → Nat → Nat → Nat × Fl)),
      (op m a b d).1 = FFmt.f32.cnan ∧ (op m a b d).2.nv = (FFmt.f32.decode a).isSnan := by
  obtain ⟨sig, hv⟩ := FVal.eq_nan h
  have hfun : ∀ g, (fFun g m a b d).1 = FFmt.f32.cnan ∧ (fFun g m a b d).2.nv = (FFmt.f32.decode a).isSnan := by
    intro g
    rw [fFun, hv]
    cases sig <;> exact ⟨rfl, rfl⟩
  have hrnd : (fRnd m a b d).1 = FFmt.f32.cnan ∧ (fRnd m a b d).2.nv = (FFmt.f32.decode a).isSnan := by
    rw [fRnd, hv]
    cases sig <;> exact ⟨rfl, rfl⟩
  simpa using ⟨hfun .exp2, hfun .log2, hfun .rcp, hfun .rsq, hfun .sqrt, hrnd⟩

theorem conversions_nan (t u : FFmt) (f : B8) (m : RMode) (sat : Bool) (a : Nat) (k : Int) (h : (t.decode a).isNan = true) :
    ((t.encode m false ((t.decode a).scale k)).1 = t.cnan ∧ (t.encode m false ((t.decode a).scale k)).2 = Fl.none) ∧
    ((u.encode m sat (t.decode a)).1 = u.cnan ∧ (u.encode m sat (t.decode a)).2 = Fl.none) ∧
    ((f.encode m sat (t.decode a)).1 = f.nan ∧ (f.encode m sat (t.decode a)).2 = Fl.none) ∧
    (snanFlag (t.decode a)).nv = (t.decode a).isSnan ∧
    ∀ ty, toInteger ty m (t.decode a) = (0, Fl.inv) := by
  obtain ⟨sig, hv⟩ := FVal.eq_nan h
  rw [hv]
  refine ⟨⟨rfl, rfl⟩, ⟨rfl, rfl⟩, ⟨rfl, rfl⟩, ?_, fun _ => rfl⟩
  cases sig <;> rfl

theorem b8_decode_nan (f : B8) : f.decode f.nan = .nan false := if_pos rfl

/-- Settles O21. -/
theorem floatValues : Obligations.FloatValues := by
  refine ⟨twoOps_nan, fun t m a b d h => ?_, functions_nan, conversions_nan, fun f u m => ?_, roundTerms_fin, basicOps_round⟩
  · obtain ⟨h1, h2⟩ := fClamp_nan t a b d h
    obtain ⟨h3, h4⟩ := fLerp_nan t m a b d h
    exact ⟨fusedOps_nan t m a b d h, h1, h2, h3, h4⟩
  · rw [b8_decode_nan]
    exact ⟨rfl, rfl⟩

end Sys2Proof.Machine
end

section

/-! PROOF. What a distributor selects and where it places it (R98 to R102, R424). -/

namespace Sys2Proof.Machine
open Sys2Proof

/-! ### The first of a list in an order -/

section
variable {α : Type}

/-- The first of two in an order; the earlier one met where neither comes first. -/
def firstOf (lt : α → α → Bool) (a : Option α) (x : α) : Option α :=
  match a with
  | none => some x
  | some y => if lt x y then some x else some y

variable {lt : α → α → Bool} (htrans : ∀ a b c, lt a b = true → lt b c = true → lt a c = true) (hirr : ∀ a, lt a a = false)
include htrans hirr

theorem foldl_firstOf {l : List α} {y z : α} (h : l.foldl (firstOf lt) (some y) = some z) :
    (z = y ∨ z ∈ l ∧ lt z y = true) ∧ ∀ x ∈ l, lt x z = false := by
  induction l generalizing y with
  | nil => exact ⟨.inl (Option.some.inj h).symm, fun _ h => absurd h List.not_mem_nil⟩
  | cons x l ih =>
    rw [List.foldl_cons, firstOf] at h
    split at h
    · next hxy =>
      obtain ⟨hz, hall⟩ := ih h
      refine ⟨.inr ?_, List.forall_mem_cons.2 ⟨?_, hall⟩⟩
      · rcases hz with rfl | ⟨hz, hzx⟩
        · exact ⟨List.mem_cons_self, hxy⟩
        · exact ⟨List.mem_cons_of_mem _ hz, htrans _ _ _ hzx hxy⟩
      · rcases hz with rfl | ⟨-, hzx⟩
        · exact hirr _
        · exact Bool.eq_false_iff.2 fun h => Bool.false_ne_true ((hirr _).symm.trans (htrans _ _ _ h hzx))
    · next hxy =>
      obtain ⟨hz, hall⟩ := ih h
      refine ⟨hz.imp_right fun ⟨hz, hzy⟩ => ⟨List.mem_cons_of_mem _ hz, hzy⟩, List.forall_mem_cons.2 ⟨?_, hall⟩⟩
      rcases hz with rfl | ⟨-, hzy⟩
      · exact Bool.eq_false_iff.2 hxy
      · exact Bool.eq_false_iff.2 fun h => hxy (htrans _ _ _ h hzy)

theorem foldl_firstOf_none {l : List α} {z : α} (h : l.foldl (firstOf lt) none = some z) : z ∈ l ∧ ∀ x ∈ l, lt x z = false := by
  cases l with
  | nil => exact absurd h (by simp)
  | cons x l =>
    obtain ⟨hz, hall⟩ := foldl_firstOf htrans hirr (y := x) h
    rcases hz with rfl | ⟨hz, hzx⟩
    · exact ⟨List.mem_cons_self, List.forall_mem_cons.2 ⟨hirr _, hall⟩⟩
    · exact ⟨List.mem_cons_of_mem _ hz, List.forall_mem_cons.2
        ⟨Bool.eq_false_iff.2 fun h => Bool.false_ne_true ((hirr _).symm.trans (htrans _ _ _ h hzx)), hall⟩⟩

end

/-! ### Selection (R98, R99) -/

theorem older_iff (x y : Nat × TaskInst) :
    older x y = true ↔ x.2.joined < y.2.joined ∨ (x.2.joined = y.2.joined ∧ x.1 < y.1) := by simp [older]

theorem earlier_iff (x y : Nat × TaskInst) :
    earlier x y = true ↔ x.2.queued < y.2.queued ∨ (x.2.queued = y.2.queued ∧ older x y = true) := by simp [earlier]

theorem aged_iff (s : State) (f : Nat) (x : TaskInst) :
    aged s f x = true ↔ (s.field f).agexp ≠ 15 ∧ x.joined + 2 ^ ((s.field f).agexp + 10) < s.now := by simp [aged]

theorem before_iff (s : State) (f : Nat) (a b : Nat × TaskInst) : before s f a b = true ↔
    (aged s f a.2 = true ∧ (aged s f b.2 = false ∨ older a b = true)) ∨
    (aged s f a.2 = false ∧ aged s f b.2 = false ∧
      (b.2.queuePrio < a.2.queuePrio ∨ (a.2.queuePrio = b.2.queuePrio ∧ earlier a b = true))) := by
  unfold before
  cases ha : aged s f a.2 <;> cases hb : aged s f b.2 <;> simp
  by_cases hp : a.2.queuePrio = b.2.queuePrio
  · simp [hp]
  · simp [hp]

theorem older_trans {a b c : Nat × TaskInst} (h : older a b = true) (k : older b c = true) : older a c = true := by
  rw [older_iff] at *
  omega

theorem before_trans (s : State) (f : Nat) (a b c : Nat × TaskInst) (h : before s f a b = true) (k : before s f b c = true) :
    before s f a c = true := by
  rw [before_iff] at *
  rcases h with ⟨ha, hab⟩ | ⟨ha, hb, hab⟩ <;> rcases k with ⟨hb', hbc⟩ | ⟨hb', hc, hbc⟩
  · have hab : older a b = true := hab.resolve_left fun hb => Bool.false_ne_true (hb.symm.trans hb')
    exact .inl ⟨ha, hbc.imp_right fun hbc => older_trans hab hbc⟩
  · exact .inl ⟨ha, .inl hc⟩
  · exact absurd (hb.symm.trans hb') Bool.false_ne_true
  · refine .inr ⟨ha, hc, ?_⟩
    simp only [earlier_iff, older_iff] at hab hbc ⊢
    omega

theorem before_irrefl (s : State) (f : Nat) (a : Nat × TaskInst) : before s f a a = false := by
  refine Bool.eq_false_iff.2 fun h => ?_
  rw [before_iff, earlier_iff, older_iff] at h
  rcases h with ⟨ha, ha' | h⟩ | ⟨-, -, h⟩
  · exact Bool.false_ne_true (ha'.symm.trans ha)
  · omega
  · omega

theorem selection_eq (s : State) (f : Nat) : selection s f = (s.tasks.filter (selectable? s f)).foldl (firstOf (before s f)) none := by
  unfold selection
  refine congrFun (congrFun (congrArg _ (funext fun a => funext fun x => ?_)) _) _
  cases a <;> rfl

theorem selection_first (s : State) (f : Nat) (x : Nat × TaskInst) (h : selection s f = some x) :
    x ∈ s.tasks ∧ selectable? s f x = true ∧ ∀ y, y ∈ s.tasks → selectable? s f y = true →
      (aged s f y.2 = true → aged s f x.2 = true ∧ older y x = false) ∧
      (aged s f x.2 = false → y.2.queuePrio ≤ x.2.queuePrio ∧ (y.2.queuePrio = x.2.queuePrio → earlier y x = false)) := by
  rw [selection_eq] at h
  obtain ⟨hx, hall⟩ := foldl_firstOf_none (before_trans s f) (before_irrefl s f) h
  obtain ⟨hx, hsel⟩ := List.mem_filter.1 hx
  refine ⟨hx, hsel, fun y hy hys => ?_⟩
  have hyx : ¬before s f y x = true := Bool.eq_false_iff.1 (hall y (List.mem_filter.2 ⟨hy, hys⟩))
  rw [before_iff] at hyx
  have haged : aged s f y.2 = true → aged s f x.2 = true ∧ older y x = false := fun hya =>
    ⟨Bool.of_not_eq_false fun hxa => hyx (.inl ⟨hya, .inl hxa⟩), Bool.eq_false_iff.2 fun ho => hyx (.inl ⟨hya, .inr ho⟩)⟩
  refine ⟨haged, fun hxa => ?_⟩
  have hya : aged s f y.2 = false := Bool.eq_false_iff.2 fun hya => Bool.false_ne_true (hxa.symm.trans (haged hya).1)
  refine ⟨Nat.le_of_not_lt fun hp => hyx (.inr ⟨hya, hxa, .inl hp⟩), fun hp => Bool.eq_false_iff.2 fun he => hyx (.inr ⟨hya, hxa, .inr ⟨hp, he⟩⟩)⟩

/-! ### Eligible cores and their scores (R101, R102) -/

theorem eligible_iff (s : State) (x : TaskInst) (c : Nat) (d : TaskDesc) (o : CodeObj) (hd : descOf s x = some d) (ho : codeOf s x = some o) :
    eligible s x c = true ↔
      (s.cluster (c / 4)).enabled = true ∧ (s.cluster (c / 4)).mapped = false ∧ (s.cluster (c / 4)).stopped = false ∧
      (s.cluster (c / 4)).tstate = 0 ∧ fieldOf c ∈ (s.part (partOf x.launch)).fields ∧ (s.field (fieldOf c)).lost = false ∧
      (s.tasks.filter fun y => y.2.st.bound && y.2.core = c).length < 8 ∧ (ringsFit s c d).isSome = true ∧
      imagesFit s c (nsOfTask s x) d.code o = true ∧
      (∀ y, y ∈ x.subs → ∀ h, h ∈ patternHomes s y.pat → ∀ r, r ∈ installPath (c / 4) h →
        (s.router r.1).entries.length + (if c / 4 = h then 2 else 1) ≤ 2048) ∧
      ∀ e, expertEntry s x = some e → ((s.ertEntry (partOf x.launch) e).st = 2 ∨ (s.ertEntry (partOf x.launch) e).st = 3) ∧
        (s.ertEntry (partOf x.launch) e).field = fieldOf c := by
  have hpaths : pathsFree s c x = true ↔ ∀ y, y ∈ x.subs → ∀ h, h ∈ patternHomes s y.pat → ∀ r, r ∈ installPath (c / 4) h →
      (s.router r.1).entries.length + (if c / 4 = h then 2 else 1) ≤ 2048 := by simp only [pathsFree, List.all_eq_true, decide_eq_true_eq]
  rw [← hpaths, ← show boundTo s c = s.tasks.filter fun y => y.2.st.bound && y.2.core = c from rfl, eligible, hd, ho]
  cases expertEntry s x <;>
    simp only [liveFields, Bool.and_eq_true, Bool.or_eq_true, Bool.not_eq_true', decide_eq_true_eq, List.contains_iff_mem,
      List.mem_filter, and_assoc, and_true, Option.some.injEq, forall_eq', reduceCtorEq, false_implies, implies_true]

theorem affinity_eq (s : State) (x : TaskInst) (key k : Nat) : affinity s x key k =
    if key = 0 then 0 else min 15 (s.tasks.filter fun y => y.2.st.bound && y.2.core / 4 = k &&
      partOf y.2.launch = partOf x.launch && (descOf s y.2).any fun e => e.affkey = key).length := by
  unfold affinity
  refine congrArg (fun l : List (Nat × TaskInst) => if key = 0 then 0 else min 15 l.length) (List.filter_congr fun y _ => ?_)
  cases descOf s y.2 <;> rfl

theorem score_eq (s : State) (x : TaskInst) (c : Nat) (d : TaskDesc) (hd : descOf s x = some d) : score s x c =
    (s.field (fieldOf c)).waff * (if d.affkey = 0 then 0 else min 15 (s.tasks.filter fun y => y.2.st.bound && y.2.core / 4 = c / 4 &&
      partOf y.2.launch = partOf x.launch && (descOf s y.2).any fun e => e.affkey = d.affkey).length) +
    (s.field (fieldOf c)).wcode * (if (loaded s c false (nsOfTask s x) d.code).isSome = true then 1 else 0) +
    (s.field (fieldOf c)).wload * (8 - (boundTo s c).length) +
    (s.field (fieldOf c)).wcool * min ((s.mgmt.hotth - (s.cluster (c / 4)).temp) / 4) 7 := by
  rw [score, hd]
  simp only [affinity_eq, headroom]

/-- The order of the ranked cores: by falling score, ties by rising number. -/
def scoresBefore (a b : Nat × Nat) : Prop := b.2 < a.2 ∨ (a.2 = b.2 ∧ a.1 < b.1)

theorem mem_insertScore (x a : Nat × Nat) (l : List (Nat × Nat)) : a ∈ insertScore x l ↔ a = x ∨ a ∈ l := by
  induction l with
  | nil => simp [insertScore]
  | cons y l ih =>
    rw [insertScore]
    split
    · exact List.mem_cons
    · rw [List.mem_cons, ih, List.mem_cons]
      tauto

theorem pairwise_insertScore {x : Nat × Nat} {l : List (Nat × Nat)} (hx : ∀ y ∈ l, y.1 ≠ x.1) (h : l.Pairwise scoresBefore) :
    (insertScore x l).Pairwise scoresBefore := by
  induction l with
  | nil => exact List.pairwise_singleton _ _
  | cons y l ih =>
    obtain ⟨hy, hl⟩ := List.pairwise_cons.1 h
    have hne : y.1 ≠ x.1 := hx y List.mem_cons_self
    rw [insertScore]
    split
    · next hxy =>
      have hxy : scoresBefore x y := by simpa [scoresBefore] using hxy
      refine List.pairwise_cons.2 ⟨List.forall_mem_cons.2 ⟨hxy, fun z hz => ?_⟩, h⟩
      have hyz := hy z hz
      unfold scoresBefore at *
      omega
    · next hxy =>
      refine List.pairwise_cons.2 ⟨fun z hz => ?_, ih (fun z hz => hx z (List.mem_cons_of_mem _ hz)) hl⟩
      rcases (mem_insertScore x z l).1 hz with rfl | hz
      · simp only [Bool.or_eq_true, Bool.and_eq_true, decide_eq_true_eq] at hxy
        unfold scoresBefore
        omega
      · exact hy z hz

/-- The cores of a cluster with their scores, before they are ranked. -/
def scored (s : State) (x : TaskInst) (k : Nat) : List (Nat × Nat) := ((coresOf k).filter (eligible s x)).map fun c => (c, score s x c)

theorem mem_foldr_insertScore (a : Nat × Nat) (l : List (Nat × Nat)) : a ∈ l.foldr insertScore [] ↔ a ∈ l := by
  induction l with
  | nil => rfl
  | cons y l ih => rw [List.foldr_cons, mem_insertScore, ih, List.mem_cons]

theorem pairwise_foldr_insertScore {l : List (Nat × Nat)} (h : (l.map Prod.fst).Nodup) : (l.foldr insertScore []).Pairwise scoresBefore := by
  induction l with
  | nil => exact List.Pairwise.nil
  | cons y l ih =>
    obtain ⟨hy, hl⟩ := List.nodup_cons.1 (List.map_cons ▸ h)
    refine pairwise_insertScore (fun z hz he => hy ?_) (ih hl)
    exact he ▸ List.mem_map_of_mem ((mem_foldr_insertScore z l).1 hz)

theorem ranked_spec (s : State) (x : TaskInst) (k : Nat) : (ranked s x k).Pairwise (fun a b => b.2 < a.2 ∨ (a.2 = b.2 ∧ a.1 < b.1)) ∧
    ∀ a, a ∈ ranked s x k ↔ a.1 ∈ coresOf k ∧ eligible s x a.1 = true ∧ a.2 = score s x a.1 := by
  refine ⟨?_, fun a => ?_⟩
  · exact pairwise_foldr_insertScore (l := scored s x k)
      (by rw [scored, List.map_map]; exact ((coresOf_nodup k).filter _).map fun _ _ h => h)
  · refine (mem_foldr_insertScore a (scored s x k)).trans ?_
    simp only [scored, List.mem_map, List.mem_filter]
    constructor
    · rintro ⟨c, ⟨hc, he⟩, rfl⟩
      exact ⟨hc, he, rfl⟩
    · rintro ⟨hc, he, hv⟩
      exact ⟨a.1, ⟨hc, he⟩, Prod.ext rfl hv.symm⟩

/-! ### The cluster of the highest total (R102) -/

/-- The total of the scores of the best `n` cores of a cluster. -/
def totalOf (s : State) (n : Nat) (x : TaskInst) (k : Nat) : Nat := (((ranked s x k).take n).map Prod.snd).sum

/-- The best cluster so far, with its cores and their total. -/
def bestCluster (s : State) (n : Nat) (x : TaskInst) (a : Option (List Nat × Nat)) (k : Nat) : Option (List Nat × Nat) :=
  if (ranked s x k).length < n then a
  else match a with
    | none => some (((ranked s x k).take n).map Prod.fst, totalOf s n x k)
    | some (m, w) => if w < totalOf s n x k then some (((ranked s x k).take n).map Prod.fst, totalOf s n x k) else some (m, w)

theorem foldl_add_snd (l : List (Nat × Nat)) (v : Nat) : l.foldl (fun m x => m + x.2) v = v + (l.map Prod.snd).sum := by
  induction l generalizing v with
  | nil => rfl
  | cons x l ih => rw [List.foldl_cons, ih, List.map_cons, List.sum_cons, Nat.add_assoc]

theorem placement_eq (s : State) (f n : Nat) (x : TaskInst) :
    placement s f n x = ((clustersOf f).foldl (bestCluster s n x) none).map fun x => x.1.foldl sadd [] := by
  unfold placement
  refine congrArg (Option.map _) (congrFun (congrFun (congrArg _ (funext fun a => funext fun k => ?_)) _) _)
  have hlen : ((ranked s x k).take n).length < n ↔ (ranked s x k).length < n := by rw [List.length_take]; omega
  simp only [bestCluster, totalOf, foldl_add_snd, Nat.zero_add, hlen]
  cases a <;> rfl

/-- `k` is the cluster of `l` with the highest total, ties to the one met first. -/
def IsBest (s : State) (n : Nat) (x : TaskInst) (l : List Nat) (k : Nat) : Prop :=
  k ∈ l ∧ n ≤ (ranked s x k).length ∧ ∀ j, j ∈ l → n ≤ (ranked s x j).length →
    totalOf s n x j < totalOf s n x k ∨ (totalOf s n x j = totalOf s n x k ∧ k ≤ j)

theorem bestCluster_spec (s : State) (n : Nat) (x : TaskInst) (l : List Nat) (hl : l.Pairwise (· < ·)) :
    (l.foldl (bestCluster s n x) none = none ∧ ∀ k, k ∈ l → (ranked s x k).length < n) ∨
      ∃ k, IsBest s n x l k ∧ l.foldl (bestCluster s n x) none = some (((ranked s x k).take n).map Prod.fst, totalOf s n x k) := by
  induction l using List.reverseRecOn with
  | nil => exact .inl ⟨rfl, fun _ h => absurd h List.not_mem_nil⟩
  | append_singleton l k ih =>
    obtain ⟨hl, -, hlk⟩ := List.pairwise_append.1 hl
    have hlk : ∀ j ∈ l, j < k := fun j hj => hlk j hj k (List.mem_singleton_self k)
    rw [List.foldl_append, List.foldl_cons, List.foldl_nil]
    by_cases hk : (ranked s x k).length < n
    · have hstep : ∀ a, bestCluster s n x a k = a := fun a => if_pos hk
      rw [hstep]
      rcases ih hl with ⟨he, hall⟩ | ⟨j, ⟨hj, hjn, hall⟩, he⟩
      · exact .inl ⟨he, List.forall_mem_append.2 ⟨hall, List.forall_mem_singleton.2 hk⟩⟩
      · exact .inr ⟨j, ⟨List.mem_append_left _ hj, hjn, List.forall_mem_append.2
          ⟨hall, List.forall_mem_singleton.2 fun h => absurd hk (Nat.not_lt.2 h)⟩⟩, he⟩
    · rcases ih hl with ⟨he, hall⟩ | ⟨j, ⟨hj, hjn, hall⟩, he⟩
      · refine .inr ⟨k, ⟨List.mem_append_right _ (List.mem_singleton_self k), Nat.le_of_not_lt hk, List.forall_mem_append.2
          ⟨fun i hi h => absurd (hall i hi) (Nat.not_lt.2 h), List.forall_mem_singleton.2 fun _ => .inr ⟨rfl, Nat.le_refl k⟩⟩⟩, ?_⟩
        rw [he, bestCluster, if_neg hk]
      · rw [he, bestCluster, if_neg hk]
        by_cases hw : totalOf s n x j < totalOf s n x k
        · refine .inr ⟨k, ⟨List.mem_append_right _ (List.mem_singleton_self k), Nat.le_of_not_lt hk, List.forall_mem_append.2
            ⟨fun i hi h => .inl ?_, List.forall_mem_singleton.2 fun _ => .inr ⟨rfl, Nat.le_refl k⟩⟩⟩, if_pos hw⟩
          rcases hall i hi h with h | ⟨h, -⟩ <;> omega
        · refine .inr ⟨j, ⟨List.mem_append_left _ hj, hjn, List.forall_mem_append.2
            ⟨hall, List.forall_mem_singleton.2 fun _ => ?_⟩⟩, if_neg hw⟩
          have := hlk j hj
          omega

theorem clustersOf_ascending (f : Nat) : (clustersOf f).Pairwise (· < ·) := by
  simp only [clustersOf, List.range, List.range.loop, List.flatMap_cons, List.flatMap_nil, List.map_cons, List.map_nil, List.cons_append,
    List.nil_append, List.append_nil, List.pairwise_cons, List.forall_mem_cons, List.not_mem_nil, false_implies, implies_true,
    List.Pairwise.nil, and_true]
  omega

theorem pairwise_sadd {l : List Nat} (k : Nat) (h : l.Pairwise (· < ·)) : (sadd l k).Pairwise (· < ·) := by
  induction l with
  | nil => exact List.pairwise_singleton _ _
  | cons j l ih =>
    obtain ⟨hj, hl⟩ := List.pairwise_cons.1 h
    rw [sadd]
    split
    · exact h
    · split
      · next hk => exact List.pairwise_cons.2 ⟨List.forall_mem_cons.2 ⟨hk, fun i hi => Nat.lt_trans hk (hj i hi)⟩, h⟩
      · refine List.pairwise_cons.2 ⟨fun i hi => ?_, ih hl⟩
        rcases (mem_sadd l k i).1 hi with rfl | hi
        · omega
        · exact hj i hi

theorem pairwise_foldl_sadd (m l : List Nat) (h : l.Pairwise (· < ·)) : (m.foldl sadd l).Pairwise (· < ·) := by
  induction m generalizing l with
  | nil => exact h
  | cons k m ih => exact ih _ (pairwise_sadd k h)

theorem placement_some (s : State) (f n : Nat) (x : TaskInst) (cs : List Nat) (h : placement s f n x = some cs) :
    cs.Pairwise (· < ·) ∧ ∃ k, k ∈ clustersOf f ∧ n ≤ (ranked s x k).length ∧
      (∀ c, c ∈ cs ↔ ∃ v, (c, v) ∈ (ranked s x k).take n) ∧
      ∀ j, j ∈ clustersOf f → n ≤ (ranked s x j).length →
        (((ranked s x j).take n).map Prod.snd).sum < (((ranked s x k).take n).map Prod.snd).sum ∨
          ((((ranked s x j).take n).map Prod.snd).sum = (((ranked s x k).take n).map Prod.snd).sum ∧ k ≤ j) := by
  rw [placement_eq] at h
  rcases bestCluster_spec s n x (clustersOf f) (clustersOf_ascending f) with ⟨he, -⟩ | ⟨k, ⟨hk, hn, hall⟩, he⟩
  · rw [he] at h
    exact absurd h (by simp)
  · rw [he] at h
    have hcs : (((ranked s x k).take n).map Prod.fst).foldl sadd [] = cs := Option.some.inj h
    refine ⟨hcs ▸ pairwise_foldl_sadd _ _ List.Pairwise.nil, k, hk, hn, fun c => ?_, hall⟩
    rw [← hcs, mem_foldl_sadd, List.mem_map]
    constructor
    · rintro (⟨⟨a, v⟩, ha, rfl⟩ | h)
      · exact ⟨v, ha⟩
      · exact absurd h List.not_mem_nil
    · exact fun ⟨v, hv⟩ => .inl ⟨_, hv, rfl⟩

theorem placement_none (s : State) (f n : Nat) (x : TaskInst) :
    placement s f n x = none ↔ ∀ k, k ∈ clustersOf f → (ranked s x k).length < n := by
  rw [placement_eq, Option.map_eq_none_iff]
  rcases bestCluster_spec s n x (clustersOf f) (clustersOf_ascending f) with ⟨he, hall⟩ | ⟨k, ⟨hk, hn, -⟩, he⟩
  · exact ⟨fun _ => hall, fun _ => he⟩
  · exact ⟨fun h => absurd (he.symm.trans h) (by simp), fun h => absurd (h k hk) (Nat.not_lt.2 hn)⟩

/-! ### The field with the largest count (R96, R100) -/

/-- The order in which `mostField` prefers fields. -/
def richer (count : Nat → Nat) (f g : Nat) : Bool := count g < count f || (count f = count g && f < g)

theorem mostField_eq (fs : List Nat) (n : Nat) (count : Nat → Nat) :
    mostField fs n count = (fs.filter fun f => n ≤ count f).foldl (firstOf (richer count)) none := by
  rw [List.foldl_filter, mostField]
  refine congrFun (congrFun (congrArg _ (funext fun a => funext fun f => ?_)) _) _
  by_cases h : count f < n
  · rw [if_pos h, if_neg (by simpa using h)]
  · rw [if_neg h, if_pos (by simpa using h)]
    cases a <;> rfl

theorem mostField_some {fs : List Nat} {n : Nat} {count : Nat → Nat} {f : Nat} (h : mostField fs n count = some f) :
    f ∈ fs ∧ n ≤ count f ∧ ∀ g ∈ fs, n ≤ count g → count g < count f ∨ (count g = count f ∧ f ≤ g) := by
  rw [mostField_eq] at h
  obtain ⟨hf, hall⟩ := foldl_firstOf_none (lt := richer count)
    (fun a b c hab hbc => by simp only [richer, Bool.or_eq_true, Bool.and_eq_true, decide_eq_true_eq] at *; omega) (fun a => by simp [richer]) h
  obtain ⟨hf, hn⟩ := List.mem_filter.1 hf
  refine ⟨hf, of_decide_eq_true hn, fun g hg hgn => ?_⟩
  have hgf := hall g (List.mem_filter.2 ⟨hg, decide_eq_true hgn⟩)
  simp only [richer, Bool.or_eq_false_iff, Bool.and_eq_false_iff, decide_eq_false_iff_not] at hgf
  omega

theorem foldl_firstOf_isSome {α : Type} {lt : α → α → Bool} (l : List α) (y : α) : (l.foldl (firstOf lt) (some y)).isSome = true := by
  induction l generalizing y with
  | nil => rfl
  | cons x l ih =>
    rw [List.foldl_cons, firstOf]
    split
    · exact ih x
    · exact ih y

theorem mostField_none {fs : List Nat} {n : Nat} {count : Nat → Nat} (h : mostField fs n count = none) : ∀ f ∈ fs, count f < n := by
  rw [mostField_eq] at h
  refine fun f hf => Nat.lt_of_not_le fun hn => ?_
  have hmem : f ∈ fs.filter fun f => n ≤ count f := List.mem_filter.2 ⟨hf, decide_eq_true hn⟩
  cases hl : fs.filter fun f => n ≤ count f with
  | nil => exact absurd (hl ▸ hmem) List.not_mem_nil
  | cons x l =>
    rw [hl] at h
    have hsome := foldl_firstOf_isSome (lt := richer count) l x
    rw [show l.foldl (firstOf (richer count)) (some x) = none from h] at hsome
    exact Bool.false_ne_true hsome

end Sys2Proof.Machine
end

section

/-! PROOF. What the end of a task's work leaves alone: the registers that committed slots have written, the programs of the launches, and that nothing
of a bank waits at the matrix unit (R303, R325, R411, R473). -/

namespace Sys2Proof.Machine
open Sys2Proof

/-- The registers that committed slots write. -/
def Bank.written (k : Bank) : Vector Word 32 × Vector VWord 32 × Vector MWord 8 := (k.s, k.v, k.m)

/-- Nothing of a bank is in the staging queue, at the accumulator port or in the select unit. -/
def Core.clear (x : Core) (b : Bool) : Prop := (∀ q ∈ x.queue, q.bank ≠ b) ∧ (∀ p ∈ x.port, p.op.bank ≠ b) ∧ ∀ q ∈ x.sel, q.bank ≠ b

/-- A core keeps its written registers, and what is clear of a bank stays clear of it. -/
structure Core.Stands (x y : Core) : Prop where
  written : ∀ b, (y.bank b).written = (x.bank b).written
  clear : ∀ b, x.clear b → y.clear b

/-- Every core keeps its written registers, and what is clear of a bank stays clear of it; graphs and the launches' namespaces stay. -/
structure Still (s t : State) : Prop where
  cores : ∀ c, (s.core c).Stands (t.core c)
  graphs : t.graphs = s.graphs
  spaces : ∀ l, (kget t.launches l).map Launch.ns = (kget s.launches l).map Launch.ns

theorem Core.Stands.refl (x : Core) : x.Stands x := ⟨fun _ => rfl, fun _ h => h⟩

theorem Core.Stands.trans {x y z : Core} (h : x.Stands y) (k : y.Stands z) : x.Stands z :=
  ⟨fun b => (k.written b).trans (h.written b), fun b hb => k.clear b (h.clear b hb)⟩

section
variable {s t u : State}

theorem Still.refl (s : State) : Still s s := ⟨fun _ => .refl _, rfl, fun _ => rfl⟩

theorem Still.trans (h : Still s t) (k : Still t u) : Still s u :=
  ⟨fun c => (h.cores c).trans (k.cores c), k.graphs.trans h.graphs, fun l => (k.spaces l).trans (h.spaces l)⟩

/-- A state that differs elsewhere alone. -/
theorem Still.congr (h : Still s t) (h1 : u.cores = t.cores) (h2 : u.graphs = t.graphs) (h3 : u.launches = t.launches) : Still s u := by
  refine ⟨fun c => ?_, h2.trans h.graphs, fun l => by rw [h3]; exact h.spaces l⟩
  rw [show u.core c = t.core c by unfold State.core; rw [h1]]
  exact h.cores c

theorem still_foldl {α : Type} {g : State → α → State} (h : ∀ t a, Still s t → Still s (g t a)) {l : List α} (ht : Still s t) :
    Still s (l.foldl g t) := by
  induction l generalizing t with
  | nil => exact ht
  | cons x r ih => exact ih (h t x ht)

theorem still_ite {p : Prop} [Decidable p] (ht : Still s t) (hu : Still s u) : Still s (if p then t else u) := by
  split
  · exact ht
  · exact hu

theorem still_times {f : State → State} {n : Nat} (hf : ∀ t, Still s t → Still s (f t)) (h : Still s t) : Still s (times n f t) := by
  induction n generalizing t with
  | zero => exact h
  | succ n ih => exact ih (hf t h)

/-! ### Single changes -/

theorem still_modCore {c : Nat} {f : Core → Core} (h : Still s t) (hf : ∀ x, Core.Stands x (f x)) : Still s (t.modCore c f) := by
  refine ⟨fun d => ?_, h.graphs, h.spaces⟩
  by_cases hd : d = c
  · rw [hd, State.core_modCore]
    exact (h.cores c).trans (hf _)
  · rw [State.core_modCore_ne _ _ _ hd]
    exact h.cores d

theorem Core.stands_modBank (x : Core) (b : Bool) {f : Bank → Bank} (hf : ∀ k, (f k).written = k.written) : x.Stands (x.modBank b f) :=
  ⟨fun d => by cases b <;> cases d <;> first | rfl | exact hf _, fun d h => by cases b <;> exact h⟩

theorem still_modBankAt {c : Nat} {b : Bool} {f : Bank → Bank} (h : Still s t) (hf : ∀ k, (f k).written = k.written) :
    Still s (t.modBankAt c b f) := still_modCore h fun x => x.stands_modBank b hf

theorem Still.of_netOnly (h : Still s t) (k : NetOnly t u) : Still s u := by
  rw [k.1]
  exact h.congr rfl rfl rfl

theorem still_modLaunch {l : Nat} {f : Launch → Launch} (h : Still s t) (hf : ∀ x, (f x).ns = x.ns) : Still s (t.modLaunch l f) := by
  unfold State.modLaunch
  split
  · next x hx =>
    refine ⟨h.cores, h.graphs, fun m => Eq.trans ?_ (h.spaces m)⟩
    by_cases hm : m = l
    · rw [hm, kget_kset_same, hx]
      exact congrArg some (hf x)
    · rw [kget_kset_ne _ _ hm]
  · exact h

theorem still_touchPhase {l k : Nat} (h : Still s t) : Still s (touchPhase t l k) := h.congr rfl rfl rfl
theorem still_touchSource {l k : Nat} (h : Still s t) : Still s (touchSource t l k) := by rw [touchSource_eq]; exact h.congr rfl rfl rfl
theorem still_post {e : Event} (h : Still s t) : Still s (post e t) := by rw [post_eq]; exact h.congr rfl rfl rfl
theorem still_passOn {l p r : Nat} (h : Still s t) : Still s (passOn l p r t) := by
  refine still_touchPhase ?_
  exact h.congr rfl rfl rfl
theorem still_violate {k n c p : Nat} {wr : Bool} (h : Still s t) : Still s (violate t k n c p wr) := h.congr rfl rfl rfl
theorem still_modCluster {k : Nat} {f : Cluster → Cluster} (h : Still s t) : Still s (t.modCluster k f) := h.congr rfl rfl rfl
theorem still_modOp {o : Nat} {f : COp → COp} (h : Still s t) : Still s (t.modOp o f) := by rw [modOp_eq]; exact h.congr rfl rfl rfl
theorem still_modTask {n : Nat} {f : TaskInst → TaskInst} (h : Still s t) : Still s (t.modTask n f) := by rw [modTask_eq]; exact h.congr rfl rfl rfl
theorem still_writeBytes {k : Nat} {bs : List Byte} (h : Still s t) : Still s (writeBytes t k bs) := h.congr rfl rfl rfl
theorem still_markPoison {ws : List Nat} (h : Still s t) : Still s (markPoison t ws) := h.congr rfl rfl rfl
theorem still_clearPoison {ws : List Nat} (h : Still s t) : Still s (clearPoison t ws) := h.congr rfl rfl rfl
theorem still_storeBytes {k : Nat} {bs : List Byte} (h : Still s t) : Still s (storeBytes t k bs) := h.congr rfl rfl rfl
theorem still_postAbort {l : Nat} {c : BitVec 8} {d : Word} (h : Still s t) : Still s (postAbort t l c d) := h.congr rfl rfl rfl
theorem still_abortCode {l : Nat} {c : BitVec 8} {src : BitVec 16} (h : Still s t) : Still s (abortCode l c src t) := still_postAbort h
theorem still_raiseEvent {c : Nat} {b : Bool} {e : Nat} (h : Still s t) : Still s (raiseEvent t c b e) :=
  still_modCore h fun x => x.stands_modBank b fun _ => rfl

theorem still_emitCore {c : Nat} {b : Bool} {code : BitVec 16} {p : List Byte} (h : Still s t) : Still s (emitCore t c b code p) := by
  unfold emitCore
  rw [emit_eq]
  exact h.congr rfl rfl rfl

theorem still_engineWriteBut {late : List Nat} {k : Nat} {bs : List Byte} {psn : Bool} (h : Still s t) :
    Still s (engineWriteBut late t k bs psn) := by
  have hf : ∀ (ws : List Nat), Still s (engineFull (storeBytes t k bs) ws) := by
    intro ws
    unfold engineFull
    split
    · exact still_storeBytes h
    · next w r =>
      have hset : Still s (setFull (storeBytes t k bs) (w :: r)) := (still_storeBytes (k := k) (bs := bs) h).congr rfl rfl rfl
      dsimp only
      split
      · exact still_raiseEvent (still_raiseEvent hset)
      · exact hset
  exact still_ite (still_markPoison (hf _)) (hf _)

/-! ### Copies -/

theorem still_modGroup {c : Nat} {b : Bool} {g : Nat} {f : CopyGroup → CopyGroup} (h : Still s t) : Still s (modGroup c b g f t) :=
  still_modBankAt h fun _ => rfl

theorem still_leaveGroup {o : COp} (h : Still s t) : Still s (leaveGroup o t) := by
  unfold leaveGroup
  split
  · exact h
  · exact still_ite (still_modGroup (still_raiseEvent (still_modGroup h))) (still_modGroup h)

theorem still_touchOp {o : COp} (h : Still s t) : Still s (touchOp o t) := by
  unfold touchOp
  split
  · exact still_ite (still_touchPhase h) h
  · exact h

theorem still_endOp {o : COp} (h : Still s t) : Still s (endOp o t) := by
  refine still_leaveGroup (still_modBankAt ?_ fun _ => rfl)
  exact (still_touchOp h).congr rfl rfl rfl

theorem still_fillDone {o : COp} (h : Still s t) : Still s (fillDone o t) := by
  unfold fillDone
  split
  · exact h
  · refine still_foldl (fun t j h => ?_) h
    exact still_ite (still_raiseEvent (still_modBankAt h (by intro; rfl))) h

theorem still_getPieces {ps : List (Nat × Nat)} {dst : Nat} (h : Still s t) : Still s (getPieces ps dst t) := by
  induction ps generalizing dst t with
  | nil => exact h
  | cons p r ih => exact ih (still_markPoison (still_storeBytes h))

theorem still_putPieces {late : List Nat} {ps : List (Nat × Nat)} {src : Nat} (h : Still s t) : Still s (putPieces late ps src t) := by
  induction ps generalizing src t with
  | nil => exact h
  | cons p r ih => exact ih (still_markPoison (still_engineWriteBut h))

theorem still_putGot {late : List Nat} {engine : Bool} {at' : Nat → Nat → List (Nat × Nat)} {g : Nat × List Byte × Bool} (h : Still s t) :
    Still s (putGot late engine at' t g) := by
  have hps : ∀ (ps : List (Nat × Nat)) (a : State × List Byte), Still s a.1 →
      Still s (ps.foldl (fun (a : State × List Byte) p =>
        (if engine then engineWriteBut late a.1 p.1 (a.2.take p.2) false else storeBytes a.1 p.1 (a.2.take p.2), a.2.drop p.2)) a).1 := by
    intro ps
    induction ps with
    | nil => exact fun _ h => h
    | cons p r ih => exact fun a ha => ih _ (still_ite (still_engineWriteBut ha) (still_storeBytes ha))
  exact still_ite (still_markPoison (hps _ _ h)) (hps _ _ h)

theorem still_takeUnits {o : COp} {b : Box} {x : Trans} {y : Nat × Nat} (h : Still s t) : Still s (takeUnits o b x y t) :=
  still_foldl (fun _ _ h => still_ite h (still_modOp h)) h

theorem still_moveBytes {o : COp} {i : Nat} {b : Box} {x : Trans} {rest : List (Nat × Nat)} {y : Nat × Nat} (h : Still s t) :
    Still s (moveBytes o i b x rest t y) := by
  unfold moveBytes
  exact still_ite (still_ite (still_getPieces h) (still_putPieces h)) (still_foldl (fun _ _ h => still_putGot h) (still_takeUnits h))

theorem still_moveAll {o : COp} {i : Nat} {b : Box} {x : Trans} {l : List (Nat × Nat)} (h : Still s t) : Still s (moveAll o i b x l t) := by
  induction l generalizing t with
  | nil => exact h
  | cons y r ih => exact ih (still_moveBytes h)

theorem still_markDone {o : COp} {i : Nat} (h : Still s t) : Still s (markDone o i t) := still_modOp h

theorem still_performPage {o : COp} {i : Nat} {b : Box} {x : Trans} {checked : Bool} (h : Still s t) :
    Still s (performPage o i b x checked t) := by
  have hs : Still s (markDone o i ((boxLeft t o i b).foldl (pageSpan o b x) t)) :=
    still_markDone (still_foldl (fun _ _ h => still_writeBytes h) h)
  unfold performPage
  split
  · exact still_post (still_ite (still_violate h) h)
  · dsimp only
    split
    · exact still_ite (still_endOp hs) hs
    · exact hs

theorem still_performFetch {o : COp} {i : Nat} {b : Box} {x : Trans} (h : Still s t) : Still s (performFetch o i b x t) := by
  have hs : Still s (markDone o i ((boxLeft t o i b).foldl (readSpan o b x) t)) :=
    still_markDone (still_foldl (fun _ _ h => still_modOp h) h)
  unfold performFetch
  dsimp only
  split
  · refine still_ite hs ?_
    split
    · exact still_post (still_endOp hs)
    · exact still_endOp hs
  · exact hs

theorem still_performCopy {o : COp} {i : Nat} {b : Box} {x : Trans} {checked : Bool} (h : Still s t) :
    Still s (performCopy o i b x checked t) := by
  have hs : Still s (markDone o i (dropGot o b (moveAll o i b x (boxLeft t o i b) t))) := still_markDone (still_modOp (still_moveAll h))
  unfold performCopy
  refine still_ite (still_abortCode h) ?_
  dsimp only
  split
  · exact still_ite (still_endOp (still_ite (still_fillDone hs) hs)) (still_ite (still_fillDone hs) hs)
  · exact hs

theorem still_performBox {o : COp} {i : Nat} {b : Box} {x : Trans} (h : Still s t) : Still s (performBox o i b x t) := by
  have hn : Still s (noteAccess o x t) := still_ite (still_violate h) (still_ite (still_violate h) h)
  unfold performBox
  dsimp only
  split
  · unfold failBox
    exact still_ite (still_post hn) (still_ite (still_abortCode hn) (still_abortCode hn))
  · split
    · exact still_performPage h
    · exact still_ite (still_performFetch h) (still_performCopy h)

theorem still_finishBoxes {mine : COp → Bool} (h : Still s t) : Still s (finishBoxes mine t) := by
  refine still_foldl (fun t x h => ?_) h
  (repeat' split)
  case isTrue => exact still_performBox h
  all_goals exact h

theorem still_sinkReply {mine : COp → Bool} {e : Event} (h : Still s t) : Still s (sinkReply mine t e) := by
  unfold sinkReply
  split
  · split
    · exact still_ite (still_passOn h) h
    · exact h
  · exact h

theorem still_killCopies {c : Nat} {b : Bool} (h : Still s t) : Still s (killCopies c b t) := by
  unfold killCopies discardOps
  exact (still_foldl (fun _ _ h => still_sinkReply h) (still_foldl (fun _ _ h => still_touchOp h) (still_finishBoxes h))).congr rfl rfl rfl

/-! ### The matrix array -/

theorem still_orFlags {c z : Nat} {bits : BitVec 8} (h : Still s t) : Still s (orFlags c z bits t) :=
  still_modCore h fun _ => ⟨fun _ => rfl, fun _ h => h⟩

theorem still_notePsn {c z : Nat} {any : Bool} (h : Still s t) : Still s (notePsn c z any t) := still_ite (still_orFlags h) h

theorem still_progress {c z id : Nat} {f : RowProg → RowProg} (h : Still s t) : Still s (progress c z id f t) := by
  refine still_modCore h fun x => ?_
  split
  · exact ⟨fun _ => rfl, fun _ h => h⟩
  · exact .refl x

theorem still_recordFault {c : Nat} {q : MOp} {z : Option Nat} {code : BitVec 8} (h : Still s t) : Still s (recordFault c q z code t) :=
  still_modCore h fun _ => ⟨fun _ => rfl, fun _ h => h⟩

theorem still_recordOnce {c : Nat} {p : PortOp} {code : BitVec 8} (h : Still s t) : Still s (recordOnce c p code t) := by
  refine still_ite h (still_modCore (still_recordFault h) fun x => ⟨fun _ => rfl, fun b hb => ?_⟩)
  obtain ⟨hq, hp, hs⟩ := hb
  refine ⟨hq, fun o ho => ?_, hs⟩
  obtain ⟨o', ho', rfl⟩ := List.mem_map.1 ho
  split
  · exact hp o' ho'
  · exact hp o' ho'

theorem still_writeRow {c z row : Nat} {vals : List Nat} {psn : Nat → Bool} (h : Still s t) : Still s (writeRow c z row vals psn t) :=
  still_markPoison (still_clearPoison (still_writeBytes h))

theorem still_readUnit {c : Nat} {q : MOp} {i : Nat} (h : Still s t) : Still s (readUnit c q i t) := by
  unfold readUnit
  refine still_ite h ?_
  split
  · exact h
  · exact still_ite (still_passOn (still_modBankAt h fun _ => rfl)) h

theorem still_writeUnit {c : Nat} {p : PortOp} {key : Nat} {bs : List Byte} {bad ws : List Nat} (h : Still s t) :
    Still s (writeUnit c p key bs bad ws t) :=
  still_ite (still_recordOnce h) (still_foldl (fun _ _ h => still_markPoison (still_engineWriteBut h)) h)

theorem still_sides {a b : KMap Word} (h : Still s t) : Still s { t with rmax := a, rsum := b } := h.congr rfl rfl rfl
theorem still_rsum {b : KMap Word} (h : Still s t) : Still s { t with rsum := b } := h.congr rfl rfl rfl

theorem still_rescaleRow {c : Nat} {p : PortOp} (h : Still s t) : Still s (rescaleRow c p t) := by
  unfold rescaleRow
  refine still_ite (still_recordOnce h) (still_readUnit (still_notePsn (still_orFlags ?_)))
  exact still_ite (still_markPoison (still_rsum (still_writeRow h))) (still_rsum (still_writeRow h))

theorem still_portRow {c : Nat} {p : PortOp} (h : Still s t) : Still s (portRow c p t) := by
  unfold portRow
  split
  · exact still_sides (still_clearPoison (still_writeRow h))
  · exact still_orFlags (still_writeUnit h)
  · exact still_foldl (fun _ _ h => still_notePsn (still_writeUnit h)) h
  · exact still_ite (still_recordOnce h) (still_notePsn (still_orFlags (still_writeRow h)))
  · exact still_rescaleRow h
  · unfold transposeRow
    exact still_progress (still_notePsn (still_orFlags (still_writeRow h)))
  · exact h

theorem still_releaseAll {c : Nat} {q : MOp} (h : Still s t) : Still s (releaseAll c q t) :=
  still_ite (still_passOn (still_modBankAt h fun _ => rfl)) (still_modBankAt h fun _ => rfl)

theorem still_settleEntry {k num : Nat} (h : Still s t) : Still s (settleEntry k num t) := by
  unfold settleEntry
  dsimp only
  split
  · exact h
  · exact still_ite h (still_modCluster h)

theorem still_abortSeg {k num : Nat} {g : Seg} {code : Option (BitVec 8)} {wflt : Bool} (h : Still s t) :
    Still s (abortSeg k num g code wflt t) := by
  unfold abortSeg
  refine still_settleEntry (still_modCluster (still_releaseAll (still_modCore (still_progress ?_) fun x => ⟨fun _ => rfl, fun b hb => ?_⟩)))
  · split
    · exact still_recordFault (still_orFlags h)
    · exact still_orFlags h
  · obtain ⟨hq, hp, hs⟩ := hb
    exact ⟨hq, fun p h => hp p (List.mem_filter.1 h).1, hs⟩

/-- A core without what is of a bank at its matrix unit. -/
def Core.drop (b : Bool) (x : Core) : Core :=
  { x with queue := x.queue.filter fun q => q.bank ≠ b, port := x.port.filter fun p => p.op.bank ≠ b,
           sel := x.sel.filter fun q => q.bank ≠ b, tileFaults := x.tileFaults.filter fun f => f.bank ≠ b }

theorem Core.clear_drop (b : Bool) (x : Core) : (x.drop b).clear b :=
  ⟨fun q h => by simpa using (List.mem_filter.1 h).2, fun p h => by simpa using (List.mem_filter.1 h).2,
    fun q h => by simpa using (List.mem_filter.1 h).2⟩

theorem Core.stands_drop (b : Bool) (x : Core) : x.Stands (x.drop b) :=
  ⟨fun _ => rfl, fun _ ⟨hq, hp, hs⟩ => ⟨fun q h => hq q (List.mem_filter.1 h).1, fun p h => hp p (List.mem_filter.1 h).1,
    fun q h => hs q (List.mem_filter.1 h).1⟩⟩

/-- The matrix work of a bank before it leaves the core: its list words and the rest of its rows are written, its rows wait no more. -/
def killRows (c : Nat) (b : Bool) (s : State) : State :=
  let s := ((s.core c).port.filter fun p => p.op.bank = b).foldl (lastRow c) (landSome c b s)
  ((s.core c).port.filter fun p => p.op.bank = b && p.op.kind = .mtrn).foldl (fun s p =>
    progress c p.op.form.z.toNat p.op.id (fun x => { x with busy := false }) (orFlags c p.op.form.z.toNat 0x80 s)) s

/-- The segments and load entries of a bank are ended. -/
def killSegs (c : Nat) (b : Bool) (s : State) : State :=
  let k := c / 4
  let mine := fun (e : MEntry) => e.isLoad && e.segs.any fun g => segCore g = c && g.op.bank = b
  let s := s.modCluster k fun x => (x.entries.filter mine).foldl (fun x e => x.drop e.num) x
  (s.cluster k).entries.foldl (fun s e => e.segs.foldl (fun s g =>
    if segCore g = c && g.op.bank = b && !g.aborted && (segBusy s g || e.kind = .transpose) then
      abortSeg k e.num g none false s else s) s) s

theorem killMatrix_eq (c : Nat) (b : Bool) (s : State) : killMatrix c b s = killSegs c b ((killRows c b s).modCore c (Core.drop b)) := rfl

theorem still_killRows {c : Nat} {b : Bool} (h : Still s t) : Still s (killRows c b t) := by
  have hland : Still s (landSome c b t) := still_foldl (fun _ _ h => still_ite (still_storeBytes h) h) h
  exact still_foldl (fun _ _ h => still_progress (still_orFlags h)) (still_foldl (fun _ _ h => still_ite h (still_portRow h)) hland)

theorem still_killSegs {c : Nat} {b : Bool} (h : Still s t) : Still s (killSegs c b t) :=
  still_foldl (fun _ _ h => still_foldl (fun _ _ h => still_ite (still_abortSeg h) h) h) (still_modCluster h)

theorem still_killMatrix {c : Nat} {b : Bool} (h : Still s t) : Still s (killMatrix c b t) := by
  rw [killMatrix_eq]
  exact still_killSegs (still_modCore (still_killRows h) (Core.stands_drop b))

/-- After it nothing of the bank is left at the matrix unit. -/
theorem clear_killMatrix (c : Nat) (b : Bool) (s : State) : ((killMatrix c b s).core c).clear b := by
  rw [killMatrix_eq]
  refine ((still_killSegs (.refl _)).cores c).clear b ?_
  rw [State.core_modCore]
  exact Core.clear_drop b _

/-! ### Task instances -/

theorem still_returnSlots {c : Nat} {b : Bool} (h : Still s t) : Still s (returnSlots c b t) := still_times (fun _ h => still_passOn h) h

theorem still_leaveGang {x : TaskInst} (h : Still s t) : Still s (leaveGang x t) := by
  unfold leaveGang
  split
  · exact h.congr rfl rfl rfl
  · exact h

end
end Sys2Proof.Machine
end

section

/-! PROOF. What the end and the kill of a task leave (R211, R473). -/

namespace Sys2Proof.Machine
open Sys2Proof

/-! ### Bookkeeping of a task that leaves -/

theorem netOnly_unhold (r : Nat) (h : HeldDelivery) (s : State) : NetOnly s (unhold r h s) := by
  unfold unhold
  split
  · exact .refl s
  · split
    · exact netOnly_touchTraffic _ { s with agenda := _ }
    · unfold unpin mapKept
      exact netOnly_modRouter s h.home fun _ => ⟨rfl, rfl⟩

theorem netOnly_dropHeld (r : Nat) (tgt : Target) (s : State) : NetOnly s (dropHeld r tgt s) := by
  unfold dropHeld
  refine NetOnly.trans ?_ (netOnly_foldl _ (fun t h => (netOnly_unhold r h t).trans (netOnly_touchPhase _ _ _)) _ _)
  exact netOnly_modRouter s r fun _ => ⟨rfl, rfl⟩

theorem netOnly_removeSubs (n : Nat) (x : TaskInst) (s : State) : NetOnly s (removeSubs n x s) := by
  unfold removeSubs
  split
  · exact .refl s
  · exact netOnly_foldl _ (fun s y => (netOnly_postAll _ s).trans (netOnly_dropHeld _ _ _)) _ s

theorem returnSlots_eq (c : Nat) (b : Bool) (s : State) :
    returnSlots c b s = { s with passing := (returnSlots c b s).passing, changed := (returnSlots c b s).changed } := by
  have h : ∀ (f : State → State) (n : Nat) (t : State), (∀ t, f t = { t with passing := (f t).passing, changed := (f t).changed }) →
      times n f t = { t with passing := (times n f t).passing, changed := (times n f t).changed } := by
    intro f n
    induction n with
    | zero => exact fun t _ => rfl
    | succ n ih =>
      intro t hf
      rw [times, ih (f t) hf]
      dsimp only
      rw [hf t]
  exact h _ _ s fun _ => rfl

theorem leaveGang_eq (x : TaskInst) (s : State) : leaveGang x s = { s with gangs := (leaveGang x s).gangs } := by
  unfold leaveGang
  split <;> rfl

theorem core_doneWaiting (n : Nat) (s : State) (c : Nat) :
    (doneWaiting n s).core c = { s.core c with noFire := sdel (s.core c).noFire n } := by
  have hmap : ∀ m : KMap Core, kget (m.map fun (x : Nat × Core) => (x.1, { x.2 with noFire := sdel x.2.noFire n })) c =
      (kget m c).map fun x => { x with noFire := sdel x.noFire n } := by
    intro m
    induction m with
    | nil => rfl
    | cons e m ih =>
      simp only [List.map_cons, kget]
      split
      · rfl
      · exact ih
  unfold State.core doneWaiting kgetD
  rw [hmap]
  cases kget s.cores c <;> rfl

/-- A removal on its way stays on its way when a held delivery is unpinned. -/
theorem removal_mem_unhold {m : PathMsg} {r : Nat} {h : HeldDelivery} {s : State} (hm : Event.removal m ∈ s.agenda) :
    Event.removal m ∈ (unhold r h s).agenda := by
  unfold unhold
  split
  · exact hm
  · split
    · next e he =>
      unfold takeOff
      rw [touchTraffic_eq]
      refine (List.mem_erase_of_ne fun heq => ?_).2 hm
      have hpin := List.find?_some he
      rw [← heq] at hpin
      exact Bool.false_ne_true hpin
    · exact hm

theorem removal_mem_dropHeld {m : PathMsg} {r : Nat} {tgt : Target} {s : State} (hm : Event.removal m ∈ s.agenda) :
    Event.removal m ∈ (dropHeld r tgt s).agenda := by
  unfold dropHeld
  generalize ((s.router r).held.filter fun h => h.tgt = tgt) = gone
  generalize hu : (s.modRouter r fun x => { x with held := x.held.filter fun h => h.tgt ≠ tgt }) = u
  have hmu : Event.removal m ∈ u.agenda := by rw [← hu]; exact hm
  clear hu
  induction gone generalizing u with
  | nil => exact hmu
  | cons h gone ih => exact ih _ (removal_mem_unhold hmu)

/-- The removals of every subscription are on their way. -/
theorem removalsOf_mem_removeSubs {n : Nat} {x : TaskInst} {s : State} (hb : x.st.bound = true) :
    ∀ y ∈ x.subs, ∀ e ∈ removalsOf (x.core / 4) n y, e ∈ (removeSubs n x s).agenda := by
  have hfold : ∀ (l : List Sub) (s : State), (∀ m, Event.removal m ∈ s.agenda → Event.removal m ∈
      (l.foldl (fun s y => dropHeld (x.core / 4) ⟨n, y.index, y.uid⟩ (postAll (removalsOf (x.core / 4) n y) s)) s).agenda) ∧
      ∀ y ∈ l, ∀ e ∈ removalsOf (x.core / 4) n y, e ∈
        (l.foldl (fun s y => dropHeld (x.core / 4) ⟨n, y.index, y.uid⟩ (postAll (removalsOf (x.core / 4) n y) s)) s).agenda := by
    intro l
    induction l with
    | nil => exact fun s => ⟨fun _ h => h, fun _ h => absurd h List.not_mem_nil⟩
    | cons z l ih =>
      intro s
      obtain ⟨hkeep, hall⟩ := ih (dropHeld (x.core / 4) ⟨n, z.index, z.uid⟩ (postAll (removalsOf (x.core / 4) n z) s))
      have hposted : (postAll (removalsOf (x.core / 4) n z) s).agenda = s.agenda ++ removalsOf (x.core / 4) n z := by rw [postAll_eq]
      refine ⟨fun m hm => hkeep m (removal_mem_dropHeld (hposted ▸ List.mem_append_left _ hm)), List.forall_mem_cons.2 ⟨fun e he => ?_, hall⟩⟩
      obtain ⟨h, -, rfl⟩ := List.mem_map.1 he
      exact hkeep _ (removal_mem_dropHeld (hposted ▸ List.mem_append_right _ he))
  intro y hy e he
  unfold removeSubs
  rw [if_neg (by rw [hb]; exact Bool.false_ne_true)]
  exact (hfold x.subs s).2 y hy e he

/-! ### The bank that a task leaves (R211) -/

/-- The clock of the other bank starts or not: this bank and the seniority stay. -/
theorem Core.ite_modBank_not (k : Core) (b p : Bool) (f : Bank → Bank) :
    (if p = true then k.modBank (!b) f else k).bank b = k.bank b ∧ (if p = true then k.modBank (!b) f else k).senior = k.senior := by
  cases p <;> cases b <;> exact ⟨rfl, rfl⟩

theorem bank_emptyBank (c : Nat) (b : Bool) (s : State) : ((emptyBank c b s).core c).bank b = ((s.core c).bank b).vacate (s.clk c) := by
  unfold emptyBank
  rw [State.core_modCore]
  refine (Core.ite_modBank_not _ b _ _).1.trans ?_
  cases b <;> rfl

theorem senior_emptyBank (c : Nat) (b : Bool) (s : State) : ((emptyBank c b s).core c).senior =
    if (s.core c).senior = some b then (if ((s.core c).bank (!b)).status = .empty then none else some (!b)) else (s.core c).senior := by
  unfold emptyBank
  rw [State.core_modCore]
  exact (Core.ite_modBank_not _ b _ _).2

/-- A vacated bank holds no task, no active loop level and no claim on a ring; its registers stay. -/
theorem vacate_spec (k : Bank) (now : Nat) : (k.vacate now).status = .empty ∧ (∀ i, ((k.vacate now).loop i).active = false) ∧
    (∀ r, r ∈ (k.vacate now).rings → r.held = [] ∧ r.taken = [] ∧ r.asks = [] ∧ r.readers = []) ∧
    (k.vacate now).s = k.s ∧ (k.vacate now).v = k.v ∧ (k.vacate now).m = k.m ∧ (k.vacate now).flags = k.flags := by
  refine ⟨rfl, fun i => ?_, fun r hr => ?_, rfl, rfl, rfl, rfl⟩
  · unfold Bank.loop Bank.vacate
    exact congrArg LoopLevel.active (Vector.getElem_map _ _)
  · obtain ⟨r, -, rfl⟩ := List.mem_map.1 hr
    exact ⟨rfl, rfl, rfl, rfl⟩

theorem Core.Stands.ite_startClock {x y : Core} (h : x.Stands y) (b p : Bool) (now : Nat) :
    x.Stands (if p = true then y.modBank b (fun k => k.startClock now) else y) := by
  cases p with
  | false => exact h
  | true =>
    rw [if_pos rfl]
    refine h.trans (y.stands_modBank b fun k => ?_)
    unfold Bank.startClock
    split <;> rfl

theorem still_emptyBank {c : Nat} {b : Bool} {s t : State} (h : Still s t) : Still s (emptyBank c b t) := by
  refine still_modCore h fun x => ?_
  have hv : x.Stands (x.modBank b fun k => k.vacate (t.clk c)) := x.stands_modBank b fun _ => rfl
  refine Core.Stands.ite_startClock ?_ (!b) _ (t.clk c)
  exact ⟨hv.written, hv.clear⟩

theorem still_doneWaiting {n : Nat} {s t : State} (h : Still s t) : Still s (doneWaiting n t) := by
  refine ⟨fun c => ?_, h.graphs, h.spaces⟩
  rw [core_doneWaiting]
  exact ⟨(h.cores c).written, (h.cores c).clear⟩

/-! ### A kill (R473) -/

/-- What a kill does after the bank's matrix work has ended. -/
def killRest (c : Nat) (b : Bool) (n : Nat) (s : State) : State :=
  let s := (returnSlots c b (killCopies c b s)).modBankAt c b clearGroups
  let s := match kget s.tasks n with | some t => leaveGang t s | none => s
  doneWaiting n (emptyBank c b s)

theorem killBank_eq (c : Nat) (b : Bool) (why : Nat) (s : State) : killBank c b why s =
    killRest c b ((s.core c).bank b).task (killMatrix c b (emitCore s c b 0x0012 (leBytes 1 why))) := rfl

theorem still_killRest {c : Nat} {b : Bool} {n : Nat} {s t : State} (h : Still s t) : Still s (killRest c b n t) := by
  have hk : Still s ((returnSlots c b (killCopies c b t)).modBankAt c b clearGroups) :=
    still_modBankAt (still_returnSlots (still_killCopies h)) fun _ => rfl
  unfold killRest
  refine still_doneWaiting (still_emptyBank ?_)
  split
  · exact still_leaveGang hk
  · exact hk

theorem still_killBank {c : Nat} {b : Bool} {why : Nat} {s t : State} (h : Still s t) : Still s (killBank c b why t) := by
  rw [killBank_eq]
  exact still_killRest (still_killMatrix (still_emitCore h))

theorem ops_killCopies (c : Nat) (b : Bool) (s : State) :
    ∀ o, o ∈ (killCopies c b s).ops → o.2.core = c → o.2.bank = b → o.2.ofTask = false := by
  intro o ho hc hb
  have h := (List.mem_filter.1 ho).2
  simpa [hc, hb] using h

theorem killRest_spec (c : Nat) (b : Bool) (n : Nat) (s : State) : (killRest c b n s).ops = (killCopies c b s).ops ∧
    (((killRest c b n s).core c).bank b).status = .empty := by
  unfold killRest
  dsimp only
  generalize hu : ((returnSlots c b (killCopies c b s)).modBankAt c b clearGroups) = u
  have hops : u.ops = (killCopies c b s).ops := by
    rw [← hu, returnSlots_eq]
    rfl
  refine ⟨?_, ?_⟩
  · refine Eq.trans ?_ hops
    split
    · rw [leaveGang_eq]
      rfl
    · rfl
  · rw [core_doneWaiting]
    exact (congrArg Bank.status (bank_emptyBank c b _)).trans (vacate_spec _ _).1

theorem killBank_spec (s : State) (c : Nat) (b : Bool) (why : Nat) :
    let t := killBank c b why s
    let k := (t.core c).bank b
    k.status = .empty ∧ k.s = ((s.core c).bank b).s ∧ k.v = ((s.core c).bank b).v ∧ k.m = ((s.core c).bank b).m ∧
      (∀ o, o ∈ t.ops → o.2.core = c → o.2.bank = b → o.2.ofTask = false) ∧ (∀ q, q ∈ (t.core c).queue → q.bank ≠ b) ∧
      (∀ p, p ∈ (t.core c).port → p.op.bank ≠ b) ∧ (∀ q, q ∈ (t.core c).sel → q.bank ≠ b) := by
  dsimp only
  have hw : (((killBank c b why s).core c).bank b).written = ((s.core c).bank b).written :=
    ((still_killBank (.refl s)).cores c).written b
  obtain ⟨hs, hv, hm⟩ : _ ∧ _ ∧ _ := ⟨congrArg Prod.fst hw, congrArg (fun x => x.2.1) hw, congrArg (fun x => x.2.2) hw⟩
  rw [killBank_eq] at hs hv hm ⊢
  obtain ⟨hops, hst⟩ := killRest_spec c b ((s.core c).bank b).task (killMatrix c b (emitCore s c b 0x0012 (leBytes 1 why)))
  obtain ⟨hq, hp, hsel⟩ := ((still_killRest (n := ((s.core c).bank b).task) (.refl _)).cores c).clear b
    (clear_killMatrix c b (emitCore s c b 0x0012 (leBytes 1 why)))
  exact ⟨hst, hs, hv, hm, fun o ho => ops_killCopies c b _ o (hops ▸ ho), hq, hp, hsel⟩

/-! ### The end of a task (R211) -/

/-- What `finishTask` does with a task that still stands in a pool, before its bank becomes empty. -/
def takeLeave (c : Nat) (b : Bool) (counted n : Nat) (x : TaskInst) (phase : Nat) (s : State) : State :=
  let s := returnSlots c b (removeSubs n x s)
  let s := (leaveGang x { s with tasks := kdel s.tasks n }).modLaunch x.launch fun l => { l with tasks := l.tasks + counted, moved := s.now }
  touchSource s x.launch phase

theorem finishTask_eq {c : Nat} {b : Bool} {counted n : Nat} {x : TaskInst} {s : State} (hn : ((s.core c).bank b).task = n)
    (hx : kget s.tasks n = some x) : ∃ bs phase, finishTask c b counted s =
      doneWaiting n (emptyBank c b (takeLeave c b counted n x phase (emitCore s c b 0x0011 bs))) := by
  have htasks : ∀ bs, (emitCore s c b 0x0011 bs).tasks = s.tasks := fun bs => by rw [emitCore, emit_eq]
  unfold finishTask
  dsimp only
  rw [hn, htasks, hx]
  exact ⟨_, _, rfl⟩

theorem takeLeave_spec {c : Nat} {b : Bool} {counted n phase : Nat} {x : TaskInst} {l : Launch} {s : State}
    (hl : kget s.launches x.launch = some l) :
    let t := takeLeave c b counted n x phase s
    t.cores = s.cores ∧ t.ops = s.ops ∧ kget t.tasks n = none ∧
      (∃ y, kget t.launches x.launch = some y ∧ y.tasks = l.tasks + counted) ∧ t.agenda = (removeSubs n x s).agenda := by
  have hu : ∃ u : State, takeLeave c b counted n x phase s =
      touchSource (u.modLaunch x.launch fun l => { l with tasks := l.tasks + counted, moved := (returnSlots c b (removeSubs n x s)).now })
        x.launch phase ∧ u.cores = s.cores ∧ u.ops = s.ops ∧ u.tasks = kdel s.tasks n ∧ u.launches = s.launches ∧
      u.agenda = (removeSubs n x s).agenda := by
    refine ⟨_, rfl, ?_⟩
    rw [leaveGang_eq, returnSlots_eq, (netOnly_removeSubs n x s).1]
    exact ⟨rfl, rfl, rfl, rfl, rfl⟩
  obtain ⟨u, ht, hcores, hops, htasks, hlaunches, hagenda⟩ := hu
  have hul : kget u.launches x.launch = some l := hlaunches ▸ hl
  have hlaunch := kget_modLaunch hul fun l => { l with tasks := l.tasks + counted, moved := (returnSlots c b (removeSubs n x s)).now }
  dsimp only
  rw [ht, touchSource_eq]
  dsimp only
  refine ⟨?_, ?_, ?_, ⟨_, hlaunch, rfl⟩, ?_⟩
  · rw [modLaunch_eq, ← hcores]
  · rw [modLaunch_eq, ← hops]
  · rw [modLaunch_eq]
    dsimp only
    rw [htasks]
    exact kget_kdel_same _ _
  · rw [modLaunch_eq, ← hagenda]

theorem endStep_finished {s : State} {c : Nat} {b : Bool} {n : Nat} {x : TaskInst} {l : Launch} (hf : endFault s c b = none)
    (he : bankEnds s c b = true) (hn : ((s.core c).bank b).task = n) (hx : kget s.tasks n = some x) (hl : kget s.launches x.launch = some l) :
    let t := endStep c b s
    let k := (t.core c).bank b
    kget t.tasks n = none ∧ (∃ y, kget t.launches x.launch = some y ∧ y.tasks = l.tasks + 1) ∧ k.status = .empty ∧
      (∀ i, (k.loop i).active = false) ∧ (∀ r, r ∈ k.rings → r.held = [] ∧ r.taken = [] ∧ r.asks = [] ∧ r.readers = []) ∧
      (x.st.bound = true → ∀ y, y ∈ x.subs → ∀ e, e ∈ removalsOf (x.core / 4) n y → e ∈ t.agenda) ∧
      (∀ o, o ∈ t.ops → o.2.core = c → o.2.bank = b → o.2.ofTask = false) ∧
      (t.core c).senior = (if (s.core c).senior = some b then
        (if ((s.core c).bank (!b)).status = .empty then none else some (!b)) else (s.core c).senior) ∧
      k.s = ((s.core c).bank b).s ∧ k.v = ((s.core c).bank b).v ∧ k.m = ((s.core c).bank b).m ∧ k.flags = ((s.core c).bank b).flags := by
  obtain ⟨bs, phase, hfin⟩ := finishTask_eq (counted := 1) hn hx
  generalize hu : emitCore s c b 0x0011 bs = u at hfin
  have hul : kget u.launches x.launch = some l := by rw [← hu, emitCore, emit_eq]; exact hl
  obtain ⟨hcores, hops, htask, hlaunch, hagenda⟩ := takeLeave_spec (c := c) (b := b) (counted := 1) (n := n) (phase := phase) hul
  generalize takeLeave c b 1 n x phase u = w at hfin hcores hops htask hlaunch hagenda
  have hwc : w.core c = s.core c := by
    unfold State.core
    rw [hcores, ← hu, emitCore, emit_eq]
  have hwo : w.ops = s.ops := by rw [hops, ← hu, emitCore, emit_eq]
  have hbank : ((finishTask c b 1 s).core c).bank b = ((s.core c).bank b).vacate (w.clk c) := by
    rw [hfin, core_doneWaiting, ← hwc]
    exact bank_emptyBank c b w
  have hsenior : ((finishTask c b 1 s).core c).senior = if (s.core c).senior = some b then
      (if ((s.core c).bank (!b)).status = .empty then none else some (!b)) else (s.core c).senior := by
    rw [hfin, core_doneWaiting, ← hwc]
    exact senior_emptyBank c b w
  have hidle : ∀ o, o ∈ s.ops → o.2.core = c → o.2.bank = b → o.2.ofTask = false := by
    intro o ho hc hb
    have hbusy : copiesBusy s c b = false := by
      simp only [bankEnds, Bool.and_eq_true, Bool.not_eq_true'] at he
      exact he.1.1.2
    have := List.any_eq_false.1 hbusy o ho
    simpa [hc, hb] using this
  obtain ⟨hst, hloop, hring, hs, hv, hm, hfl⟩ := vacate_spec ((s.core c).bank b) (w.clk c)
  have hstep : endStep c b s = if (s.core c).running = some b then
      (finishTask c b 1 s).modCore c fun k => { k with dbg := { k.dbg with retired := k.dbg.stepping } } else finishTask c b 1 s := by
    unfold endStep
    rw [hf]
    dsimp only
    simp only [decide_eq_true_eq]
  obtain ⟨h1, h2, h3⟩ : ((endStep c b s).core c).bank b = ((s.core c).bank b).vacate (w.clk c) ∧
      ((endStep c b s).core c).senior = ((finishTask c b 1 s).core c).senior ∧
      ((endStep c b s).tasks, (endStep c b s).launches, (endStep c b s).agenda, (endStep c b s).ops) = (w.tasks, w.launches, w.agenda, w.ops) := by
    rw [hstep]
    split
    · refine ⟨?_, ?_, by rw [hfin]; rfl⟩
      · rw [State.core_modCore]
        exact hbank
      · rw [State.core_modCore]
    · exact ⟨hbank, rfl, by rw [hfin]; rfl⟩
  simp only [Prod.mk.injEq] at h3
  obtain ⟨htasks, hlaunches, hag, ho⟩ := h3
  dsimp only
  rw [h1, h2, htasks, hlaunches, hag, ho, hagenda, hwo]
  exact ⟨htask, hlaunch, hst, hloop, hring, fun hb => removalsOf_mem_removeSubs hb, hidle, hsenior, hs, hv, hm, hfl⟩

theorem endStep_faulted {s : State} {c : Nat} {b : Bool} {code : BitVec 8} {u : State} (h : endFault s c b = some (code, u)) :
    ((endStep c b s).core c).bank b =
      { ((endStep c b s).core c).bank b with status := .trapped, cause := code, sr := 0, tended := false } := by
  obtain ⟨w, hw, hc, hb, htended⟩ : ∃ w : State, endStep c b s = takeTrapWith w code 0 0 ∧ w.ctx.core = c ∧ w.ctx.bank = b ∧
      w.bank.tended = false := by
    have hat : ∀ v : State, (atBank c b (v.modBankAt c b fun k => { k with tended := false })).bank.tended = false := fun v => by
      refine Eq.trans (b := (((v.modBankAt c b fun k => { k with tended := false }).core c).bank b).tended) rfl ?_
      rw [State.modBankAt, State.core_modCore, Core.bank_modBank]
    unfold endStep
    rw [h]
    exact ⟨_, rfl, rfl, rfl, hat _⟩
  obtain ⟨hbank, hctx, -⟩ := takeTrapWith_spec w code 0 0
  have hat : (takeTrapWith w code 0 0).bank = ((takeTrapWith w code 0 0).core c).bank b := by
    rw [State.bank, hctx]
    dsimp only
    rw [hc, hb]
  have htrap : { w.bank with
      cause := code, iaddr := BitVec.ofNat 32 w.ctx.addr, sr := 0, status := .trapped, pc := BitVec.ofNat 32 w.ctx.addr, tended := false } =
      trapBank w code 0 := by
    rw [← htended, trapBank]
  rw [hw, ← hat]
  rcases hbank with ⟨hk, -⟩ | ⟨hk, -⟩
  · rw [hk, ← htrap]
  · rw [hk, ← htrap]
    rfl

end Sys2Proof.Machine
end

section

/-! PROOF. What distributors do with task instances (R96 to R100, R474). -/

namespace Sys2Proof.Machine
open Sys2Proof

/-! ### Units of task instances (R95) -/

theorem exists_of_mem_membersOf {s : State} {n : Nat} {m : Nat × TaskInst} (h : m ∈ membersOf s n) : ∃ z, kget s.tasks m.1 = some z := by
  unfold membersOf at h
  split at h
  · exact absurd h List.not_mem_nil
  · obtain ⟨r, -, hr⟩ := List.mem_filterMap.1 h
    exact kget_of_mem (List.mem_of_find?_eq_some hr)

/-- The same change, at the time it is made, for every member of a unit: what holds of each result of it holds of every member after it. -/
theorem kget_foldl_modTask (F : Nat → TaskInst → TaskInst) {P Q : TaskInst → Prop} (now : Nat) (hF : ∀ w, P w → P (F now w) ∧ Q (F now w))
    (ms : List (Nat × TaskInst)) {n : Nat} {s : State} {z : TaskInst} (hnow : s.now = now) (hz : kget s.tasks n = some z) (hP : P z) :
    ∃ y, kget (ms.foldl (fun s m => s.modTask m.1 (F s.now)) s).tasks n = some y ∧ P y ∧ ((n ∈ ms.map Prod.fst ∨ Q z) → Q y) := by
  induction ms generalizing s z with
  | nil => exact ⟨z, hz, hP, fun h => h.resolve_left List.not_mem_nil⟩
  | cons m ms ih =>
    rw [List.foldl_cons, List.map_cons, List.mem_cons, hnow]
    have hnow' : (s.modTask m.1 (F now)).now = now := by rw [modTask_eq]; exact hnow
    by_cases hn : n = m.1
    · obtain ⟨hPF, hQF⟩ := hF z hP
      obtain ⟨y, hy, hPy, hQy⟩ := ih hnow' (hn ▸ kget_modTask (hn ▸ hz) _) hPF
      exact ⟨y, hy, hPy, fun _ => hQy (.inr hQF)⟩
    · obtain ⟨y, hy, hPy, hQy⟩ := ih hnow' ((kget_modTask_ne hn _).trans hz) hP
      exact ⟨y, hy, hPy, fun h => hQy (h.imp_left fun h => h.resolve_left hn)⟩

/-! ### Priorities (R99) -/

theorem firmwarePriorityChange_runs (s : State) (part l prio n : Nat) (x : TaskInst) (hx : kget s.tasks n = some x) (hl : x.launch = l)
    (hp : partOf l = part) (hst : x.st = .pending) :
    Runs .firmwarePriorityChange (.firmwarePriorityChange part l prio) s fun t =>
      kget t.tasks n = some (if x.keepPrio = false ∧ x.queuePrio ≠ prio % 8 then { x with queuePrio := prio % 8, queued := s.now } else x) := by
  intro hev
  refine ⟨_, rfl, ?_⟩
  rw [hev]
  refine (kget_map s.tasks _ n x hx).trans (congrArg some ?_)
  by_cases h : x.keepPrio = false ∧ x.queuePrio ≠ prio % 8
  · rw [if_pos h]
    exact if_pos (by simp [hl, hp, hst, h])
  · rw [if_neg h]
    refine if_neg fun hc => h ?_
    simp only [Bool.and_eq_true, Bool.not_eq_true', decide_eq_true_eq] at hc
    exact ⟨hc.1.2, hc.2⟩

/-! ### Pre-emption (R474) -/

theorem execPreemptionRequest_eq {s : State} {part n : Nat} {whole : Bool} (hev : s.ev = some (.preemptionRequest part whole n)) :
    execPreemptionRequest s = .next (preemptAll (preempted s part whole n) s) := by rw [execPreemptionRequest, hev]

theorem still_notePending {l : Nat} {s t : State} (h : Still s t) : Still s (notePending l t) := still_ite h (still_modLaunch h fun _ => rfl)

theorem still_requeue {n : Nat} {f : TaskInst → TaskInst} {s t : State} (h : Still s t) : Still s (requeue n f t) := by
  unfold requeue
  split
  · exact h
  · next x _ =>
    have hn : Still s (notePending x.launch (removeSubs n x t)) := still_notePending (h.of_netOnly (netOnly_removeSubs n x t))
    refine still_ite (still_touchSource ?_) ?_
    all_goals exact hn.congr rfl rfl rfl

theorem still_killUnit {n why : Nat} {f : TaskInst → TaskInst} {s t : State} (h : Still s t) : Still s (killUnit n why f t) :=
  still_foldl (fun _ _ h => still_requeue (still_killBank h)) h

theorem still_overrunFirst {m : Nat × TaskInst} {s t : State} (h : Still s t) : Still s (overrunFirst m t) := by
  have hk : ∀ c b, Still s (overrunKill c b t) := by
    intro c b
    have hstop : Still s (stopBank c b t) := still_modBankAt h fun _ => rfl
    unfold overrunKill
    dsimp only
    split
    · exact h
    · exact still_ite (still_postAbort hstop) (still_ite (still_abortCode hstop) (still_killUnit (still_modTask h)))
  unfold overrunFirst
  split
  · exact h
  · exact still_ite (hk _ _) h

theorem graphOf_eq (s : State) (l : Nat) : graphOf s l = ((kget s.launches l).map Launch.ns).bind (kget s.graphs) := by
  unfold graphOf
  cases kget s.launches l <;> rfl

theorem Still.descOf {s t : State} (h : Still s t) (x : TaskInst) : descOf t x = descOf s x := by
  unfold Machine.descOf
  rw [graphOf_eq, graphOf_eq, h.spaces, h.graphs]

theorem preemptionRequest_runs (s : State) (part n : Nat) (x : TaskInst) (d : TaskDesc) (hp : preempted s part false n = [(n, x)])
    (hx : kget s.tasks n = some x) (hst : x.st = .running) (hd : descOf s x = some d) :
    Runs .preemptionRequest (.preemptionRequest part false n) s fun t =>
      (d.restart = false → n ∈ (t.core x.core).noFire) ∧
        (d.restart = true → isEnding s x = false → overrunFirst (n, x) s = s → t = killUnit n 0 id s) := by
  intro hev
  refine ⟨_, execPreemptionRequest_eq hev, fun hr => ?_, fun hr hend hfirst => ?_⟩
  · have hruns : runsOn (overrunFirst (n, x) s) x = true := by
      rw [runsOn, (still_overrunFirst (.refl s)).descOf x, hd]
      dsimp only
      rw [hr]
      rfl
    rw [hp]
    unfold preemptAll
    simp only [List.foldl_cons, List.foldl_nil, List.filter_cons, hruns, if_true, List.filter_nil, List.map_cons, List.map_nil,
      List.isEmpty_cons, Bool.false_eq_true, if_false]
    rw [State.core_modCore]
    exact (mem_sadd _ _ _).2 (.inl rfl)
  · have hruns : runsOn s x = false := by
      rw [runsOn, hd, hend]
      dsimp only
      rw [hr]
      rfl
    rw [hp]
    unfold preemptAll
    simp only [List.foldl_cons, List.foldl_nil, List.filter_cons, hfirst, hruns, Bool.false_eq_true, if_false, List.filter_nil,
      List.map_nil, List.isEmpty_nil, if_true]
    unfold preemptKill
    dsimp only
    rw [hx]
    exact if_pos (by rw [hst, hruns]; rfl)

/-! ### Budgets (R114) -/

theorem budgetExhausted_runs (s : State) (c : Nat) (b : Bool) (x : TaskInst) (d : TaskDesc) (ho : overrun s c b = true)
    (hx : kget s.tasks ((s.core c).bank b).task = some x) (hd : descOf s x = some d) :
    Runs .budgetExhausted (.budgetExhausted c b) s fun t =>
      (d.restart = false → ((t.core c).bank b).status = .trapped ∧
        t.aborts = s.aborts ++ [⟨x.launch, 0x03, BitVec.setWidth 32 (sourceOf c b), s.now⟩]) ∧
      (d.restart = true → 3 ≤ x.overruns → ((t.core c).bank b).status = .trapped ∧
        t.aborts = s.aborts ++ [⟨x.launch, 0x02, trapDetail 0x2D (sourceOf c b), s.now⟩]) := by
  intro hev
  have he : execBudgetExhausted s = .next (overrunKill c b s) := by
    rw [execBudgetExhausted, hev]
    exact congrArg _ (if_pos ho)
  have hstop : (((stopBank c b s).core c).bank b).status = .trapped := by
    rw [stopBank, State.modBankAt, State.core_modCore, Core.bank_modBank]
  have hk : overrunKill c b s = if (!d.restart) = true then postAbort (stopBank c b s) x.launch 0x03 (BitVec.setWidth 32 (sourceOf c b))
      else if 3 ≤ x.overruns then abortCode x.launch 0x2D (sourceOf c b) (stopBank c b s)
      else killUnit ((s.core c).bank b).task 1 id (s.modTask ((s.core c).bank b).task fun t => { t with overruns := t.overruns + 1 }) := by
    unfold overrunKill
    dsimp only
    rw [hx]
    dsimp only
    rw [hd]
  refine ⟨_, he, fun hr => ?_, fun hr hn => ?_⟩
  · rw [hk, if_pos (by rw [hr]; rfl)]
    exact ⟨hstop, rfl⟩
  · rw [hk, if_neg (by rw [hr]; exact Bool.false_ne_true), if_pos hn]
    exact ⟨hstop, rfl⟩

/-! ### Kills of units (R473) -/

theorem killUnit_of_ending (s : State) (n why : Nat) (f : TaskInst → TaskInst)
    (h : ∀ m, m ∈ membersOf s n → m.2.st = .running → isEnding s m.2 = true) : killUnit n why f s = s := by
  have hnone : (membersOf s n).filter (fun m => m.2.st = .running && !isEnding s m.2) = [] := by
    refine List.filter_eq_nil_iff.2 fun m hm hk => ?_
    simp only [Bool.and_eq_true, decide_eq_true_eq, Bool.not_eq_true'] at hk
    exact Bool.false_ne_true (hk.2.symm.trans (h m hm hk.1))
  unfold killUnit
  rw [hnone]
  rfl

theorem killUnit_of_single (s : State) (n why : Nat) (f : TaskInst → TaskInst) (x : TaskInst) (hm : membersOf s n = [(n, x)])
    (hst : x.st = .running) (hend : isEnding s x = false) :
    ∃ g : TaskInst → TaskInst, killUnit n why f s = requeue n g (killBank x.core x.bank why s) := by
  unfold killUnit
  rw [hm, List.filter_cons, if_pos (by rw [hst, hend]; rfl), List.filter_nil, List.foldl_cons, List.foldl_nil]
  dsimp only
  exact ⟨_, rfl⟩

/-! ### Handing over (R96) -/

/-- The instances of a template enter the pool one after the other, each under the next operation number. -/
theorem foldl_newInst (mk : Nat → TaskInst) (n : Nat) (s : State) :
    let t := (List.range n).foldl (fun s r => ({ s with tasks := kset s.tasks s.opId (mk r) } : State).bump) s
    t.opId = s.opId + n ∧ t.now = s.now ∧ t.launches = s.launches ∧ ∀ r, r < n → kget t.tasks (s.opId + r) = some (mk r) := by
  induction n with
  | zero => exact ⟨rfl, rfl, rfl, fun r hr => absurd hr (Nat.not_lt_zero r)⟩
  | succ n ih =>
    obtain ⟨hid, hnow, hl, hall⟩ := ih
    dsimp only
    rw [List.range_succ, List.foldl_append, List.foldl_cons, List.foldl_nil]
    generalize (List.range n).foldl (fun s r => ({ s with tasks := kset s.tasks s.opId (mk r) } : State).bump) s = t at hid hnow hl hall
    refine ⟨congrArg (· + 1) hid, hnow, hl, fun r hr => ?_⟩
    rcases Nat.lt_or_ge r n with hrn | hrn
    · exact (kget_kset_ne _ _ (by omega)).trans (hall r hrn)
    · obtain rfl : r = n := by omega
      rw [← hid]
      exact kget_kset_same _ _ _

theorem notePending_eq (l : Nat) (s : State) : notePending l s = { s with launches := (notePending l s).launches } := by
  unfold notePending
  split
  · rfl
  · rw [modLaunch_eq]

theorem kget_notePending {l : Nat} {x : Launch} {s : State} (hx : kget s.launches l = some x) :
    ∃ y, kget (notePending l s).launches l = some y ∧ y.todo = x.todo := by
  unfold notePending
  split
  · exact ⟨x, hx, rfl⟩
  · exact ⟨_, kget_modLaunch hx _, rfl⟩

theorem taskHandoff_runs (s : State) (l : Nat) (x : Launch) (d : TaskDesc) (f : Nat) (h : handoff s l = some (x, d, f)) :
    Runs .taskHandoff (.taskHandoff l) s fun t =>
      (∃ y, kget t.launches l = some y ∧ y.todo = x.todo + 1) ∧
        ∀ r, r < d.gang → kget t.tasks (s.opId + r) = some (newInst s l x x.todo r s.opId f d) := by
  intro hev
  have hx : kget s.launches l = some x := by
    unfold handoff at h
    split at h
    · next y g hy _ =>
      split at h
      · exact absurd h (by simp)
      · split at h
        · obtain ⟨_, -, he⟩ := Option.map_eq_some_iff.1 h
          rw [hy]
          exact congrArg some (congrArg Prod.fst he)
        · exact absurd h (by simp)
    · exact absurd h (by simp)
  have hstep : ∀ u : State, u.now = s.now → (List.range d.gang).foldl (fun u r =>
      ({ u with tasks := kset u.tasks u.opId (newInst u l x x.todo r s.opId f d) } : State).bump) u =
      (List.range d.gang).foldl (fun u r => ({ u with tasks := kset u.tasks u.opId (newInst s l x x.todo r s.opId f d) } : State).bump) u := by
    generalize List.range d.gang = rs
    induction rs with
    | nil => exact fun _ _ => rfl
    | cons r rs ih =>
      intro u hu
      have hinst : newInst u l x x.todo r s.opId f d = newInst s l x x.todo r s.opId f d := by unfold newInst; rw [hu]
      rw [List.foldl_cons, List.foldl_cons, hinst]
      exact ih _ hu
  have hn : (notePending l s).now = s.now := by rw [notePending_eq]
  have ho : (notePending l s).opId = s.opId := by rw [notePending_eq]
  obtain ⟨y, hy, htodo⟩ := kget_notePending hx
  obtain ⟨-, -, hl, hall⟩ := foldl_newInst (fun r => newInst s l x x.todo r s.opId f d) d.gang (notePending l s)
  have he : ∃ u : State, u = (List.range d.gang).foldl (fun u r =>
      ({ u with tasks := kset u.tasks u.opId (newInst u l x x.todo r s.opId f d) } : State).bump) (notePending l s) ∧
      execTaskHandoff s = .next (if d.subs.isEmpty then touchSource (u.modLaunch l fun x => { x with todo := x.todo + 1 }) l 0
        else u.modLaunch l fun x => { x with todo := x.todo + 1 }) := by
    refine ⟨_, rfl, ?_⟩
    rw [execTaskHandoff, hev]
    dsimp only
    rw [h]
  obtain ⟨u, hu, he⟩ := he
  rw [hstep _ hn] at hu
  rw [← hu] at hl hall
  have hlaunch := kget_modLaunch (s := u) (hl ▸ hy) fun x => { x with todo := x.todo + 1 }
  have htasks : (u.modLaunch l fun x => { x with todo := x.todo + 1 }).tasks = u.tasks := by rw [modLaunch_eq]
  rw [ho] at hall
  have hgoal : ∀ t : State, t.launches = (u.modLaunch l fun x => { x with todo := x.todo + 1 }).launches → t.tasks = u.tasks →
      (∃ y, kget t.launches l = some y ∧ y.todo = x.todo + 1) ∧
        ∀ r, r < d.gang → kget t.tasks (s.opId + r) = some (newInst s l x x.todo r s.opId f d) := by
    intro t h1 h2
    rw [h1, h2]
    exact ⟨⟨_, hlaunch, congrArg (· + 1) htodo⟩, hall⟩
  refine ⟨_, he, ?_⟩
  split
  · refine hgoal _ ?_ ?_
    · rw [touchSource_eq]
    · rw [touchSource_eq, ← htasks]
  · exact hgoal _ rfl htasks

/-! ### Selection, pass-over and hand-over (R98, R100) -/

theorem execDistributorSelection_eq {s : State} {f : Nat} {x : Nat × TaskInst} (hev : s.ev = some (.distributorSelection f))
    (hs : selecting s f = true) (hx : selection s f = some x) :
    (∀ cs, placement s f (membersOf s x.1).length x.2 = some cs →
      execDistributorSelection s = .next (((membersOf s x.1).zip cs).foldl (fun s m => arm m.1.1 m.2 s) s)) ∧
    (placement s f (membersOf s x.1).length x.2 = none →
      execDistributorSelection s = .next ((membersOf s x.1).foldl (fun s m => s.modTask m.1 fun t =>
        { t with passUntil := some (s.now + 256), noElig := some (t.noElig.getD s.now), keepPrio := false }) s)) := by
  refine ⟨fun cs hp => ?_, fun hp => ?_⟩
  all_goals
    rw [execDistributorSelection, hev]
    dsimp only
    rw [hs, hx]
    dsimp only
    rw [hp]
    rfl

theorem distributorSelection_runs (s : State) (f : Nat) (x : Nat × TaskInst) (cs : List Nat) (hs : selecting s f = true)
    (hx : selection s f = some x) (hp : placement s f (membersOf s x.1).length x.2 = some cs) :
    Runs .distributorSelection (.distributorSelection f) s fun t =>
      t = ((membersOf s x.1).zip cs).foldl (fun s m => arm m.1.1 m.2 s) s := fun hev =>
  ⟨_, (execDistributorSelection_eq hev hs hx).1 cs hp, rfl⟩

theorem distributorSelection_passes (s : State) (f : Nat) (x : Nat × TaskInst) (hs : selecting s f = true) (hx : selection s f = some x)
    (hp : placement s f (membersOf s x.1).length x.2 = none) :
    Runs .distributorSelection (.distributorSelection f) s fun t =>
      ∀ m, m ∈ membersOf s x.1 → ∃ y, kget t.tasks m.1 = some y ∧ y.passUntil = some (s.now + 256) ∧ y.noElig.isSome = true ∧
        y.keepPrio = false := by
  intro hev
  refine ⟨_, (execDistributorSelection_eq hev hs hx).2 hp, fun m hm => ?_⟩
  obtain ⟨z, hz⟩ := exists_of_mem_membersOf hm
  obtain ⟨y, hy, -, hq⟩ := kget_foldl_modTask
    (fun now t => { t with passUntil := some (now + 256), noElig := some (t.noElig.getD now), keepPrio := false })
    (P := fun _ => True) (Q := fun y => y.passUntil = some (s.now + 256) ∧ y.noElig.isSome = true ∧ y.keepPrio = false)
    s.now (fun _ _ => ⟨trivial, rfl, rfl, rfl⟩) (membersOf s x.1) rfl hz trivial
  exact ⟨y, hy, hq (.inl (List.mem_map_of_mem hm))⟩

theorem passOverEnd_runs (s : State) (n : Nat) (x : TaskInst) (hx : kget s.tasks n = some x) (hp : passedOver s x = true) :
    Runs .passOverEnd (.passOverEnd n) s fun t => kget t.tasks n = some { x with passUntil := none } := by
  intro hev
  have he : execPassOverEnd s = .next (s.modTask n fun t => { t with passUntil := none }) := by
    rw [execPassOverEnd, hev]
    dsimp only
    rw [hx]
    exact congrArg _ (if_pos hp)
  exact ⟨_, he, kget_modTask hx _⟩

/-- How many cores of a field could take a stranded entry: none in its own field, or where the pool has no room for the unit. -/
def freeCores (s : State) (n : Nat) (x : TaskInst) (f : Nat) : Nat :=
  if f = x.field ∨ poolFree s f < (membersOf s n).length then 0
  else (((clustersOf f).flatMap coresOf).filter fun c => eligible s x c).length

/-- How an entry is handed over: to a field, or not at all. -/
def handed (to' : Option Nat) (now : Nat) (t : TaskInst) : TaskInst :=
  match to' with
  | some f => { t with field := f, noElig := none, passUntil := none }
  | none => { t with noElig := some now }

theorem execEntryHandover_eq {s : State} {n : Nat} {x : TaskInst} (hev : s.ev = some (.entryHandover n)) (hx : kget s.tasks n = some x)
    (hs : stranded s x = true) : execEntryHandover s = .next ((membersOf s n).foldl (fun s' m => s'.modTask m.1
      (handed (mostField (liveFields s (partOf x.launch)) 1 (freeCores s n x)) s'.now)) s) := by
  have hcount : (fun f => if f = x.field || poolFree s f < (membersOf s n).length then 0
      else (((clustersOf f).flatMap coresOf).filter (eligible s x)).length) = freeCores s n x := by
    funext f
    simp only [freeCores, Bool.or_eq_true, decide_eq_true_eq]
  rw [execEntryHandover, hev]
  dsimp only
  rw [hx]
  dsimp only
  rw [hs, hcount]
  cases mostField (liveFields s (partOf x.launch)) 1 (freeCores s n x) <;> rfl

theorem entryHandover_runs (s : State) (n : Nat) (x : TaskInst) (hx : kget s.tasks n = some x) (hs : stranded s x = true) :
    Runs .entryHandover (.entryHandover n) s fun t =>
      let free := fun f => if f = x.field ∨ poolFree s f < (membersOf s n).length then 0
        else (((clustersOf f).flatMap coresOf).filter fun c => eligible s x c).length
      let fs := (s.part (partOf x.launch)).fields.filter fun f => !(s.field f).lost
      ∀ m, m ∈ membersOf s n → ∀ z, kget s.tasks m.1 = some z → ∃ y, kget t.tasks m.1 = some y ∧
        ((y.noElig = some s.now ∧ y.field = z.field ∧ ∀ f, f ∈ fs → free f = 0) ∨
          (y.noElig = none ∧ y.passUntil = none ∧ y.joined = z.joined ∧ y.field ∈ fs ∧ y.field ≠ x.field ∧ 0 < free y.field ∧
            ∀ f, f ∈ fs → free f < free y.field ∨ (free f = free y.field ∧ y.field ≤ f))) := by
  intro hev
  refine ⟨_, execEntryHandover_eq hev hx hs, fun m hm z hz => ?_⟩
  have hmem : m.1 ∈ (membersOf s n).map Prod.fst := List.mem_map_of_mem hm
  cases hto : mostField (liveFields s (partOf x.launch)) 1 (freeCores s n x) with
  | none =>
    obtain ⟨y, hy, hf, hq⟩ := kget_foldl_modTask (handed none) (P := fun y => y.field = z.field) (Q := fun y => y.noElig = some s.now)
      s.now (fun _ h => ⟨h, rfl⟩) (membersOf s n) rfl hz rfl
    exact ⟨y, hy, .inl ⟨hq (.inl hmem), hf, fun f hf => Nat.lt_one_iff.1 (mostField_none hto f hf)⟩⟩
  | some f =>
    obtain ⟨hf, hpos, hbest⟩ := mostField_some hto
    obtain ⟨y, hy, hj, hq⟩ := kget_foldl_modTask (handed (some f)) (P := fun y => y.joined = z.joined)
      (Q := fun y => y.noElig = none ∧ y.passUntil = none ∧ y.field = f) s.now (fun _ h => ⟨h, rfl, rfl, rfl⟩) (membersOf s n) rfl hz rfl
    obtain ⟨he, hp, rfl⟩ := hq (.inl hmem)
    refine ⟨y, hy, .inr ⟨he, hp, hj, hf, fun hx => ?_, hpos, fun g hg => ?_⟩⟩
    · rw [freeCores, if_pos (.inl hx)] at hpos
      exact absurd hpos (by decide)
    · rcases Nat.eq_zero_or_pos (freeCores s n x g) with h0 | h0
      · exact .inl (h0.trans_lt hpos)
      · exact hbest g hg h0

end Sys2Proof.Machine
end

section

/-! PROOF. How tasks fire and switch, and what an install's answer does (R108 to R110, R215, R336, R468, R469): the obligation TaskStepsComplete. -/

namespace Sys2Proof.Machine
open Sys2Proof

/-! ### Firing (R108 to R110) -/

/-- The bank into which a task has fired: its fields at issue, with the count of staged operations that it had. -/
def firedAt (s : State) (n : Nat) (x : TaskInst) (d : TaskDesc) (k : CodeObj) (l : Launch) (z : Bank) : Bank :=
  { firedBank s n x d k l with stageCount := z.stageCount }

theorem fireInto_spec {s : State} {n : Nat} {b : Bool} {x : TaskInst} {d : TaskDesc} {k : CodeObj} {l : Launch} (hx : kget s.tasks n = some x)
    (hd : descOf s x = some d) (hk : codeOf s x = some k) (hl : kget s.launches x.launch = some l) :
    let t := fireInto n b s
    (t.core x.core).running = some b ∧ (t.core x.core).bank b = firedAt s n x d k l ((s.core x.core).bank b) ∧
      kget t.tasks n = some { x with st := .running, bank := b, restarted := false } := by
  have he : ∃ (u : State) (code : BitVec 16) (bs : List Byte) (f : Launch → Launch), fireInto n b s =
      (emitCore (u.modTask n fun t => { t with st := .running, bank := b, restarted := false }) x.core b code bs).modLaunch x.launch f ∧
      (u.core x.core).running = some b ∧ (u.core x.core).bank b = firedAt s n x d k l ((s.core x.core).bank b) ∧ u.tasks = s.tasks := by
    unfold fireInto
    rw [hx]
    dsimp only
    rw [hd, hk, hl]
    refine ⟨_, _, _, _, rfl, ?_, ?_, rfl⟩
    · rw [State.core_modCore]
    · rw [State.core_modCore]
      cases b <;> rfl
  obtain ⟨u, code, bs, f, he, hrun, hbank, htasks⟩ := he
  have hcore : (fireInto n b s).core x.core = u.core x.core := by
    rw [he, modLaunch_eq, emitCore, emit_eq, modTask_eq]
    rfl
  have htask : (fireInto n b s).tasks = (u.modTask n fun t => { t with st := .running, bank := b, restarted := false }).tasks := by
    rw [he, modLaunch_eq, emitCore, emit_eq]
  dsimp only
  rw [hcore, htask]
  exact ⟨hrun, hbank, kget_modTask (htasks ▸ hx) _⟩

/-- What R110 lists of the bank in which a task fires. -/
theorem firedAt_spec (s : State) (n : Nat) (x : TaskInst) (d : TaskDesc) (k : CodeObj) (l : Launch) (z : Bank) :
    let y := firedAt s n x d k l z
    y.status = .live ∧ y.task = n ∧ y.pc = BitVec.ofNat 32 d.entry ∧ y.imBase = x.imBase ∧ y.imLen = k.imLen ∧ y.tblBase = x.tbBase ∧
      y.tblLen = k.tbLen ∧ (∀ i : Fin 16, y.mbx.get i = x.mbx.getD i.val 0) ∧
      y.taskid = BitVec.ofNat 32 (x.tmpl % 2 ^ 16 + x.rank * 2 ^ 16) ∧ y.gangRank = BitVec.ofNat 32 x.rank ∧
      y.gangSize = BitVec.ofNat 32 d.gang ∧ y.launch = BitVec.ofNat 32 x.launch ∧ y.gen = l.gen.setWidth 32 ∧ y.budget = d.budget ∧
      y.cyc (s.clk x.core) = 0 ∧ y.rnd = 0 ∧ y.flags = 0 ∧ y.rings = x.rings ∧ y.rdP 0 = true ∧ (∀ i, i ≠ 0 → y.rdP i = false) ∧
      (∀ i, y.s.get i = 0) ∧ (∀ i, y.v.get i = 0) ∧ (∀ i, y.m.get i = 0) ∧ (∀ i, y.a.get i = AddrReg.zero) ∧
      (∀ i, y.loops.get i = LoopLevel.zero) ∧ y.cause = 0 ∧ y.sr = 0 ∧ y.iaddr = 0 ∧ y.timeh = none ∧ y.psn = [] ∧ y.wset = [] ∧
      y.events = 0 ∧ (∀ i, y.groups.get i = CopyGroup.empty) ∧ y.phase = 0 ∧ y.hold = 0 ∧ y.staged = none := by
  have hget : ∀ {α : Type} {m : Nat} (v : α) (i : Fin m), (Vector.replicate m v).get i = v := fun v i => Vector.getElem_replicate i.isLt
  have hmbx : ∀ i : Fin 16, (Vector.ofFn fun i : Fin 16 => x.mbx.getD i.val 0).get i = x.mbx.getD i.val 0 :=
    fun i => Vector.getElem_ofFn i.isLt
  have hp : ∀ i : BitVec 3, i ≠ 0 → (firedAt s n x d k l z).rdP i = false := by
    intro i hi
    have hp : (firedAt s n x d k l z).p = 0 := rfl
    rw [Bank.rdP, hp, decide_eq_false hi, Bool.false_or]
    exact BitVec.getLsbD_zero
  have hcyc : (firedAt s n x d k l z).cyc (s.clk x.core) = 0 := by
    simp [Bank.cyc, firedAt, firedBank, Bank.reset]
  exact ⟨rfl, rfl, rfl, rfl, rfl, rfl, rfl, hmbx, rfl, rfl, rfl, rfl, rfl, rfl, hcyc, rfl, rfl, rfl, rfl, hp, hget _, hget _, hget _, hget _, hget _,
    rfl, rfl, rfl, rfl, rfl, rfl, rfl, hget _, rfl, rfl, rfl⟩

theorem taskFire_runs (s : State) (n : Nat) (b : Bool) (x : TaskInst) (d : TaskDesc) (k : CodeObj) (l : Launch) (hb : fireReady s n = some b)
    (hx : kget s.tasks n = some x) (hd : descOf s x = some d) (hk : codeOf s x = some k) (hl : kget s.launches x.launch = some l) :
    Runs .taskFire (.taskFire n) s fun t =>
      let y := (t.core x.core).bank b
      (t.core x.core).running = some b ∧ kget t.tasks n = some { x with st := .running, bank := b, restarted := false } ∧
        y.status = .live ∧ y.task = n ∧ y.pc = BitVec.ofNat 32 d.entry ∧ y.imBase = x.imBase ∧ y.imLen = k.imLen ∧ y.tblBase = x.tbBase ∧
        y.tblLen = k.tbLen ∧ (∀ i : Fin 16, y.mbx.get i = x.mbx.getD i.val 0) ∧
        y.taskid = BitVec.ofNat 32 (x.tmpl % 2 ^ 16 + x.rank * 2 ^ 16) ∧ y.gangRank = BitVec.ofNat 32 x.rank ∧
        y.gangSize = BitVec.ofNat 32 d.gang ∧ y.launch = BitVec.ofNat 32 x.launch ∧ y.gen = l.gen.setWidth 32 ∧ y.budget = d.budget ∧
        y.cyc (s.clk x.core) = 0 ∧ y.rnd = 0 ∧ y.flags = 0 ∧ y.rings = x.rings ∧ y.rdP 0 = true ∧ (∀ i, i ≠ 0 → y.rdP i = false) ∧
        (∀ i, y.s.get i = 0) ∧ (∀ i, y.v.get i = 0) ∧ (∀ i, y.m.get i = 0) ∧ (∀ i, y.a.get i = AddrReg.zero) ∧
        (∀ i, y.loops.get i = LoopLevel.zero) ∧ y.cause = 0 ∧ y.sr = 0 ∧ y.iaddr = 0 ∧ y.timeh = none ∧ y.psn = [] ∧ y.wset = [] ∧
        y.events = 0 ∧ (∀ i, y.groups.get i = CopyGroup.empty) ∧ y.phase = 0 ∧ y.hold = 0 ∧ y.staged = none := by
  intro hev
  have he : execTaskFire s = .next (fireInto n b s) := by
    rw [execTaskFire, hev]
    dsimp only
    rw [hb]
  obtain ⟨hrun, hbank, htask⟩ := fireInto_spec (b := b) hx hd hk hl
  refine ⟨_, he, ?_⟩
  dsimp only
  rw [hbank]
  exact ⟨hrun, htask, firedAt_spec s n x d k l _⟩

theorem gangs_leaveBank (c : Nat) (s : State) : (leaveBank c s).gangs = s.gangs := by
  unfold leaveBank
  split
  · rfl
  · next d _ =>
    dsimp only
    rw [emitCore, emit_eq]
    rfl

theorem gangs_fireInto (n : Nat) (b : Bool) (s : State) : (fireInto n b s).gangs = s.gangs := by
  unfold fireInto
  split
  · rfl
  · split
    · dsimp only
      rw [modLaunch_eq, emitCore, emit_eq, modTask_eq]
      rfl
    · rfl

/-- One member of a gang fires, if it can. -/
def fireMember (s u : State) (m : Nat × TaskInst) : State :=
  match memberBank s m with
  | some b => fireInto m.1 b (leaveBank m.2.core u)
  | none => u

theorem gangs_foldl_fireMember (s : State) (ms : List (Nat × TaskInst)) (u : State) : (ms.foldl (fireMember s) u).gangs = u.gangs := by
  induction ms generalizing u with
  | nil => rfl
  | cons m ms ih =>
    refine (ih _).trans ?_
    unfold fireMember
    split
    · rw [gangs_fireInto, gangs_leaveBank]
    · rfl

theorem gangFire_runs (s : State) (g : Nat) (ms : List (Nat × TaskInst)) (h : gangFires s g = some ms) :
    Runs .gangFire (.gangFire g) s fun t =>
      kget t.gangs g = some ⟨ms.map fun m => m.2.core, ms.map fun _ => 0, ms.map fun _ => true⟩ ∧
        t = ms.foldl (fun u m => match memberBank s m with
            | some b => fireInto m.1 b (leaveBank m.2.core u)
            | none => u)
          { s with
              gangs := kset s.gangs g ⟨ms.map fun m => m.2.core, ms.map fun _ => 0, ms.map fun _ => true⟩ } := by
  intro hev
  have he : execGangFire s = .next (ms.foldl (fireMember s)
      { s with gangs := kset s.gangs g ⟨ms.map fun m => m.2.core, ms.map fun _ => 0, ms.map fun _ => true⟩ }) := by
    rw [execGangFire]
    nth_rw 1 [hev]
    dsimp only
    rw [h]
    rfl
  exact ⟨_, he, (congrArg (kget · g) (gangs_foldl_fireMember s ms _)).trans (kget_kset_same _ _ _), rfl⟩

/-! ### Installs answered (R336) -/

theorem subs_noteArmed (n : Nat) (s : State) : (noteArmed n s).subs = s.subs := by
  unfold noteArmed
  split
  · split
    · rw [subs_modTask _ _ (by intro; rfl), emit_eq]
      rfl
    · rfl
  · rfl

/-- A subscription with one acknowledgement more. -/
def Sub.acknowledged (x : Sub) : Sub :=
  { x with acks := x.acks + 1, st := if x.st = .installing && x.homes.length ≤ x.acks + 1 then .active else x.st }

theorem installAcknowledgement_runs (s : State) (m : PathMsg) (x : Sub) (hx : subOf s m.tgt = some x) :
    Runs .installAcknowledgement (.installAcknowledgement m) s fun t =>
      ∃ y, subOf t m.tgt = some y ∧ y.acks = x.acks + 1 ∧ (x.st = .installing → x.homes.length ≤ x.acks + 1 → y.st = .active) := by
  intro hev
  have he : ∃ t, execInstallAcknowledgement s = .next t ∧ t.subs = (modSub m.tgt Sub.acknowledged s).subs := by
    rw [execInstallAcknowledgement, hev]
    refine ⟨_, rfl, ?_⟩
    dsimp only
    split
    · split
      · rw [subs_checkReady, subs_noteArmed, subs_modTask _ _ (by intro; rfl)]
        rfl
      · rfl
    · rfl
  obtain ⟨t, he, hsubs⟩ := he
  refine ⟨t, he, x.acknowledged, ?_, rfl, fun h1 h2 => if_pos (by rw [h1, decide_eq_true h2]; rfl)⟩
  rw [subOf_eq, hsubs, ← subOf_eq, subOf_modSub s m.tgt (by intro; rfl), hx]
  rfl

theorem installRefusal_runs (s : State) (m : PathMsg) (x : Sub) (hx : subOf s m.tgt = some x) :
    Runs .installRefusal (.installRefusal m) s fun t =>
      (x.dynamic = true → ∃ y, subOf t m.tgt = some y ∧ y.st = .refused) ∧
        ∀ k, x.dynamic = false → kget s.tasks m.tgt.task = some k → k.st = .arming → t = undoArming m.tgt.task s := by
  intro hev
  cases hd : x.dynamic with
  | true =>
    have he : execInstallRefusal s = .next (modSub m.tgt (fun x => { x with st := .refused }) s) := by
      rw [execInstallRefusal, hev]
      dsimp only
      rw [hx]
      exact congrArg _ (if_pos hd)
    refine ⟨_, he, fun _ => ⟨{ x with st := .refused }, ?_, rfl⟩, fun _ h => absurd h.symm Bool.false_ne_true⟩
    rw [subOf_modSub s m.tgt (by intro; rfl), hx]
    rfl
  | false =>
    have he : ∃ t, execInstallRefusal s = .next t ∧
        ∀ k, kget s.tasks m.tgt.task = some k → k.st = .arming → t = undoArming m.tgt.task s := by
      rw [execInstallRefusal, hev]
      dsimp only
      rw [hx]
      dsimp only
      rw [if_neg (by rw [hd]; exact Bool.false_ne_true)]
      refine ⟨_, rfl, fun k hk hst => ?_⟩
      rw [hk]
      exact if_pos hst
    obtain ⟨t, he, ht⟩ := he
    exact ⟨t, he, fun h => absurd h Bool.false_ne_true, fun k _ => ht k⟩

/-! ### Switches (R468, R469) and WAITE (R215) -/

/-- Drains start on all the cores of a switch: each names the bank that runs there, and ends 8 cycles later. -/
theorem drain_foldl_startDrain (cs : List Nat) (s : State) (k : Nat) (b : Bool) (hb : (s.core k).running = some b) :
    ((cs.foldl (fun s c => startDrain c s) s).core k).running = some b ∧
      ((k ∈ cs ∨ (s.core k).drain = some ⟨b, s.clk k + 8⟩) →
        ((cs.foldl (fun s c => startDrain c s) s).core k).drain = some ⟨b, s.clk k + 8⟩) := by
  induction cs generalizing s with
  | nil => exact ⟨hb, fun h => h.resolve_left List.not_mem_nil⟩
  | cons c cs ih =>
    rw [List.foldl_cons]
    have hclk : (startDrain c s).clk k = s.clk k := rfl
    have hcore : ((startDrain c s).core k).running = some b ∧
        ((k = c ∨ (s.core k).drain = some ⟨b, s.clk k + 8⟩) → ((startDrain c s).core k).drain = some ⟨b, s.clk k + 8⟩) := by
      unfold startDrain
      by_cases hk : k = c
      · subst hk
        rw [State.core_modCore, hb]
        exact ⟨rfl, fun _ => rfl⟩
      · rw [State.core_modCore_ne _ _ _ hk]
        exact ⟨hb, fun h => h.resolve_left hk⟩
    obtain ⟨hrun, hdrain⟩ := hcore
    obtain ⟨h1, h2⟩ := ih (startDrain c s) hrun
    rw [hclk] at h2
    refine ⟨h1, fun h => h2 ?_⟩
    rcases h with h | h
    · rcases List.mem_cons.1 h with h | h
      · exact .inr (hdrain (.inl h))
      · exact .inl h
    · exact .inr (hdrain (.inr h))

theorem bankSwitch_runs (s : State) (c : Nat) : Runs .bankSwitch (.bankSwitch c) s fun t =>
    ∀ k b, k ∈ switching s c → (s.core k).running = some b → (t.core k).drain = some ⟨b, s.clk k + 8⟩ := by
  intro hev
  have he : execBankSwitch s = .next ((switching s c).foldl (fun s c => startDrain c s) s) := by rw [execBankSwitch, hev]
  exact ⟨_, he, fun k b hk hb => (drain_foldl_startDrain _ s k b hb).2 (.inl hk)⟩

theorem drain_leaveBank {c : Nat} {s : State} (h : (s.core c).drain.isSome = true) : ((leaveBank c s).core c).drain = none := by
  unfold leaveBank
  split
  · next hn =>
    rw [hn] at h
    exact absurd h Bool.false_ne_true
  · dsimp only
    rw [State.core_modCore]

theorem switchDrainEnd_runs (s : State) (c : Nat) (d : Drain) (hd : drainEnds s c = some d)
    (hb : ((s.core c).bank (!d.fromBank)).status ≠ .empty) :
    Runs .switchDrainEnd (.switchDrainEnd c) s fun t => (t.core c).running = some (!d.fromBank) ∧ (t.core c).drain = none := by
  intro hev
  have he : execSwitchDrainEnd s = .next (runBank c (!d.fromBank) (leaveBank c s)) := by
    rw [execSwitchDrainEnd, hev]
    dsimp only
    rw [hd]
    exact congrArg _ (if_pos hb)
  have hsome : (s.core c).drain.isSome = true := by
    unfold drainEnds at hd
    split at hd
    · exact absurd hd (by simp)
    · next h => rw [h]; rfl
  refine ⟨_, he, ?_⟩
  unfold runBank
  dsimp only
  rw [State.core_modCore]
  refine ⟨rfl, Eq.trans ?_ (drain_leaveBank hsome)⟩
  cases d.fromBank <;> rfl

theorem waiteTimeout_runs (s : State) (c : Nat) (b : Bool) (h : waiteOver s c b = true) :
    Runs .waiteTimeout (.waiteTimeout c b) s fun t =>
      ((t.core c).bank b).waitOver = true ∧ ((t.core c).bank b).events = ((s.core c).bank b).events := by
  intro hev
  have he : execWaiteTimeout s = .next (s.modBankAt c b fun k => { k with waitOver := true }) := by
    rw [execWaiteTimeout, hev]
    exact congrArg _ (if_pos h)
  refine ⟨_, he, ?_⟩
  dsimp only
  rw [State.modBankAt, State.core_modCore, Core.bank_modBank]
  exact ⟨rfl, rfl⟩

/-- Settles O44. -/
theorem taskStepsComplete : Obligations.TaskStepsComplete :=
  ⟨firmwarePriorityChange_runs, preemptionRequest_runs, taskHandoff_runs, distributorSelection_runs, selection_first, aged_iff,
    fun x y => ⟨older_iff x y, earlier_iff x y⟩, eligible_iff, score_eq, ranked_spec, placement_some, placement_none, distributorSelection_passes,
    passOverEnd_runs, entryHandover_runs, taskFire_runs, gangFire_runs, budgetExhausted_runs, installAcknowledgement_runs, installRefusal_runs,
    bankSwitch_runs, switchDrainEnd_runs, fun _ _ _ _ _ h => endStep_faulted h, fun _ _ _ _ _ _ hf he hn hx hl => endStep_finished hf he hn hx hl,
    killBank_spec, killUnit_of_ending, killUnit_of_single, waiteTimeout_runs⟩

end Sys2Proof.Machine
end

section

/-! PROOF. What the steps of the matrix unit leave alone, and what they do to its queues and entries (R288, R289, R296 to R301, R312). -/

namespace Sys2Proof.Machine
open Sys2Proof

/-! ### The array's view of the device -/

/-- What the matrix unit keeps for a core: its staging queue, port operations, rows in flight, flag words and recorded faults. -/
structure CoreArray where
  queue : List MOp
  port : List PortOp
  flights : List Flight
  tflags : Vector (BitVec 8) 4
  faults : List TileFault

/-- Memory with its poison, the side elements, and what the matrix unit keeps for each core. -/
structure ArrayView where
  mem : List Host.Cell
  poison : List Nat
  rmax : KMap Word
  rsum : KMap Word
  cores : Nat → CoreArray

def Core.array (k : Core) : CoreArray := ⟨k.queue, k.port, k.flights, k.tflags, k.tileFaults⟩
def State.array (s : State) : ArrayView := ⟨s.mem, s.poison, s.rmax, s.rsum, fun c => (s.core c).array⟩

section
variable (s : State)

theorem array_modCore (c : Nat) {f : Core → Core} (hf : ∀ k, (f k).array = k.array) : (s.modCore c f).array = s.array := by
  refine congrArg (ArrayView.mk s.mem s.poison s.rmax s.rsum) (funext fun d => ?_)
  by_cases hd : d = c
  · rw [hd, State.core_modCore, hf]
  · rw [State.core_modCore_ne _ _ _ hd]

theorem Core.array_modBank (k : Core) (b : Bool) (f : Bank → Bank) : (k.modBank b f).array = k.array := by cases b <;> rfl

theorem array_modBankAt (c : Nat) (b : Bool) (f : Bank → Bank) : (s.modBankAt c b f).array = s.array :=
  array_modCore s c fun k => k.array_modBank b f

theorem array_raiseEvent (c : Nat) (b : Bool) (e : Nat) : (raiseEvent s c b e).array = s.array := array_modCore s c fun k => k.array_modBank b _

theorem array_modEntry (k num : Nat) (f : MEntry → MEntry) : (modEntry k num f s).array = s.array := rfl

theorem array_progress (c z id : Nat) (f : RowProg → RowProg) : (progress c z id f s).array = s.array := by
  refine array_modCore s c fun k => ?_
  split <;> rfl

theorem array_popSource (c : Nat) (q : MOp) : (popSource c q s).array = s.array := by
  unfold popSource
  split
  · rfl
  · split
    · rfl
    · exact array_modBankAt s _ _ _

theorem array_readUnit (c : Nat) (q : MOp) (i : Nat) : (readUnit c q i s).array = s.array := by
  unfold readUnit
  split
  · rfl
  · split
    · rfl
    · dsimp only
      split
      · exact array_modBankAt s _ _ _
      · rfl

theorem array_releaseAll (c : Nat) (q : MOp) : (releaseAll c q s).array = s.array := by
  unfold releaseAll
  dsimp only
  split <;> exact array_modBankAt s _ _ _

theorem array_settleEntry (k num : Nat) : (settleEntry k num s).array = s.array := by
  unfold settleEntry
  dsimp only
  split
  · rfl
  · split <;> rfl

theorem array_startProgress (c : Nat) (q : MOp) : (startProgress c q s).array = s.array := array_modCore s c fun _ => rfl

theorem array_fillSlots (c : Nat) (p : PortOp) (i j : Nat) : (fillSlots c p i j s).array = s.array := by
  unfold fillSlots
  split
  · rfl
  · split
    · rfl
    · dsimp only
      split
      · rfl
      · exact (array_raiseEvent _ _ _ _).trans (array_modBankAt s _ _ _)

theorem array_freeTransposed (c : Nat) (q : MOp) : (freeTransposed c q s).array = s.array := by
  unfold freeTransposed
  split
  · split <;> rfl
  · rfl

end

/-! ### The staging queue (R296, R297) -/

theorem queue_unqueue (c : Nat) (s : State) : ((unqueue c s).core c).queue = (s.core c).queue.drop 1 := by
  rw [unqueue, State.core_modCore]

theorem port_unqueue (c : Nat) (s : State) : ((unqueue c s).core c).port = (s.core c).port := by
  rw [unqueue, State.core_modCore]

theorem dequeue_mwait {c : Nat} {q : MOp} {s : State} (h : q.kind = .mwait) : dequeue c q s = unqueue c s := by rw [dequeue, h]

theorem dequeue_mhold {c : Nat} {q : MOp} {s : State} (h : q.kind = .mhold) :
    dequeue c q s = (unqueue c s).modBankAt c q.bank fun b => { b with hold := q.form.rows } := by rw [dequeue, h]

theorem dequeue_mzero {c : Nat} {q : MOp} {s : State} (h : q.kind = .mzero) :
    dequeue c q s = (unqueue c s).modCore c fun k => { k with port := k.port ++ [⟨q, [], [], 0, MForm.n q.form, false, []⟩] } := by
  rw [dequeue, h]
  dsimp only
  rw [toPort, h]
  rfl

theorem stagingDequeue_runs (s : State) (c : Nat) (q : MOp) (r : List MOp) (hq : (s.core c).queue = q :: r) (hd : dequeuable s c = true) :
    Runs .stagingDequeue (.stagingDequeue c) s fun t =>
      t = dequeue c q s ∧ (q.kind = .mwait → (t.core c).queue = r) ∧
        (q.kind = .mhold → (t.core c).queue = r ∧ ((t.core c).bank q.bank).hold = q.form.rows) ∧
        (q.kind = .mzero → (t.core c).queue = r ∧ (t.core c).port = (s.core c).port ++ [⟨q, [], [], 0, MForm.n q.form, false, []⟩]) := by
  intro hev
  have he : execStagingDequeue s = .next (dequeue c q s) := by
    rw [execStagingDequeue, hev]
    dsimp only
    rw [hq]
    exact congrArg _ (if_pos hd)
  have hrest : ((unqueue c s).core c).queue = r := by rw [queue_unqueue, hq]; rfl
  refine ⟨_, he, rfl, fun h => ?_, fun h => ?_, fun h => ?_⟩
  · rw [dequeue_mwait h]
    exact hrest
  · rw [dequeue_mhold h, State.modBankAt, State.core_modCore, Core.bank_modBank]
    refine ⟨Eq.trans ?_ hrest, rfl⟩
    exact congrArg CoreArray.queue (Core.array_modBank _ _ _)
  · rw [dequeue_mzero h, State.core_modCore]
    exact ⟨hrest, congrArg (· ++ _) (port_unqueue c s)⟩

theorem segmentAdmission_runs (s : State) (c : Nat) (q : MOp) (r : List MOp) (n : Nat) (hq : (s.core c).queue = q :: r)
    (ha : admissible s c = true) (hf : admissionFault s c q = none) (hk : q.kind = .mma) (hm : q.form.mrg = false)
    (hn : freeEntry (s.cluster (c / 4)) = some n) :
    Runs .segmentAdmission (.segmentAdmission c) s fun t =>
      (t.core c).queue = r ∧ ∃ e, (t.cluster (c / 4)).entries = (s.cluster (c / 4)).entries ++ [e] ∧ e.num = n ∧ e.kind = .product := by
  intro hev
  have hhead : ∃ e : MEntry, e.num = n ∧ e.kind = .product ∧ admitHead c q s =
      (startProgress c q (unqueue c (popSource c q (s.modCluster (c / 4) fun x => { x with served := c % 4 })))).modCluster (c / 4)
        fun x => { x with entries := x.entries ++ [e] } := by
    unfold admitHead
    dsimp only
    rw [hf, hm]
    dsimp only
    rw [Bool.false_and, if_neg Bool.false_ne_true, hn]
    refine ⟨_, ?_, ?_, rfl⟩
    · rfl
    · exact if_neg (by rw [hk]; decide)
  obtain ⟨e, hen, hek, hhead⟩ := hhead
  have he : execSegmentAdmission s = .next (admitHead c q s) := by
    rw [execSegmentAdmission, hev]
    dsimp only
    rw [hq]
    exact congrArg _ (if_pos ha)
  generalize hv : s.modCluster (c / 4) (fun x => { x with served := c % 4 }) = v at hhead
  have hclusters : (startProgress c q (unqueue c (popSource c q v))).cluster (c / 4) = v.cluster (c / 4) := by
    unfold startProgress unqueue popSource
    split
    · rfl
    · split <;> rfl
  have hcore : ((startProgress c q (unqueue c (popSource c q v))).core c).queue = r := by
    have h1 := congrArg (fun a => (a.cores c).queue) (array_startProgress (unqueue c (popSource c q v)) c q)
    have h2 := congrArg (fun a => (a.cores c).queue) (array_popSource v c q)
    have h3 : (v.core c).queue = q :: r := by rw [← hv]; exact hq
    refine (show _ = ((unqueue c (popSource c q v)).core c).queue from h1).trans ?_
    rw [queue_unqueue, show ((popSource c q v).core c).queue = (v.core c).queue from h2, h3]
    rfl
  refine ⟨_, he, ?_⟩
  rw [hhead]
  refine ⟨hcore, e, ?_, hen, hek⟩
  rw [cluster_modCluster, hclusters, ← hv, cluster_modCluster]

/-! ### Entries, selection and loads (R288, R289, R299, R301, R312) -/

theorem holdLimitReached_runs (s : State) (k num : Nat) : Runs .holdLimitReached (.holdLimitReached k num) s fun t =>
    ∀ e, e ∈ (s.cluster k).entries → e.num = num → holdReached s k e = true → { e with ready := true } ∈ (t.cluster k).entries := by
  intro hev
  have he : execHoldLimitReached s = .next (modEntry k num (fun e => if holdReached s k e then { e with ready := true } else e) s) := by
    rw [execHoldLimitReached, hev]
  refine ⟨_, he, fun e hmem hnum hr => ?_⟩
  rw [modEntry, cluster_modCluster]
  exact List.mem_map.2 ⟨e, hmem, by rw [if_pos hnum, if_pos hr]⟩

theorem next_bindTile (k : Nat) (e : MEntry) (s : State) : ((bindTile k e s).cluster k).next = (s.cluster k).next := by
  unfold bindTile
  split
  · rw [modEntry, cluster_modCluster]
  · split
    · unfold beginLoad
      refine (congrArg Cluster.next (cluster_modCluster s k fun x =>
        { x with job := some ⟨e.num, e.key, e.src, false, none, s.opId, false⟩, shad := WBank.empty })).trans rfl
    · rfl

theorem arraySelection_runs (s : State) (k : Nat) (e : MEntry) (h : bestEntry s k = some e) :
    Runs .arraySelection (.arraySelection k) s fun t =>
      if e.isLoad then
        ((s.cluster k).stat.has e.key || (s.cluster k).shad.has e.key) = true →
          (t.cluster k).entries = (s.cluster k).entries.filter fun y => y.num ≠ e.num
      else (t.cluster k).next = some e.num := by
  intro hev
  have he : execArraySelection s = .next (selectEntry k e s) := by
    rw [execArraySelection, hev]
    dsimp only
    rw [h]
  refine ⟨_, he, ?_⟩
  unfold selectEntry
  dsimp only
  by_cases hl : e.isLoad = true
  · rw [if_pos hl, if_pos hl]
    intro hhas
    rw [if_pos hhas, cluster_modCluster]
    rfl
  · rw [if_neg hl, if_neg hl]
    have hnext : (((modEntry k e.num (fun e => { e with selected := true }) s).modCluster k fun x => { x with next := some e.num }).cluster k).next =
        some e.num := by rw [cluster_modCluster]
    split
    · exact (next_bindTile k e _).trans hnext
    · exact hnext

/-- The fault that a load meets as the bank group judges its slot. -/
def judged (s : State) (k : Nat) (j : LoadJob) : Option (BitVec 8) :=
  if j.key.slot = 63 then (if stagedHeld s j.key j.src then none else some causeAddrRange) else
    match s.slot (fieldOfCluster k) j.key.slot with
    | .free => some 0x22
    | .loading => some 0x23
    | .sealed => none

/-- The key that a load reads. -/
def loadKey (k : Nat) (j : LoadJob) : Nat := if j.key.slot = 63 then j.src else wtileKey (fieldOfCluster k) j.key.slot j.key.tile

/-- A load that is granted is judged; where nothing is wrong its tile is copied. -/
theorem grantLoad_spec (k : Nat) (j : LoadJob) (s : State) :
    ∃ bad, ((grantLoad k j s).cluster k).job = some { j with granted := true, bad := bad } ∧
      (∀ code, judged s k j = some code → bad = some code) ∧
      (judged s k j = none → (poisoned s (loadKey k j) 32768 = true → bad = some 0x29) ∧
        (poisoned s (loadKey k j) 32768 = false → bad = none ∧
          (grantLoad k j s).mem = Memory.setBytes s.mem ((Space.wload j.id).key 0) (readBytes s (loadKey k j) 32768))) := by
  have he : ∃ bad, grantLoad k j s = (if bad.isSome = true then s
      else writeBytes s ((Space.wload j.id).key 0) (readBytes s (loadKey k j) 32768)).modCluster k
        (fun x => { x with job := some { j with granted := true, bad := bad } }) ∧
      bad = (match judged s k j with
        | some c => some c
        | none => if poisoned s (loadKey k j) 32768 then some 0x29 else none) := ⟨_, rfl, rfl⟩
  obtain ⟨bad, he, hbad⟩ := he
  refine ⟨bad, ?_, fun code hc => ?_, fun hc => ⟨fun hp => ?_, fun hp => ?_⟩⟩
  · rw [he, cluster_modCluster]
  · rw [hbad, hc]
  · rw [hbad, hc]
    exact if_pos hp
  · have hnone : bad = none := by
      rw [hbad, hc]
      exact if_neg (by rw [hp]; exact Bool.false_ne_true)
    refine ⟨hnone, ?_⟩
    rw [he, hnone]
    generalize readBytes s (loadKey k j) 32768 = bs
    rfl

theorem getElem_getBytes (m : List Host.Cell) (a n i : Nat) (h : i < (Memory.getBytes m a n).length) :
    (Memory.getBytes m a n)[i] = Memory.get m (a + i) := by
  induction n generalizing a i with
  | zero => exact absurd h (Nat.not_lt_zero i)
  | succ n ih =>
    cases i with
    | zero => rfl
    | succ i =>
      simp only [Memory.getBytes, List.getElem_cons_succ]
      rw [ih, Nat.add_right_comm, Nat.add_assoc]

theorem weightLoadGrant_runs (s : State) (k : Nat) (j : LoadJob) (hj : (s.cluster k).job = some j) (hg : grantable s k j = true) :
    Runs .weightLoadGrant (.weightLoadGrant k) s fun t =>
      let src := if j.key.slot = 63 then j.src else wtileKey (fieldOfCluster k) j.key.slot j.key.tile
      let slot := s.slot (fieldOfCluster k) j.key.slot
      ∃ bad, (t.cluster k).job = some { j with granted := true, bad := bad } ∧
        (j.key.slot ≠ 63 → slot = .free → bad = some 0x22) ∧ (j.key.slot ≠ 63 → slot = .loading → bad = some 0x23) ∧
        (j.key.slot = 63 → stagedHeld s j.key j.src = false → bad = some causeAddrRange) ∧
        (((j.key.slot ≠ 63 ∧ slot = .sealed) ∨ (j.key.slot = 63 ∧ stagedHeld s j.key j.src = true)) →
          (poisoned s src 32768 = true → bad = some 0x29) ∧
          (poisoned s src 32768 = false → bad = none ∧
            ∀ i, i < 32768 → Memory.get t.mem ((Space.wload j.id).key 0 + i) = Memory.get s.mem (src + i))) := by
  intro hev
  have he : execWeightLoadGrant s = .next (grantLoad k j s) := by
    rw [execWeightLoadGrant, hev]
    dsimp only
    rw [hj]
    exact congrArg _ (if_pos hg)
  obtain ⟨bad, hjob, hfault, hgood⟩ := grantLoad_spec k j s
  refine ⟨_, he, bad, hjob, fun h63 hs => hfault _ ?_, fun h63 hs => hfault _ ?_, fun h63 hs => hfault _ ?_, fun h => ?_⟩
  · rw [judged, if_neg h63, hs]
  · rw [judged, if_neg h63, hs]
  · rw [judged, if_pos h63, hs]
    rfl
  · have hnone : judged s k j = none := by
      rcases h with ⟨h63, hs⟩ | ⟨h63, hs⟩
      · rw [judged, if_neg h63, hs]
      · rw [judged, if_pos h63, hs]
        rfl
    obtain ⟨hp, hc⟩ := hgood hnone
    refine ⟨hp, fun hpn => ?_⟩
    obtain ⟨hb, hmem⟩ := hc hpn
    refine ⟨hb, fun i hi => ?_⟩
    have hlen : i < (readBytes s (loadKey k j) 32768).length := (length_getBytes s.mem (loadKey k j) 32768).symm ▸ hi
    rw [hmem, Memory.get_setBytes_inside _ _ _ _ hlen]
    exact getElem_getBytes _ _ _ _ _

theorem weightLoadEnd_runs (s : State) (k : Nat) (j : LoadJob) (hj : (s.cluster k).job = some j) (he : loadEnds s k j = true)
    (hb : j.bad = none) (hs : j.stale = false) :
    Runs .weightLoadEnd (.weightLoadEnd k) s fun t => (t.cluster k).job = none ∧ (t.cluster k).shad = ⟨some j.key, some j.id⟩ := by
  intro hev
  have hx : execWeightLoadEnd s = .next (endLoad k j s) := by
    rw [execWeightLoadEnd, hev]
    dsimp only
    rw [hj]
    exact congrArg _ (if_pos he)
  refine ⟨_, hx, ?_⟩
  unfold endLoad
  dsimp only
  generalize hu : s.modCluster k (fun x => { x with
    job := none, shad := if j.bad.isSome = true then WBank.empty else ⟨if j.stale = true then none else some j.key, some j.id⟩ }) = u
  obtain ⟨hjob, hshad⟩ : (u.cluster k).job = none ∧ (u.cluster k).shad = ⟨some j.key, some j.id⟩ := by
    rw [← hu, cluster_modCluster, hb, hs]
    exact ⟨rfl, rfl⟩
  split
  · exact ⟨hjob, hshad⟩
  · rw [hb]
    split
    · unfold endLoadEntry
      dsimp only
      rw [cluster_modCluster]
      exact ⟨by rw [Cluster.drop, hjob]; rfl, hshad⟩
    · dsimp only
      rw [modEntry, cluster_modCluster]
      exact ⟨hjob, hshad⟩

/-! ### The start of an operation (R288) -/

theorem startNext_spec (s : State) (k n : Nat) (e : MEntry) (hc : (s.cluster k).current = none) (hn : (s.cluster k).next = some n)
    (he : (s.cluster k).entry n = some e) (hs : canStart e = true) :
    let x := (startNext k s).cluster k
    x.current = some n ∧ x.next = none ∧
      (e.kind = .transpose ∨ (s.cluster k).stat.load = e.tile → x.stat = (s.cluster k).stat ∧ x.shad = (s.cluster k).shad) ∧
      (e.kind ≠ .transpose → (s.cluster k).stat.load ≠ e.tile → x.stat = (s.cluster k).shad ∧ x.shad = (s.cluster k).stat) := by
  dsimp only
  rw [startNext, cluster_modCluster]
  generalize s.cluster k = x at hc hn he ⊢
  rw [hc, hn]
  dsimp only
  rw [he]
  dsimp only
  rw [if_pos hs]
  by_cases h : e.kind = .transpose ∨ x.stat.load = e.tile
  · rw [if_pos (by simpa using h)]
    exact ⟨rfl, rfl, fun _ => ⟨rfl, rfl⟩, fun h1 h2 => absurd h (not_or.2 ⟨h1, h2⟩)⟩
  · rw [if_neg (by simpa using h)]
    exact ⟨rfl, rfl, fun h' => absurd h' h, fun _ _ => ⟨rfl, rfl⟩⟩

end Sys2Proof.Machine
end

section

/-! PROOF. What a row of the accumulators becomes, and the queue of the accumulator port (R292, R304, R309, R316 to R321). -/

namespace Sys2Proof.Machine
open Sys2Proof

/-! ### Keys of accumulator rows and their poison -/

theorem tileKey_inj {c z row i j : Nat} (hi : i < 128) (hj : j < 128) (h : tileKey c z row i = tileKey c z row j) :
    i = j := by
  unfold tileKey Space.key at h
  omega

theorem tileKey_ne_sideKey {c z row r j : Nat} {b : Bool} (hz : z < 4) (hrow : row < 128) (hr : r < 128) (hj : j < 128) :
    tileKey c z row j ≠ sideKey c z r b := by
  have hb : (if b = true then 4 else 0) ≤ 4 := by cases b <;> decide
  unfold tileKey sideKey Space.key
  rw [Nat.mod_eq_of_lt (by omega), Nat.mod_eq_of_lt (by omega)]
  omega

theorem mem_clearPoison {s : State} {ws : List Nat} {w : Nat} : w ∈ (clearPoison s ws).poison ↔ w ∉ ws ∧ w ∈ s.poison := mem_foldl_sdel _ _ _
theorem mem_markPoison {s : State} {ws : List Nat} {w : Nat} : w ∈ (markPoison s ws).poison ↔ w ∈ ws ∨ w ∈ s.poison := mem_foldl_sadd _ _ _

theorem elemPoison_iff {s : State} {c z row j : Nat} : elemPoison s c z row j = true ↔ tileKey c z row j ∈ s.poison := List.contains_iff_mem

/-- The marks of a row that has been written are those of `psn`. -/
theorem mem_poison_writeRow {s : State} {c z row : Nat} {vals : List Nat} {psn : Nat → Bool} {j : Nat} (hj : j < 128) :
    tileKey c z row j ∈ (writeRow c z row vals psn s).poison ↔ psn j = true := by
  unfold writeRow
  rw [mem_markPoison, mem_clearPoison]
  constructor
  · rintro (h | ⟨h, -⟩)
    · obtain ⟨i, hi, hij⟩ := List.mem_map.1 h
      obtain ⟨hi, hp⟩ := List.mem_filter.1 hi
      exact tileKey_inj (List.mem_range.1 hi) hj hij ▸ hp
    · exact absurd (List.mem_map_of_mem (List.mem_range.2 hj)) h
  · exact fun h => .inl (List.mem_map_of_mem (List.mem_filter.2 ⟨List.mem_range.2 hj, h⟩))

/-! ### Flag words (R304) -/

/-- Flag words with bits ORed into that of a tile. -/
def flagged (v : Vector (BitVec 8) 4) (z : Nat) (bits : BitVec 8) : Vector (BitVec 8) 4 := v.set (Fin.ofNat 4 z) (v.get (Fin.ofNat 4 z) ||| bits)

theorem get_flagged (v : Vector (BitVec 8) 4) (z : Nat) (bits : BitVec 8) (y : Fin 4) :
    (flagged v z bits).get y = if y = Fin.ofNat 4 z then v.get y ||| bits else v.get y := by
  unfold flagged
  by_cases h : y = Fin.ofNat 4 z
  · rw [if_pos h, h]
    exact Vector.getElem_set_self _
  · rw [if_neg h]
    exact Vector.getElem_set_ne _ _ fun he => h (Fin.ext he.symm)

theorem flagged_flagged (v : Vector (BitVec 8) 4) (z : Nat) (a b : BitVec 8) : flagged (flagged v z a) z b = flagged v z (a ||| b) := by
  refine Vector.ext fun i hi => ?_
  have h := get_flagged (flagged v z a) z b ⟨i, hi⟩
  have k := get_flagged v z (a ||| b) ⟨i, hi⟩
  rw [get_flagged v z a] at h
  refine (show _ = _ from h).trans (Eq.trans ?_ (show _ = _ from k.symm))
  split
  · exact BitVec.or_assoc _ _ _
  · rfl

theorem flagged_zero (v : Vector (BitVec 8) 4) (z : Nat) : flagged v z 0 = v := by
  refine Vector.ext fun i hi => ?_
  refine (show _ = _ from get_flagged v z 0 ⟨i, hi⟩).trans ?_
  split
  · exact BitVec.or_zero
  · rfl

theorem tflags_orFlags (c z : Nat) (bits : BitVec 8) (s : State) : ((orFlags c z bits s).core c).tflags = flagged (s.core c).tflags z bits := by
  rw [orFlags, State.core_modCore]
  rfl

theorem tflags_notePsn (c z : Nat) (any : Bool) (s : State) : ((notePsn c z any s).core c).tflags = flagged (s.core c).tflags z (psnBit any) := by
  cases any with
  | false => exact (flagged_zero _ _).symm
  | true => exact tflags_orFlags c z 0x20 s

/-- What a row becomes, from the state in which it was written: the marks of side elements do not matter. -/
theorem rowBecomes_of {s t : State} {c z row : Nat} {vals : List Nat} {psn : Nat → Bool} {flags : BitVec 8}
    (hm : t.mem = (writeRow c z row vals psn s).mem)
    (hp : ∀ j, j < 128 → (tileKey c z row j ∈ t.poison ↔ tileKey c z row j ∈ (writeRow c z row vals psn s).poison))
    (hf : (t.core c).tflags = flagged (s.core c).tflags z flags) : RowBecomes s t c z row vals psn flags := by
  refine ⟨hm, fun j hj => ?_, fun y => by rw [hf, get_flagged]⟩
  exact Bool.eq_iff_iff.2 (elemPoison_iff.trans ((hp j hj).trans (mem_poison_writeRow hj)))

/-! ### Faults of port operations (R309) -/

/-- The operations of a core's port with their rows. -/
def State.rows (s : State) (c : Nat) : List (MOp × Nat) := (s.core c).port.map fun o => (o.op, o.row)

/-- What a port operation's fault, or its marks, leave: memory, side elements, flag words, and the rows of the port. -/
theorem recordOnce_spec (c : Nat) (p : PortOp) (code : BitVec 8) (s : State) :
    let t := recordOnce c p code s
    t.mem = s.mem ∧ t.poison = s.poison ∧ t.rmax = s.rmax ∧ t.rsum = s.rsum ∧ t.gangs = s.gangs ∧ (t.core c).tflags = (s.core c).tflags ∧
      t.rows c = s.rows c ∧ (((s.core c).port.any fun o => o.op.id = p.op.id && o.bad) = false →
        (⟨some p.op.form.z.toNat, p.op.bank, p.op.task, code⟩ : TileFault) ∈ (t.core c).tileFaults) := by
  dsimp only
  unfold recordOnce
  by_cases h : ((s.core c).port.any fun o => o.op.id = p.op.id && o.bad) = true
  · rw [if_pos h]
    exact ⟨rfl, rfl, rfl, rfl, rfl, rfl, rfl, fun hn => absurd (hn.symm.trans h) Bool.false_ne_true⟩
  · rw [if_neg h]
    unfold recordFault State.rows
    rw [State.core_modCore, State.core_modCore]
    refine ⟨rfl, rfl, rfl, rfl, rfl, rfl, ?_, fun _ => List.mem_append_right _ (List.mem_singleton_self _)⟩
    dsimp only
    rw [List.map_map]
    refine List.map_congr_left fun o _ => ?_
    dsimp only [Function.comp]
    split <;> rfl

theorem rows_of_array {s t : State} (h : t.array = s.array) (c : Nat) : t.rows c = s.rows c :=
  congrArg (fun a : ArrayView => (a.cores c).port.map fun (o : PortOp) => (o.op, o.row)) h

theorem rows_of_cores {s t : State} (h : t.cores = s.cores) (c : Nat) : t.rows c = s.rows c := by
  unfold State.rows State.core
  rw [h]

theorem rows_orFlags (c z : Nat) (bits : BitVec 8) (s : State) : (orFlags c z bits s).rows c = s.rows c := by
  rw [State.rows, orFlags, State.core_modCore]
  rfl

theorem rows_notePsn (c z : Nat) (any : Bool) (s : State) : (notePsn c z any s).rows c = s.rows c := by
  cases any with
  | false => rfl
  | true => exact rows_orFlags c z 0x20 s

theorem rows_writeRow (d c z row : Nat) (vals : List Nat) (psn : Nat → Bool) (s : State) : (writeRow c z row vals psn s).rows d = s.rows d :=
  rows_of_cores rfl d

theorem rows_ite_markPoison (c : Nat) (p : Bool) (ws : List Nat) (x : KMap Word) (s : State) :
    (if p = true then markPoison { s with rsum := x } ws else { s with rsum := x }).rows c = s.rows c := by
  cases p <;> exact rows_of_cores rfl c

theorem cores_zeroRow (c z row : Nat) (s : State) : (zeroRow c z row s).cores = s.cores := by
  unfold zeroRow
  generalize List.replicate 128 0 = vs
  rfl

/-! ### Units that a drain writes (R225, R309, R434) -/

/-- Where the banks of each core stand in their gangs. -/
def State.places (s : State) : KMap Gang × (Nat → Bool → Word × Word × Nat) :=
  (s.gangs, fun c b => (((s.core c).bank b).gangSize, ((s.core c).bank b).gangRank, ((s.core c).bank b).gangId))

theorem places_modCore (s : State) (c : Nat) {f : Core → Core}
    (hf : ∀ (k : Core) (b : Bool), ((f k).bank b).gangSize = (k.bank b).gangSize ∧ ((f k).bank b).gangRank = (k.bank b).gangRank ∧
      ((f k).bank b).gangId = (k.bank b).gangId) : (s.modCore c f).places = s.places := by
  refine congrArg (Prod.mk s.gangs) (funext fun d => funext fun b => ?_)
  by_cases hd : d = c
  · obtain ⟨h1, h2, h3⟩ := hf (s.core c) b
    rw [hd, State.core_modCore, h1, h2, h3]
  · rw [State.core_modCore_ne _ _ _ hd]

theorem unitKey_congr {s t : State} (h : t.places = s.places) (c : Nat) (q : MOp) (units : List Nat) (i : Nat) :
    unitKey t c q units i = unitKey s c q units i := by
  have hg : t.gangs = s.gangs := congrArg Prod.fst h
  have hb := congrFun (congrFun (congrArg Prod.snd h) c) q.bank
  simp only [State.places, Prod.mk.injEq] at hb
  obtain ⟨h1, h2, h3⟩ := hb
  have hlive : ∀ g k, gangLive t g k = gangLive s g k := fun g k => by
    unfold gangLive
    rw [hg]
  have hcore : ∀ g k own, gangCore t g k own = gangCore s g k own := fun g k own => by
    unfold gangCore
    rw [hg]
  have hl : ∀ a, localPlace t c (opBank t c q) a = localPlace s c (opBank s c q) a := fun a => by
    unfold localPlace opBank
    dsimp only
    rw [h1, h2, h3, hlive, hcore]
  unfold unitKey localSpan
  rw [hl]

/-- An engine's write changes memory as it says, and of the cores no register of the matrix unit. -/
theorem engineWrite_spec (s : State) (k : Nat) (bs : List Byte) (psn : Bool) :
    let t := engineWrite s k bs psn
    t.mem = Memory.setBytes s.mem k bs ∧ t.rmax = s.rmax ∧ t.rsum = s.rsum ∧ (∀ c, (t.core c).array = (s.core c).array) ∧ t.places = s.places := by
  have hfull : ∀ (ws : List Nat) (u : State), (∀ c, ((engineFull u ws).core c).array = (u.core c).array) ∧ (engineFull u ws).places = u.places := by
    intro ws u
    have hraise : ∀ (v : State) (c : Nat) (b : Bool), (∀ d, ((raiseEvent v c b 6).core d).array = (v.core d).array) ∧
        (raiseEvent v c b 6).places = v.places := fun v c b =>
      ⟨fun d => congrArg (fun a : ArrayView => a.cores d) (array_raiseEvent v c b 6),
        places_modCore v c fun k d => by cases b <;> cases d <;> exact ⟨rfl, rfl, rfl⟩⟩
    unfold engineFull
    split
    · exact ⟨fun _ => rfl, rfl⟩
    · next w r =>
      dsimp only
      split
      · next c _ =>
        obtain ⟨h1, h2⟩ := hraise (setFull u (w :: r)) c false
        obtain ⟨k1, k2⟩ := hraise (raiseEvent (setFull u (w :: r)) c false 6) c true
        exact ⟨fun d => (k1 d).trans (h1 d), k2.trans h2⟩
      · exact ⟨fun _ => rfl, rfl⟩
  have hview : (∀ c, ((engineWrite s k bs psn).core c).array = (s.core c).array) ∧ (engineWrite s k bs psn).places = s.places := by
    unfold engineWrite engineWriteBut
    obtain ⟨h1, h2⟩ := hfull ((wordKeys k bs.length).filter fun w => !([] : List Nat).contains w) (storeBytes s k bs)
    dsimp only
    split
    · exact ⟨h1, h2⟩
    · exact ⟨h1, h2⟩
  have honly := engineOnly_engineWrite s k bs psn
  refine ⟨mem_engineWrite s k bs psn, ?_, ?_, hview.1, hview.2⟩
  · rw [honly]
  · rw [honly]

/-- What a drained unit leaves: the side elements, flag words, gangs and the rows of the port. With a key its words are written; without one the
operation has a fault. -/
theorem writeUnit_spec (c : Nat) (p : PortOp) (key : Nat) (bs : List Byte) (bad ws : List Nat) (s : State) :
    let t := writeUnit c p key bs bad ws s
    t.rmax = s.rmax ∧ t.rsum = s.rsum ∧ (t.core c).tflags = (s.core c).tflags ∧ t.rows c = s.rows c ∧ t.places = s.places ∧
      (key ≠ 0 → t.mem = putWords s.mem key bs ws) ∧
      (key = 0 → t.mem = s.mem ∧ (((s.core c).port.any fun o => o.op.id = p.op.id && o.bad) = false →
        (⟨some p.op.form.z.toNat, p.op.bank, p.op.task, causeAddrRange⟩ : TileFault) ∈ (t.core c).tileFaults)) := by
  dsimp only
  unfold writeUnit
  by_cases hk : key = 0
  · rw [if_pos hk]
    obtain ⟨hm, -, hx, hs, -, hf, hr, hfault⟩ := recordOnce_spec c p causeAddrRange s
    refine ⟨hx, hs, hf, hr, ?_, fun h => absurd hk h, fun _ => ⟨hm, hfault⟩⟩
    unfold recordOnce
    split
    · rfl
    · exact (places_modCore _ c (by intro _ _; exact ⟨rfl, rfl, rfl⟩)).trans (places_modCore s c (by intro _ _; exact ⟨rfl, rfl, rfl⟩))
  · rw [if_neg hk]
    have hfold : ∀ (ws : List Nat) (u : State),
        let t := ws.foldl (fun s w => markPoison (engineWrite s (key + w) ((bs.drop w).take 4) false) (bad.filter fun b => b = key + w)) u
        t.rmax = u.rmax ∧ t.rsum = u.rsum ∧ (t.core c).array = (u.core c).array ∧ t.places = u.places ∧ t.mem = putWords u.mem key bs ws := by
      intro ws
      induction ws with
      | nil => exact fun u => ⟨rfl, rfl, rfl, rfl, rfl⟩
      | cons w ws ih =>
        intro u
        obtain ⟨hm, hx, hs, ha, hp⟩ := engineWrite_spec u (key + w) ((bs.drop w).take 4) false
        obtain ⟨kx, ks, ka, kp, km⟩ := ih (markPoison (engineWrite u (key + w) ((bs.drop w).take 4) false) (bad.filter fun b => b = key + w))
        refine ⟨kx.trans hx, ks.trans hs, ka.trans (ha c), kp.trans hp, km.trans ?_⟩
        rw [markPoison_mem, hm]
        rfl
    obtain ⟨hx, hs, ha, hp, hm⟩ := hfold ws s
    exact ⟨hx, hs, congrArg CoreArray.tflags ha, congrArg (fun k : CoreArray => k.port.map fun (o : PortOp) => (o.op, o.row)) ha, hp, fun _ => hm,
      fun h => absurd h hk⟩

/-! ### The rows of the port (R316 to R321) -/

theorem rows_portRow (c : Nat) (p : PortOp) (s : State) : (portRow c p s).rows c = s.rows c := by
  have honce : ∀ u : State, (recordOnce c p causeAddrRange u).rows c = u.rows c := fun u => by
    obtain ⟨-, -, -, -, -, -, h, -⟩ := recordOnce_spec c p causeAddrRange u
    exact h
  have hunit : ∀ (key : Nat) (bs : List Byte) (bad ws : List Nat) (u : State), (writeUnit c p key bs bad ws u).rows c = u.rows c :=
    fun key bs bad ws u => by
      obtain ⟨-, -, -, h, -⟩ := writeUnit_spec c p key bs bad ws u
      exact h
  unfold portRow
  split
  · exact rows_of_cores (cores_zeroRow _ _ _ s) c
  · unfold drainRow
    dsimp only
    rw [rows_orFlags]
    exact hunit _ _ _ _ s
  · generalize List.range (PortOp.stepRows p) = ds
    induction ds generalizing s with
    | nil => rfl
    | cons d ds ih =>
      refine (ih _).trans ?_
      unfold statRow
      dsimp only
      rw [rows_notePsn]
      exact hunit _ _ _ _ s
  · unfold scaleRow
    dsimp only
    split
    · exact honce s
    · rw [rows_notePsn, rows_orFlags, rows_writeRow]
  · unfold rescaleRow
    dsimp only
    split
    · exact honce s
    · rw [rows_of_array (array_readUnit _ _ _ _) c, rows_notePsn, rows_orFlags, rows_ite_markPoison, rows_writeRow]
  · unfold transposeRow
    dsimp only
    rw [rows_of_array (array_progress _ _ _ _ _) c, rows_notePsn, rows_orFlags, rows_writeRow]
  · rfl

theorem map_modify_row (l : List PortOp) (i r : Nat) {f : PortOp → PortOp} (hf : ∀ o, (f o).op = o.op ∧ (f o).row = r) :
    (l.modify i f).map (fun o => (o.op, o.row)) = (l.map fun o => (o.op, o.row)).modify i fun x => (x.1, r) := by
  induction l generalizing i with
  | nil => cases i <;> rfl
  | cons o l ih =>
    cases i with
    | zero =>
      obtain ⟨h1, h2⟩ := hf o
      simp [h1, h2]
    | succ i => simp [ih]

/-- A step of the port keeps what its row has written, and its flag words and faults; the operation goes on at its next row, or it ends with event 3. -/
theorem portStep_spec (c i : Nat) (p : PortOp) (s : State) :
    let t := portStep c i p s
    let u := portRow c (readScales s c p) s
    t.mem = u.mem ∧ t.poison = u.poison ∧ t.rmax = u.rmax ∧ t.rsum = u.rsum ∧ (t.core c).tflags = (u.core c).tflags ∧
      (t.core c).tileFaults = (u.core c).tileFaults ∧
      if p.row + PortOp.stepRows p < p.rows then
        (t.core c).port.map (fun o => (o.op, o.row)) =
          ((s.core c).port.modify i fun o => { o with row := p.row + PortOp.stepRows p }).map fun o => (o.op, o.row)
      else (t.core c).port.map (fun o => o.op) = ((s.core c).port.eraseIdx i).map (fun o => o.op) ∧
        ((t.core c).bank p.op.bank).events.getLsbD 3 = true := by
  dsimp only
  have hscales : (readScales s c p).op = p.op ∧ (readScales s c p).rows = p.rows ∧ (readScales s c p).row = p.row := by
    unfold readScales
    split <;> exact ⟨rfl, rfl, rfl⟩
  obtain ⟨hop, hrows, hrow⟩ := hscales
  unfold portStep
  dsimp only
  rw [hop, hrows, hrow]
  generalize readScales s c p = p' at hop hrows hrow ⊢
  have hu := array_fillSlots (portRow c p' s) c p' p.row (p.row + PortOp.stepRows p)
  have hport : (fillSlots c p' p.row (p.row + PortOp.stepRows p) (portRow c p' s)).rows c = s.rows c :=
    (rows_of_array hu c).trans (rows_portRow c p' s)
  generalize fillSlots c p' p.row (p.row + PortOp.stepRows p) (portRow c p' s) = w at hu hport
  generalize portRow c p' s = u at hu
  have hm : w.mem = u.mem := congrArg ArrayView.mem hu
  have hpsn : w.poison = u.poison := congrArg ArrayView.poison hu
  have hx : w.rmax = u.rmax := congrArg ArrayView.rmax hu
  have hs : w.rsum = u.rsum := congrArg ArrayView.rsum hu
  have hc := congrFun (congrArg ArrayView.cores hu) c
  have hf : (w.core c).tflags = (u.core c).tflags := congrArg CoreArray.tflags hc
  have ht : (w.core c).tileFaults = (u.core c).tileFaults := congrArg CoreArray.faults hc
  by_cases hlt : p.row + PortOp.stepRows p < p.rows
  · rw [if_pos hlt, if_pos hlt, State.core_modCore]
    refine ⟨hm, hpsn, hx, hs, hf, ht, ?_⟩
    dsimp only
    refine (map_modify_row _ i _ (by intro; exact ⟨rfl, rfl⟩)).trans (Eq.trans ?_ (map_modify_row _ i _ (by intro; exact ⟨rfl, rfl⟩)).symm)
    exact congrArg (fun l : List (MOp × Nat) => l.modify i fun x => (x.1, p.row + PortOp.stepRows p)) hport
  · rw [if_neg hlt, if_neg hlt]
    have hfree := array_freeTransposed (finishRows c p.op (w.modCore c fun k => { k with port := k.port.eraseIdx i })) c p.op
    have hfin := array_raiseEvent (w.modCore c fun k => { k with port := k.port.eraseIdx i }) c p.op.bank 3
    have hall := hfree.trans hfin
    have hcore : ((freeTransposed c p.op (finishRows c p.op (w.modCore c fun k => { k with port := k.port.eraseIdx i }))).core c) =
        (finishRows c p.op (w.modCore c fun k => { k with port := k.port.eraseIdx i })).core c := by
      unfold freeTransposed
      split
      · split <;> rfl
      · rfl
    have hevents : (((finishRows c p.op (w.modCore c fun k => { k with port := k.port.eraseIdx i })).core c).bank p.op.bank).events.getLsbD 3 =
        true := by
      rw [finishRows, bank_raiseEvent]
      dsimp only
      rw [BitVec.getLsbD_or]
      exact Bool.or_true _
    have hcw : (w.modCore c fun k => { k with port := k.port.eraseIdx i }).core c =
        { w.core c with port := (w.core c).port.eraseIdx i } := State.core_modCore _ _ _
    have hcore' := congrFun (congrArg ArrayView.cores hall) c
    generalize freeTransposed c p.op (finishRows c p.op (w.modCore c fun k => { k with port := k.port.eraseIdx i })) = t at hall hcore hcore'
    have hcore'' : (t.core c).array = (({ w.core c with port := (w.core c).port.eraseIdx i } : Core)).array := hcore'.trans (congrArg Core.array hcw)
    refine ⟨(show t.mem = w.mem from congrArg ArrayView.mem hall).trans hm, (show t.poison = w.poison from congrArg ArrayView.poison hall).trans hpsn,
      (show t.rmax = w.rmax from congrArg ArrayView.rmax hall).trans hx, (show t.rsum = w.rsum from congrArg ArrayView.rsum hall).trans hs,
      (show (t.core c).tflags = (w.core c).tflags from congrArg CoreArray.tflags hcore'').trans hf,
      (show (t.core c).tileFaults = (w.core c).tileFaults from congrArg CoreArray.faults hcore'').trans ht, ?_, hcore ▸ hevents⟩
    have hp : (t.core c).port = (w.core c).port.eraseIdx i := congrArg CoreArray.port hcore''
    rw [hp, ← List.eraseIdx_map, ← List.eraseIdx_map]
    have hops := congrArg (List.map Prod.fst) hport
    simp only [State.rows, List.map_map] at hops
    exact congrArg (List.eraseIdx · i) hops

theorem execAccumulatorPortRow_eq {s : State} {c i : Nat} {p : PortOp} (hev : s.ev = some (.accumulatorPortRow c i))
    (hp : (s.core c).port[i]? = some p) (hr : portReady s c i p = true) : execAccumulatorPortRow s = .next (portStep c i p s) := by
  rw [execAccumulatorPortRow, hev]
  dsimp only
  rw [hp]
  exact congrArg _ (if_pos hr)

theorem accumulatorPortRow_moves (s : State) (c i : Nat) (p : PortOp) (hp : (s.core c).port[i]? = some p) (hr : portReady s c i p = true) :
    Runs .accumulatorPortRow (.accumulatorPortRow c i) s fun t =>
      if p.row + PortOp.stepRows p < p.rows then
        (t.core c).port.map (fun o => (o.op, o.row)) =
          ((s.core c).port.modify i fun o => { o with row := p.row + PortOp.stepRows p }).map fun o => (o.op, o.row)
      else (t.core c).port.map (fun o => o.op) = ((s.core c).port.eraseIdx i).map (fun o => o.op) ∧
        ((t.core c).bank p.op.bank).events.getLsbD 3 = true := by
  intro hev
  obtain ⟨-, -, -, -, -, -, h⟩ := portStep_spec c i p s
  exact ⟨_, execAccumulatorPortRow_eq hev hp hr, h⟩

end Sys2Proof.Machine
end

section

/-! PROOF. What each operation of the accumulator ports does to its row (R316 to R321). -/

namespace Sys2Proof.Machine
open Sys2Proof

/-! ### From the row to the step -/

/-- A step of the port leaves what its row has: memory, poison, side elements, flag words and faults. -/
structure RowKept (c : Nat) (u t : State) : Prop where
  mem : t.mem = u.mem
  poison : t.poison = u.poison
  rmax : t.rmax = u.rmax
  rsum : t.rsum = u.rsum
  tflags : (t.core c).tflags = (u.core c).tflags
  faults : (t.core c).tileFaults = (u.core c).tileFaults

theorem rowKept_portStep (c i : Nat) (p : PortOp) (s : State) : RowKept c (portRow c (readScales s c p) s) (portStep c i p s) := by
  obtain ⟨h1, h2, h3, h4, h5, h6, -⟩ := portStep_spec c i p s
  exact ⟨h1, h2, h3, h4, h5, h6⟩

theorem RowKept.of_array {c : Nat} {u t : State} (h : t.array = u.array) : RowKept c u t :=
  ⟨congrArg ArrayView.mem h, congrArg ArrayView.poison h, congrArg ArrayView.rmax h, congrArg ArrayView.rsum h,
    congrArg (fun a : ArrayView => (a.cores c).tflags) h, congrArg (fun a : ArrayView => (a.cores c).faults) h⟩

theorem RowKept.rowBecomes {c : Nat} {s u t : State} (h : RowKept c u t) {z row : Nat} {vals : List Nat} {psn : Nat → Bool} {flags : BitVec 8}
    (hr : RowBecomes s u c z row vals psn flags) : RowBecomes s t c z row vals psn flags := by
  obtain ⟨hm, hp, hf⟩ := hr
  refine ⟨h.mem.trans hm, fun j hj => ?_, fun y => by rw [h.tflags]; exact hf y⟩
  rw [← hp j hj, elemPoison, elemPoison, h.poison]

theorem readScales_of_ne {s : State} {c : Nat} {p : PortOp} (h : p.op.kind ≠ .msca) : readScales s c p = p := by
  unfold readScales
  exact if_neg fun hc => h (of_decide_eq_true (Bool.and_eq_true_iff.1 hc).1)

/-- The scale words of an MSCA: read before its first row. -/
def scaleWords (s : State) (c : Nat) (p : PortOp) : List (List Byte × Bool) :=
  if p.row = 0 then (List.range 128).map (scaleWord s c p.op p.op.addr2) ++ (List.range p.rows).map (scaleWord s c p.op p.op.addr) else p.data

theorem readScales_msca {s : State} {c : Nat} {p : PortOp} (h : p.op.kind = .msca) : readScales s c p = { p with data := scaleWords s c p } := by
  unfold readScales scaleWords
  by_cases hr : p.row = 0
  · rw [if_pos (by rw [h, hr]; rfl), if_pos hr]
  · rw [if_neg (by simp [hr]), if_neg hr]

/-! ### Marks in the flag words -/

theorem notePsn_eq (c z : Nat) (any : Bool) (s : State) : notePsn c z any s = { s with cores := (notePsn c z any s).cores } := by
  cases any <;> rfl

theorem orFlags_eq (c z : Nat) (bits : BitVec 8) (s : State) : orFlags c z bits s = { s with cores := (orFlags c z bits s).cores } := rfl

theorem core_of_cores {s t : State} (h : t.cores = s.cores) (c : Nat) : t.core c = s.core c := by
  unfold State.core
  rw [h]

/-- A row that has been written, with its side elements marked, and then its flags and PSN. -/
theorem rowBecomes_marked {s w : State} {c z row : Nat} {vals : List Nat} {psn : Nat → Bool} (fl : BitVec 8) (any : Bool)
    (hm : w.mem = (writeRow c z row vals psn s).mem)
    (hp : ∀ j, j < 128 → (tileKey c z row j ∈ w.poison ↔ tileKey c z row j ∈ (writeRow c z row vals psn s).poison)) (hc : w.cores = s.cores) :
    RowBecomes s (notePsn c z any (orFlags c z fl w)) c z row vals psn (fl ||| psnBit any) := by
  refine rowBecomes_of ?_ ?_ ?_
  · rw [notePsn_eq, orFlags_eq]
    exact hm
  · rw [notePsn_eq, orFlags_eq]
    exact hp
  · rw [tflags_notePsn, tflags_orFlags, flagged_flagged, core_of_cores hc]

theorem rowBecomes_written (s : State) (c z row : Nat) (vals : List Nat) (psn : Nat → Bool) (fl : BitVec 8) (any : Bool) :
    RowBecomes s (notePsn c z any (orFlags c z fl (writeRow c z row vals psn s))) c z row vals psn (fl ||| psnBit any) :=
  rowBecomes_marked fl any rfl (fun _ _ => Iff.rfl) rfl

theorem sides_written (s : State) (c z row : Nat) (vals : List Nat) (psn : Nat → Bool) (fl : BitVec 8) (any : Bool) :
    (notePsn c z any (orFlags c z fl (writeRow c z row vals psn s))).rmax = s.rmax ∧
      (notePsn c z any (orFlags c z fl (writeRow c z row vals psn s))).rsum = s.rsum := by
  rw [notePsn_eq, orFlags_eq]
  exact ⟨rfl, rfl⟩

section
variable (s : State) (c : Nat) (p : PortOp)

/-! ### MZERO (R316) -/

theorem zeroRow_spec (z row : Nat) (hz : z < 4) (hr : row < 128) :
    RowBecomes s (zeroRow c z row s) c z row (List.replicate 128 0) (fun _ => false) 0 ∧ rmaxOf (zeroRow c z row s) c z row = 0xFF800000 ∧
      rsumOf (zeroRow c z row s) c z row = 0 ∧ sideKey c z row false ∉ (zeroRow c z row s).poison ∧
      sideKey c z row true ∉ (zeroRow c z row s).poison := by
  have hcores := cores_zeroRow c z row s
  unfold zeroRow at hcores ⊢
  generalize List.replicate 128 0 = vs at hcores ⊢
  generalize hu : writeRow c z row vs (fun _ => false) s = u at hcores ⊢
  have hpoison : ∀ w, w ∈ (clearPoison u [sideKey c z row false, sideKey c z row true]).poison ↔
      w ∉ [sideKey c z row false, sideKey c z row true] ∧ w ∈ u.poison := fun w => mem_clearPoison
  refine ⟨rowBecomes_of (show u.mem = _ by rw [hu]) (fun j hj => ?_) ?_, kgetD_kset_same _ _ _ _, kgetD_kset_same _ _ _ _, ?_, ?_⟩
  · rw [hu]
    refine (hpoison _).trans (and_iff_right fun h => ?_)
    rcases List.mem_cons.1 h with h | h
    · exact tileKey_ne_sideKey hz hr hr hj h
    · exact tileKey_ne_sideKey hz hr hr hj (List.mem_singleton.1 h)
  · rw [core_of_cores hcores]
    exact (flagged_zero _ _).symm
  · exact fun h => ((hpoison _).1 h).1 List.mem_cons_self
  · exact fun h => ((hpoison _).1 h).1 (List.mem_cons_of_mem _ (List.mem_singleton_self _))

/-! ### MDRAIN and MSTAT (R317, R318) -/

/-- The elements of a row as MDRAIN converts them. -/
def drainedRow (z : Nat) : List (Nat × Fl) :=
  (List.range 128).map fun j => drainElem p.op.form.afmt (MForm.zf p.op.form) (readElem s c z p.row j)

theorem drainRow_spec (ws : List Nat) :
    let z := p.op.form.z.toNat
    let key := unitKey s c p.op p.units p.row
    let t := drainRow c p ws s
    (key ≠ 0 → t.mem = putWords s.mem key ((drainedRow s c p z).flatMap fun e => leBytes (afmtBytes p.op.form.afmt) e.1) ws) ∧
      (key = 0 → t.mem = s.mem ∧ (((s.core c).port.any fun o => o.op.id = p.op.id && o.bad) = false →
        (⟨some z, p.op.bank, p.op.task, causeAddrRange⟩ : TileFault) ∈ (t.core c).tileFaults)) ∧
      (t.core c).tflags.get (Fin.ofNat 4 z) =
        (s.core c).tflags.get (Fin.ofNat 4 z) ||| flagBits (Fl.all ((drainedRow s c p z).map fun e => e.2)) := by
  dsimp only
  unfold drainRow
  dsimp only
  rw [← drainedRow]
  generalize drainedRow s c p p.op.form.z.toNat = es
  generalize unitKey s c p.op p.units p.row = key
  generalize drainPoison s c p.op.form.z.toNat p.row key (afmtBytes p.op.form.afmt) = bad
  obtain ⟨-, -, hf, -, -, hput, hlost⟩ :=
    writeUnit_spec c p key (es.flatMap fun e => leBytes (afmtBytes p.op.form.afmt) e.1) bad ws s
  generalize writeUnit c p key (es.flatMap fun e => leBytes (afmtBytes p.op.form.afmt) e.1) bad ws s = u at hf hput hlost
  refine ⟨hput, fun hk => ?_, ?_⟩
  · obtain ⟨hm, hfault⟩ := hlost hk
    refine ⟨hm, fun h => ?_⟩
    rw [orFlags, State.core_modCore]
    exact hfault h
  · rw [tflags_orFlags, get_flagged, if_pos rfl, hf]

/-- What MSTAT writes of a row. -/
def statBytes (z row : Nat) : List Byte := leBytes 4 (rmaxOf s c z row).toNat ++ leBytes 4 (rsumOf s c z row).toNat

theorem places_orFlags (z : Nat) (bits : BitVec 8) : (orFlags c z bits s).places = s.places :=
  places_modCore s c fun _ _ => ⟨rfl, rfl, rfl⟩

theorem places_notePsn (z : Nat) (any : Bool) : (notePsn c z any s).places = s.places := by
  cases any with
  | false => rfl
  | true => exact places_orFlags s c z 0x20

theorem statRow_spec (row : Nat) (ws : List Nat) :
    let t := statRow c p row ws s
    t.rmax = s.rmax ∧ t.rsum = s.rsum ∧ t.places = s.places ∧
      t.mem = if unitKey s c p.op p.units row = 0 then s.mem
        else putWords s.mem (unitKey s c p.op p.units row) (statBytes s c p.op.form.z.toNat row) ws := by
  dsimp only
  unfold statRow
  dsimp only
  rw [← statBytes]
  generalize statBytes s c p.op.form.z.toNat row = bs
  generalize unitKey s c p.op p.units row = key
  generalize ((if s.poison.contains (sideKey c p.op.form.z.toNat row false) = true then [key] else []) ++
    if s.poison.contains (sideKey c p.op.form.z.toNat row true) = true then [key + 4] else []) = bad
  obtain ⟨hx, hs, -, -, hp, hput, hlost⟩ := writeUnit_spec c p key bs bad ws s
  generalize writeUnit c p key bs bad ws s = u at hx hs hp hput hlost
  refine ⟨?_, ?_, (places_notePsn u c _ _).trans hp, ?_⟩
  · rw [notePsn_eq]
    exact hx
  · rw [notePsn_eq]
    exact hs
  · rw [notePsn_eq]
    split
    · next hk => exact (hlost hk).1
    · next hk => exact hput hk

theorem statRows_spec (ds : List Nat) (u : State) (hx : u.rmax = s.rmax) (hs : u.rsum = s.rsum) (hp : u.places = s.places) :
    let t := ds.foldl (fun s d => statRow c p (p.row + d) (PortOp.wordsLeft p d) s) u
    t.rmax = s.rmax ∧ t.rsum = s.rsum ∧ t.mem = ds.foldl (fun m d => if unitKey s c p.op p.units (p.row + d) = 0 then m
      else putWords m (unitKey s c p.op p.units (p.row + d)) (statBytes s c p.op.form.z.toNat (p.row + d)) (PortOp.wordsLeft p d)) u.mem := by
  induction ds generalizing u with
  | nil => exact ⟨hx, hs, rfl⟩
  | cons d ds ih =>
    obtain ⟨kx, ks, kp, km⟩ := statRow_spec u c p (p.row + d) (PortOp.wordsLeft p d)
    have hbytes : statBytes u c p.op.form.z.toNat (p.row + d) = statBytes s c p.op.form.z.toNat (p.row + d) := by
      simp only [statBytes, rmaxOf, rsumOf, hx, hs]
    rw [unitKey_congr hp, hbytes] at km
    obtain ⟨jx, js, jm⟩ := ih (statRow c p (p.row + d) (PortOp.wordsLeft p d) u) (kx.trans hx) (ks.trans hs) (kp.trans hp)
    refine ⟨jx, js, jm.trans ?_⟩
    rw [km]
    rfl

/-! ### MSCA (R319) -/

/-- The columns of a scaled row. -/
def scaled (ws : List (List Byte × Bool)) : List (Nat × Fl) :=
  (List.range 128).map fun j => FFmt.f32.roundTerms .rne
    [[FFmt.f32.decode (readElem s c p.op.form.z.toNat p.row j)],
      [FFmt.f32.decode (readElem s c p.op.form.zs.toNat p.row j), FFmt.f32.decode (leNat (ws.getD (128 + p.row) ([], false)).1),
        FFmt.f32.decode (leNat (ws.getD j ([], false)).1)]]

/-- The columns of a scaled row that are poisoned. -/
def scaledPsn (ws : List (List Byte × Bool)) (j : Nat) : Bool :=
  elemPoison s c p.op.form.zs.toNat p.row j || elemPoison s c p.op.form.z.toNat p.row j || (ws.getD (128 + p.row) ([], false)).2 ||
    (ws.getD j ([], false)).2

theorem scaleRow_eq (h : (p.data.getD (128 + p.row) ([], false)).1 ≠ []) (hall : ∀ x, x ∈ p.data.take 128 → x.1 ≠ []) :
    scaleRow c p s = notePsn c p.op.form.z.toNat ((List.range 128).any (scaledPsn s c p p.data))
      (orFlags c p.op.form.z.toNat (flagBits (Fl.all ((scaled s c p p.data).map fun e => e.2)))
        (writeRow c p.op.form.z.toNat p.row ((scaled s c p p.data).map fun e => e.1) (scaledPsn s c p p.data) s)) := by
  have hcond : ¬((p.data.getD (128 + p.row) ([], false)).1.isEmpty || (p.data.take 128).any fun x => x.1.isEmpty) = true := by
    simp only [Bool.or_eq_true, List.isEmpty_iff, List.any_eq_true, not_or, not_exists, not_and]
    exact ⟨h, hall⟩
  unfold scaleRow
  exact if_neg hcond

/-! ### MRESC (R320) -/

/-- The columns of a rescaled row. -/
def rescaled (key : Nat) : List (Nat × Fl) :=
  (List.range 128).map fun j => FFmt.f32.roundTerms .rne
    [[FFmt.f32.decode (readElem s c p.op.form.z.toNat p.row j), FFmt.f32.decode (readNat s key 4)]]

/-- The row sum of a rescaled row. -/
def rescaledSum (key : Nat) : Nat × Fl :=
  FFmt.f32.roundTerms .rne [[FFmt.f32.decode (rsumOf s c p.op.form.z.toNat p.row).toNat, FFmt.f32.decode (readNat s key 4)],
    [FFmt.f32.decode (readNat s (key + 4) 4)]]

/-- The row sum of a rescaled row is poisoned. -/
def rescaledMark (key : Nat) : Bool :=
  s.poison.contains (sideKey c p.op.form.z.toNat p.row true) || poisoned s key 4 || poisoned s (key + 4) 4

/-- The columns of a rescaled row that are poisoned. -/
def rescaledPsn (key j : Nat) : Bool := elemPoison s c p.op.form.z.toNat p.row j || poisoned s key 4

/-- A row with a new row sum, marked or not. -/
def withSum (z row : Nat) (v : Word) (mark : Bool) : State :=
  if mark = true then markPoison { s with rsum := kset s.rsum (sideIdx c z row) v } [sideKey c z row true]
  else { s with rsum := kset s.rsum (sideIdx c z row) v }

theorem withSum_spec (z row : Nat) (v : Word) (mark : Bool) : (withSum s c z row v mark).mem = s.mem ∧ (withSum s c z row v mark).cores = s.cores ∧
    (withSum s c z row v mark).rmax = s.rmax ∧ rsumOf (withSum s c z row v mark) c z row = v ∧
    ∀ w, w ≠ sideKey c z row true → (w ∈ (withSum s c z row v mark).poison ↔ w ∈ s.poison) := by
  have hsum : ∀ t : State, t.rsum = kset s.rsum (sideIdx c z row) v → rsumOf t c z row = v := fun t h => by
    unfold rsumOf
    rw [h]
    exact kgetD_kset_same _ _ _ _
  cases mark with
  | false => exact ⟨rfl, rfl, rfl, hsum _ rfl, fun _ _ => Iff.rfl⟩
  | true =>
    refine ⟨rfl, rfl, rfl, hsum _ rfl, fun w hw => mem_markPoison.trans (or_iff_right fun h => hw (List.mem_singleton.1 h))⟩

theorem rescaleRow_eq (key : Nat) (hkey : unitKey s c p.op p.units p.row = key) (hk : key ≠ 0) :
    rescaleRow c p s = readUnit c p.op p.row (notePsn c p.op.form.z.toNat (rescaledMark s c p key || (List.range 128).any (rescaledPsn s c p key))
      (orFlags c p.op.form.z.toNat (flagBits ((Fl.all ((rescaled s c p key).map fun e => e.2)).or (rescaledSum s c p key).2))
        (withSum (writeRow c p.op.form.z.toNat p.row ((rescaled s c p key).map fun e => e.1) (rescaledPsn s c p key) s) c p.op.form.z.toNat p.row
          (BitVec.ofNat 32 (rescaledSum s c p key).1) (rescaledMark s c p key)))) := by
  unfold rescaleRow
  dsimp only
  rw [hkey]
  exact if_neg hk

theorem rescaleRow_spec (key : Nat) (hkey : unitKey s c p.op p.units p.row = key) (hk : key ≠ 0) (hr : p.row < 128) :
    RowBecomes s (rescaleRow c p s) c p.op.form.z.toNat p.row ((rescaled s c p key).map fun e => e.1) (rescaledPsn s c p key)
        (flagBits ((Fl.all ((rescaled s c p key).map fun e => e.2)).or (rescaledSum s c p key).2) |||
          psnBit (rescaledMark s c p key || (List.range 128).any (rescaledPsn s c p key))) ∧
      rsumOf (rescaleRow c p s) c p.op.form.z.toNat p.row = BitVec.ofNat 32 (rescaledSum s c p key).1 ∧ (rescaleRow c p s).rmax = s.rmax := by
  rw [rescaleRow_eq s c p key hkey hk]
  generalize rescaledMark s c p key = mark
  generalize rescaledSum s c p key = sum
  generalize rescaled s c p key = cells
  generalize rescaledPsn s c p key = psn
  generalize (List.range 128).any psn = any
  generalize flagBits ((Fl.all (cells.map fun e => e.2)).or sum.2) = fl
  generalize hv : writeRow c p.op.form.z.toNat p.row (cells.map fun e => e.1) psn s = v
  obtain ⟨hm, hc, hx, hs, hp⟩ := withSum_spec v c p.op.form.z.toNat p.row (BitVec.ofNat 32 sum.1) mark
  generalize withSum v c p.op.form.z.toNat p.row (BitVec.ofNat 32 sum.1) mark = w at hm hc hx hs hp
  have hcs : v.cores = s.cores := by rw [← hv]; rfl
  have hxs : v.rmax = s.rmax := by rw [← hv]; rfl
  have hkept : RowKept c (notePsn c p.op.form.z.toNat (mark || any) (orFlags c p.op.form.z.toNat fl w))
      (readUnit c p.op p.row (notePsn c p.op.form.z.toNat (mark || any) (orFlags c p.op.form.z.toNat fl w))) :=
    .of_array (array_readUnit _ _ _ _)
  refine ⟨hkept.rowBecomes (rowBecomes_marked fl (mark || any) (hv ▸ hm) (fun j hj => ?_) (hc.trans hcs)), ?_, ?_⟩
  · rw [hv]
    exact hp _ (tileKey_ne_sideKey (BitVec.isLt _) hr hr hj)
  · unfold rsumOf at hs ⊢
    rw [hkept.rsum, notePsn_eq, orFlags_eq]
    exact hs
  · rw [hkept.rmax, notePsn_eq, orFlags_eq]
    exact hx.trans hxs

/-! ### MTRN (R321) -/

/-- The element of a transposed row at a column. -/
def transposed (j : Nat) : FVal := aElem p.op.form.afmt (p.data.getD j ([], false)).1 p.row

/-- The columns of a transposed row. -/
def transposedRow : List Nat :=
  (List.range 128).map fun j => if j < p.data.length then (FFmt.f32.encode .rne false (transposed p j)).1
    else readElem s c p.op.form.z.toNat p.row j

/-- The flags of a transposed row. -/
def transposedFlags : Fl :=
  Fl.all ((List.range 128).map fun j => if j < p.data.length && (transposed p j).isSnan then Fl.inv else Fl.none)

/-- The columns of a transposed row that are poisoned. -/
def transposedPsn (j : Nat) : Bool := if j < p.data.length then (p.data.getD j ([], false)).2 else elemPoison s c p.op.form.z.toNat p.row j

theorem transposeRow_eq : transposeRow c p s = progress c p.op.form.z.toNat p.op.id
    (fun x => { x with done := x.done + 1, busy := x.done + 1 < 128 })
      (notePsn c p.op.form.z.toNat ((List.range p.data.length).any (transposedPsn s c p))
        (orFlags c p.op.form.z.toNat (flagBits (transposedFlags p)) (writeRow c p.op.form.z.toNat p.row (transposedRow s c p) (transposedPsn s c p) s))) := by
  have hvals : ((List.range 128).map fun r => if r < p.data.length then
      ((FFmt.f32.encode .rne false (transposed p r)).1, if (transposed p r).isSnan = true then Fl.inv else Fl.none)
      else (readElem s c p.op.form.z.toNat p.row r, Fl.none)).map (fun e => e.1) = transposedRow s c p := by
    rw [List.map_map]
    refine List.map_congr_left fun j _ => ?_
    dsimp only [Function.comp]
    split <;> rfl
  have hflags : Fl.all (((List.range 128).map fun r => if r < p.data.length then
      ((FFmt.f32.encode .rne false (transposed p r)).1, if (transposed p r).isSnan = true then Fl.inv else Fl.none)
      else (readElem s c p.op.form.z.toNat p.row r, Fl.none)).map fun e => e.2) = transposedFlags p := by
    rw [List.map_map]
    refine congrArg Fl.all (List.map_congr_left fun j _ => ?_)
    dsimp only [Function.comp]
    by_cases hj : j < p.data.length
    · rw [if_pos hj, decide_eq_true hj, Bool.true_and]
    · rw [if_neg hj, decide_eq_false hj, Bool.false_and]
      rfl
  rw [← hvals, ← hflags]
  rfl

theorem transposeRow_spec : RowBecomes s (transposeRow c p s) c p.op.form.z.toNat p.row (transposedRow s c p) (transposedPsn s c p)
    (flagBits (transposedFlags p) ||| psnBit ((List.range p.data.length).any (transposedPsn s c p))) := by
  rw [transposeRow_eq]
  exact (RowKept.of_array (array_progress _ _ _ _ _)).rowBecomes (rowBecomes_written s c _ _ _ _ _ _)

end

end Sys2Proof.Machine
end

section

/-! PROOF. The steps of the array and of the accumulator ports (R272, R291 to R295, R316 to R321): the obligation MatrixStepsComplete. -/

namespace Sys2Proof.Machine
open Sys2Proof

/-! ### The accumulator ports (R316 to R321) -/

theorem accumulatorPortRow_rows (s : State) (c i : Nat) (p : PortOp) (hp : (s.core c).port[i]? = some p) (hr : portReady s c i p = true)
    (hrow : p.row < 128) :
    Runs .accumulatorPortRow (.accumulatorPortRow c i) s fun t =>
      let q := p.op
      let z := q.form.z.toNat
      let r := p.row
      let old := fun j => FFmt.f32.decode (readElem s c z r j)
      let key := unitKey s c q p.units r
      let lost := (⟨some z, q.bank, q.task, causeAddrRange⟩ : TileFault) ∈ (t.core c).tileFaults
      (q.kind = .mzero → RowBecomes s t c z r (List.replicate 128 0) (fun _ => false) 0 ∧ rmaxOf t c z r = 0xFF800000 ∧ rsumOf t c z r = 0 ∧
        sideKey c z r false ∉ t.poison ∧ sideKey c z r true ∉ t.poison) ∧
      (q.kind = .mdrain →
        let es := (List.range 128).map fun j =>
          if q.form.afmt = 1 then (readElem s c z r j, Fl.none)
          else
            let e := if isB8 q.form.afmt then (b8Of q.form.afmt).encode .rne (MForm.zf q.form) (old j)
              else (fmtOf q.form.afmt).encode .rne (MForm.zf q.form) (old j)
            (e.1, (if (old j).isSnan then Fl.inv else Fl.none).or e.2)
        (key ≠ 0 → t.mem = putWords s.mem key (es.flatMap fun e => leBytes (afmtBytes q.form.afmt) e.1) (PortOp.wordsLeft p 0)) ∧
          (key = 0 → t.mem = s.mem ∧ (((s.core c).port.any fun o => o.op.id = q.id && o.bad) = false → lost)) ∧
          (t.core c).tflags.get (Fin.ofNat 4 z) = (s.core c).tflags.get (Fin.ofNat 4 z) ||| flagBits (Fl.all (es.map fun e => e.2))) ∧
      (q.kind = .mstat → t.rmax = s.rmax ∧ t.rsum = s.rsum ∧
        t.mem = (List.range (PortOp.stepRows p)).foldl (fun m d =>
          if unitKey s c q p.units (r + d) = 0 then m
          else putWords m (unitKey s c q p.units (r + d)) (leBytes 4 (rmaxOf s c z (r + d)).toNat ++ leBytes 4 (rsumOf s c z (r + d)).toNat)
            (PortOp.wordsLeft p d)) s.mem) ∧
      (q.kind = .msca →
        let ws := if r = 0 then (List.range 128).map (scaleWord s c q q.addr2) ++ (List.range p.rows).map (scaleWord s c q q.addr) else p.data
        let w := fun i => ws.getD i ([], false)
        let psn := fun j => elemPoison s c q.form.zs.toNat r j || elemPoison s c z r j || (w (128 + r)).2 || (w j).2
        let v := fun i => FFmt.f32.decode (leNat (w i).1)
        let cells := (List.range 128).map fun j =>
          FFmt.f32.roundTerms .rne [[old j], [FFmt.f32.decode (readElem s c q.form.zs.toNat r j), v (128 + r), v j]]
        (w (128 + r)).1 ≠ [] → (∀ x, x ∈ ws.take 128 → x.1 ≠ []) →
          RowBecomes s t c z r (cells.map fun e => e.1) psn
              (flagBits (Fl.all (cells.map fun e => e.2)) ||| psnBit ((List.range 128).any psn)) ∧ t.rmax = s.rmax ∧ t.rsum = s.rsum) ∧
      (q.kind = .mresc → key ≠ 0 →
        let f := FFmt.f32.decode (readNat s key 4)
        let cells := (List.range 128).map fun j => FFmt.f32.roundTerms .rne [[old j, f]]
        let sum := FFmt.f32.roundTerms .rne [[FFmt.f32.decode (rsumOf s c z r).toNat, f], [FFmt.f32.decode (readNat s (key + 4) 4)]]
        let psn := fun j => elemPoison s c z r j || poisoned s key 4
        let sp := s.poison.contains (sideKey c z r true) || poisoned s key 4 || poisoned s (key + 4) 4
        RowBecomes s t c z r (cells.map fun e => e.1) psn
            (flagBits ((Fl.all (cells.map fun e => e.2)).or sum.2) ||| psnBit (sp || (List.range 128).any psn)) ∧
          rsumOf t c z r = BitVec.ofNat 32 sum.1 ∧ t.rmax = s.rmax) ∧
      (q.kind = .mtrn →
        let n := p.data.length
        let src := fun j => aElem q.form.afmt (p.data.getD j ([], false)).1 r
        let psn := fun j => if j < n then (p.data.getD j ([], false)).2 else elemPoison s c z r j
        RowBecomes s t c z r
          ((List.range 128).map fun j => if j < n then (FFmt.f32.encode .rne false (src j)).1 else readElem s c z r j) psn
          (flagBits (Fl.all ((List.range 128).map fun j => if j < n && (src j).isSnan then Fl.inv else Fl.none)) |||
            psnBit ((List.range n).any psn))) := by
  intro hev
  have hkept := rowKept_portStep c i p s
  refine ⟨_, execAccumulatorPortRow_eq hev hp hr, ?_⟩
  generalize portStep c i p s = t at hkept
  refine ⟨fun hk => ?_, fun hk => ?_, fun hk => ?_, fun hk => ?_, fun hk => ?_, fun hk => ?_⟩
  · rw [readScales_of_ne (by rw [hk]; decide), portRow, hk] at hkept
    obtain ⟨h1, h2, h3, h4, h5⟩ := zeroRow_spec s c p.op.form.z.toNat p.row (BitVec.isLt _) hrow
    refine ⟨hkept.rowBecomes h1, ?_, ?_, ?_, ?_⟩
    · unfold rmaxOf at h2 ⊢
      rw [hkept.rmax]
      exact h2
    · unfold rsumOf at h3 ⊢
      rw [hkept.rsum]
      exact h3
    · rw [hkept.poison]
      exact h4
    · rw [hkept.poison]
      exact h5
  · rw [readScales_of_ne (by rw [hk]; decide), portRow, hk] at hkept
    obtain ⟨hput, hlost, hflags⟩ := drainRow_spec s c p (PortOp.wordsLeft p 0)
    refine ⟨fun h => hkept.mem.trans (hput h), fun h => ?_, (congrArg (Vector.get · _) hkept.tflags).trans hflags⟩
    obtain ⟨hm, hfault⟩ := hlost h
    exact ⟨hkept.mem.trans hm, fun hb => hkept.faults ▸ hfault hb⟩
  · rw [readScales_of_ne (by rw [hk]; decide), portRow, hk] at hkept
    obtain ⟨hx, hs, hm⟩ := statRows_spec s c p (List.range (PortOp.stepRows p)) s rfl rfl rfl
    exact ⟨hkept.rmax.trans hx, hkept.rsum.trans hs, hkept.mem.trans hm⟩
  · intro ws w psn v cells h1 h2
    have hu : portRow c (readScales s c p) s = scaleRow c { p with data := scaleWords s c p } s := by
      rw [readScales_msca hk, portRow]
      dsimp only
      rw [hk]
    rw [hu, scaleRow_eq s c _ h1 h2] at hkept
    obtain ⟨hx, hs⟩ := sides_written s c p.op.form.z.toNat p.row ((scaled s c p (scaleWords s c p)).map fun e => e.1)
      (scaledPsn s c p (scaleWords s c p)) (flagBits (Fl.all ((scaled s c p (scaleWords s c p)).map fun e => e.2)))
      ((List.range 128).any (scaledPsn s c p (scaleWords s c p)))
    exact ⟨hkept.rowBecomes (rowBecomes_written s c _ _ _ _ _ _), hkept.rmax.trans hx, hkept.rsum.trans hs⟩
  · intro hkey f cells sum psn sp
    rw [readScales_of_ne (by rw [hk]; decide), portRow, hk] at hkept
    obtain ⟨hb, hs, hx⟩ := rescaleRow_spec s c p _ rfl hkey hrow
    refine ⟨hkept.rowBecomes hb, ?_, hkept.rmax.trans hx⟩
    unfold rsumOf at hs ⊢
    rw [hkept.rsum]
    exact hs
  · rw [readScales_of_ne (by rw [hk]; decide), portRow, hk] at hkept
    exact hkept.rowBecomes (transposeRow_spec s c p)

/-! ### The select unit (R272) -/

theorem mem_foldl_storeBytes (ws : List (Nat × List Byte)) (s : State) :
    (ws.foldl (fun s w => storeBytes s w.1 w.2) s).mem = ws.foldl (fun m w => Memory.setBytes m w.1 w.2) s.mem := by
  induction ws generalizing s with
  | nil => rfl
  | cons w ws ih => exact ih _

theorem selectWrites_runs (s : State) (c : Nat) (x : SelOp) (r : List SelOp) (hx : (s.core c).sel = x :: r) :
    Runs .selectWrites (.selectWrites c) s fun t =>
      (t.core c).sel = r ∧ t.mem = x.writes.foldl (fun m w => Memory.setBytes m w.1 w.2) s.mem ∧
        ((t.core c).bank x.bank).rdV x.dst = x.result := by
  intro hev
  have he : execSelectWrites s = .next ((landSel c s x).modCore c fun k => { k with sel := r }) := by
    rw [execSelectWrites, hev]
    dsimp only
    rw [hx]
  refine ⟨_, he, ?_⟩
  dsimp only
  rw [State.core_modCore, landSel, State.modBankAt, State.core_modCore]
  refine ⟨rfl, mem_foldl_storeBytes x.writes s, ?_⟩
  generalize (x.writes.foldl (fun s w => storeBytes s w.1 w.2) s).core c = k
  have hbank : (({ k.modBank x.bank (fun b => b.wrV x.dst x.result) with sel := r } : Core)).bank x.bank = (k.bank x.bank).wrV x.dst x.result := by
    cases x.bank <;> rfl
  rw [hbank, Bank.rdV, Bank.wrV]
  exact Vector.getElem_set_self _

/-! ### Positions that fire (R291) -/

theorem num_of_entry {x : Cluster} {num : Nat} {y : MEntry} (h : x.entry num = some y) : y ∈ x.entries ∧ y.num = num := by
  unfold Cluster.entry at h
  have hp := List.find?_some h
  exact ⟨List.mem_of_find?_eq_some h, of_decide_eq_true hp⟩

/-- An entry of a merge buffer, where it still stands, has fired `n` positions. -/
def Fired (k num n : Nat) (s : State) : Prop := ∀ y, (s.cluster k).entry num = some y → y.fired = n

section
variable {k num n : Nat} {s t : State}

theorem Fired.congr (h : Fired k num n s) (hc : t.clusters = s.clusters) : Fired k num n t := by
  unfold Fired State.cluster
  rw [hc]
  exact h

theorem entry_modEntry (s : State) (k num : Nat) {f : MEntry → MEntry} (hf : ∀ e, (f e).num = e.num) :
    ((modEntry k num f s).cluster k).entry num = ((s.cluster k).entry num).map f := by
  rw [modEntry, cluster_modCluster]
  unfold Cluster.entry
  dsimp only
  generalize (s.cluster k).entries = es
  induction es with
  | nil => rfl
  | cons e es ih =>
    rw [List.map_cons, List.find?_cons, List.find?_cons]
    by_cases he : e.num = num
    · rw [if_pos he, decide_eq_true (he ▸ hf e), decide_eq_true he]
      rfl
    · rw [if_neg he, decide_eq_false he]
      exact ih

theorem Fired.modEntry (h : Fired k num n s) {f : MEntry → MEntry} (hf : ∀ e, (f e).num = e.num ∧ (f e).fired = e.fired) :
    Fired k num n (modEntry k num f s) := by
  intro y hy
  rw [entry_modEntry s k num fun e => (hf e).1] at hy
  obtain ⟨e, he, rfl⟩ := Option.map_eq_some_iff.1 hy
  exact (hf e).2.trans (h e he)

theorem Fired.drop : Fired k num n (s.modCluster k fun x => x.drop num) := by
  intro y hy
  rw [cluster_modCluster] at hy
  obtain ⟨hm, hn⟩ := num_of_entry hy
  exact absurd hn (of_decide_eq_true (List.mem_filter.1 hm).2)

theorem Fired.idle (h : Fired k num n s) : Fired k num n (s.modCluster k fun x => { x with current := none }) := by
  intro y hy
  rw [cluster_modCluster] at hy
  exact h y hy

theorem Fired.settleEntry (h : Fired k num n s) : Fired k num n (settleEntry k num s) := by
  unfold Machine.settleEntry
  dsimp only
  split
  · exact h
  · split
    · exact h
    · exact Fired.drop

theorem clusters_releaseAll (c : Nat) (q : MOp) (s : State) : (releaseAll c q s).clusters = s.clusters := by
  unfold releaseAll
  dsimp only
  split <;> rfl

theorem clusters_readUnit (c : Nat) (q : MOp) (i : Nat) (s : State) : (readUnit c q i s).clusters = s.clusters := by
  unfold readUnit
  split
  · rfl
  · split
    · rfl
    · dsimp only
      split <;> rfl

/-- The cores' part of an abort of a segment with a fault. -/
def abortCore (g : Seg) (code : BitVec 8) (s : State) : State :=
  (progress (segCore g) g.op.form.z.toNat g.op.id (fun p => { p with busy := false })
    (recordFault (segCore g) g.op (some g.op.form.z.toNat) code (orFlags (segCore g) g.op.form.z.toNat 0x80 s))).modCore (segCore g) fun x =>
      { x with flights := x.flights.filter (fun f => f.op.id ≠ g.op.id), port := x.port.filter fun p => p.op.id ≠ g.op.id }

/-- An entry whose segment is aborted. -/
def abortedEntry (g : Seg) (code : BitVec 8) (e : MEntry) : MEntry :=
  if e.selected then
    { e with segs := e.segs.map fun h => if h.op.id = g.op.id then { h with aborted := true, fault := some code } else h }
  else { e with segs := restack 0 (e.segs.filter fun h => h.op.id ≠ g.op.id) }

theorem abortSeg_eq (k num : Nat) (g : Seg) (code : BitVec 8) (s : State) : abortSeg k num g (some code) false s =
    settleEntry k num (modEntry k num (abortedEntry g code) (releaseAll (segCore g) g.op (abortCore g code s))) := rfl

theorem abortSeg_spec (h : Fired k num n s) (g : Seg) (code : BitVec 8) :
    Fired k num n (abortSeg k num g (some code) false s) ∧ (abortSeg k num g (some code) false s).mem = s.mem ∧
      (⟨some g.op.form.z.toNat, g.op.bank, g.op.task, code⟩ : TileFault) ∈ ((abortSeg k num g (some code) false s).core (segCore g)).tileFaults ∧
      (((abortSeg k num g (some code) false s).core (segCore g)).tflags.get (Fin.ofNat 4 g.op.form.z.toNat)).getLsbD 7 = true := by
  rw [abortSeg_eq]
  have hcore : ((abortCore g code s).core (segCore g)).tflags = flagged (s.core (segCore g)).tflags g.op.form.z.toNat 0x80 ∧
      (⟨some g.op.form.z.toNat, g.op.bank, g.op.task, code⟩ : TileFault) ∈ ((abortCore g code s).core (segCore g)).tileFaults := by
    have hview := array_progress (recordFault (segCore g) g.op (some g.op.form.z.toNat) code (orFlags (segCore g) g.op.form.z.toNat 0x80 s))
      (segCore g) g.op.form.z.toNat g.op.id fun p => { p with busy := false }
    have hc := congrFun (congrArg ArrayView.cores hview) (segCore g)
    have hrec := State.core_modCore (orFlags (segCore g) g.op.form.z.toNat 0x80 s) (segCore g)
      fun k => { k with tileFaults := k.tileFaults ++ [⟨some g.op.form.z.toNat, g.op.bank, g.op.task, code⟩] }
    have hflags := congrArg Core.tflags hrec
    have hfaults := congrArg Core.tileFaults hrec
    rw [abortCore, State.core_modCore]
    refine ⟨(congrArg CoreArray.tflags hc).trans (hflags.trans (tflags_orFlags _ _ _ s)), ?_⟩
    have hin : (⟨some g.op.form.z.toNat, g.op.bank, g.op.task, code⟩ : TileFault) ∈
        ((orFlags (segCore g) g.op.form.z.toNat 0x80 s).core (segCore g)).tileFaults ++ [⟨some g.op.form.z.toNat, g.op.bank, g.op.task, code⟩] :=
      List.mem_append_right _ (List.mem_singleton_self _)
    exact Eq.mpr (congrArg (_ ∈ ·) ((congrArg CoreArray.faults hc).trans hfaults)) hin
  have hmem : (abortCore g code s).mem = s.mem := rfl
  have hclusters : (abortCore g code s).clusters = s.clusters := rfl
  generalize abortCore g code s = u at hcore hmem hclusters
  have hview : (settleEntry k num (modEntry k num (abortedEntry g code) (releaseAll (segCore g) g.op u))).array = u.array :=
    (array_settleEntry _ _ _).trans ((array_modEntry _ _ _ _).trans (array_releaseAll u _ _))
  have hc := congrFun (congrArg ArrayView.cores hview) (segCore g)
  refine ⟨?_, (congrArg ArrayView.mem hview).trans hmem, ?_, ?_⟩
  · refine Fired.settleEntry (Fired.modEntry ((h.congr hclusters).congr (clusters_releaseAll _ _ u)) fun e => ?_)
    unfold abortedEntry
    split <;> exact ⟨rfl, rfl⟩
  · exact Eq.mpr (congrArg (_ ∈ ·) (congrArg CoreArray.faults hc)) hcore.2
  · refine (congrArg (fun v => (Vector.get v (Fin.ofNat 4 g.op.form.z.toNat)).getLsbD 7) ((congrArg CoreArray.tflags hc).trans hcore.1)).trans ?_
    rw [get_flagged, if_pos rfl, BitVec.getLsbD_or]
    exact Bool.or_true _

/-- What a row that fires from a unit with a key does to its entry and its row-progress register. -/
def noteRow (k : Nat) (e : MEntry) (g : Seg) (row : List Byte) (psn : Bool) (s : State) : State :=
  let s := modEntry k e.num (fun e => { e with data := if e.kind = .transpose then e.data ++ [(row, psn)] else e.data }) s
  let s := if psn then modSeg k e.num g.op.id (fun h => { h with psn := true }) s else s
  let s := progress (segCore g) g.op.form.z.toNat g.op.id (fun x => { x with fired := x.fired + 1 }) s
  readUnit (segCore g) g.op g.fired s

theorem noteRow_spec {e : MEntry} (h : Fired k e.num n s) (g : Seg) (row : List Byte) (psn : Bool) :
    Fired k e.num n (noteRow k e g row psn s) ∧ (noteRow k e g row psn s).array = s.array := by
  have hdata : Fired k e.num n (modEntry k e.num (fun e => { e with data := if e.kind = .transpose then e.data ++ [(row, psn)] else e.data }) s) :=
    h.modEntry fun _ => ⟨rfl, rfl⟩
  unfold noteRow
  dsimp only
  refine ⟨Fired.congr ?_ (clusters_readUnit _ _ _ _), (array_readUnit _ _ _ _).trans ((array_progress _ _ _ _ _).trans ?_)⟩
  · refine Fired.congr (s := if psn = true then modSeg k e.num g.op.id (fun h => { h with psn := true })
      (modEntry k e.num (fun e => { e with data := if e.kind = .transpose then e.data ++ [(row, psn)] else e.data }) s) else
      modEntry k e.num (fun e => { e with data := if e.kind = .transpose then e.data ++ [(row, psn)] else e.data }) s) ?_ rfl
    cases psn with
    | false => exact hdata
    | true => exact hdata.modEntry fun _ => ⟨rfl, rfl⟩
  · cases psn <;> rfl

theorem fireRow_of_key {e : MEntry} {g : Seg} {key : Nat} (hkey : unitKey s (segCore g) g.op g.units g.fired = key) (hk : key ≠ 0) :
    fireRow k e g s = if e.kind = .transpose then noteRow k e g (readBytes s key 256) (poisoned s key 256) s
      else (noteRow k e g (readBytes s key 256) (poisoned s key 256) s).modCore (segCore g) fun x =>
        { x with flights := x.flights ++ [⟨g.op, g.fired, readBytes s key 256, poisoned s key 256, e.tile.getD 0⟩] } := by
  unfold fireRow
  dsimp only
  rw [hkey]
  exact if_neg hk

/-- The last position of an operation ends it. -/
def closePosition (k : Nat) (e : MEntry) (s : State) : State :=
  if e.fired + 1 < MEntry.positions e then s
  else match (s.cluster k).entry e.num with
    | none => s.modCluster k fun x => { x with current := none }
    | some e' =>
      if e'.kind = .transpose then endTranspose k e' s
      else settleEntry k e.num (s.modCluster k fun x => { x with current := none })

/-- A state in which nothing of memory, rows in flight, flag words and faults has changed. -/
structure FlightsKept (s t : State) : Prop where
  mem : t.mem = s.mem
  flights : ∀ c, (t.core c).flights = (s.core c).flights
  tflags : ∀ c, (t.core c).tflags = (s.core c).tflags
  faults : ∀ c, (t.core c).tileFaults = (s.core c).tileFaults

theorem FlightsKept.of_array (h : t.array = s.array) : FlightsKept s t :=
  ⟨congrArg ArrayView.mem h, fun c => congrArg (fun a : ArrayView => (a.cores c).flights) h,
    fun c => congrArg (fun a : ArrayView => (a.cores c).tflags) h, fun c => congrArg (fun a : ArrayView => (a.cores c).faults) h⟩

theorem closePosition_spec {e : MEntry} (h : Fired k e.num n s) : Fired k e.num n (closePosition k e s) ∧ FlightsKept s (closePosition k e s) := by
  unfold closePosition
  split
  · exact ⟨h, .of_array rfl⟩
  · split
    · exact ⟨h.idle, .of_array rfl⟩
    · next e' he' =>
      have hnum : e'.num = e.num := (num_of_entry he').2
      split
      · unfold endTranspose
        dsimp only
        rw [hnum]
        split
        · next g _ _ =>
          split
          · exact ⟨Fired.drop, .of_array rfl⟩
          · refine ⟨?_, rfl, fun c => ?_, fun c => ?_, fun c => ?_⟩
            · refine Fired.congr (s := modEntry k e.num (fun e => { e with data := [] }) (s.modCluster k fun x => { x with current := none })) ?_ rfl
              exact h.idle.modEntry fun _ => ⟨rfl, rfl⟩
            all_goals
              by_cases hc : c = segCore g
              · rw [hc, State.core_modCore]
                rfl
              · rw [State.core_modCore_ne _ _ _ hc]
                rfl
        · exact ⟨Fired.drop, .of_array rfl⟩
      · exact ⟨h.idle.settleEntry, .of_array (array_settleEntry _ _ _)⟩

/-- The segment whose row fires next has fired one row more. -/
def advanced (w : Option (Option Seg)) (now : Nat) (e : MEntry) : MEntry :=
  { e with fired := e.fired + 1, began := if e.fired = 0 then now else e.began,
           segs := e.segs.map fun h => if w = some (some h) then { h with fired := h.fired + 1 } else h }

/-- The row of a position, where it has one. -/
def fireSeg (k : Nat) (e : MEntry) (w : Option (Option Seg)) (s : State) : State :=
  match w with
  | some (some g) => if g.aborted then s else fireRow k e g s
  | _ => s

theorem firePosition_eq (k : Nat) (e : MEntry) (s : State) : firePosition k e s =
    closePosition k e (fireSeg k e (nextPosition s e) (modEntry k e.num (advanced (nextPosition s e) (s.clk (4 * k))) s)) := rfl

end

theorem positionFire_runs (s : State) (k : Nat) (e : MEntry) (h : firing s k = some e) :
    Runs .positionFire (.positionFire k) s fun t =>
      t = firePosition k e (startNext k s) ∧ t.mem = s.mem ∧
        (∀ y, (t.cluster k).entry e.num = some y → y.fired = e.fired + 1) ∧
        (∀ g, nextPosition (startNext k s) e = some (some g) → g.aborted = false →
          let key := unitKey s (segCore g) g.op g.units g.fired
          (key ≠ 0 → (t.core (segCore g)).flights = (s.core (segCore g)).flights ++
            (if e.kind = .transpose then [] else [⟨g.op, g.fired, readBytes s key 256, poisoned s key 256, e.tile.getD 0⟩])) ∧
          (key = 0 → ⟨some g.op.form.z.toNat, g.op.bank, g.op.task, causeAddrRange⟩ ∈ (t.core (segCore g)).tileFaults ∧
            ((t.core (segCore g)).tflags.get (Fin.ofNat 4 g.op.form.z.toNat)).getLsbD 7 = true)) ∧
        ((∀ g, nextPosition (startNext k s) e = some (some g) → g.aborted = true) → ∀ c, (t.core c).flights = (s.core c).flights) := by
  intro hev
  have he : execPositionFire s = .next (firePosition k e (startNext k s)) := by
    rw [execPositionFire, hev]
    dsimp only
    rw [h]
  refine ⟨_, he, rfl, ?_⟩
  have hentry : ∃ m, ((startNext k s).cluster k).entry m = some e := by
    unfold firing at h
    dsimp only at h
    split at h
    · next m _ =>
      split at h
      · next e' he' =>
        split at h
        · exact ⟨m, he'.trans h⟩
        · exact absurd h (by simp)
      · exact absurd h (by simp)
    · exact absurd h (by simp)
  obtain ⟨m, hm⟩ := hentry
  obtain rfl : e.num = m := (num_of_entry hm).2
  rw [firePosition_eq]
  have hstart : (startNext k s).array = s.array ∧ (startNext k s).places = s.places := ⟨rfl, rfl⟩
  generalize startNext k s = v at hm hstart ⊢
  generalize hw : nextPosition v e = w
  have hfired : Fired k e.num (e.fired + 1) (modEntry k e.num (advanced w (v.clk (4 * k))) v) := by
    intro y hy
    rw [entry_modEntry v k e.num (f := advanced w (v.clk (4 * k))) (by intro; rfl), hm] at hy
    exact (Option.some.inj hy) ▸ rfl
  have hview : (modEntry k e.num (advanced w (v.clk (4 * k))) v).array = s.array := hstart.1
  have hplaces : (modEntry k e.num (advanced w (v.clk (4 * k))) v).places = s.places := hstart.2
  generalize modEntry k e.num (advanced w (v.clk (4 * k))) v = u at hfired hview hplaces
  have hum : u.mem = s.mem := congrArg ArrayView.mem hview
  have hup : u.poison = s.poison := congrArg ArrayView.poison hview
  have hkeep : FlightsKept s u := .of_array hview
  have hquiet : fireSeg k e w u = u → (closePosition k e (fireSeg k e w u)).mem = s.mem ∧
      Fired k e.num (e.fired + 1) (closePosition k e (fireSeg k e w u)) ∧
      ∀ c, ((closePosition k e (fireSeg k e w u)).core c).flights = (s.core c).flights := by
    intro hu
    obtain ⟨hf, hk⟩ := closePosition_spec hfired
    rw [hu]
    exact ⟨hk.mem.trans hum, hf, fun c => (hk.flights c).trans (hkeep.flights c)⟩
  by_cases hg : ∃ g, w = some (some g) ∧ g.aborted = false
  · obtain ⟨g, rfl, ha⟩ := hg
    have hseg : fireSeg k e (some (some g)) u = fireRow k e g u := if_neg (by rw [ha]; exact Bool.false_ne_true)
    have hukey : unitKey u (segCore g) g.op g.units g.fired = unitKey s (segCore g) g.op g.units g.fired := unitKey_congr hplaces _ _ _ _
    rw [hseg]
    by_cases hkey : unitKey s (segCore g) g.op g.units g.fired = 0
    · have hrow : fireRow k e g u = abortSeg k e.num g (some causeAddrRange) false u := by
        unfold fireRow
        dsimp only
        exact if_pos (hukey.trans hkey)
      obtain ⟨hf, hmem, hfault, hflag⟩ := abortSeg_spec hfired g causeAddrRange
      obtain ⟨hcf, hck⟩ := closePosition_spec hf
      rw [hrow]
      refine ⟨hck.mem.trans (hmem.trans hum), hcf, fun g' hg' _ => ?_, fun hall => ?_⟩
      · obtain rfl : g = g' := Option.some.inj (Option.some.inj hg')
        refine ⟨fun hne => absurd hkey hne, fun _ => ⟨(hck.faults _).symm ▸ hfault, ?_⟩⟩
        rw [hck.tflags]
        exact hflag
      · exact absurd (ha.symm.trans (hall g rfl)) Bool.false_ne_true
    · have hrow := fireRow_of_key (k := k) (e := e) hukey hkey
      rw [show readBytes u _ 256 = readBytes s (unitKey s (segCore g) g.op g.units g.fired) 256 by unfold readBytes; rw [hum],
        show poisoned u _ 256 = poisoned s (unitKey s (segCore g) g.op g.units g.fired) 256 by unfold poisoned; rw [hup]] at hrow
      generalize hbytes : readBytes s (unitKey s (segCore g) g.op g.units g.fired) 256 = row at hrow
      generalize hmark : poisoned s (unitKey s (segCore g) g.op g.units g.fired) 256 = psn at hrow
      obtain ⟨hnf, hna⟩ := noteRow_spec hfired g row psn
      have hnk : FlightsKept s (noteRow k e g row psn u) := .of_array (hna.trans hview)
      obtain ⟨hrf, hrm, hrfl⟩ : Fired k e.num (e.fired + 1) (fireRow k e g u) ∧ (fireRow k e g u).mem = s.mem ∧
          ((fireRow k e g u).core (segCore g)).flights = (s.core (segCore g)).flights ++
            if e.kind = .transpose then [] else [⟨g.op, g.fired, row, psn, e.tile.getD 0⟩] := by
        rw [hrow]
        by_cases ht : e.kind = .transpose
        · rw [if_pos ht, if_pos ht, List.append_nil]
          exact ⟨hnf, hnk.mem, hnk.flights _⟩
        · rw [if_neg ht, if_neg ht, State.core_modCore]
          exact ⟨hnf.congr rfl, hnk.mem, congrArg (· ++ _) (hnk.flights _)⟩
      obtain ⟨hcf, hck⟩ := closePosition_spec hrf
      refine ⟨hck.mem.trans hrm, hcf, fun g' hg' _ => ?_, fun hall => ?_⟩
      · obtain rfl : g = g' := Option.some.inj (Option.some.inj hg')
        exact ⟨fun _ => (hck.flights _).trans (hrfl.trans (by rw [← hbytes, ← hmark])), fun h0 => absurd h0 hkey⟩
      · exact absurd (ha.symm.trans (hall g rfl)) Bool.false_ne_true
  · have hseg : fireSeg k e w u = u := by
      unfold fireSeg
      split
      · next g =>
        exact if_pos (Bool.of_not_eq_false fun hf => hg ⟨g, rfl, hf⟩)
      · rfl
    obtain ⟨hmem, hf, hfl⟩ := hquiet hseg
    exact ⟨hmem, hf, fun g hw ha => absurd ⟨g, hw, ha⟩ hg, fun _ => hfl⟩

end Sys2Proof.Machine
end

section

/-! PROOF. Row results of the array (R64, R292, R295): the rest of the obligation MatrixStepsComplete. -/

namespace Sys2Proof.Machine
open Sys2Proof

section
variable (s : State) (c : Nat) (x : Flight)

/-! ### A row result (R292, R295) -/

/-- The columns of a row result. -/
def resultCells : List (Nat × Fl) := (List.range 128).map fun j => cellResult s x.op x.a x.load j (oldAcc s c x.op x.row j)

/-- The columns of a row result that are poisoned. -/
def resultPsn (j : Nat) : Bool := x.psn || (!MForm.zf x.op.form && elemPoison s c x.op.form.z.toNat x.row j)

/-- The segment of an operation notes the flags and the poison of a row. -/
def creditSeg (id : Nat) (fl : BitVec 8) (any : Bool) : State :=
  match (s.cluster (c / 4)).entries.find? fun e => e.segs.any fun g => g.op.id = id with
  | some e => modSeg (c / 4) e.num id (fun h => { h with flags := h.flags ||| fl, psn := h.psn || any }) s
  | none => s

/-- A row with a new row maximum, marked or not. -/
def withMax (z row : Nat) (v : Word) (mark : Bool) : State :=
  if mark then markPoison (clearPoison { s with rmax := kset s.rmax (sideIdx c z row) v } [sideKey c z row false]) [sideKey c z row false]
  else clearPoison { s with rmax := kset s.rmax (sideIdx c z row) v } [sideKey c z row false]

/-- What a row result marks of its row maximum. -/
def resultMark : Bool :=
  (List.range 128).any (resultPsn s c x) || (!MForm.zf x.op.form && s.poison.contains (sideKey c x.op.form.z.toNat x.row false))

/-- The row maximum that a row result leaves under ST. -/
def resultMax : Word := BitVec.ofNat 32 (newRmax s c x.op x.row ((resultCells s c x).map fun e => e.1))

/-- A row result without its row maximum. -/
def resultRow : State :=
  notePsn c x.op.form.z.toNat ((List.range 128).any (resultPsn s c x))
    (creditSeg (orFlags c x.op.form.z.toNat (flagBits (Fl.all ((resultCells s c x).map fun e => e.2)))
      (writeRow c x.op.form.z.toNat x.row ((resultCells s c x).map fun e => e.1) (resultPsn s c x) s)) c x.op.id
        (flagBits (Fl.all ((resultCells s c x).map fun e => e.2))) ((List.range 128).any (resultPsn s c x)))

theorem writeResult_eq : writeResult c x s = progress c x.op.form.z.toNat x.op.id
    (fun p => { p with done := p.done + 1, busy := p.done + 1 < MForm.n x.op.form })
      (if MForm.st x.op.form then withMax (resultRow s c x) c x.op.form.z.toNat x.row (resultMax s c x) (resultMark s c x)
        else resultRow s c x) := rfl

theorem creditSeg_eq (id : Nat) (fl : BitVec 8) (any : Bool) :
    creditSeg s c id fl any = { s with clusters := (creditSeg s c id fl any).clusters } := by
  unfold creditSeg
  split <;> rfl

theorem withMax_spec (z row : Nat) (v : Word) (mark : Bool) : (withMax s c z row v mark).mem = s.mem ∧ (withMax s c z row v mark).cores = s.cores ∧
    (withMax s c z row v mark).rsum = s.rsum ∧ rmaxOf (withMax s c z row v mark) c z row = v ∧
    ∀ w, w ≠ sideKey c z row false → (w ∈ (withMax s c z row v mark).poison ↔ w ∈ s.poison) := by
  have hmax : ∀ t : State, t.rmax = kset s.rmax (sideIdx c z row) v → rmaxOf t c z row = v := fun t h => by
    unfold rmaxOf
    rw [h]
    exact kgetD_kset_same _ _ _ _
  have hclear : ∀ w, w ≠ sideKey c z row false →
      (w ∈ (clearPoison { s with rmax := kset s.rmax (sideIdx c z row) v } [sideKey c z row false]).poison ↔ w ∈ s.poison) := fun w hw =>
    mem_clearPoison.trans (and_iff_right fun h => hw (List.mem_singleton.1 h))
  cases mark with
  | false => exact ⟨rfl, rfl, rfl, hmax _ rfl, hclear⟩
  | true =>
    refine ⟨rfl, rfl, rfl, hmax _ rfl, fun w hw => Iff.trans ?_ (hclear w hw)⟩
    exact mem_markPoison.trans (or_iff_right fun h => hw (List.mem_singleton.1 h))

theorem flights_orFlags (z : Nat) (bits : BitVec 8) : ((orFlags c z bits s).core c).flights = (s.core c).flights := by
  rw [orFlags, State.core_modCore]

theorem flights_notePsn (z : Nat) (any : Bool) : ((notePsn c z any s).core c).flights = (s.core c).flights := by
  cases any with
  | false => rfl
  | true => exact flights_orFlags s c z 0x20

/-- What a row result leaves before its row maximum is set. -/
theorem resultRow_spec :
    RowBecomes s (resultRow s c x) c x.op.form.z.toNat x.row ((resultCells s c x).map fun e => e.1) (resultPsn s c x)
        (flagBits (Fl.all ((resultCells s c x).map fun e => e.2)) ||| psnBit ((List.range 128).any (resultPsn s c x))) ∧
      (resultRow s c x).rmax = s.rmax ∧ (resultRow s c x).rsum = s.rsum ∧ ((resultRow s c x).core c).flights = (s.core c).flights := by
  unfold resultRow
  generalize resultCells s c x = cells
  generalize resultPsn s c x = psn
  generalize (List.range 128).any psn = any
  generalize flagBits (Fl.all (cells.map fun e => e.2)) = fl
  generalize hv : writeRow c x.op.form.z.toNat x.row (cells.map fun e => e.1) psn s = v
  have hcs : v.cores = s.cores := by rw [← hv]; rfl
  have hxs : v.rmax = s.rmax := by rw [← hv]; rfl
  have hss : v.rsum = s.rsum := by rw [← hv]; rfl
  rw [creditSeg_eq]
  generalize (creditSeg (orFlags c x.op.form.z.toNat fl v) c x.op.id fl any).clusters = ks
  have hflags : (({ orFlags c x.op.form.z.toNat fl v with clusters := ks } : State).core c).tflags = flagged (s.core c).tflags x.op.form.z.toNat fl :=
    (tflags_orFlags c _ fl v).trans (by rw [core_of_cores hcs])
  have hflights : (({ orFlags c x.op.form.z.toNat fl v with clusters := ks } : State).core c).flights = (s.core c).flights :=
    (flights_orFlags v c _ fl).trans (by rw [core_of_cores hcs])
  refine ⟨rowBecomes_of ?_ (fun j _ => ?_) ?_, ?_, ?_, (flights_notePsn _ c _ any).trans hflights⟩
  · rw [notePsn_eq, hv]
    rfl
  · rw [notePsn_eq, hv]
    exact Iff.rfl
  · rw [tflags_notePsn, hflags, flagged_flagged]
  · rw [notePsn_eq]
    exact hxs
  · rw [notePsn_eq]
    exact hss

theorem writeResult_spec : ((writeResult c x s).core c).flights = (s.core c).flights ∧ (x.row < 128 →
    RowBecomes s (writeResult c x s) c x.op.form.z.toNat x.row ((resultCells s c x).map fun e => e.1) (resultPsn s c x)
        (flagBits (Fl.all ((resultCells s c x).map fun e => e.2)) ||| psnBit ((List.range 128).any (resultPsn s c x))) ∧
      (MForm.st x.op.form = true → rmaxOf (writeResult c x s) c x.op.form.z.toNat x.row = resultMax s c x) ∧
      (MForm.st x.op.form = false → (writeResult c x s).rmax = s.rmax) ∧ (writeResult c x s).rsum = s.rsum) := by
  rw [writeResult_eq]
  obtain ⟨hrow, hx, hs, hf⟩ := resultRow_spec s c x
  generalize resultRow s c x = u at hrow hx hs hf
  generalize resultMax s c x = v
  generalize resultMark s c x = mark
  have hview : ∀ w : State, RowKept c w (progress c x.op.form.z.toNat x.op.id
      (fun p => { p with done := p.done + 1, busy := p.done + 1 < MForm.n x.op.form }) w) ∧
      ((progress c x.op.form.z.toNat x.op.id (fun p => { p with done := p.done + 1, busy := p.done + 1 < MForm.n x.op.form }) w).core c).flights =
        (w.core c).flights := fun w =>
    ⟨.of_array (array_progress _ _ _ _ _), congrArg (fun a : ArrayView => (a.cores c).flights) (array_progress _ _ _ _ _)⟩
  by_cases hst : MForm.st x.op.form = true
  · rw [if_pos hst]
    obtain ⟨hm, hc, hsum, hmax, hp⟩ := withMax_spec u c x.op.form.z.toNat x.row v mark
    generalize withMax u c x.op.form.z.toNat x.row v mark = w at hm hc hsum hmax hp
    obtain ⟨hk, hfl⟩ := hview w
    refine ⟨hfl.trans ((congrArg Core.flights (core_of_cores hc c)).trans hf), fun hr => ⟨hk.rowBecomes ?_, fun _ => ?_,
      fun h => absurd (h.symm.trans hst) Bool.false_ne_true, hk.rsum.trans (hsum.trans hs)⟩⟩
    · obtain ⟨h1, h2, h3⟩ := hrow
      refine ⟨hm.trans h1, fun j hj => (Bool.eq_iff_iff.2 ?_).trans (h2 j hj), fun y => by rw [core_of_cores hc]; exact h3 y⟩
      exact elemPoison_iff.trans ((hp _ (tileKey_ne_sideKey (BitVec.isLt _) hr hr hj)).trans elemPoison_iff.symm)
    · unfold rmaxOf at hmax ⊢
      rw [hk.rmax]
      exact hmax
  · rw [if_neg hst]
    obtain ⟨hk, hfl⟩ := hview u
    exact ⟨hfl.trans hf, fun _ => ⟨hk.rowBecomes hrow, fun h => absurd h hst, fun _ => hk.rmax.trans hx, hk.rsum.trans hs⟩⟩

/-! ### The end of a row result (R292, R301) -/

/-- The result leaves the pipeline; with its last row the operation finishes. -/
def retireResult (i : Nat) : State :=
  if x.row + 1 = MForm.n x.op.form then finishRows c x.op (s.modCore c fun k => { k with flights := k.flights.eraseIdx i })
  else s.modCore c fun k => { k with flights := k.flights.eraseIdx i }

/-- The entry of a result's operation is freed where all its rows are written. -/
def settleResult : State :=
  match entryOf (s.cluster (c / 4)) x.op.id with
  | some e => settleEntry (c / 4) e.num s
  | none => s

theorem execRowResultWrite_eq {i : Nat} (hev : s.ev = some (.rowResultWrite c)) (hx : nextResult s c = some (i, x)) :
    execRowResultWrite s = .next (settleResult (retireResult (writeResult c x s) c x i) c x) := by
  rw [execRowResultWrite, hev]
  dsimp only
  rw [hx]
  rfl

theorem cores_settleResult : (settleResult s c x).cores = s.cores := by
  unfold settleResult
  split
  · unfold settleEntry
    dsimp only
    split
    · rfl
    · split <;> rfl
  · rfl

theorem array_settleResult : (settleResult s c x).array = s.array := by
  unfold settleResult
  split
  · exact array_settleEntry _ _ _
  · rfl

theorem retireResult_spec (i : Nat) : RowKept c s (retireResult s c x i) ∧
    ((retireResult s c x i).core c).flights = (s.core c).flights.eraseIdx i ∧
    (x.row + 1 = MForm.n x.op.form → (((retireResult s c x i).core c).bank x.op.bank).events.getLsbD 3 = true) := by
  have herase : RowKept c s (s.modCore c fun k => { k with flights := k.flights.eraseIdx i }) ∧
      ((s.modCore c fun k => { k with flights := k.flights.eraseIdx i }).core c).flights = (s.core c).flights.eraseIdx i := by
    refine ⟨⟨rfl, rfl, rfl, rfl, ?_, ?_⟩, ?_⟩
    all_goals rw [State.core_modCore]
  obtain ⟨hk, hf⟩ := herase
  unfold retireResult
  generalize s.modCore c (fun k => { k with flights := k.flights.eraseIdx i }) = u at hk hf
  by_cases hn : x.row + 1 = MForm.n x.op.form
  · rw [if_pos hn]
    have ha : (finishRows c x.op u).array = u.array := array_raiseEvent u c x.op.bank 3
    have hr : RowKept c u (finishRows c x.op u) := .of_array ha
    refine ⟨⟨hr.mem.trans hk.mem, hr.poison.trans hk.poison, hr.rmax.trans hk.rmax, hr.rsum.trans hk.rsum, hr.tflags.trans hk.tflags,
      hr.faults.trans hk.faults⟩, ?_, fun _ => ?_⟩
    · exact (show _ = (u.core c).flights from congrArg (fun a : ArrayView => (a.cores c).flights) ha).trans hf
    · rw [finishRows, bank_raiseEvent]
      dsimp only
      rw [BitVec.getLsbD_or]
      exact Bool.or_true _
  · rw [if_neg hn]
    exact ⟨hk, hf, fun h => absurd h hn⟩

end

theorem rowResultWrite_runs (s : State) (c i : Nat) (x : Flight) (h : nextResult s c = some (i, x)) :
    Runs .rowResultWrite (.rowResultWrite c) s fun t =>
      (t.core c).flights = (s.core c).flights.eraseIdx i ∧
        (x.row + 1 = MForm.n x.op.form → ((t.core c).bank x.op.bank).events.getLsbD 3 = true) ∧
        (x.row < 128 →
          let q := x.op
          let z := q.form.z.toNat
          let cells := (List.range 128).map fun j =>
            cellSteps (aElem q.form.afmt x.a) (fun k => bElem s ((Space.wload x.load).key 0) q.form.bfmt k j) (if isB8 q.form.bfmt then 2 else 1)
              128 0 (if MForm.zf q.form then 0 else readElem s c z x.row j, Fl.none)
          let psn := fun j => x.psn || (!MForm.zf q.form && elemPoison s c z x.row j)
          RowBecomes s t c z x.row (cells.map fun e => e.1) psn
              (flagBits (Fl.all (cells.map fun e => e.2)) ||| psnBit ((List.range 128).any psn)) ∧
            (MForm.st q.form = true → rmaxOf t c z x.row = BitVec.ofNat 32 ((cells.map fun e => e.1).foldl
              (fun a v => (FFmt.f32.minMax true a v).1) (if MForm.zf q.form then 0xFF800000 else (rmaxOf s c z x.row).toNat))) ∧
            (MForm.st q.form = false → t.rmax = s.rmax) ∧ t.rsum = s.rsum) := by
  intro hev
  refine ⟨_, execRowResultWrite_eq s c x hev h, ?_⟩
  obtain ⟨hflights, hrow⟩ := writeResult_spec s c x
  generalize writeResult c x s = u at hflights hrow ⊢
  obtain ⟨hk, hf, hevent⟩ := retireResult_spec u c x i
  generalize retireResult u c x i = v at hk hf hevent ⊢
  have hsettle : RowKept c v (settleResult v c x) := .of_array (array_settleResult v c x)
  have hcore := core_of_cores (cores_settleResult v c x) c
  generalize settleResult v c x = t at hsettle hcore ⊢
  dsimp only
  rw [hcore]
  refine ⟨hf.trans (by rw [hflights]), hevent, fun hr => ?_⟩
  obtain ⟨hbecomes, hst, hkeep, hsum⟩ := hrow hr
  refine ⟨hsettle.rowBecomes (hk.rowBecomes hbecomes), fun h1 => ?_, fun h0 => hsettle.rmax.trans (hk.rmax.trans (hkeep h0)),
    hsettle.rsum.trans (hk.rsum.trans hsum)⟩
  have hmax := hst h1
  unfold rmaxOf at hmax ⊢
  rw [hsettle.rmax, hk.rmax]
  exact hmax

/-- Settles O47: each step as the lemma about it says; a row of the array or of a port is what its operation writes, and the rest of the step keeps it. -/
theorem matrixStepsComplete : Obligations.MatrixStepsComplete :=
  ⟨stagingDequeue_runs, segmentAdmission_runs, holdLimitReached_runs, arraySelection_runs, weightLoadGrant_runs, weightLoadEnd_runs, startNext_spec,
    positionFire_runs, ⟨fun _ _ _ _ _ => rfl, fun _ _ _ _ _ _ _ => rfl⟩, rowResultWrite_runs, selectWrites_runs, accumulatorPortRow_moves,
    accumulatorPortRow_rows⟩

end Sys2Proof.Machine
end
